-- ==== Sys2Proof/Word.lean ====
section
/-! DEFINITION. The word types of the YG-860: little-endian bytes and the register and field widths the manual uses (R3, R4, R5). -/
namespace Sys2Proof

/-- One byte of memory, of a descriptor or of a record. -/
abbrev Byte := BitVec 8
/-- A 16-bit field. -/
abbrev W16 := BitVec 16
/-- A register, or a 32-bit field. -/
abbrev W32 := BitVec 32
/-- A 64-bit field: an address, a course count (Q48.16) or a device time. -/
abbrev W64 := BitVec 64
/-- A device time: a count of 5 ns units (R12). -/
abbrev Time := Nat

end Sys2Proof
end

