-- ==== Sys2Proof/Syntax.lean ====
section
/-! DEFINITION. The commands of the YG-860: every operation and event of the operation table, with its operands as plain data. -/
namespace Sys2Proof

/-- Who issues an access (R571, R576): host software, or a core of the application cluster through the Cister alias. -/
inductive Actor where
  | host
  | core (k : Fin 4)
  deriving DecidableEq, Repr

/-- The memories that software fills before it rings a doorbell: host memory, the message store, the application SRAM (R21). -/
inductive Space where
  | hostMem
  | message
  | app
  deriving DecidableEq, Repr

/-- Bytes that software writes to a memory. -/
structure Store where
  space : Space
  addr : Nat
  bytes : List Byte
  deriving DecidableEq, Repr

/-- What a PCI Express error hits (R66). -/
inductive RingFaultSrc where
  | ring
  | mirror
  /-- The body, or a referenced buffer, of the descriptor with this free-running index. -/
  | body (index : W32)
  deriving DecidableEq, Repr

/-- An image that stands in a flash slot: its type 1 to 3, slot A (0) or B (1), and its bytes (R462, R463). -/
structure FlashSlot where
  kind : Nat
  slot : Nat
  bytes : List Byte
  deriving DecidableEq, Repr

/-- What production and earlier programming have left in the OTP and in the QSPI flash: the manual gives it no reset value (R462, R467). -/
structure Fitting where
  deviceId : W64 := 0
  oemHash : Nat := 0
  floorMon : Nat := 0
  floorCharter : Nat := 0
  floorFw : Nat := 0
  revoked : Nat := 0
  /-- The keys_dead bits, whether the test port is fused, and the PUF activation code (R457, R467). -/
  deadBits : Nat := 0
  testFused : Bool := true
  pufCode : List Byte := []
  /-- Directory copies 0 and 1 (R462). -/
  copy0 : List Byte := []
  copy1 : List Byte := []
  trialRan : Nat := 0
  slots : List FlashSlot := []
  deriving DecidableEq, Repr


/-- A current sample after a gate-on (R290): its place in steps of 0.5 us after gate-on, the current in mA, V(BANK_HSRCk) in mV, and for how many device-time units the low side has then conducted since its last closing, none while it is open. -/
structure OpenSample where
  step : Nat
  ma : Int
  rail : Nat
  conducting : Option Nat := some 400
  deriving DecidableEq, Repr

/-- A sample of a channel's converter (R271, R295): its code, whether the channel was in quench with its bank rail at battery as it was taken, and VBOOST then in 10 mV. -/
structure DriveSample where
  code : BitVec 16
  quench : Bool := false
  vboost : Nat := 0
  deriving DecidableEq, Repr

/-- A stretch in which the converter's diode conducted (R295): the voltage across the boost shunt in uV, its drive-die clocks, and VBOOST in 10 mV. -/
structure DiodeSpan where
  shunt : Nat
  clocks : Nat
  vboost : Nat
  deriving DecidableEq, Repr

/-- A wire that has stood at a level for a number of FB clocks (R117). -/
structure WireLevel where
  level : Bool
  held : Nat
  deriving DecidableEq, Repr

/-- A pulse input (R117, R121): it has been low for `low` FB clocks and then high for `high`, a rising edge `clocks` FB clocks after the accepted one before. -/
structure PulseSeen where
  clocks : Nat
  low : Nat
  high : Nat
  deriving DecidableEq, Repr

/-- A Hall code (R117, R122): it came `clocks` FB clocks after the accepted step before, and its wires U, V and W have stood at their levels for `u`, `v` and `w`. -/
structure HallSeen where
  clocks : Nat
  u : Nat
  v : Nat
  w : Nat
  deriving DecidableEq, Repr

/-- The Z pair of channel `n` (R117, R120): low for `low` FB clocks and then high for `high`. -/
structure IndexSeen where
  n : Fin 16
  low : Nat
  high : Nat
  deriving DecidableEq, Repr

/-- Both wires of pair A, B or Z have stood on the same side of the threshold for `held` units of 5 ns (R118). -/
structure PairSeen where
  pair : Fin 3
  held : Nat
  deriving DecidableEq, Repr

/-- The edge of a latch trigger (R134): at the Z pair of the latch's channel if `z`, else at its ball; the level before it had stood for `before` FB clocks and the one after it for `held`; `waiting` captures of the latch wait in crossing 4 (R448). -/
structure LatchSeen where
  rising : Bool
  z : Bool
  before : Nat
  held : Nat
  waiting : Nat
  deriving DecidableEq, Repr

/-- The drain of channel `ch` has read `drain` mV, with VBAT at `vbat` mV, for `held` device-time units (R324). -/
structure DrainSeen where
  ch : Fin 64
  drain : Nat
  vbat : Nat
  held : Nat
  deriving DecidableEq, Repr

/-- A bank switch has been on for `on`, and its voltage has stood for `held`, in device-time units (R324). -/
structure SwitchSeen where
  on : Nat
  held : Nat
  deriving DecidableEq, Repr

/-- What follows a valid frame: overload frames, and how often ISO 11898-1 changes a counter by 8 for them: a bit error in the port's overload flag, and each further 8 dominant bits (R379, R395). -/
structure Overload where
  frames : Nat := 0
  eights : Nat := 0
  deriving DecidableEq, Repr

/-- How a frame that the port sends ends well: the delay of the transceiver, in BUS clocks, if it was measured, and what follows the frame (R384, R395). -/
structure SentFrame where
  delay : Option Nat := none
  overload : Overload := {}
  deriving DecidableEq, Repr

/-- How an error of a frame that the port sends shows: whether an exception of ISO 11898-1 applies; a bit whose level is wrong from BUS clock `wrong.1` of the bit up to before `wrong.2`, where the last edge had the phase error `phase` in quanta; and the delay of the transceiver, in BUS clocks, if it was measured (R382, R383, R395). `acked` says that the frame had been acknowledged before (R396); `eights` is how often ISO 11898-1 raises TEC by 8 again, for a bit error in the port's active error flag and for each further 8 dominant bits (R395); `longer` is by how many bits other nodes' flags prolong the error flag (R397). -/
structure SentError where
  exempt : Bool
  wrong : Nat × Nat
  phase : Int
  delay : Option Nat
  acked : Bool := false
  eights : Nat := 0
  longer : Nat := 0
  deriving DecidableEq, Repr

/-- How an error of a frame that the port receives, of which `sof` is the start and `xl` says that it is an XL frame, shows; `eights` is how often ISO 11898-1 raises REC by 8 besides, for a dominant bit after the port's error flag, a bit error in it, and each further 8 dominant bits (R383, R384, R395, R401). -/
structure HeardError where
  eights : Nat
  wrong : Nat × Nat
  phase : Int
  sof : Time := 0
  xl : Bool := false
  deriving DecidableEq, Repr

/-- How a reference attempt ends. -/
inductive RefResult where
  | success (x : SentFrame)
  /-- Only the acknowledgement was missing, at a bit position (R388, R409). -/
  | unacked (position : Nat) (x : SentError)
  /-- It lost arbitration to a reference message of higher priority, or to another frame (R409). -/
  | lost (other : Bool)
  /-- Any other error, of a type of R388, with its phase and bit position. -/
  | error (type : Fin 6) (dataPhase : Bool) (position : Nat) (x : SentError)
  deriving DecidableEq, Repr

/-- BUS_RXDn of port `p` falls and stays low for `low` device-time units (R381). -/
structure WakeSeen where
  p : Fin 32
  low : Nat
  deriving DecidableEq, Repr

/-- What the supply monitors see at `t` (R440, R552): the rails, in mV, have stood so for `held` device-time units, and SYS_RESET_N has been low for `low`. -/
structure SupplySeen where
  t : Time
  vcore : Nat
  vio18 : Nat
  vio33 : Nat
  held : Nat
  low : Nat
  deriving DecidableEq, Repr

/-- What a clock monitor sees at `t` (R436): `edges` of the clock in its window, and none for the latest `gap` device-time units. -/
structure ClockSeen where
  t : Time
  edges : Nat
  gap : Nat
  deriving DecidableEq, Repr

/-- `edges` of the FB clock, or of the BUS clock if `bus`, in 1 us (R436). -/
structure DomainSeen where
  bus : Bool
  edges : Nat
  deriving DecidableEq, Repr

/-- `edges` of the drive oscillator in the 10 us before `t` (R436). -/
structure OscillatorSeen where
  t : Time
  edges : Nat
  deriving DecidableEq, Repr

/-- The drive die's supplies at `t`, in mV (R512). -/
structure DriveSupplySeen where
  t : Time
  vbat : Nat
  vio33 : Nat
  deriving DecidableEq, Repr

/-- The drive die's supplies at `t`, in mV, which have stood so for `good` device-time units (R512). -/
structure DriveSupplyGood where
  t : Time
  vbat : Nat
  vio33 : Nat
  good : Nat
  deriving DecidableEq, Repr

/-- The supplies of the always-on domain at `t`, in mV (R552). -/
structure BackupSeen where
  t : Time
  vbackup : Nat
  vio33 : Nat
  held : Nat
  deriving DecidableEq, Repr

/-- What the voltage sensor sees at `t`: the rails, in mV, for `ns` nanoseconds (R477). -/
structure VoltageSeen where
  t : Time
  vcore : Nat
  vio18 : Nat
  ns : Nat
  deriving DecidableEq, Repr

/-- A phase of the SYS clock at `t`, in picoseconds (R477). -/
structure PhaseSeen where
  t : Time
  ps : Nat
  deriving DecidableEq, Repr

/-- What the temperature sensor sees at `t`: the control die's junction, in tenths of a degree, has been at `deci` or further out for `held` device-time units (R477). -/
structure TemperatureSeen where
  t : Time
  deci : Int
  held : Nat
  deriving DecidableEq, Repr

/-- A stand in cold reset (R511, R490): `held` ms in all, and `good` device-time units with the rails and SYS_RESET_N good. -/
structure ResetSeen where
  held : Nat
  good : Nat
  vcore : Nat
  vio18 : Nat
  vio33 : Nat
  deriving DecidableEq, Repr

/-- The commands the device takes: one constructor per row of the operation table. The operand `t` of every command is the device time at which it reaches the device (R12). -/
inductive Instr where
  /-- DOORBELL: R57: a write of `v`, `size` bytes wide, at offset `off` of BAR2 or its alias, after the memory writes `stores` that it publishes (R44). -/
  | doorbell (t : Time) (a : Actor) (off size : Nat) (v : W64) (stores : List Store)
  /-- DESCRIPTOR_FETCH: R43: the next fetch from post ring `n`. -/
  | descriptorFetch (t : Time) (n : Fin 128)
  /-- MIRROR_UPDATE: R60: the index mirror of ring `n` is written. -/
  | mirrorUpdate (t : Time) (n : Fin 128)
  /-- RING_ENABLE: R64: a write of `v`, with enable 1, to CISTER_RING_CFG of ring `n`. -/
  | ringEnable (t : Time) (a : Actor) (n : Fin 128) (v : W32)
  /-- RING_DISABLE: R65: a write of `v`, with enable 0, to CISTER_RING_CFG of ring `n`. -/
  | ringDisable (t : Time) (a : Actor) (n : Fin 128) (v : W32)
  /-- RING_FAULT: R66: a PCI Express error on an access of ring `n`, its mirror, or a descriptor body or buffer. -/
  | ringFault (t : Time) (n : Fin 128) (src : RingFaultSrc)
  /-- MSIX_HOLDOFF_EXPIRY: R62: the per-microsecond check of vector `line`, or of core line `line - 64`. -/
  | msixHoldoffExpiry (t : Time) (line : Fin 68)
  /-- MSIX_UNMASK: R63: the mask of vector `v`, or the function mask, becomes `mask`. -/
  | msixUnmask (t : Time) (v : Option (Fin 64)) (mask : Bool)
  /-- BUS_MASTER_RESTORE: R67: Bus Master Enable is 1 and the function in D0. -/
  | busMasterRestore (t : Time)
  /-- FUNCTION_LEVEL_RESET: R68. -/
  | functionLevelReset (t : Time)
  /-- HOST_WDOG_WRITE: R69: a write of `v` to CISTER_HOST_WDOG. -/
  | hostWdogWrite (t : Time) (a : Actor) (v : W32)
  /-- HOST_WDOG_EXPIRY: R69. -/
  | hostWdogExpiry (t : Time)
  /-- SWEEP_CLOSE: the sweep in progress closes and the lanes are visited (R24, R85); `imu` says when the sweep's read of the inertial unit began, and what it returned. -/
  | sweepClose (t : Time) (imu : Option (Time × W32))
  /-- COAST_EXPIRY: the coast time is counted from the close before the loss (R583). -/
  | coastExpiry (t : Time)
  /-- HOST_SOURCE_TIMEOUT: the host source is lost; the next close acts on it (R83, R583). -/
  | hostSourceTimeout (t : Time)
  /-- HOST_VALUE_STALE: the host yaw rate or hitch angle times out (R83). -/
  | hostValueStale (t : Time) (hitch : Bool)
  /-- COURSE_TIME_LO_READ: R88. -/
  | courseTimeLoRead (t : Time) (a : Actor) (size : Nat)
  /-- COURSE_MC_LO_READ: the machine course of the latest sweep close (R88). -/
  | courseMcLoRead (t : Time) (a : Actor) (size : Nat)
  /-- LATCHED_PAIR_LO_READ: a read of `size` bytes at the _LO word of any other latching pair (R569); at an offset without such a pair, a plain read. Offsets from 2^20 on are those of BAR2 (R56). -/
  | latchedPairLoRead (t : Time) (a : Actor) (off size : Nat)
  /-- COURSE_LATCH_DATA7_READ: the last word of the oldest record of the selected latch is returned, and the record removed (R109). -/
  | courseLatchData7Read (t : Time)
  /-- PPS_EDGE: (R89): an edge less than 100 ms after the latest accepted one is ignored. -/
  | ppsEdge (t : Time)
  /-- FIX: the oldest waiting descriptor of ring 87, if it is a FIX, is received; step 3 of the next sweep applies it (R24, R94). -/
  | fix (t : Time)
  /-- SET_POSE: the oldest waiting descriptor of ring 87, if it is a SET_POSE, is applied at once, and before it the FIX it follows (R96). -/
  | setPose (t : Time)
  /-- HOST_MOTION: the oldest waiting descriptor of ring 87 is applied, if it is a HOST_MOTION (R97). -/
  | hostMotion (t : Time)
  /-- QUADRATURE_EDGE: R117, R119: the levels of the A and B inputs. -/
  | quadratureEdge (t : Time) (n : Fin 16) (a : WireLevel) (b : WireLevel)
  /-- PULSE_EDGE: R117, R121. -/
  | pulseEdge (t : Time) (n : Fin 16) (x : PulseSeen)
  /-- PULSE_ZERO_TIMEOUT: R121. -/
  | pulseZeroTimeout (t : Time) (n : Fin 16)
  /-- HALL_STEP: R117, R122: the inputs stand at the Hall code `code`. -/
  | hallStep (t : Time) (n : Fin 16) (code : BitVec 3) (x : HallSeen)
  /-- HALL_INVALID: R122: an invalid Hall code has persisted. -/
  | hallInvalid (t : Time) (n : Fin 16)
  /-- INDEX_EDGE: R117, R120. -/
  | indexEdge (t : Time) (x : IndexSeen)
  /-- SINCOS_SAMPLE: R124: both tracks are sampled, in codes. -/
  | sincosSample (t : Time) (n : Fin 16) (sine cosine : Int)
  /-- OBSERVER_UPDATE: R129. -/
  | observerUpdate (t : Time) (n : Fin 16)
  /-- CALIBRATION_UPDATE: R127, R128. -/
  | calibrationUpdate (t : Time) (n : Fin 16)
  /-- WIRE_FAULT: R118. -/
  | wireFault (t : Time) (n : Fin 16) (x : PairSeen)
  /-- FB_FAULT_RECOVERY: R132. -/
  | fbFaultRecovery (t : Time) (n : Fin 16)
  /-- FB_TRACK_ENTRY: R130. -/
  | fbTrackEntry (t : Time) (n : Fin 16)
  /-- FB_ENABLE: R145: a write of `v`, with enable 1, to FB_CFG. -/
  | fbEnable (t : Time) (a : Actor) (n : Fin 16) (v : W32)
  /-- FB_DISABLE: R133: a write of `v`, with enable 0, to FB_CFG. -/
  | fbDisable (t : Time) (a : Actor) (n : Fin 16) (v : W32)
  /-- AIN_CONVERSION: R136: input `n` is sampled at `uvolt` microvolts. -/
  | ainConversion (t : Time) (n : Fin 16) (uvolt : Int)
  /-- LATCH_EDGE: R134: a trigger edge at device time `at'`. -/
  | latchEdge (t : Time) (n : Fin 8) (at' : Time) (x : LatchSeen)
  /-- EMU_UPDATE: R139. -/
  | emuUpdate (t : Time) (n : Fin 4)
  /-- EMU_EDGE: R140. -/
  | emuEdge (t : Time) (n : Fin 4)
  /-- EMU_RATIO_WRITE: R141: a write of `v` at EMU_NUM, or at EMU_DEN if `den`. -/
  | emuRatioWrite (t : Time) (a : Actor) (n : Fin 4) (den : Bool) (size : Nat) (v : W64)
  /-- LANE_CONFIG: R150, R163, R180. -/
  | laneConfig (t : Time) (n : Fin 128)
  /-- CARAVAN_CONFIG: R164, R170, R180. -/
  | caravanConfig (t : Time) (n : Fin 128)
  /-- ATTACH: R154, R165, R180. -/
  | attach (t : Time) (n : Fin 128)
  /-- RELEASE: R150, R167. -/
  | release (t : Time) (n : Fin 128)
  /-- INHIBIT: R162, R165. -/
  | inhibit (t : Time) (n : Fin 128)
  /-- SET_RATE: R165. -/
  | setRate (t : Time) (n : Fin 128)
  /-- SET_DELAY: R165, R211. -/
  | setDelay (t : Time) (n : Fin 128)
  /-- CLEAR_FAULT: R152, R325. -/
  | clearFault (t : Time) (n : Fin 128)
  /-- QUERY: R166. -/
  | query (t : Time) (n : Fin 128)
  /-- MARK: R185 to R188. -/
  | mark (t : Time) (n : Fin 128)
  /-- CANCEL: R189. -/
  | cancel (t : Time) (n : Fin 128)
  /-- FORWARD_TIMEOUT: a part outstanding for 250 ms completes with status 0x0105 (R167). -/
  | forwardTimeout (t : Time) (k : Fin 2048) (tag : Fin 64)
  /-- PROXY_SILENT: R175. -/
  | proxySilent (t : Time) (k : Fin 2048)
  /-- PARENT_SILENT: (R175): every lane is held off from its next visit. -/
  | parentSilent (t : Time)
  /-- DISPATCH_ON_TOLL: R30. -/
  | dispatchOnToll (t : Time)
  /-- SUPPLY: (R235). Undefined where R244 says so. -/
  | supply (t : Time)
  /-- REFUSE: R236. -/
  | refuse (t : Time)
  /-- FLUSH: R237. -/
  | flush (t : Time)
  /-- EVICT: R237. -/
  | evict (t : Time)
  /-- BUFFER: (R238). Undefined where R244 says so. -/
  | buffer (t : Time)
  /-- TILE_LOAD_COMPLETE: (R235): the content becomes visible from the next sweep. -/
  | tileLoadComplete (t : Time) (i : Fin 256)
  /-- TILE_WRITEBACK_COMPLETE: (R238): image, fields and completion of the buffer. -/
  | tileWritebackComplete (t : Time) (i : Fin 256)
  /-- ETH_RX_FRAME: MAC `m` receives a frame whose start-frame delimiter ended at `at'`, FCS excluded from `frame` and correct or not (R246, R252). -/
  | ethRxFrame (t : Time) (m : Fin 2) (at' : Time) (fcs : Bool) (frame : List Byte)
  /-- TARGET_PLACE: the target stage takes the oldest queued target (R257, R262). -/
  | targetPlace (t : Time)
  /-- ETH_SEND: R248. -/
  | ethSend (t : Time) (m : Fin 2)
  /-- TIME_MAP: (R250): the ring's descriptors execute in order. -/
  | timeMap (t : Time) (m : Fin 2)
  /-- ETH_ENABLE: a write of ETH_CFG with enable 1; from 0 it makes the map invalid (R251, R516). -/
  | ethEnable (t : Time) (a : Actor) (m : Fin 2) (v : W32)
  /-- MDIO_START: a write of ETH_MDIO (R265). -/
  | mdioStart (t : Time) (a : Actor) (v : W32)
  /-- MDIO_DONE: the frame ends; a read brings `data`. -/
  | mdioDone (t : Time) (data : W16)
  /-- EVENT: an event enters its channel's store; a disabled channel discards it (R278, R279, R282). -/
  | event (t : Time)
  /-- RETIME: a pending event's execution time is replaced (R281). -/
  | retime (t : Time)
  /-- WITHDRAW: a pending event is removed, or the waiting shot of an on event is cancelled (R281). -/
  | withdraw (t : Time)
  /-- WRITE: a register write reaches the drive die (R298). -/
  | write (t : Time)
  /-- TIME: the drive die corrects its reckoning by at most 2 units, and its rate by 1/64 of the difference; the first frame after training sets it. `drift` is what its oscillator has gained since the frame before, in 2^-24 units, its rate correction left out (R443, R313). -/
  | time (t : Time) (drift : Int)
  /-- GRANT: R311. -/
  | grant (t : Time)
  /-- REVOKE: lapses the lease (R314). -/
  | revoke (t : Time)
  /-- CLEAR: fault bits of a channel, or the latch of a bank at 64 + k, are cleared (R325, R327). -/
  | clear (t : Time)
  /-- ON_EVENT_EXECUTE: the on event at the head of a channel's store executes (R280). -/
  | onEventExecute (t : Time) (ch : Fin 64)
  /-- OFF_EVENT_EXECUTE: the off event at the head of a channel's store executes (R276, R280). -/
  | offEventExecute (t : Time) (ch : Fin 64)
  /-- RATE_EVENT_EXECUTE: the rate event at the head of a channel's store executes (R285). -/
  | rateEventExecute (t : Time) (ch : Fin 64)
  /-- PHASE_END: the channel's comparator reads `ma` mA: regulation decides on it, and the running phase ends if its current or its time says so (R274, R275). -/
  | phaseEnd (t : Time) (ch : Fin 64) (ma : Nat)
  /-- QUENCH_END: the current reads `ma` mA: closing quench ends below 2 % of full scale, or 5 ms after it began (R276). -/
  | quenchEnd (t : Time) (ch : Fin 64) (ma : Nat)
  /-- PULSE_START: a pulse is due at its stagger instant (R284); with d at 0 there is none. -/
  | pulseStart (t : Time) (ch : Fin 64)
  /-- PULSE_END: the pulse's on-length has run (R283, R276). -/
  | pulseEnd (t : Time) (ch : Fin 64)
  /-- SHOT_REFUSED: a shot has waited defer_tol for its bank (R287, R288). -/
  | shotRefused (t : Time) (ch : Fin 64)
  /-- BACKSTOP_EXPIRY: the profile's min_off has elapsed and the delayed shot becomes ready (R289). -/
  | backstopExpiry (t : Time) (ch : Fin 64)
  /-- OPENING_REPORT: the opening window has ended; `samples` are the current samples since gate-on (R290, R292, R324). -/
  | openingReport (t : Time) (ch : Fin 64) (samples : List OpenSample)
  /-- CLOSING_REPORT: the closing window has ended; `drain` are the samples of DRV_DRNn in mV, at 2 MS/s from the end of closing quench (R291, R292). -/
  | closingReport (t : Time) (ch : Fin 64) (drain : List Nat)
  /-- REPORT: a report waits for step 3 of the next sweep (R305). -/
  | report (t : Time)
  /-- STATUS: the drive die sends a segment of its registers and the control die's copy takes it (R307). `samples` are those that the converter of channel `seg` has taken since its latest STATUS, the latest last; for segment 136 `vboost` are the readings of VBOOST in 10 mV, the latest last, `shunt` is the voltage across the boost shunt in uV, and `diode` lists the stretches in which the converter's diode conducted (R271, R293, R295). -/
  | status (t : Time) (seg : Fin 233) (samples : List DriveSample) (vboost : List (BitVec 16)) (shunt : Nat) (diode : List DiodeSpan)
  /-- FAULT: newly set drive faults reach the control die (R324, R329). -/
  | fault (t : Time)
  /-- LEASE: the lease state and the last epoch held (R304, R316, R318). -/
  | lease (t : Time)
  /-- OFFSET_CAL_GAP: an off gap that began at `start` ends; `samples` are its converter codes, at 2 MS/s (R272). -/
  | offsetCalGap (t : Time) (ch : Fin 64) (start : Time) (samples : List (BitVec 16))
  /-- CAL_STARVATION: no usable gap within DRV_CAL.timeout (R272, R300). -/
  | calStarvation (t : Time) (ch : Fin 64)
  /-- BOOST_OVERVOLTAGE: VBOOST, in units of 10 mV, has risen above its limit (R294, R300). -/
  | boostOvervoltage (t : Time) (v : BitVec 16)
  /-- BOOST_UNDERVOLTAGE: VBOOST has fallen below its undervoltage level (R294, R300). -/
  | boostUndervoltage (t : Time) (v : BitVec 16)
  /-- DRV_CHANNEL_DISABLE: software clears DRV_CH_CFG.enable of a channel (R282); the WRITE frame it sends does the rest. -/
  | drvChannelDisable (t : Time) (a : Actor) (ch : Fin 64)
  /-- PROFILE_VALIDATE: software writes DRV_PROF_HDR with valid at 1 (R273); undefined where R301 says so. -/
  | profileValidate (t : Time) (a : Actor) (slot : Fin 32) (v : W32)
  /-- RELAY_RETRANSMIT: 2 us have passed without an acknowledgement (R306). -/
  | relayRetransmit (t : Time) (down : Bool)
  /-- RELAY_LINK_DOWN: the receiver of a direction has discarded 8 frames in a row, or accepted none for 20 us (R308). -/
  | relayLinkDown (t : Time) (down : Bool)
  /-- RELAY_TRAINED: training completes (R308, R309, R439); in the relay state start-up goes on (R514). `revision` is the drive die's revision, which it reports (R576). -/
  | relayTrained (t : Time) (revision : BitVec 8)
  /-- FAR_RESET_SEEN: a die sees the far die's reset-state line: the control die the drive die's (`control`), or the drive die the control die's (R309, R316, R319). -/
  | farResetSeen (t : Time) (control : Bool)
  /-- TIME_SEND: the control die sends a TIME frame every 10 us (R307). -/
  | timeSend (t : Time)
  /-- LEASE_TIMEOUT: the lease timer has run out (R310, R314). -/
  | leaseTimeout (t : Time)
  /-- LEASE_REPEAT: a leaseless drive die repeats its LEASE frame every 10 us (R314). -/
  | leaseRepeat (t : Time)
  /-- LEASE_REGRANT: the monitor grants a fresh lease after a lapse (R317). -/
  | leaseRegrant (t : Time)
  /-- LEASE_REQ: software writes LEASE_REQ (R317, R330). -/
  | leaseReq (t : Time) (a : Actor) (v : W32)
  /-- THERMAL_WINDOW: a window from `start` of one hysteretic battery phase ends, with its mean voltage in mV and mean current in mA (R320, R321). -/
  | thermalWindow (t : Time) (ch : Fin 64) (start : Time) (mv ma : Nat)
  /-- DRV_TH_RREF_WRITE: software writes r_ref: non-zero sets learned, 0 clears it (R321). -/
  | drvThRrefWrite (t : Time) (a : Actor) (ch : Fin 64) (v : W32)
  /-- THERMAL_UPDATE: the millisecond update of an enabled channel; `i2` is the mean squared current of the last millisecond in mA² (R322, R323). -/
  | thermalUpdate (t : Time) (ch : Fin 64) (i2 : Nat)
  /-- OFF_STATE_OPEN_LOAD: the channel is off and its bank switch open (R324). -/
  | offStateOpenLoad (t : Time) (x : DrainSeen)
  /-- ON_STATE_OPEN_LOAD: in a conducting phase the current, at most `ma` since gate-on, stays below open_ma for open_t after gate-on (R324). -/
  | onStateOpenLoad (t : Time) (ch : Fin 64) (ma : Nat)
  /-- SHORT_TO_BATTERY: the current reaches short_ma within short_us of gate-on (R324). -/
  | shortToBattery (t : Time) (ch : Fin 64) (ma : Nat)
  /-- TRIP_COMPARATOR: the current reaches min(trip_ma, full scale) while conducting (R324). -/
  | tripComparator (t : Time) (ch : Fin 64) (ma : Nat)
  /-- HIGH_SIDE_DESATURATION: V(VBOOST) − V(BANK_HSRCk) stands at `dv` tenths of a volt (R324). -/
  | highSideDesaturation (t : Time) (bank : Fin 8) (dv : Nat) (x : SwitchSeen)
  /-- DRV_FAULT_CLEAR: the owner writes 1 to bits of DRV_FAULT (R325). -/
  | drvFaultClear (t : Time) (a : Actor) (ch : Fin 64) (v : W32)
  /-- DRV_HS_STAT_CLEAR: the owner writes 1 to DRV_HS_STAT.desat (R325). -/
  | drvHsStatClear (t : Time) (a : Actor) (bank : Fin 8) (v : W32)
  /-- PWM_RELOAD: (R335): the natural reload of channel `n`, once the PWM clock in which it falls is over. -/
  | pwmReload (t : Time) (n : Fin 48)
  /-- PWM_ENABLE: (R348); writes cross from SYS to PWM (R448). -/
  | pwmEnable (t : Time) (a : Actor) (n : Fin 48) (v : W32)
  /-- PWM_DISABLE: R346, R348. -/
  | pwmDisable (t : Time) (a : Actor) (n : Fin 48) (v : W32)
  /-- PWM_CMP_PER_WRITE: (R337): an 8-byte write at PWM_CMP. -/
  | pwmCmpPerWrite (t : Time) (a : Actor) (n : Fin 48) (v : W64)
  /-- PWM_SHADOW_WRITE: (R337): a 4-byte write of one shadow, the period's if `per`. -/
  | pwmShadowWrite (t : Time) (a : Actor) (n : Fin 48) (per : Bool) (v : W32)
  /-- PWM_LANE_ON: R341. -/
  | pwmLaneOn (t : Time) (n : Fin 48)
  /-- PWM_LANE_OFF: R341. -/
  | pwmLaneOff (t : Time) (n : Fin 48)
  /-- PWM_RATE_WRITE: R341. -/
  | pwmRateWrite (t : Time) (n : Fin 48)
  /-- PWM_SYNC: a rising edge at PWM_SYNC_IN reaches the modules that select it 3 PWM clocks later, or 4 if `late`. -/
  | pwmSync (t : Time) (late : Bool)
  /-- PWM_MOD_SYNC_GO: R343. -/
  | pwmModSyncGo (t : Time) (a : Actor) (m : Fin 6) (v : W32)
  /-- PWM_TRIP: (R345): the balls TRIP_IN stand at `pins`; those that have changed since the latest such command did so `held` PWM clocks ago. `merged` further status pulses of the stretch between two commands have joined a pending one in crossing 11 (R446). -/
  | pwmTrip (t : Time) (pins : BitVec 12) (held merged : Nat)
  /-- PWM_CLOCK_FAULT: (R346, R436, R437): the clock monitor counts `edges` edges of the PWM clock in its window; the clock is faulty by that count, or healthy again: then counters restart at tick 0. -/
  | pwmClockFault (t : Time) (edges : Nat)
  /-- PWM_STAT_CLEAR: R346. -/
  | pwmStatClear (t : Time) (a : Actor) (n : Fin 48) (v : W32)
  /-- CONFIG: R357. -/
  | config (t : Time)
  /-- PROGRAM: R366. -/
  | program (t : Time)
  /-- ENABLE: R363. -/
  | enable (t : Time)
  /-- DISABLE: R354. -/
  | disable (t : Time)
  /-- RESET_STATE: R354. -/
  | resetState (t : Time)
  /-- POST: R364. -/
  | post (t : Time)
  /-- READ: R359. -/
  | read (t : Time)
  /-- LOOP_SAMPLE: the trigger of loop `n` fires now: a periodic instant, a predicted crossing, or an accepted latch edge (R360 to R364). -/
  | loopSample (t : Time) (n : Fin 256)
  /-- IDLE_TIMEOUT: R363. -/
  | idleTimeout (t : Time) (n : Fin 256)
  /-- LOOP_BIST: R373. -/
  | loopBist (t : Time)
  /-- LOOP_BIST_REQ: any actor may write it (R373, R571). -/
  | loopBistReq (t : Time) (a : Actor) (v : W32)
  /-- BIST_RESULT: the self-test passes or fails; in the calibration state start-up goes on to operational in both cases (R374, R520). -/
  | bistResult (t : Time) (pass : Bool)
  /-- CAN_PORT_ENABLE: an actor writes CAN_PORT_CFG with enable 1 (R385, R516). -/
  | canPortEnable (t : Time) (a : Actor) (p : Fin 32) (v : W32)
  /-- CAN_PORT_DISABLE: an actor writes CAN_PORT_CFG with enable 0 (R394). -/
  | canPortDisable (t : Time) (a : Actor) (p : Fin 32) (v : W32)
  /-- CAN_SEND: the oldest SEND descriptor of a port's transmit ring is validated and takes a priority-queue entry (R390). -/
  | canSend (t : Time) (p : Fin 32)
  /-- CAN_ATTEMPT_START: the bus is idle and the port starts the frame that would win (R391). -/
  | canAttemptStart (t : Time) (p : Fin 32)
  /-- CAN_ATTEMPT_SUCCESS: the attempt in progress ends with a valid frame; with `lost` it loses arbitration to another node's, which a port in loopback never hears (R380, R392). `delay` is the transmitter delay measured in an FD or XL frame, in BUS clocks; with its secondary sample point beyond 127 clocks the attempt ends in a bit error instead (R384). -/
  | canAttemptSuccess (t : Time) (p : Fin 32) (lost : Bool) (x : SentFrame)
  /-- CAN_ATTEMPT_ERROR: the attempt ends in an error of a type of R388, 1 to 5 (R393 to R396, R398). -/
  | canAttemptError (t : Time) (p : Fin 32) (type : Fin 6) (dataPhase : Bool) (position : Nat) (x : SentError)
  /-- CAN_FRAME_RECEIVED: a valid frame, laid out as R386, whose SOF fell at `sof`; `overload` counts overload frames after it (R389). -/
  | canFrameReceived (t : Time) (p : Fin 32) (id ctrl : W32) (data : List Byte) (sof : Time) (overload : Overload)
  /-- RECOVER: an actor writes CAN_PORT_CTRL (R399). -/
  | recover (t : Time) (a : Actor) (p : Fin 32) (v : W32)
  /-- RECOVERY_COMPLETE: 128 occurrences of 11 recessive bits have been counted (R399, R411). -/
  | recoveryComplete (t : Time) (p : Fin 32)
  /-- WAKE_UP: R381: 5 us of low wake a disabled port. -/
  | wakeUp (t : Time) (x : WakeSeen)
  /-- REFERENCE_MESSAGE: a valid reference message with identifier `id` and data bytes is received, its SOF at `sof` (R408, R410, R411). -/
  | referenceMessage (t : Time) (p : Fin 32) (id : BitVec 11) (data : List Byte) (sof : Time)
  /-- REFERENCE_ATTEMPT: a master at its scheduled start, or a potential master after a miss, sends its reference message; its SOF falls at `sof` and it ends as `res` says (R409, R411). -/
  | referenceAttempt (t : Time) (p : Fin 32) (sof : Time) (res : RefResult)
  /-- REFERENCE_MISS: no reference message by the predicted start plus tol (R411). A potential master's attempt, with the cycle count of the cycle that has begun, is then due. -/
  | referenceMiss (t : Time) (p : Fin 32)
  /-- LISTEN_TIMEOUT: init_wait basic cycles have passed in listen without a reference message; a potential master makes its attempt with cycle count 0 (R411). -/
  | listenTimeout (t : Time) (p : Fin 32) (sof : Time) (res : RefResult)
  /-- TT_WINDOW_START: column `c` of the present cycle begins; on an idle bus the port starts the first frame that fits (R412, R413). -/
  | ttWindowStart (t : Time) (p : Fin 32) (c : Fin 64) (idle : Bool)
  /-- SLOT_FRAME_FORM: 5 us before a slot window, its command frames are formed (R414, R416, R419). -/
  | slotFrameForm (t : Time) (p : Fin 32) (c : Fin 64)
  /-- NODE_STATUS: a node's fault mask arrives (R422). -/
  | nodeStatus (t : Time) (p : Fin 32) (node : BitVec 8) (data : List Byte)
  /-- NODE_SILENT: a bound node has sent no status for silent_ms (R422). -/
  | nodeSilent (t : Time) (p : Fin 32) (node : BitVec 8)
  /-- ADMIT: a frame from a parent to node `node` on port `p` is accepted or refused; one for another node is not this device's (R424). -/
  | admitFrame (t : Time) (p : Fin 32) (node : BitVec 8) (frame : List Byte)
  /-- JOINED: a subordinate's answer to ADMIT (R424). -/
  | joined (t : Time) (p : Fin 32) (node : BitVec 8) (frame : List Byte)
  /-- SHARE: the share takes effect at step 2 of the next sweep; parent_silent clears (R171, R175). -/
  | share (t : Time) (p : Fin 32) (node : BitVec 8) (frame : List Byte)
  /-- CONVOY_REPORT: a subordinate's caravan 0 aggregates, used at the next aggregation (R170, R172). -/
  | convoyReport (t : Time) (p : Fin 32) (node : BitVec 8) (frame : List Byte)
  /-- WAYBILL: a forwarded waybill arrives from the parent. The frame carries bytes 8 to 63; `op` is the waybill's opcode, which the frame's layout has no place for. -/
  | waybill (t : Time) (p : Fin 32) (node : BitVec 8) (op : Nat) (frame : List Byte)
  /-- DONE: a subordinate has completed a forwarded waybill (R173). -/
  | done (t : Time) (p : Fin 32) (node : BitVec 8) (frame : List Byte)
  /-- RECORD: a piece of a forwarded QUERY's record (R425). -/
  | record (t : Time) (p : Fin 32) (node : BitVec 8) (frame : List Byte)
  /-- COLD_RESET: R438, R440, R492, R552. -/
  | coldReset (x : SupplySeen)
  /-- WARM_RESET: the monitor sends REVOKE, then makes a warm reset (R438, R481). -/
  | warmReset (t : Time)
  /-- CLOCK_FAULT_RESET: of the reference, or of the system PLL if `pll` (R438, R442). -/
  | clockFaultReset (t : Time) (pll : Bool)
  /-- REFERENCE_CLOCK_FAULT: the 25 MHz reference is off or stopped; its window is 1 ms (R436). -/
  | referenceClockFault (x : ClockSeen)
  /-- PLL_LOCK_LOST: the system PLL loses lock (R436). -/
  | pllLockLost (t : Time)
  /-- PLL_LOCK: the system PLL (0), the Ethernet PLL (1) or the PCI Express PHY PLL (2) reports lock, and during start-up its domains leave reset (R435). After a clock-fault reset, `edges` edges of the 32.768 kHz clock have advanced device time until now (R442). -/
  | pllLock (t : Time) (pll : Fin 3) (edges : Nat)
  /-- DOMAIN_CLOCK_FAULT: the FB clock or the BUS clock is off: a domain reset (R436, R437). -/
  | domainClockFault (t : Time) (x : DomainSeen)
  /-- ETH_LOCK_LOST: the Ethernet PLL loses lock: a domain reset (R436, R437). -/
  | ethLockLost (t : Time)
  /-- PIPE_LOCK_LOST: the link is down, and the host side of Cister is reset as by a Function Level Reset (R436, R68). -/
  | pipeLockLost (t : Time)
  /-- RTC_CLOCK_FAULT: (R436): the window of the 32.768 kHz clock is 1 s; streams stamp in operating time while the bit is set (R490). -/
  | rtcClockFault (x : ClockSeen)
  /-- DRIVE_OSCILLATOR_FAULT: a drive die reset (R436). CLK_STAT has no bit for it, so the subject of its notification and record is free (R437, R454). -/
  | driveOscillatorFault (x : OscillatorSeen)
  /-- DOMAIN_RESET: of domain 0 FB, 1 BUS or 2 ETH (R438). -/
  | domainReset (t : Time) (d : Fin 3)
  /-- DOMAIN_RESET_RELEASE: of domain 0 FB, 1 BUS or 2 ETH, whose clock has been healthy since `healthy`: it follows 1 ms later (R438). -/
  | domainResetRelease (t : Time) (d : Fin 3) (healthy : Time)
  /-- PERST: PERST_N is low, or high again (R438). -/
  | perst (t : Time) (low : Bool)
  /-- DRIVE_DIE_RESET: R438, R512. -/
  | driveDieReset (x : DriveSupplySeen)
  /-- DRIVE_DIE_RESET_RELEASE: VBAT and VIO33 have been good for 1 ms (R512). -/
  | driveDieResetRelease (x : DriveSupplyGood)
  /-- ALWAYS_ON_RESET: the RTC is invalid, and the operating-time and power-cycle counters are cleared (R438, R492). The signature-failure count, the alarm latch and the kill latch need VBACKUP (R513): what they hold after it is free. -/
  | alwaysOnReset (x : BackupSeen)
  /-- CROSSING_FAR_RESET: crossing `k` sees its far side in reset; what it holds is discarded (R449, R450). -/
  | crossingFarReset (t : Time) (k : Fin 18)
  /-- CROSSING_RESTART: the far side of crossing `k` is back, and both sides restart from zero (R450). -/
  | crossingRestart (t : Time) (k : Fin 18)
  /-- CORE_WDOG_KICK: a write by core `k` restarts its watchdog (R461). -/
  | coreWdogKick (t : Time) (k : Fin 4)
  /-- CORE_WATCHDOG_EXPIRY: no kick for watchdog_ms, where it is not zero (R461). -/
  | coreWatchdogExpiry (t : Time) (k : Fin 4)
  /-- REGION_FAULT: an access of core `k` at `addr` (`perm` 0 read, 1 write, 2 fetch) is blocked: a write is dropped, the fault counts, and the core is halted where the charter says so (R459, R461). -/
  | regionFault (t : Time) (k : Fin 4) (addr : W32) (perm : Fin 3)
  /-- HANDLER_EXCEPTION: core `k` takes an exception while its handler still runs (R461). -/
  | handlerException (t : Time) (k : Fin 4)
  /-- CORE_RESTART: restart_delay_ms after its halt, up to restart_max times (R461). -/
  | coreRestart (t : Time) (k : Fin 4)
  /-- HASH: SHA-256 of the input of core `k`'s block (R475). -/
  | hash (t : Time) (k : Fin 4) (block : List Byte)
  /-- SEAL: AES-256-GCM of the input of core `k`'s block under a derived key, behind a fresh initialisation vector (R475). -/
  | seal (t : Time) (k : Fin 4) (block : List Byte)
  /-- UNSEAL: the inverse; status 0x0120 when the tag fails (R475). An input shorter than 28 bytes holds no tag. -/
  | unseal (t : Time) (k : Fin 4) (block : List Byte)
  /-- VERIFY: ECDSA P-256 over SHA-256 of the input of core `k`'s block, the key and signature at aux (R475). -/
  | verify (t : Time) (k : Fin 4) (block : List Byte)
  /-- SERVICE_ATTEST: the record of R473 for the 32-byte challenge at src of core `k`'s block (R475). -/
  | serviceAttest (t : Time) (k : Fin 4) (block : List Byte)
  /-- STAGE: on ring `n`: an image goes into its type's inactive slot; `ok` says whether the flash took it (R471). -/
  | stage (t : Time) (n : Fin 128) (ok : Bool)
  /-- ACTIVATE: on ring `n`: the inactive slots of a mask of types become active, in trial (R471). -/
  | activate (t : Time) (n : Fin 128)
  /-- CONFIRM: on ring `n`: trials end, and floors may rise (R471). -/
  | confirm (t : Time) (n : Fin 128)
  /-- ATTEST: on ring `n`: the signed record goes to a buffer (R473). -/
  | attest (t : Time) (n : Fin 128)
  /-- PROVISION: on ring `n`: oem_key_hash is programmed, once (R471). -/
  | provision (t : Time) (n : Fin 128)
  /-- LEDGER_CLEAR: a CLEAR request on ring `n` (R504, R505). -/
  | ledgerClear (t : Time) (n : Fin 128)
  /-- VOLTAGE_GLITCH: source 0 (R477). -/
  | voltageGlitch (x : VoltageSeen)
  /-- CLOCK_GLITCH: source 1 (R477). -/
  | clockGlitch (x : PhaseSeen)
  /-- TEMPERATURE_VIOLATION: source 3 (R477). -/
  | temperatureViolation (x : TemperatureSeen)
  /-- MESH_VIOLATION: source 4, whose level is 3 whatever the charter says (R477). -/
  | meshViolation (t : Time)
  /-- SIGNATURE_VIOLATION: source 5, after 8 consecutive failed signature checks (R477). -/
  | signatureViolation (t : Time)
  /-- REGION_FAULT_VIOLATION: source 6, more than region_threshold region faults in the present whole second (R477). -/
  | regionFaultViolation (t : Time)
  /-- LOCKSTEP_MISMATCH: REVOKE and a warm reset (R481). -/
  | lockstepMismatch (t : Time)
  /-- MONITOR_WATCHDOG_EXPIRY: REVOKE and a warm reset (R481). -/
  | monitorWatchdogExpiry (t : Time)
  /-- RECOVERY_IMAGE_LOAD: host software writes SEC_RECOVERY_CTRL (R480). -/
  | recoveryImageLoad (t : Time) (a : Actor) (v : W32)
  /-- RESET_RELEASE: the control die leaves cold reset, in which the RTC has gone on (R511). `fit` is what its OTP and flash hold, where that differs from what the device last knew. -/
  | resetRelease (t : Time) (x : ResetSeen) (fit : Option Fitting)
  /-- MONITOR_START: the ROM checks the kill latch, discovers the flash (of 2^`log2` bytes in `mode` at `mhz` MHz; none where `log2` is not 24 to 28), verifies the monitor slots and starts the monitor, or enters recovery (R465, R479, R514, R576). -/
  | monitorStart (t : Time) (log2 mode mhz : Nat)
  /-- CHARTER_APPLY: the monitor verifies the charter slots, applies the charter or the default charter, and locks (R465, R466, R470). -/
  | charterApply (t : Time)
  /-- FIRMWARE_START: the monitor verifies field firmware and starts the cores; the relay state begins (R465, R466, R514). -/
  | firmwareStart (t : Time)
  /-- ENDPOINT_READY: the endpoint begins to answer configuration requests (R515). -/
  | endpointReady (t : Time)
  /-- RELAY_TIMEOUT: the link has not trained within 100 ms of the start of the relay state; the lease state ends at once (R518). -/
  | relayTimeout (t : Time)
  /-- STARTUP_GRANT: the first grant after a cold, warm or clock-fault reset (R518, R519). -/
  | startupGrant (t : Time)
  /-- LEDGER_ENTRY: a stream takes its oldest queued record into its buffer share of 4,096 records (R493). -/
  | ledgerEntry (t : Time) (k : Fin 4)
  /-- LEDGER_FLASH_WRITE: the first stream in serving order with a record ready writes it; `ok` says whether the flash took it (R494). -/
  | ledgerFlashWrite (t : Time) (ok : Bool)
  /-- SIG: the oldest closed block gets its SIG group (R499, R500). -/
  | sig (t : Time)
  /-- RTC_SET: a write of LEDGER_RTC_CTRL by the owner of ring 89 (R491). -/
  | rtcSet (t : Time) (a : Actor) (v : W32)
  /-- LEDGER_CURSOR_WRITE: R501. -/
  | ledgerCursorWrite (t : Time) (a : Actor) (high : Bool) (size : Nat) (v : W64)
  /-- LEDGER_WINDOW7_READ: the word is returned and the index advances by one (R501). -/
  | ledgerWindow7Read (t : Time)
  /-- LEDGER_RTC_READ: the seconds are returned and the milliseconds latched (R506). -/
  | ledgerRtcRead (t : Time)
  /-- LEDGER_EXPORT_ENTRY: the next exportable record is written to ring 89 (R503). -/
  | ledgerExportEntry (t : Time)
  /-- OPERATING_TIME_TICK: a second in which the control die is out of cold reset (R492). -/
  | operatingTimeTick (t : Time)
  /-- TRACE_SYNC: 20,000 device-time units have passed since the previous SYNC (R538). -/
  | traceSync (t : Time)
  /-- OVERFLOW: room has returned after a loss (R539). -/
  | overflow (t : Time)
  /-- TALLY_SNAP: R542. -/
  | tallySnap (t : Time) (a : Actor) (v : W32)
  /-- REGISTER_WRITE: a write of `size` bytes by an actor at a BAR0 offset (R14, R568 to R573). Undefined where R76, R115, R301 or R431 says so. -/
  | registerWrite (t : Time) (a : Actor) (off size : Nat) (v : W64)
  /-- BUS_MASTER_DISABLE: Bus Master Enable goes to 0, or the function enters D3hot (R67). -/
  | busMasterDisable (t : Time) (d3 : Bool)
  /-- IDLE: an IDLE frame is sent and accepted in one direction (R303, R306, R313). -/
  | idle (t : Time) (down : Bool)
  /-- RELAY_FRAME_DISCARD: the next frame of a direction arrives with the bits of `flips` inverted, or `flips` arrive where no frame is on its way, and it is discarded; a bad CRC or a wrong link epoch counts (R306). -/
  | relayFrameDiscard (t : Time) (down : Bool) (flips : List Byte)
  /-- CAN_INTEGRATION_COMPLETE: R385. -/
  | canIntegrationComplete (t : Time) (p : Fin 32)
  /-- CAN_RECEIVE_ERROR: an error in a frame that the port receives, or a protocol exception (type 9); REC rises by 1, or by 8 where ISO 11898-1 says so (R388, R395). -/
  | canReceiveError (t : Time) (p : Fin 32) (type : Fin 10) (dataPhase : Bool) (position : Nat) (x : HeardError)
  /-- BOOST_VOLTAGE_RECOVERY: VBOOST no longer exceeds its limit, or no longer lies below its undervoltage level (R294). -/
  | boostVoltageRecovery (t : Time) (v : BitVec 16)
  /-- EXECUTION_INSTANT: a committed event of an unbound or remote lane reaches its execution time (R198); a remote one once its command has been transmitted. -/
  | executionInstant (t : Time) (k : Fin 4096)
  /-- MONITOR_REQUEST_COMPLETION: the monitor finishes its request in place `i` (R471); a restart follows the completion (R471, R481). -/
  | monitorRequestCompletion (t : Time) (i : Fin 4)
  /-- SERVICE_DONE: the status of core `k`'s request is written with the done bit, and its line is raised (R475). -/
  | serviceDone (t : Time) (k : Fin 4)
  /-- ETH_TRANSMIT_COMPLETE: the frame has left, its start-frame delimiter at `at'`; tx_time is written when asked (R248). -/
  | ethTransmitComplete (t : Time) (m : Fin 2) (at' : Time)
  deriving DecidableEq, Repr

end Sys2Proof
end

