-- ==== Sys2Proof/Decode.lean ====
section
/-! DEFINITION. The command that a table word spells. The operation table of this block gives its rows no bits: no word spells a command. -/
namespace Sys2Proof

/-- The command of `nbits` bits that spell `w` by the operation table: none, since every row's list of fields is empty. DESIGN CHOICE (log 8). -/
def decodeTableWord (_nbits _w : Nat) : Option Instr := none

end Sys2Proof
end

