-- ==== Sys2Proof/Config.lean ====
section
/-! DEFINITION. What the manual leaves open: free values without a body, and the published cryptographic functions it cites by designation only. -/
namespace Sys2Proof

/-- A value the manual leaves open, drawn by a plain counter of the state; nothing constrains it. -/
opaque Config.freeValue : Nat → BitVec 64
/-- The notification kind of a sweep overrun (R23), which the manual does not number; taken modulo 64. -/
opaque Config.overrunKind : Nat
/-- The word that the monitor writes to TRACE_MASK in the charter state, which the manual leaves to the monitor (R540, R577). -/
opaque Config.traceMask : BitVec 32
/-- SHA-256 (FIPS 186-5 and R463 cite it; its definition is outside the manual). -/
opaque Config.sha256 : List Byte → Nat
/-- ECDSA P-256 verification of a signature (r, s) over a digest under a public key (X, Y); outside the manual. -/
opaque Config.ecdsaVerify : List Byte → Nat → List Byte → Bool
/-- The deterministic ECDSA P-256 signature (r then s, 64 bytes) over a digest under the identity key (R474). -/
opaque Config.identitySign : Nat → List Byte
/-- The deterministic ECDSA P-256 signature (r then s, 64 bytes) over a digest under the audit-signing key (R499). -/
opaque Config.auditSign : Nat → List Byte
/-- The identity public key, X then Y (R473). -/
opaque Config.identityKey : List Byte
/-- The audit public key, X then Y (R498). -/
opaque Config.auditKey : List Byte
/-- AES-256-GCM under a key derived from the sealing root, the OEM key hash and a context (R475): ciphertext and tag of a text under an initialisation vector. -/
opaque Config.sealText : Nat → Nat → List Byte → List Byte → List Byte
/-- The inverse: the text, if the tag matches (R475). -/
opaque Config.openText : Nat → Nat → List Byte → List Byte → Option (List Byte)
/-- SHA-256 hashes of the four Espelu keys in the mask ROM (R464). -/
opaque Config.espeluKeyHash : Nat → Nat

end Sys2Proof
end

