-- ==== Sys2Proof/Machine/Arith.lean ====
section
/-! DEFINITION. Exact arithmetic with the manual's narrowing rules: rounding to nearest with ties away from zero and saturation (R7), two's-complement wrapping, bit fields, and little-endian bytes (R3). -/
namespace Sys2Proof.Machine

/-- `a / b` rounded to the nearest integer, ties away from zero (R7). -/
def roundDiv (a : Int) (b : Nat) : Int :=
  if 0 ≤ a then ((2 * a.toNat + b) / (2 * b) : Nat) else -(((2 * (-a).toNat + b) / (2 * b) : Nat) : Int)

/-- `a / b` rounded to nearest for naturals, ties up (R7). -/
def roundDivNat (a b : Nat) : Nat := (2 * a + b) / (2 * b)

/-- `a / 2^n` rounded to nearest, ties away from zero (R7). -/
def roundShift (a : Int) (n : Nat) : Int := roundDiv a (2 ^ n)

/-- Clamp to an interval. -/
def clampInt (lo hi x : Int) : Int := if x < lo then lo else if hi < x then hi else x

/-- Clamp a natural from above. -/
def capNat (hi x : Nat) : Nat := if hi < x then hi else x

/-- Saturation to a signed format of `n` bits (R7). -/
def satS (n : Nat) (x : Int) : Int := clampInt (-(2 ^ (n - 1) : Nat)) ((2 ^ (n - 1) : Nat) - 1) x

/-- Saturation to an unsigned format of `n` bits (R7). -/
def satU (n : Nat) (x : Int) : Nat := (clampInt 0 ((2 ^ n : Nat) - 1) x).toNat

/-- Wrap to a signed number of `n` bits. -/
def wrapS (n : Nat) (x : Int) : Int := Int.bmod x (2 ^ n)

/-- Wrap to an unsigned number of `n` bits. -/
def wrapU (n : Nat) (x : Int) : Nat := (Int.emod x ((2 ^ n : Nat) : Int)).toNat

/-- The signed number in the low `n` bits of a natural. -/
def signed (n : Nat) (x : Nat) : Int := wrapS n x

/-- Bits `hi` down to `lo` of a number. -/
def bits (x hi lo : Nat) : Nat := (x / 2 ^ lo) % 2 ^ (hi + 1 - lo)

/-- Bit `i` of a number. -/
def bitOf (x i : Nat) : Bool := (x / 2 ^ i) % 2 == 1

/-- A Boolean as a bit value. -/
def b2n (b : Bool) : Nat := if b then 1 else 0

/-- A register field: bits `hi` down to `lo`. -/
def fld (w : W32) (hi lo : Nat) : Nat := bits w.toNat hi lo

/-- A register bit. -/
def flag (w : W32) (i : Nat) : Bool := bitOf w.toNat i

/-- A register with bit `i` set to `b`. -/
def setFlag (w : W32) (i : Nat) (b : Bool) : W32 :=
  BitVec.ofNat 32 (if flag w i = b then w.toNat else if b then w.toNat + 2 ^ i else w.toNat - 2 ^ i)

/-- A register with bits `hi` down to `lo` replaced by `v`. -/
def setFld (w : W32) (hi lo : Nat) (v : Nat) : W32 :=
  BitVec.ofNat 32 (w.toNat - fld w hi lo * 2 ^ lo + (v % 2 ^ (hi + 1 - lo)) * 2 ^ lo)

/-- The `n` low bytes of a number, first byte lowest (R3). -/
def leBytes : Nat → Nat → List Byte
  | 0, _ => []
  | n + 1, x => BitVec.ofNat 8 x :: leBytes n (x / 256)

/-- The number that bytes spell, first byte lowest (R3). -/
def leNat : List Byte → Nat
  | [] => 0
  | b :: rest => b.toNat + 256 * leNat rest

/-- The number that bytes spell, first byte highest (network order). -/
def beNat (bs : List Byte) : Nat := bs.foldl (fun a b => a * 256 + b.toNat) 0

/-- The `n` low bytes of a number, first byte highest. -/
def beBytes (n x : Nat) : List Byte := (leBytes n x).reverse

/-- The byte at an offset; bytes past the end read zero. -/
def u8 (bs : List Byte) (off : Nat) : Nat := ((bs.drop off).head?.getD 0).toNat
/-- The 16-bit field at an offset (R3). -/
def u16 (bs : List Byte) (off : Nat) : Nat := leNat ((bs.drop off).take 2)
/-- The 32-bit field at an offset (R3). -/
def u32 (bs : List Byte) (off : Nat) : Nat := leNat ((bs.drop off).take 4)
/-- The 64-bit field at an offset (R3). -/
def u64 (bs : List Byte) (off : Nat) : Nat := leNat ((bs.drop off).take 8)
/-- The signed 8-bit field at an offset. -/
def i8 (bs : List Byte) (off : Nat) : Int := signed 8 (u8 bs off)
/-- The signed 16-bit field at an offset. -/
def i16 (bs : List Byte) (off : Nat) : Int := signed 16 (u16 bs off)
/-- The signed 32-bit field at an offset. -/
def i32 (bs : List Byte) (off : Nat) : Int := signed 32 (u32 bs off)
/-- The signed 64-bit field at an offset. -/
def i64 (bs : List Byte) (off : Nat) : Int := signed 64 (u64 bs off)

/-- `bs` padded with zero bytes, or cut, to `n` bytes. -/
def fitBytes (n : Nat) (bs : List Byte) : List Byte := (bs ++ List.replicate n 0).take n

/-- The bytes of `bs` with those at `off` replaced by `new`. -/
def patchBytes (bs : List Byte) (off : Nat) (new : List Byte) : List Byte :=
  bs.take off ++ new ++ bs.drop (off + new.length)

/-- Integer square root by `n` bits of digit-by-digit search. -/
def isqrtBits : Nat → Nat → Nat → Nat
  | 0, _, acc => acc
  | n + 1, x, acc =>
    let cand := acc + 2 ^ n
    if cand * cand ≤ x then isqrtBits n x cand else isqrtBits n x acc

/-- The integer square root of a number below `2^128`. -/
def isqrt (x : Nat) : Nat := isqrtBits 64 x 0

/-- The square root rounded to the nearest integer (R7). -/
def sqrtRound (x : Nat) : Nat :=
  let r := isqrt x
  if x - r * r > r then r + 1 else r

/-- Signed difference of two free-running 32-bit counts. -/
def diff32 (a b : W32) : Int := (a - b).toInt

/-- The least element of a list, if any. -/
def listMin : List Nat → Option Nat
  | [] => none
  | x :: rest => match listMin rest with
    | none => some x
    | some y => some (if x ≤ y then x else y)

end Sys2Proof.Machine
end

