-- ==== Sys2Proof/Machine/Tab.lean ====
section
/-! DEFINITION. Sparse tables in one canonical form: strictly rising keys, no entry equal to what an unlisted key reads as. Memory, registers, tallies and every instance array of the device are such tables. -/
namespace Sys2Proof.Machine

/-- A sparse table from a number (an address, an offset, an instance index) to a value. -/
abbrev Tab (α : Type) := List (Nat × α)

/-- What key `k` holds; an unlisted key reads as `d`. -/
def tabGet {α : Type} (d : α) : Tab α → Nat → α
  | [], _ => d
  | (k', v) :: rest, k => if k' = k then v else tabGet d rest k

/-- Put an entry in its place by key. -/
def tabInsert {α : Type} (k : Nat) (v : α) : Tab α → Tab α
  | [] => [(k, v)]
  | (k', v') :: rest => if k < k' then (k, v) :: (k', v') :: rest else (k', v') :: tabInsert k v rest

/-- The table without key `k`. -/
def tabErase {α : Type} (k : Nat) : Tab α → Tab α
  | [] => []
  | (k', v') :: rest => if k' = k then tabErase k rest else (k', v') :: tabErase k rest

/-- Store `v` at key `k`: a value equal to the unlisted value `d` removes the entry. -/
def tabSet {α : Type} [DecidableEq α] (d : α) (t : Tab α) (k : Nat) (v : α) : Tab α :=
  if v = d then tabErase k t else tabInsert k v (tabErase k t)

/-- Change the value at key `k`. -/
def tabMod {α : Type} [DecidableEq α] (d : α) (t : Tab α) (k : Nat) (f : α → α) : Tab α :=
  tabSet d t k (f (tabGet d t k))

/-- Change every listed value; what becomes the unlisted value is dropped. -/
def tabMap {α : Type} [DecidableEq α] (d : α) (f : α → α) : Tab α → Tab α
  | [] => []
  | (k, v) :: rest => if f v = d then tabMap d f rest else (k, f v) :: tabMap d f rest

/-- Strictly rising keys, each at or above `lo`. -/
def tabRising {α : Type} : Nat → Tab α → Bool
  | _, [] => true
  | lo, (k, _) :: rest => lo ≤ k && tabRising (k + 1) rest

/-- The canonical form: rising keys, and no entry equal to the unlisted value. -/
def tabWf {α : Type} [DecidableEq α] (d : α) (t : Tab α) : Bool :=
  tabRising 0 t && t.all (fun e => decide (e.2 ≠ d))

end Sys2Proof.Machine
end

