-- ==== Sys2Proof/Machine/RegMap.lean ====
section
/-! DEFINITION. The set-up register map (R567 and each chapter's register tables): per register its BAR0 offset, instance layout, the bits software may write (RW), clear by writing one (W1C) or trigger (WO), and its reset value. -/
namespace Sys2Proof.Machine

/-- One register of the map: the offset of its first position, its instance layout, and its access masks and reset value. DESIGN CHOICE (log 4). -/
structure Reg where
  base : Nat
  stride : Nat := 0
  count : Nat := 1
  stride2 : Nat := 0
  count2 : Nat := 1
  rw : W32 := 0
  w1c : W32 := 0
  wo : W32 := 0
  reset : W32 := 0
  deriving DecidableEq, Repr

/-- ID_PART (R575, R576). -/
def R.ID_PART : Reg := { base := 0x0, reset := 0x8601f7a#32 }
/-- ID_REVISION (R575, R576). -/
def R.ID_REVISION : Reg := { base := 0x4, reset := 0x1000100#32 }
/-- ID_CAP0 (R575, R576). -/
def R.ID_CAP0 : Reg := { base := 0x8, reset := 0x10000800#32 }
/-- ID_CAP1 (R575, R576). -/
def R.ID_CAP1 : Reg := { base := 0xc, reset := 0x20304010#32 }
/-- ID_CAP2 (R575, R576). -/
def R.ID_CAP2 : Reg := { base := 0x10, reset := 0x10804008#32 }
/-- ID_FLASH (R575, R576). -/
def R.ID_FLASH : Reg := { base := 0x14 }
/-- ID_LOCK (R575, R576). -/
def R.ID_LOCK : Reg := { base := 0x18 }
/-- ID_BADACC (R575, R576). -/
def R.ID_BADACC : Reg := { base := 0x1c, w1c := 0x80000000#32 }
/-- ID_SCRATCH (R575). -/
def R.ID_SCRATCH : Reg := { base := 0x20, rw := 0xffffffff#32 }
/-- CISTER_RING_BASE_LO (R71). -/
def R.CISTER_RING_BASE_LO : Reg := { base := 0x1000, stride := 0x20, count := 128, rw := 0xfffff000#32 }
/-- CISTER_RING_BASE_HI (R71). -/
def R.CISTER_RING_BASE_HI : Reg := { base := 0x1004, stride := 0x20, count := 128, rw := 0xffffffff#32 }
/-- CISTER_RING_CFG (R71). -/
def R.CISTER_RING_CFG : Reg := { base := 0x1008, stride := 0x20, count := 128, rw := 0xbffc0fff#32 }
/-- CISTER_RING_STAT (R71). -/
def R.CISTER_RING_STAT : Reg := { base := 0x100c, stride := 0x20, count := 128, w1c := 0x40000000#32, reset := 0x80000000#32 }
/-- CISTER_RING_SWIDX (R71). -/
def R.CISTER_RING_SWIDX : Reg := { base := 0x1010, stride := 0x20, count := 128 }
/-- CISTER_RING_DEVIDX (R71). -/
def R.CISTER_RING_DEVIDX : Reg := { base := 0x1014, stride := 0x20, count := 128 }
/-- CISTER_RING_DROP (R71). -/
def R.CISTER_RING_DROP : Reg := { base := 0x1018, stride := 0x20, count := 128 }
/-- CISTER_MIRROR_BASE_LO (R572, R75). -/
def R.CISTER_MIRROR_BASE_LO : Reg := { base := 0x2000, rw := 0xfffffc01#32 }
/-- CISTER_MIRROR_BASE_HI (R572, R75). -/
def R.CISTER_MIRROR_BASE_HI : Reg := { base := 0x2004, rw := 0xffffffff#32 }
/-- CISTER_HOST_WDOG (R572, R75). -/
def R.CISTER_HOST_WDOG : Reg := { base := 0x2008, rw := 0x8000ffff#32 }
/-- CISTER_MSIX_MOD (R572). -/
def R.CISTER_MSIX_MOD : Reg := { base := 0x2100, stride := 0x4, count := 64, rw := 0xffff00ff#32, reset := 0x1#32 }
/-- CISTER_CORE_MOD (R572). -/
def R.CISTER_CORE_MOD : Reg := { base := 0x2200, stride := 0x4, count := 4, rw := 0xffff00ff#32, reset := 0x1#32 }
/-- SEC_STAT (R482, R483). -/
def R.SEC_STAT : Reg := { base := 0x3000 }
/-- SEC_ALARM (R482). -/
def R.SEC_ALARM : Reg := { base := 0x3004 }
/-- SEC_VER_MON (R482). -/
def R.SEC_VER_MON : Reg := { base := 0x3008 }
/-- SEC_VER_CHARTER (R482). -/
def R.SEC_VER_CHARTER : Reg := { base := 0x300c }
/-- SEC_VER_FW (R482). -/
def R.SEC_VER_FW : Reg := { base := 0x3010 }
/-- SEC_FLOORS (R482). -/
def R.SEC_FLOORS : Reg := { base := 0x3014 }
/-- SEC_DEVICE_ID_LO (R482). -/
def R.SEC_DEVICE_ID_LO : Reg := { base := 0x3018 }
/-- SEC_DEVICE_ID_HI (R482). -/
def R.SEC_DEVICE_ID_HI : Reg := { base := 0x301c }
/-- SEC_CORE_STAT (R482). -/
def R.SEC_CORE_STAT : Reg := { base := 0x3020 }
/-- SEC_SIGFAIL (R482). -/
def R.SEC_SIGFAIL : Reg := { base := 0x3024 }
/-- SEC_REGION_FAULTS (R482). -/
def R.SEC_REGION_FAULTS : Reg := { base := 0x3028 }
/-- SEC_UPDATE (R482, R483). -/
def R.SEC_UPDATE : Reg := { base := 0x302c }
/-- SEC_RECOVERY_LO (R482). -/
def R.SEC_RECOVERY_LO : Reg := { base := 0x3030, rw := 0xffffffff#32 }
/-- SEC_RECOVERY_HI (R482). -/
def R.SEC_RECOVERY_HI : Reg := { base := 0x3034, rw := 0xffffffff#32 }
/-- SEC_RECOVERY_CTRL (R482). -/
def R.SEC_RECOVERY_CTRL : Reg := { base := 0x3038, rw := 0x8003ffff#32 }
/-- START_STAT (R523). -/
def R.START_STAT : Reg := { base := 0x3040 }
/-- START_TIME (R523). -/
def R.START_TIME : Reg := { base := 0x3044 }
/-- CLK_STAT (R452, R453). -/
def R.CLK_STAT : Reg := { base := 0x4000, w1c := 0x3f#32 }
/-- RST_CAUSE (R452, R453). -/
def R.RST_CAUSE : Reg := { base := 0x4004, w1c := 0xf0000000#32, reset := 0x80000000#32 }
/-- RST_WARM_CNT (R452). -/
def R.RST_WARM_CNT : Reg := { base := 0x4008 }
/-- XING_SEL (R452). -/
def R.XING_SEL : Reg := { base := 0x400c, rw := 0x1f#32 }
/-- XING_MERGE (R452). -/
def R.XING_MERGE : Reg := { base := 0x4010 }
/-- XING_LOST (R452). -/
def R.XING_LOST : Reg := { base := 0x4014 }
/-- LEDGER_CFG (R506, R507). -/
def R.LEDGER_CFG : Reg := { base := 0x5000, rw := 0xf#32 }
/-- LEDGER_STAT (R506, R507). -/
def R.LEDGER_STAT : Reg := { base := 0x5004 }
/-- LEDGER_CURSOR_LO (R506). -/
def R.LEDGER_CURSOR_LO : Reg := { base := 0x5008, rw := 0xffffffff#32 }
/-- LEDGER_CURSOR_HI (R506). -/
def R.LEDGER_CURSOR_HI : Reg := { base := 0x500c, rw := 0x3#32 }
/-- LEDGER_WINDOW (R506). -/
def R.LEDGER_WINDOW : Reg := { base := 0x5010, stride := 0x4, count := 8 }
/-- LEDGER_RTC_SET (R506). -/
def R.LEDGER_RTC_SET : Reg := { base := 0x5030, rw := 0xffffffff#32 }
/-- LEDGER_RTC_CTRL (R506, R507). -/
def R.LEDGER_RTC_CTRL : Reg := { base := 0x5034, rw := 0x400003ff#32, wo := 0x80000000#32 }
/-- LEDGER_RTC (R506). -/
def R.LEDGER_RTC : Reg := { base := 0x5038 }
/-- LEDGER_RTC_MS (R506). -/
def R.LEDGER_RTC_MS : Reg := { base := 0x503c }
/-- LEDGER_OPTIME (R506). -/
def R.LEDGER_OPTIME : Reg := { base := 0x5040 }
/-- LEDGER_PWRCYC (R506). -/
def R.LEDGER_PWRCYC : Reg := { base := 0x5044 }
/-- LEDGER_FIRST (R506). -/
def R.LEDGER_FIRST : Reg := { base := 0x5050, stride := 0x10, count := 4 }
/-- LEDGER_NEXT (R506). -/
def R.LEDGER_NEXT : Reg := { base := 0x5054, stride := 0x10, count := 4 }
/-- LEDGER_LOST (R506). -/
def R.LEDGER_LOST : Reg := { base := 0x5058, stride := 0x10, count := 4 }
/-- LEDGER_EXPORTED (R506). -/
def R.LEDGER_EXPORTED : Reg := { base := 0x505c, stride := 0x10, count := 4 }
/-- LEDGER_EXPORT (R506, R507). -/
def R.LEDGER_EXPORT : Reg := { base := 0x5090, rw := 0x8000000f#32, reset := 0xf#32 }
/-- LEDGER_AUDIT (R506). -/
def R.LEDGER_AUDIT : Reg := { base := 0x50a0, stride := 0x4, count := 32, rw := 0x87ff87ff#32 }
/-- TRACE_CFG (R543, R544). -/
def R.TRACE_CFG : Reg := { base := 0x6000, rw := 0x8000fffe#32 }
/-- TRACE_MASK (R543, R544). -/
def R.TRACE_MASK : Reg := { base := 0x6004, rw := 0x1fffe#32, reset := 0x12000#32 }
/-- TRACE_STAT (R543, R544). -/
def R.TRACE_STAT : Reg := { base := 0x6008 }
/-- TRACE_DROP (R543). -/
def R.TRACE_DROP : Reg := { base := 0x600c }
/-- TALLY_IDX (R543, R544). -/
def R.TALLY_IDX : Reg := { base := 0x6010, rw := 0x800001ff#32 }
/-- TALLY_DATA (R543). -/
def R.TALLY_DATA : Reg := { base := 0x6014 }
/-- TALLY_SNAP (R543). -/
def R.TALLY_SNAP : Reg := { base := 0x6018, wo := 0x1#32 }
/-- TALLY_SNAP_TIME_LO (R543). -/
def R.TALLY_SNAP_TIME_LO : Reg := { base := 0x6020 }
/-- TALLY_SNAP_TIME_HI (R543). -/
def R.TALLY_SNAP_TIME_HI : Reg := { base := 0x6024 }
/-- COURSE_SRC (R112, R113). -/
def R.COURSE_SRC : Reg := { base := 0x8000, rw := 0xffffffff#32, reset := 0xc0010a00#32 }
/-- COURSE_WHEEL_SCALE (R112). -/
def R.COURSE_WHEEL_SCALE : Reg := { base := 0x8004, rw := 0xffffffff#32 }
/-- COURSE_RADAR_SCALE (R112). -/
def R.COURSE_RADAR_SCALE : Reg := { base := 0x8008, rw := 0xffffffff#32 }
/-- COURSE_BLEND (R112, R113). -/
def R.COURSE_BLEND : Reg := { base := 0x800c, rw := 0x1ffff#32, reset := 0x8000#32 }
/-- COURSE_SLIP (R112, R113). -/
def R.COURSE_SLIP : Reg := { base := 0x8010, rw := 0xffffffff#32, reset := 0x200a01f4#32 }
/-- COURSE_SWEEP (R112, R113). -/
def R.COURSE_SWEEP : Reg := { base := 0x8014, rw := 0x3f#32, reset := 0x5#32 }
/-- COURSE_REVERSE (R112, R113). -/
def R.COURSE_REVERSE : Reg := { base := 0x8018, rw := 0xffffff#32, reset := 0xc80#32 }
/-- COURSE_IMU_CFG (R112, R113). -/
def R.COURSE_IMU_CFG : Reg := { base := 0x801c, rw := 0xe0ffff00#32, reset := 0xe00#32 }
/-- COURSE_IMU_SCALE (R112). -/
def R.COURSE_IMU_SCALE : Reg := { base := 0x8020, rw := 0xffffffff#32 }
/-- COURSE_IMU_BIAS (R112). -/
def R.COURSE_IMU_BIAS : Reg := { base := 0x8024, rw := 0xffffffff#32 }
/-- COURSE_HITCH_CFG (R112, R113). -/
def R.COURSE_HITCH_CFG : Reg := { base := 0x8028, rw := 0xfc00ffff#32, reset := 0x2aab#32 }
/-- COURSE_HITCH_GEOM (R112, R113). -/
def R.COURSE_HITCH_GEOM : Reg := { base := 0x802c, rw := 0xffffffff#32 }
/-- COURSE_HITCH_AIN_GAIN (R112). -/
def R.COURSE_HITCH_AIN_GAIN : Reg := { base := 0x8030, rw := 0xffffffff#32 }
/-- COURSE_HITCH_AIN_OFS (R112). -/
def R.COURSE_HITCH_AIN_OFS : Reg := { base := 0x8034, rw := 0xfff#32 }
/-- COURSE_POSE_CFG (R112, R113). -/
def R.COURSE_POSE_CFG : Reg := { base := 0x8038, rw := 0xffffffff#32, reset := 0x3e801f4#32 }
/-- COURSE_STAT (R112, R113). -/
def R.COURSE_STAT : Reg := { base := 0x803c, reset := 0xc00000#32 }
/-- COURSE_TIME_LO (R112). -/
def R.COURSE_TIME_LO : Reg := { base := 0x8040 }
/-- COURSE_TIME_HI (R112). -/
def R.COURSE_TIME_HI : Reg := { base := 0x8044 }
/-- COURSE_PPS_LO (R112). -/
def R.COURSE_PPS_LO : Reg := { base := 0x8048 }
/-- COURSE_PPS_HI (R112). -/
def R.COURSE_PPS_HI : Reg := { base := 0x804c }
/-- COURSE_PPS_CNT (R112). -/
def R.COURSE_PPS_CNT : Reg := { base := 0x8050 }
/-- COURSE_MC_LO (R112). -/
def R.COURSE_MC_LO : Reg := { base := 0x8054 }
/-- COURSE_MC_HI (R112). -/
def R.COURSE_MC_HI : Reg := { base := 0x8058 }
/-- COURSE_LATCH_SEL (R112). -/
def R.COURSE_LATCH_SEL : Reg := { base := 0x805c, rw := 0x7#32 }
/-- COURSE_LATCH_DATA (R112). -/
def R.COURSE_LATCH_DATA : Reg := { base := 0x8060, stride := 0x4, count := 8 }
/-- FB_CFG (R144, R145). -/
def R.FB_CFG : Reg := { base := 0x9000, stride := 0x40, count := 16, rw := 0xff80ff00#32, reset := 0x800a00#32 }
/-- FB_FILT (R144). -/
def R.FB_FILT : Reg := { base := 0x9004, stride := 0x40, count := 16, rw := 0xff#32, reset := 0x4#32 }
/-- FB_OBS (R144). -/
def R.FB_OBS : Reg := { base := 0x9008, stride := 0x40, count := 16, rw := 0xffffffff#32, reset := 0x320400#32 }
/-- FB_LINES (R144). -/
def R.FB_LINES : Reg := { base := 0x900c, stride := 0x40, count := 16, rw := 0xffffffff#32 }
/-- FB_SC_WIN (R144). -/
def R.FB_SC_WIN : Reg := { base := 0x9010, stride := 0x40, count := 16, rw := 0xffffffff#32, reset := 0x16660800#32 }
/-- FB_CAL (R144, R145). -/
def R.FB_CAL : Reg := { base := 0x9014, stride := 0x40, count := 16, rw := 0x80000fff#32, reset := 0x80000604#32 }
/-- FB_CAL_OFS (R144). -/
def R.FB_CAL_OFS : Reg := { base := 0x9018, stride := 0x40, count := 16, rw := 0xffffffff#32 }
/-- FB_CAL_GAIN (R144). -/
def R.FB_CAL_GAIN : Reg := { base := 0x901c, stride := 0x40, count := 16, rw := 0xffffffff#32, reset := 0x80000000#32 }
/-- FB_STAT (R144, R145). -/
def R.FB_STAT : Reg := { base := 0x9020, stride := 0x40, count := 16, w1c := 0xff#32 }
/-- FB_POS_LO (R144). -/
def R.FB_POS_LO : Reg := { base := 0x9024, stride := 0x40, count := 16 }
/-- FB_POS_HI (R144). -/
def R.FB_POS_HI : Reg := { base := 0x9028, stride := 0x40, count := 16 }
/-- FB_SPEED (R144). -/
def R.FB_SPEED : Reg := { base := 0x902c, stride := 0x40, count := 16 }
/-- FB_INDEX (R144). -/
def R.FB_INDEX : Reg := { base := 0x9030, stride := 0x40, count := 16 }
/-- FB_AMP (R144). -/
def R.FB_AMP : Reg := { base := 0x9034, stride := 0x40, count := 16 }
/-- FB_PULSE (R144). -/
def R.FB_PULSE : Reg := { base := 0x9038, stride := 0x40, count := 16, rw := 0xffff#32, reset := 0x1f4#32 }
/-- AIN_CFG (R144, R145). -/
def R.AIN_CFG : Reg := { base := 0x9400, stride := 0x10, count := 16, rw := 0xfff00000#32 }
/-- AIN_LIMIT (R144). -/
def R.AIN_LIMIT : Reg := { base := 0x9404, stride := 0x10, count := 16, rw := 0xfff0fff#32, reset := 0xfff0000#32 }
/-- AIN_DATA (R144). -/
def R.AIN_DATA : Reg := { base := 0x9408, stride := 0x10, count := 16 }
/-- LATCH_CFG (R144, R145). -/
def R.LATCH_CFG : Reg := { base := 0x9500, stride := 0x10, count := 8, rw := 0xffffffff#32, reset := 0x20040000#32 }
/-- EMU_CFG (R144, R145). -/
def R.EMU_CFG : Reg := { base := 0x9580, stride := 0x20, count := 4, rw := 0xffffc000#32 }
/-- EMU_NUM (R144). -/
def R.EMU_NUM : Reg := { base := 0x9588, stride := 0x20, count := 4, rw := 0xffffffff#32 }
/-- EMU_DEN (R144). -/
def R.EMU_DEN : Reg := { base := 0x958c, stride := 0x20, count := 4, rw := 0xffffffff#32 }
/-- EMU_ZDIV (R144). -/
def R.EMU_ZDIV : Reg := { base := 0x9590, stride := 0x20, count := 4, rw := 0xffffffff#32 }
/-- EMU_STAT (R144). -/
def R.EMU_STAT : Reg := { base := 0x9594, stride := 0x20, count := 4, w1c := 0x80000000#32 }
/-- LOOKAHEAD_CFG (R214, R215). -/
def R.LOOKAHEAD_CFG : Reg := { base := 0xa000, rw := 0xff00ffff#32, reset := 0x100000c8#32 }
/-- LOOKAHEAD_HORIZON (R214). -/
def R.LOOKAHEAD_HORIZON : Reg := { base := 0xa004, rw := 0xffffffff#32, reset := 0x7d00064#32 }
/-- LOOKAHEAD_HORIZON_REMOTE (R214). -/
def R.LOOKAHEAD_HORIZON_REMOTE : Reg := { base := 0xa008, rw := 0xffffffff#32, reset := 0x7d00064#32 }
/-- LOOKAHEAD_LEARN (R214, R215). -/
def R.LOOKAHEAD_LEARN : Reg := { base := 0xa00c, rw := 0xffffffff#32, reset := 0x20104080#32 }
/-- LOOKAHEAD_REJECT (R214, R215). -/
def R.LOOKAHEAD_REJECT : Reg := { base := 0xa010, rw := 0xffffffff#32, reset := 0xc801f4#32 }
/-- LOOKAHEAD_TYPE (R214). -/
def R.LOOKAHEAD_TYPE : Reg := { base := 0xa014, stride := 0x4, count := 4, rw := 0xffffffff#32 }
/-- LOOKAHEAD_POOL (R214). -/
def R.LOOKAHEAD_POOL : Reg := { base := 0xa024, reset := 0x10000#32 }
/-- LOOKAHEAD_FID_CFG (R214, R215). -/
def R.LOOKAHEAD_FID_CFG : Reg := { base := 0xa028, rw := 0x77ffffff#32, wo := 0x80000000#32, reset := 0x70000280#32 }
/-- LOOKAHEAD_FID_N (R214). -/
def R.LOOKAHEAD_FID_N : Reg := { base := 0xa02c }
/-- LOOKAHEAD_FID_MAX (R214). -/
def R.LOOKAHEAD_FID_MAX : Reg := { base := 0xa030 }
/-- LOOKAHEAD_FID_OUT (R214). -/
def R.LOOKAHEAD_FID_OUT : Reg := { base := 0xa034 }
/-- LOOKAHEAD_FID_SUM_LO (R214). -/
def R.LOOKAHEAD_FID_SUM_LO : Reg := { base := 0xa038 }
/-- LOOKAHEAD_FID_SUM_HI (R214). -/
def R.LOOKAHEAD_FID_SUM_HI : Reg := { base := 0xa03c }
/-- LOOKAHEAD_FID_SQ_LO (R214). -/
def R.LOOKAHEAD_FID_SQ_LO : Reg := { base := 0xa040 }
/-- LOOKAHEAD_FID_SQ_HI (R214). -/
def R.LOOKAHEAD_FID_SQ_HI : Reg := { base := 0xa044 }
/-- LOOKAHEAD_JIT_SUM_LO (R214). -/
def R.LOOKAHEAD_JIT_SUM_LO : Reg := { base := 0xa048 }
/-- LOOKAHEAD_JIT_SUM_HI (R214). -/
def R.LOOKAHEAD_JIT_SUM_HI : Reg := { base := 0xa04c }
/-- LOOKAHEAD_JIT_SQ_LO (R214). -/
def R.LOOKAHEAD_JIT_SQ_LO : Reg := { base := 0xa050 }
/-- LOOKAHEAD_JIT_SQ_HI (R214). -/
def R.LOOKAHEAD_JIT_SQ_HI : Reg := { base := 0xa054 }
/-- CONVOY_CFG (R177, R178). -/
def R.CONVOY_CFG : Reg := { base := 0xa100, rw := 0xc01fffff#32, reset := 0x32#32 }
/-- CONVOY_STAT (R177, R178). -/
def R.CONVOY_STAT : Reg := { base := 0xa104 }
/-- CONVOY_SPAN (R177). -/
def R.CONVOY_SPAN : Reg := { base := 0xa108, reset := 0x1000#32 }
/-- LANE_COUNT (R177, R178). -/
def R.LANE_COUNT : Reg := { base := 0xa10c, reset := 0x1#32 }
/-- MEMBER_COUNT (R177). -/
def R.MEMBER_COUNT : Reg := { base := 0xa110 }
/-- COVERAGE_CFG (R241, R242). -/
def R.COVERAGE_CFG : Reg := { base := 0xa180, rw := 0xffffff00#32, reset := 0x643200#32 }
/-- COVERAGE_PREFETCH (R241, R242). -/
def R.COVERAGE_PREFETCH : Reg := { base := 0xa184, rw := 0xffff#32, reset := 0x2710#32 }
/-- COVERAGE_STAT (R241, R242). -/
def R.COVERAGE_STAT : Reg := { base := 0xa188 }
/-- COVERAGE_MISS (R241). -/
def R.COVERAGE_MISS : Reg := { base := 0xa18c }
/-- COVERAGE_REQ_MERGE (R241). -/
def R.COVERAGE_REQ_MERGE : Reg := { base := 0xa190 }
/-- COVERAGE_MARK_LOST (R241). -/
def R.COVERAGE_MARK_LOST : Reg := { base := 0xa194 }
/-- COVERAGE_OVER_EXCL (R241). -/
def R.COVERAGE_OVER_EXCL : Reg := { base := 0xa198 }
/-- COVERAGE_EDGE_OVF (R241). -/
def R.COVERAGE_EDGE_OVF : Reg := { base := 0xa19c }
/-- ETH_CFG (R264, R265). -/
def R.ETH_CFG : Reg := { base := 0xb000, stride := 0x100, count := 2, rw := 0xf0000000#32, reset := 0x40000000#32 }
/-- ETH_ADDR_LO (R264). -/
def R.ETH_ADDR_LO : Reg := { base := 0xb004, stride := 0x100, count := 2, rw := 0xffffffff#32 }
/-- ETH_ADDR_HI (R264). -/
def R.ETH_ADDR_HI : Reg := { base := 0xb008, stride := 0x100, count := 2, rw := 0xffff#32 }
/-- ETH_TGT_CFG (R264, R265). -/
def R.ETH_TGT_CFG : Reg := { base := 0xb00c, stride := 0x100, count := 2, rw := 0xf000ffff#32, reset := 0x1000c860#32 }
/-- ETH_TGT_IP (R264). -/
def R.ETH_TGT_IP : Reg := { base := 0xb010, stride := 0x100, count := 2, rw := 0xffffffff#32 }
/-- ETH_TIME_CFG (R264). -/
def R.ETH_TIME_CFG : Reg := { base := 0xb014, stride := 0x100, count := 2, rw := 0xffff#32, reset := 0x7d0#32 }
/-- ETH_TIME_STAT (R264). -/
def R.ETH_TIME_STAT : Reg := { base := 0xb018, stride := 0x100, count := 2 }
/-- ETH_RX_FRAMES (R264). -/
def R.ETH_RX_FRAMES : Reg := { base := 0xb020, stride := 0x100, count := 2 }
/-- ETH_RX_ERR (R264). -/
def R.ETH_RX_ERR : Reg := { base := 0xb024, stride := 0x100, count := 2 }
/-- ETH_TX_FRAMES (R264). -/
def R.ETH_TX_FRAMES : Reg := { base := 0xb028, stride := 0x100, count := 2 }
/-- ETH_TGT_MSG (R264). -/
def R.ETH_TGT_MSG : Reg := { base := 0xb02c, stride := 0x100, count := 2 }
/-- ETH_TGT_REJ (R264). -/
def R.ETH_TGT_REJ : Reg := { base := 0xb030, stride := 0x100, count := 2 }
/-- ETH_TGT_PLACED (R264). -/
def R.ETH_TGT_PLACED : Reg := { base := 0xb034, stride := 0x100, count := 2 }
/-- ETH_TGT_NOLANE (R264). -/
def R.ETH_TGT_NOLANE : Reg := { base := 0xb038, stride := 0x100, count := 2 }
/-- ETH_TGT_TIME (R264). -/
def R.ETH_TGT_TIME : Reg := { base := 0xb03c, stride := 0x100, count := 2 }
/-- ETH_TGT_LOWCONF (R264). -/
def R.ETH_TGT_LOWCONF : Reg := { base := 0xb040, stride := 0x100, count := 2 }
/-- ETH_TGT_DROP (R264). -/
def R.ETH_TGT_DROP : Reg := { base := 0xb044, stride := 0x100, count := 2 }
/-- ETH_TGT_SPOTREF (R264). -/
def R.ETH_TGT_SPOTREF : Reg := { base := 0xb048, stride := 0x100, count := 2 }
/-- ETH_MDIO (R264, R265). -/
def R.ETH_MDIO : Reg := { base := 0xb200, rw := 0x7ff0ffff#32, wo := 0x80000000#32 }
/-- ETH_TGT_QUEUE (R264). -/
def R.ETH_TGT_QUEUE : Reg := { base := 0xb204 }
/-- ETH_CAM_ID (R264, R265). -/
def R.ETH_CAM_ID : Reg := { base := 0xb400, stride := 0x10, count := 64, rw := 0xc0ffffff#32 }
/-- ETH_CAM_POS (R264). -/
def R.ETH_CAM_POS : Reg := { base := 0xb404, stride := 0x10, count := 64, rw := 0xffffffff#32 }
/-- ETH_CAM_LANES (R264, R265). -/
def R.ETH_CAM_LANES : Reg := { base := 0xb408, stride := 0x10, count := 64, rw := 0xfff01ff#32 }
/-- ETH_CAM_MARGIN (R264, R265). -/
def R.ETH_CAM_MARGIN : Reg := { base := 0xb40c, stride := 0x10, count := 64, rw := 0xffffff#32 }
/-- LOOP_STAT (R375, R376). -/
def R.LOOP_STAT : Reg := { base := 0xc000, w1c := 0x20000000#32, reset := 0x80000000#32 }
/-- LOOP_BIST_CFG (R375, R376). -/
def R.LOOP_BIST_CFG : Reg := { base := 0xc004, rw := 0xffff#32, reset := 0x3c#32 }
/-- LOOP_BIST_REQ (R375). -/
def R.LOOP_BIST_REQ : Reg := { base := 0xc008, wo := 0x1#32 }
/-- LOOP_LOAD (R375, R376). -/
def R.LOOP_LOAD : Reg := { base := 0xc00c }
/-- LOOP_LATENCY (R375). -/
def R.LOOP_LATENCY : Reg := { base := 0xc010 }
/-- LOOP_SKIP (R375). -/
def R.LOOP_SKIP : Reg := { base := 0xc014 }
/-- LOOP_LIMITED (R375). -/
def R.LOOP_LIMITED : Reg := { base := 0xc018 }
/-- LOOP_BIST_RUNS (R375). -/
def R.LOOP_BIST_RUNS : Reg := { base := 0xc01c }
/-- LOOP_OUT (R375). -/
def R.LOOP_OUT : Reg := { base := 0xc400, stride := 0x4, count := 256 }
/-- DRV_CH_CFG (R298, R299). -/
def R.DRV_CH_CFG : Reg := { base := 0x10000, stride := 0x20, count := 64, rw := 0xffffffff#32, reset := 0x20140064#32 }
/-- DRV_HOLD_SCALE (R298). -/
def R.DRV_HOLD_SCALE : Reg := { base := 0x10004, stride := 0x20, count := 64, rw := 0xffff#32, reset := 0x8000#32 }
/-- DRV_CH_STAT (R298, R299). -/
def R.DRV_CH_STAT : Reg := { base := 0x10008, stride := 0x20, count := 64 }
/-- DRV_CH_OFS (R298). -/
def R.DRV_CH_OFS : Reg := { base := 0x1000c, stride := 0x20, count := 64 }
/-- DRV_LAST_OPEN (R298). -/
def R.DRV_LAST_OPEN : Reg := { base := 0x10010, stride := 0x20, count := 64, reset := 0xffffffff#32 }
/-- DRV_LAST_CLOSE (R298). -/
def R.DRV_LAST_CLOSE : Reg := { base := 0x10014, stride := 0x20, count := 64, reset := 0xffffffff#32 }
/-- DRV_DEFER (R298). -/
def R.DRV_DEFER : Reg := { base := 0x10018, stride := 0x20, count := 64 }
/-- DRV_MINOFF (R298). -/
def R.DRV_MINOFF : Reg := { base := 0x1001c, stride := 0x20, count := 64 }
/-- DRV_BANK_CFG (R298, R299). -/
def R.DRV_BANK_CFG : Reg := { base := 0x10800, stride := 0x10, count := 8, rw := 0xffff007f#32, reset := 0x12c000a#32 }
/-- DRV_BANK_STAT (R298, R299). -/
def R.DRV_BANK_STAT : Reg := { base := 0x10804, stride := 0x10, count := 8 }
/-- DRV_BANK_REFUSED (R298). -/
def R.DRV_BANK_REFUSED : Reg := { base := 0x10808, stride := 0x10, count := 8 }
/-- DRV_BANK_CONFLICT (R298). -/
def R.DRV_BANK_CONFLICT : Reg := { base := 0x1080c, stride := 0x10, count := 8 }
/-- BOOST_CFG (R298, R299). -/
def R.BOOST_CFG : Reg := { base := 0x10c00, rw := 0x80ffffff#32, reset := 0x600a20#32 }
/-- BOOST_LIMIT (R298, R299). -/
def R.BOOST_LIMIT : Reg := { base := 0x10c04, rw := 0xffffffff#32, reset := 0x13882014#32 }
/-- BOOST_SHUNT (R298). -/
def R.BOOST_SHUNT : Reg := { base := 0x10c08, rw := 0xffff#32, reset := 0x64#32 }
/-- BOOST_STAT (R298, R299). -/
def R.BOOST_STAT : Reg := { base := 0x10c0c, reset := 0x10000000#32 }
/-- BOOST_RECOVERED (R298). -/
def R.BOOST_RECOVERED : Reg := { base := 0x10c10 }
/-- BOOST_SUPPLIED (R298). -/
def R.BOOST_SUPPLIED : Reg := { base := 0x10c14 }
/-- DRV_CAL (R298, R299). -/
def R.DRV_CAL : Reg := { base := 0x10c18, rw := 0x8000ffff#32, reset := 0x800003e8#32 }
/-- DRV_PROF_HDR (R298, R299). -/
def R.DRV_PROF_HDR : Reg := { base := 0x11000, stride := 0x80, count := 32, rw := 0x8007ffff#32 }
/-- DRV_PROF_HOLD (R298). -/
def R.DRV_PROF_HOLD : Reg := { base := 0x11004, stride := 0x80, count := 32, rw := 0xffff#32 }
/-- DRV_PROF_DET0 (R298). -/
def R.DRV_PROF_DET0 : Reg := { base := 0x11008, stride := 0x80, count := 32, rw := 0xffffffff#32 }
/-- DRV_PROF_DET1 (R298). -/
def R.DRV_PROF_DET1 : Reg := { base := 0x1100c, stride := 0x80, count := 32, rw := 0xffffffff#32 }
/-- DRV_PROF_DET2 (R298). -/
def R.DRV_PROF_DET2 : Reg := { base := 0x11010, stride := 0x80, count := 32, rw := 0xffffffff#32 }
/-- DRV_PH_CTRL (R298, R299). -/
def R.DRV_PH_CTRL : Reg := { base := 0x11020, stride := 0x80, count := 32, stride2 := 0xc, count2 := 8, rw := 0xfeffffff#32 }
/-- DRV_PH_CURRENT (R298). -/
def R.DRV_PH_CURRENT : Reg := { base := 0x11024, stride := 0x80, count := 32, stride2 := 0xc, count2 := 8, rw := 0xffffffff#32 }
/-- DRV_PH_END (R298). -/
def R.DRV_PH_END : Reg := { base := 0x11028, stride := 0x80, count := 32, stride2 := 0xc, count2 := 8, rw := 0xffffff#32 }
/-- DRV_TH_CFG (R327, R328). -/
def R.DRV_TH_CFG : Reg := { base := 0x12000, stride := 0x20, count := 64, rw := 0xffffffff#32, reset := 0xc4b003e8#32 }
/-- DRV_TH_RREF (R327, R328). -/
def R.DRV_TH_RREF : Reg := { base := 0x12004, stride := 0x20, count := 64, rw := 0xffff#32 }
/-- DRV_TH_STAT (R327, R328). -/
def R.DRV_TH_STAT : Reg := { base := 0x12008, stride := 0x20, count := 64, reset := 0x1900000#32 }
/-- DRV_TH_RHOT (R327). -/
def R.DRV_TH_RHOT : Reg := { base := 0x1200c, stride := 0x20, count := 64, reset := 0xffff#32 }
/-- DRV_DIAG_CFG (R327, R328). -/
def R.DRV_DIAG_CFG : Reg := { base := 0x12010, stride := 0x20, count := 64, rw := 0xc0ffffff#32, reset := 0xc0140a32#32 }
/-- DRV_TRIP (R327). -/
def R.DRV_TRIP : Reg := { base := 0x12014, stride := 0x20, count := 64, rw := 0xffffffff#32, reset := 0x4e200bb8#32 }
/-- DRV_FAULT (R327, R328). -/
def R.DRV_FAULT : Reg := { base := 0x12018, stride := 0x20, count := 64, w1c := 0x7f#32 }
/-- DRV_NOMOTION (R327). -/
def R.DRV_NOMOTION : Reg := { base := 0x1201c, stride := 0x20, count := 64 }
/-- DRV_HS_CFG (R327, R328). -/
def R.DRV_HS_CFG : Reg := { base := 0x12800, stride := 0x10, count := 8, rw := 0xffff#32, reset := 0x140a#32 }
/-- DRV_HS_STAT (R327, R328). -/
def R.DRV_HS_STAT : Reg := { base := 0x12804, stride := 0x10, count := 8, w1c := 0x1#32 }
/-- DRV_TH_LIMITS (R327, R328). -/
def R.DRV_TH_LIMITS : Reg := { base := 0x12c00, rw := 0xffffffff#32, reset := 0x8c9baa0f#32 }
/-- DRV_TH_AMB (R327). -/
def R.DRV_TH_AMB : Reg := { base := 0x12c04, rw := 0xffff#32, reset := 0x190#32 }
/-- DRV_TH_LEARN (R327). -/
def R.DRV_TH_LEARN : Reg := { base := 0x12c08, rw := 0xff#32, reset := 0x1e#32 }
/-- DRV_REASSERT (R327). -/
def R.DRV_REASSERT : Reg := { base := 0x12c0c, rw := 0xffff#32, reset := 0x5dc#32 }
/-- LEASE_CFG (R327, R328). -/
def R.LEASE_CFG : Reg := { base := 0x12c10, reset := 0x8000a04#32 }
/-- LEASE_STAT (R327, R328). -/
def R.LEASE_STAT : Reg := { base := 0x12c14 }
/-- LEASE_REQ (R327). -/
def R.LEASE_REQ : Reg := { base := 0x12c18, wo := 0x1#32 }
/-- RELAY_STAT (R327, R328). -/
def R.RELAY_STAT : Reg := { base := 0x12c1c }
/-- RELAY_CRC_ERR (R327). -/
def R.RELAY_CRC_ERR : Reg := { base := 0x12c20 }
/-- RELAY_RETRAIN (R327). -/
def R.RELAY_RETRAIN : Reg := { base := 0x12c24 }
/-- RELAY_LOST (R327). -/
def R.RELAY_LOST : Reg := { base := 0x12c28 }
/-- LEASE_LAPSES (R327). -/
def R.LEASE_LAPSES : Reg := { base := 0x12c2c }
/-- PWM_CFG (R349, R350). -/
def R.PWM_CFG : Reg := { base := 0x14000, stride := 0x20, count := 48, rw := 0xffe0ff00#32, reset := 0x4400000#32 }
/-- PWM_LIMIT (R349, R350). -/
def R.PWM_LIMIT : Reg := { base := 0x14004, stride := 0x20, count := 48, rw := 0xffff03ff#32, reset := 0x80000000#32 }
/-- PWM_CMP (R349, R350). -/
def R.PWM_CMP : Reg := { base := 0x14008, stride := 0x20, count := 48, rw := 0xfffffff#32 }
/-- PWM_PER (R349, R350). -/
def R.PWM_PER : Reg := { base := 0x1400c, stride := 0x20, count := 48, rw := 0xffffff#32, reset := 0x4b00#32 }
/-- PWM_PHASE (R349). -/
def R.PWM_PHASE : Reg := { base := 0x14010, stride := 0x20, count := 48, rw := 0x1ffffff#32 }
/-- PWM_TRIP (R349, R350). -/
def R.PWM_TRIP : Reg := { base := 0x14014, stride := 0x20, count := 48, rw := 0xfff800ff#32, reset := 0x80000#32 }
/-- PWM_TIMING (R349, R350). -/
def R.PWM_TIMING : Reg := { base := 0x14018, stride := 0x20, count := 48, rw := 0xffff03ff#32 }
/-- PWM_STAT (R349, R350). -/
def R.PWM_STAT : Reg := { base := 0x1401c, stride := 0x20, count := 48, w1c := 0x7c000000#32, reset := 0x80000000#32 }
/-- PWM_MOD_CFG (R349, R350). -/
def R.PWM_MOD_CFG : Reg := { base := 0x14800, stride := 0x10, count := 6, rw := 0xc0000007#32, reset := 0xc0000000#32 }
/-- PWM_MOD_SYNC (R349). -/
def R.PWM_MOD_SYNC : Reg := { base := 0x14804, stride := 0x10, count := 6, wo := 0x1#32 }
/-- PWM_TRIP_IN_CFG (R349, R350). -/
def R.PWM_TRIP_IN_CFG : Reg := { base := 0x14a00, stride := 0x8, count := 12, rw := 0xc0000000#32, reset := 0x40000000#32 }
/-- PWM_TRIP_IN_CNT (R349). -/
def R.PWM_TRIP_IN_CNT : Reg := { base := 0x14a04, stride := 0x8, count := 12 }
/-- PWM_GLOBAL (R349, R350). -/
def R.PWM_GLOBAL : Reg := { base := 0x14b00, rw := 0x80000007#32, reset := 0x5#32 }
/-- CAN_PORT_CFG (R401, R402). -/
def R.CAN_PORT_CFG : Reg := { base := 0x18000, stride := 0x80, count := 32, rw := 0xff80ffff#32 }
/-- CAN_PORT_CTRL (R401). -/
def R.CAN_PORT_CTRL : Reg := { base := 0x18004, stride := 0x80, count := 32, wo := 0x1#32 }
/-- CAN_NBT (R401, R402). -/
def R.CAN_NBT : Reg := { base := 0x18008, stride := 0x80, count := 32, rw := 0xffffffff#32, reset := 0x7878204#32 }
/-- CAN_DBT (R401, R402). -/
def R.CAN_DBT : Reg := { base := 0x1800c, stride := 0x80, count := 32, rw := 0x1f1f0f0f#32, reset := 0x1c0909#32 }
/-- CAN_TDC (R401, R402). -/
def R.CAN_TDC : Reg := { base := 0x18010, stride := 0x80, count := 32, rw := 0x807f007f#32 }
/-- CAN_XL_PWM (R401, R402). -/
def R.CAN_XL_PWM : Reg := { base := 0x18014, stride := 0x80, count := 32, rw := 0x3f3f3f01#32 }
/-- CAN_STAT (R401, R402). -/
def R.CAN_STAT : Reg := { base := 0x18018, stride := 0x80, count := 32, w1c := 0x4000000#32 }
/-- CAN_ERR (R401). -/
def R.CAN_ERR : Reg := { base := 0x1801c, stride := 0x80, count := 32 }
/-- CAN_QSTAT (R401). -/
def R.CAN_QSTAT : Reg := { base := 0x18020, stride := 0x80, count := 32 }
/-- CAN_RX_CFG (R401). -/
def R.CAN_RX_CFG : Reg := { base := 0x18024, stride := 0x80, count := 32, rw := 0xc0000000#32 }
/-- CAN_TT_CFG (R428, R429). -/
def R.CAN_TT_CFG : Reg := { base := 0x18028, stride := 0x80, count := 32, rw := 0xfc3ff800#32, reset := 0x3c008000#32 }
/-- CAN_TT_CYCLE (R428, R429). -/
def R.CAN_TT_CYCLE : Reg := { base := 0x1802c, stride := 0x80, count := 32, rw := 0xffffe07f#32, reset := 0x3e80001#32 }
/-- CAN_TT_SYNC (R428, R429). -/
def R.CAN_TT_SYNC : Reg := { base := 0x18030, stride := 0x80, count := 32, rw := 0xffffffff#32, reset := 0x1400020a#32 }
/-- CAN_TT_STAT (R428, R429). -/
def R.CAN_TT_STAT : Reg := { base := 0x18034, stride := 0x80, count := 32, reset := 0xf000000#32 }
/-- CAN_IMW_CFG (R428, R429). -/
def R.CAN_IMW_CFG : Reg := { base := 0x18038, stride := 0x80, count := 32, rw := 0xc000ffff#32, reset := 0x64#32 }
/-- CAN_IMW_ID (R428, R429). -/
def R.CAN_IMW_ID : Reg := { base := 0x1803c, stride := 0x80, count := 32, rw := 0xfff0ffff#32 }
/-- CAN_TX_OK (R401). -/
def R.CAN_TX_OK : Reg := { base := 0x18040, stride := 0x80, count := 32 }
/-- CAN_RX_OK (R401). -/
def R.CAN_RX_OK : Reg := { base := 0x18044, stride := 0x80, count := 32 }
/-- CAN_ARB_LOST (R401). -/
def R.CAN_ARB_LOST : Reg := { base := 0x18048, stride := 0x80, count := 32 }
/-- CAN_ERR_BIT (R401). -/
def R.CAN_ERR_BIT : Reg := { base := 0x1804c, stride := 0x80, count := 32 }
/-- CAN_ERR_STUFF (R401). -/
def R.CAN_ERR_STUFF : Reg := { base := 0x18050, stride := 0x80, count := 32 }
/-- CAN_ERR_FORM (R401). -/
def R.CAN_ERR_FORM : Reg := { base := 0x18054, stride := 0x80, count := 32 }
/-- CAN_ERR_CRC (R401). -/
def R.CAN_ERR_CRC : Reg := { base := 0x18058, stride := 0x80, count := 32 }
/-- CAN_ERR_ACK (R401). -/
def R.CAN_ERR_ACK : Reg := { base := 0x1805c, stride := 0x80, count := 32 }
/-- CAN_PASSIVE (R401). -/
def R.CAN_PASSIVE : Reg := { base := 0x18060, stride := 0x80, count := 32 }
/-- CAN_BUSOFF (R401). -/
def R.CAN_BUSOFF : Reg := { base := 0x18064, stride := 0x80, count := 32 }
/-- CAN_RETRY_FAIL (R401). -/
def R.CAN_RETRY_FAIL : Reg := { base := 0x18068, stride := 0x80, count := 32 }
/-- CAN_OVERLOAD (R401). -/
def R.CAN_OVERLOAD : Reg := { base := 0x1806c, stride := 0x80, count := 32 }
/-- CAN_TT_REF_UNACK (R428). -/
def R.CAN_TT_REF_UNACK : Reg := { base := 0x18070, stride := 0x80, count := 32 }
/-- CAN_TT_REF_MISS (R428). -/
def R.CAN_TT_REF_MISS : Reg := { base := 0x18074, stride := 0x80, count := 32 }
/-- CAN_TT_NOFIT (R428). -/
def R.CAN_TT_NOFIT : Reg := { base := 0x18078, stride := 0x80, count := 32 }
/-- CAN_IMW_CMDS (R428). -/
def R.CAN_IMW_CMDS : Reg := { base := 0x1807c, stride := 0x80, count := 32 }
/-- CAN_TT_COL (R428, R429). -/
def R.CAN_TT_COL : Reg := { base := 0x19000, stride := 0x400, count := 32, stride2 := 0x10, count2 := 64, rw := 0xf000ffff#32 }
/-- CAN_TT_ROWS_LO (R428). -/
def R.CAN_TT_ROWS_LO : Reg := { base := 0x19004, stride := 0x400, count := 32, stride2 := 0x10, count2 := 64, rw := 0xffffffff#32, reset := 0xffffffff#32 }
/-- CAN_TT_ROWS_HI (R428). -/
def R.CAN_TT_ROWS_HI : Reg := { base := 0x19008, stride := 0x400, count := 32, stride2 := 0x10, count2 := 64, rw := 0xffffffff#32, reset := 0xffffffff#32 }

/-- Part 0 of the register map, in offset order. -/
def regPart0 : List Reg :=
  [R.ID_PART,
   R.ID_REVISION,
   R.ID_CAP0,
   R.ID_CAP1,
   R.ID_CAP2,
   R.ID_FLASH,
   R.ID_LOCK,
   R.ID_BADACC,
   R.ID_SCRATCH,
   R.CISTER_RING_BASE_LO,
   R.CISTER_RING_BASE_HI,
   R.CISTER_RING_CFG,
   R.CISTER_RING_STAT,
   R.CISTER_RING_SWIDX,
   R.CISTER_RING_DEVIDX,
   R.CISTER_RING_DROP,
   R.CISTER_MIRROR_BASE_LO,
   R.CISTER_MIRROR_BASE_HI,
   R.CISTER_HOST_WDOG,
   R.CISTER_MSIX_MOD]
/-- Part 1 of the register map, in offset order. -/
def regPart1 : List Reg :=
  [R.CISTER_CORE_MOD,
   R.SEC_STAT,
   R.SEC_ALARM,
   R.SEC_VER_MON,
   R.SEC_VER_CHARTER,
   R.SEC_VER_FW,
   R.SEC_FLOORS,
   R.SEC_DEVICE_ID_LO,
   R.SEC_DEVICE_ID_HI,
   R.SEC_CORE_STAT,
   R.SEC_SIGFAIL,
   R.SEC_REGION_FAULTS,
   R.SEC_UPDATE,
   R.SEC_RECOVERY_LO,
   R.SEC_RECOVERY_HI,
   R.SEC_RECOVERY_CTRL,
   R.START_STAT,
   R.START_TIME,
   R.CLK_STAT,
   R.RST_CAUSE]
/-- Part 2 of the register map, in offset order. -/
def regPart2 : List Reg :=
  [R.RST_WARM_CNT,
   R.XING_SEL,
   R.XING_MERGE,
   R.XING_LOST,
   R.LEDGER_CFG,
   R.LEDGER_STAT,
   R.LEDGER_CURSOR_LO,
   R.LEDGER_CURSOR_HI,
   R.LEDGER_WINDOW,
   R.LEDGER_RTC_SET,
   R.LEDGER_RTC_CTRL,
   R.LEDGER_RTC,
   R.LEDGER_RTC_MS,
   R.LEDGER_OPTIME,
   R.LEDGER_PWRCYC,
   R.LEDGER_FIRST,
   R.LEDGER_NEXT,
   R.LEDGER_LOST,
   R.LEDGER_EXPORTED,
   R.LEDGER_EXPORT]
/-- Part 3 of the register map, in offset order. -/
def regPart3 : List Reg :=
  [R.LEDGER_AUDIT,
   R.TRACE_CFG,
   R.TRACE_MASK,
   R.TRACE_STAT,
   R.TRACE_DROP,
   R.TALLY_IDX,
   R.TALLY_DATA,
   R.TALLY_SNAP,
   R.TALLY_SNAP_TIME_LO,
   R.TALLY_SNAP_TIME_HI,
   R.COURSE_SRC,
   R.COURSE_WHEEL_SCALE,
   R.COURSE_RADAR_SCALE,
   R.COURSE_BLEND,
   R.COURSE_SLIP,
   R.COURSE_SWEEP,
   R.COURSE_REVERSE,
   R.COURSE_IMU_CFG,
   R.COURSE_IMU_SCALE,
   R.COURSE_IMU_BIAS]
/-- Part 4 of the register map, in offset order. -/
def regPart4 : List Reg :=
  [R.COURSE_HITCH_CFG,
   R.COURSE_HITCH_GEOM,
   R.COURSE_HITCH_AIN_GAIN,
   R.COURSE_HITCH_AIN_OFS,
   R.COURSE_POSE_CFG,
   R.COURSE_STAT,
   R.COURSE_TIME_LO,
   R.COURSE_TIME_HI,
   R.COURSE_PPS_LO,
   R.COURSE_PPS_HI,
   R.COURSE_PPS_CNT,
   R.COURSE_MC_LO,
   R.COURSE_MC_HI,
   R.COURSE_LATCH_SEL,
   R.COURSE_LATCH_DATA,
   R.FB_CFG,
   R.FB_FILT,
   R.FB_OBS,
   R.FB_LINES,
   R.FB_SC_WIN]
/-- Part 5 of the register map, in offset order. -/
def regPart5 : List Reg :=
  [R.FB_CAL,
   R.FB_CAL_OFS,
   R.FB_CAL_GAIN,
   R.FB_STAT,
   R.FB_POS_LO,
   R.FB_POS_HI,
   R.FB_SPEED,
   R.FB_INDEX,
   R.FB_AMP,
   R.FB_PULSE,
   R.AIN_CFG,
   R.AIN_LIMIT,
   R.AIN_DATA,
   R.LATCH_CFG,
   R.EMU_CFG,
   R.EMU_NUM,
   R.EMU_DEN,
   R.EMU_ZDIV,
   R.EMU_STAT,
   R.LOOKAHEAD_CFG]
/-- Part 6 of the register map, in offset order. -/
def regPart6 : List Reg :=
  [R.LOOKAHEAD_HORIZON,
   R.LOOKAHEAD_HORIZON_REMOTE,
   R.LOOKAHEAD_LEARN,
   R.LOOKAHEAD_REJECT,
   R.LOOKAHEAD_TYPE,
   R.LOOKAHEAD_POOL,
   R.LOOKAHEAD_FID_CFG,
   R.LOOKAHEAD_FID_N,
   R.LOOKAHEAD_FID_MAX,
   R.LOOKAHEAD_FID_OUT,
   R.LOOKAHEAD_FID_SUM_LO,
   R.LOOKAHEAD_FID_SUM_HI,
   R.LOOKAHEAD_FID_SQ_LO,
   R.LOOKAHEAD_FID_SQ_HI,
   R.LOOKAHEAD_JIT_SUM_LO,
   R.LOOKAHEAD_JIT_SUM_HI,
   R.LOOKAHEAD_JIT_SQ_LO,
   R.LOOKAHEAD_JIT_SQ_HI,
   R.CONVOY_CFG,
   R.CONVOY_STAT]
/-- Part 7 of the register map, in offset order. -/
def regPart7 : List Reg :=
  [R.CONVOY_SPAN,
   R.LANE_COUNT,
   R.MEMBER_COUNT,
   R.COVERAGE_CFG,
   R.COVERAGE_PREFETCH,
   R.COVERAGE_STAT,
   R.COVERAGE_MISS,
   R.COVERAGE_REQ_MERGE,
   R.COVERAGE_MARK_LOST,
   R.COVERAGE_OVER_EXCL,
   R.COVERAGE_EDGE_OVF,
   R.ETH_CFG,
   R.ETH_ADDR_LO,
   R.ETH_ADDR_HI,
   R.ETH_TGT_CFG,
   R.ETH_TGT_IP,
   R.ETH_TIME_CFG,
   R.ETH_TIME_STAT,
   R.ETH_RX_FRAMES,
   R.ETH_RX_ERR]
/-- Part 8 of the register map, in offset order. -/
def regPart8 : List Reg :=
  [R.ETH_TX_FRAMES,
   R.ETH_TGT_MSG,
   R.ETH_TGT_REJ,
   R.ETH_TGT_PLACED,
   R.ETH_TGT_NOLANE,
   R.ETH_TGT_TIME,
   R.ETH_TGT_LOWCONF,
   R.ETH_TGT_DROP,
   R.ETH_TGT_SPOTREF,
   R.ETH_MDIO,
   R.ETH_TGT_QUEUE,
   R.ETH_CAM_ID,
   R.ETH_CAM_POS,
   R.ETH_CAM_LANES,
   R.ETH_CAM_MARGIN,
   R.LOOP_STAT,
   R.LOOP_BIST_CFG,
   R.LOOP_BIST_REQ,
   R.LOOP_LOAD,
   R.LOOP_LATENCY]
/-- Part 9 of the register map, in offset order. -/
def regPart9 : List Reg :=
  [R.LOOP_SKIP,
   R.LOOP_LIMITED,
   R.LOOP_BIST_RUNS,
   R.LOOP_OUT,
   R.DRV_CH_CFG,
   R.DRV_HOLD_SCALE,
   R.DRV_CH_STAT,
   R.DRV_CH_OFS,
   R.DRV_LAST_OPEN,
   R.DRV_LAST_CLOSE,
   R.DRV_DEFER,
   R.DRV_MINOFF,
   R.DRV_BANK_CFG,
   R.DRV_BANK_STAT,
   R.DRV_BANK_REFUSED,
   R.DRV_BANK_CONFLICT,
   R.BOOST_CFG,
   R.BOOST_LIMIT,
   R.BOOST_SHUNT,
   R.BOOST_STAT]
/-- Part 10 of the register map, in offset order. -/
def regPart10 : List Reg :=
  [R.BOOST_RECOVERED,
   R.BOOST_SUPPLIED,
   R.DRV_CAL,
   R.DRV_PROF_HDR,
   R.DRV_PROF_HOLD,
   R.DRV_PROF_DET0,
   R.DRV_PROF_DET1,
   R.DRV_PROF_DET2,
   R.DRV_PH_CTRL,
   R.DRV_PH_CURRENT,
   R.DRV_PH_END,
   R.DRV_TH_CFG,
   R.DRV_TH_RREF,
   R.DRV_TH_STAT,
   R.DRV_TH_RHOT,
   R.DRV_DIAG_CFG,
   R.DRV_TRIP,
   R.DRV_FAULT,
   R.DRV_NOMOTION,
   R.DRV_HS_CFG]
/-- Part 11 of the register map, in offset order. -/
def regPart11 : List Reg :=
  [R.DRV_HS_STAT,
   R.DRV_TH_LIMITS,
   R.DRV_TH_AMB,
   R.DRV_TH_LEARN,
   R.DRV_REASSERT,
   R.LEASE_CFG,
   R.LEASE_STAT,
   R.LEASE_REQ,
   R.RELAY_STAT,
   R.RELAY_CRC_ERR,
   R.RELAY_RETRAIN,
   R.RELAY_LOST,
   R.LEASE_LAPSES,
   R.PWM_CFG,
   R.PWM_LIMIT,
   R.PWM_CMP,
   R.PWM_PER,
   R.PWM_PHASE,
   R.PWM_TRIP,
   R.PWM_TIMING]
/-- Part 12 of the register map, in offset order. -/
def regPart12 : List Reg :=
  [R.PWM_STAT,
   R.PWM_MOD_CFG,
   R.PWM_MOD_SYNC,
   R.PWM_TRIP_IN_CFG,
   R.PWM_TRIP_IN_CNT,
   R.PWM_GLOBAL,
   R.CAN_PORT_CFG,
   R.CAN_PORT_CTRL,
   R.CAN_NBT,
   R.CAN_DBT,
   R.CAN_TDC,
   R.CAN_XL_PWM,
   R.CAN_STAT,
   R.CAN_ERR,
   R.CAN_QSTAT,
   R.CAN_RX_CFG,
   R.CAN_TT_CFG,
   R.CAN_TT_CYCLE,
   R.CAN_TT_SYNC,
   R.CAN_TT_STAT]
/-- Part 13 of the register map, in offset order. -/
def regPart13 : List Reg :=
  [R.CAN_IMW_CFG,
   R.CAN_IMW_ID,
   R.CAN_TX_OK,
   R.CAN_RX_OK,
   R.CAN_ARB_LOST,
   R.CAN_ERR_BIT,
   R.CAN_ERR_STUFF,
   R.CAN_ERR_FORM,
   R.CAN_ERR_CRC,
   R.CAN_ERR_ACK,
   R.CAN_PASSIVE,
   R.CAN_BUSOFF,
   R.CAN_RETRY_FAIL,
   R.CAN_OVERLOAD,
   R.CAN_TT_REF_UNACK,
   R.CAN_TT_REF_MISS,
   R.CAN_TT_NOFIT,
   R.CAN_IMW_CMDS,
   R.CAN_TT_COL,
   R.CAN_TT_ROWS_LO]
/-- Part 14 of the register map, in offset order. -/
def regPart14 : List Reg :=
  [R.CAN_TT_ROWS_HI]
/-- Every register of BAR0 that the chapters define (R567), but for the MSI-X table and its pending bits. -/
def regMap : List Reg :=
  regPart0 ++ regPart1 ++ regPart2 ++ regPart3 ++ regPart4 ++ regPart5 ++ regPart6 ++ regPart7 ++ regPart8 ++ regPart9 ++ regPart10 ++ regPart11 ++ regPart12 ++ regPart13 ++ regPart14

/-- The offset of position `i` (and `j` within it) of a register. -/
def regOff (r : Reg) (i j : Nat) : Nat := r.base + i * r.stride + j * r.stride2

/-- The first index of the position at an offset. -/
def regIdx (r : Reg) (off : Nat) : Nat := if r.count = 1 then 0 else (off - r.base) / r.stride

/-- The second index of the position at an offset. -/
def regIdx2 (r : Reg) (off : Nat) : Nat :=
  if r.count2 = 1 then 0 else ((off - r.base) % r.stride) / r.stride2

/-- Whether a register has a position at an offset. -/
def regHas (r : Reg) (off : Nat) : Bool :=
  r.base ≤ off && regIdx r off < r.count && regIdx2 r off < r.count2 && regOff r (regIdx r off) (regIdx2 r off) == off

/-- The register with a position at a BAR0 offset, if any (R568). -/
def regAt (off : Nat) : Option Reg := regMap.find? (fun r => regHas r off)

/-- The part of a write of `v` that a register's access codes let through to a stored value `old` (R14, R15). -/
def regMerge (r : Reg) (old v : W32) : W32 := (old &&& ~~~ r.rw) ||| (v &&& r.rw)

end Sys2Proof.Machine
end

