-- ==== Sys2Proof/Machine/StateLanes.lean ====
section
/-! DEFINITION. State of the lane engine: lanes and their milestones and events, caravans, the convoy, the dispatcher, and the coverage stage with its tile cache. -/
namespace Sys2Proof.Machine

/-- What a lane drives (R149). -/
inductive Binding where
  | unbound
  | direct (ch : Nat)
  | pwm (ch : Nat)
  | remote (port node sub : Nat)
  deriving DecidableEq, Repr

/-- A milestone in a lane's queue (R181, R183): its position in lane course, kind 1 to 5, RATE value, insertion order, and whether it still holds its pool entry (R193). -/
structure Milestone where
  pos : Int
  kind : Nat
  value : Nat := 0
  seq : Nat
  entry : Bool := true
  /-- What the MARK gave until the insertion visit converts it: the reference, 0 for a lane course, and the position (R186). -/
  ref : Nat := 0
  given : Int := 0
  deriving DecidableEq, Repr

/-- A committed event of a lane (R196 to R205). -/
structure LaneEv where
  id : Nat
  /-- 1 on, 2 off, 3 rate. -/
  kind : Nat
  /-- The position it belongs to; none for an event the lane engine sends without one (R151, R159, R209, R288). -/
  pos : Option Int := none
  /-- Insertion numbers of the milestones that caused it, and the pool entries of those already crossed (R193). -/
  causes : List Nat := []
  entries : Nat := 0
  tExec : Time
  tCross : Int := 0
  /-- Lane speed at the last timing (R212). -/
  v : Int := 0
  /-- The model delay used, without transport (R195, R212). -/
  delay : Nat := 0
  transport : Nat := 0
  /-- The duty it carries (R278), and the RATE value. -/
  d : Nat := 0
  value : Nat := 0
  frozen : Bool := false
  executed : Bool := false
  /-- When it executed, or the gate instant of its shot (R212). -/
  at' : Time := 0
  /-- Handed on by the dispatcher. -/
  sent : Bool := false
  /-- Already counted late (R30, R200). -/
  late : Bool := false
  /-- It rests on a coverage edge (R227). -/
  onEdge : Bool := false
  /-- Accounting of R212 is still due, from the drive die's report of its shot. -/
  owesReport : Bool := false
  /-- The kind of the milestone that causes it, 0 for none (R537). -/
  mkind : Nat := 0
  deriving DecidableEq, Repr

/-- An interval in which a lane applies product (R228), with the events that opened and closed it. -/
structure Applying where
  start : Time
  stop : Option Time := none
  onEv : Nat := 0
  offEv : Nat := 0
  deriving DecidableEq, Repr

/-- A transition or RATE milestone crossed before its event could be committed; it is offered again (R29, R188). -/
structure Overdue where
  kind : Nat
  pos : Int
  value : Nat := 0
  causes : List Nat := []
  entries : Nat := 0
  /-- The kind of the milestone that causes it, 0 for none (R537). -/
  mkind : Nat := 0
  deriving DecidableEq, Repr

/-- A lane context (R147). -/
structure Lane where
  configured : Bool := false
  type : Nat := 0
  implement : Bool := false
  binding : Binding := .unbound
  parent : Nat := 0
  x : Int := 0
  y : Int := 0
  g : Int := 0
  halfWidth : Nat := 0
  minOff : Nat := 0
  onDelay : Nat := 0
  offDelay : Nat := 0
  learned : Bool := false
  confidence : Nat := 0
  ownEnable : Bool := false
  rate : Nat := 0
  /-- The lane course is anchored (R102). -/
  anchored : Bool := false
  /-- Lane course with 16 fraction bits, lane speed and acceleration in Q24.8, turn ratio in Q4.12 (R77, R105). -/
  course : Int := 0
  v : Int := 0
  a : Int := 0
  ratio : Int := 0
  queue : List Milestone := []
  commanded : Bool := false
  spots : Nat := 0
  /-- The output state, the hold reasons in force, and the fault word (R151, R152). -/
  on : Bool := false
  /-- When it last turned on (R201). -/
  onAt : Time := 0
  hold : Nat := 0
  faults : Nat := 0
  /-- The seven tallies (R166). -/
  openings : W32 := 0
  bridgedCount : W32 := 0
  lateCount : W32 := 0
  deferred : W32 := 0
  refused : W32 := 0
  vetoes : W32 := 0
  rateSat : W32 := 0
  /-- The lead of its latest timed event, in cs (R196). -/
  lead : Int := 0
  /-- Committed events in queue order; an executed one stays until its position is crossed and its report is accounted. -/
  events : List LaneEv := []
  overdue : List Overdue := []
  /-- Off and on transitions cancelled together (R206), and positions whose veto has been counted (R225). -/
  bridged : List (Int × Int) := []
  vetoed : List Int := []
  /-- The latest effective rate, and the last d sent (R158, R278). -/
  eff : Nat := 0
  dSent : Nat := 0
  /-- Events committed in the present visit (R199). -/
  commits : Nat := 0
  /-- A re-assertion is due at the next visit (R288, R323). -/
  reassert : Bool := false
  /-- The lane lies in the subtree of LOOKAHEAD_FID_CFG, as the member table in force has it (R24, R213). -/
  counted : Bool := false
  /-- The lane's state is to be brought into line once the frozen events of discarded edges have executed (R227). -/
  realign : Bool := false
  /-- The first insertion number that is new since the latest visit: a milestone inserted since then has its insertion visit next (R25, R188, R207). -/
  freshFrom : Nat := 0
  /-- Scan position S; the decision found there; the first evaluation and each edge crossed since, oldest first, with the decision found there: the decision at the last evaluation behind a position follows from them; edges ahead, each with whether it vetoes (R223 to R225). -/
  scan : Option Int := none
  scanVeto : Option Bool := none
  base : List (Int × Bool) := []
  edges : List (Int × Bool) := []
  edgeFull : Bool := false
  /-- The inherited coverage mode and miss policy of the latest visit (R227). -/
  mode : Nat := 1
  miss : Nat := 0
  /-- Applying intervals, latest first (R228), and the notification episodes of marking (R229). -/
  applying : List Applying := []
  overExcl : Bool := false
  lostTiles : List (Int × Int) := []
  /-- Bytes 4 to 67 of the status record as of the last completed sweep (R166). -/
  record : List Byte := []
  deriving DecidableEq, Repr

/-- The policies and products that descend the caravan tree (R155 to R158, R171). -/
structure Share where
  enable : Bool := true
  p : Nat := 0x1000000
  reverse : Bool := false
  window : Option (Int × Int) := none
  /-- Coverage mode (0 none inherited) and miss policy. -/
  mode : Nat := 0
  miss : Nat := 0
  deriving DecidableEq, Repr

/-- Aggregates over the lanes below (R160, R172). -/
structure Totals where
  total : Nat := 0
  on : Nat := 0
  faulted : Nat := 0
  faults : Nat := 0
  silent : Bool := false
  /-- The sum of the effective rates of the lanes that are on (R358). -/
  demand : Nat := 0
  deriving DecidableEq, Repr

/-- A caravan-table entry (R153, R164). -/
structure Caravan where
  configured : Bool := false
  parent : Nat := 0
  ownEnable : Bool := false
  factor : Nat := 0
  tcEn : Bool := false
  tcMin : Int := 0
  tcMax : Int := 0
  reverse : Bool := false
  notifyFault : Bool := false
  mode : Nat := 0
  miss : Nat := 0
  proxy : Bool := false
  port : Nat := 0
  node : Nat := 0
  base : Nat := 0
  span : Nat := 0
  timeout : Nat := 0
  /-- The values that the walker last formed (R155). -/
  eff : Share := {}
  /-- The aggregates of the last completed sweep, and any_on and any_fault of that sweep. -/
  totals : Totals := {}
  /-- Proxy: the subordinate's latest report and when it arrived, proxy_silent, and forwarding slots in use (R172, R173, R175). -/
  report : Totals := {}
  reportAt : Time := 0
  silent : Bool := false
  /-- The subordinate has joined (R424), and an ADMIT awaits its answer. -/
  joined : Bool := false
  /-- Bytes 4 to 67 of the status record as of the last completed sweep (R166). -/
  record : List Byte := []
  deriving DecidableEq, Repr

/-- A waybill of which parts are outstanding at subordinates (R162, R173): its ring and index, parts, and the status and result so far. -/
structure Forwarded where
  ring : Nat
  index : W32
  /-- The opcode, and the buffer of a QUERY. -/
  opcode : Nat
  buffer : Nat := 0
  onChip : Bool := false
  status : Nat := 0
  result : Nat := 0
  deriving DecidableEq, Repr

/-- A MARK whose SPOT pairs carry different references: placed, and judged at its insertion visit (R187): the number of its open part, the lanes, what it gave each SPOT pair, and the insertion numbers and count of its milestones. -/
structure MarkDue where
  tag : Nat
  lanes : List Nat
  /-- The reference and position of each SPOT_ON and of the SPOT_OFF behind it. -/
  pairs : List ((Nat × Int) × (Nat × Int))
  seqFrom : Nat
  seqTo : Nat
  placed : Nat
  deriving DecidableEq, Repr

/-- One forwarded part: the proxy caravan, its forwarding slot tag, when it was sent, and the waybill it belongs to. -/
structure Part where
  proxy : Nat
  tag : Nat
  sentAt : Time
  ring : Nat
  index : W32
  /-- The pieces of a forwarded QUERY's record received so far (R425). -/
  record : List Byte := []
  deriving DecidableEq, Repr

/-- The convoy (R169 to R176, R424). -/
structure Convoy where
  joined : Bool := false
  addr : Nat := 0
  span : Nat := 4096
  depth : Nat := 0
  parentPort : Nat := 0
  parentNode : Nat := 0
  /-- The parent share in force, one that awaits the next sweep, and when one last arrived. -/
  share : Option Share := none
  shareDue : Option Share := none
  shareAt : Time := 0
  parentSilent : Bool := false
  /-- The course offset D to the parent, once formed (R426). -/
  courseOffset : Option Int := none
  /-- Convoy frames that wait for a convoy window: port, node and bytes (R423). -/
  outbox : List (Nat × Nat × List Byte) := []
  forwarded : List Forwarded := []
  parts : List Part := []
  /-- Forwarded waybills that wait for a forwarding slot further down, in arrival order: slot, opcode and bytes. -/
  waiting : List (Nat × Nat × List Byte) := []
  deriving DecidableEq, Repr

/-- What the dispatcher holds for a consumer that gives no toll (R29, R30). -/
inductive DispBody where
  | event (ev : LaneEv)
  | retime (id : Nat) (t : Time)
  | withdraw (id : Nat)
  deriving DecidableEq, Repr

/-- An item of the dispatcher heap. -/
structure DispItem where
  lane : Nat
  binding : Binding
  key : Time
  body : DispBody
  /-- It has been left waiting for its consumer's toll. -/
  waited : Bool := false
  /-- The lane engine keeps it, for want of a toll of the dispatcher (R28). -/
  kept : Bool := false
  deriving DecidableEq, Repr

/-- A timed node command in a port's slot queue (R149, R416), formed or not. -/
structure SlotCmd where
  lane : Nat
  node : Nat
  sub : Nat
  ev : LaneEv
  /-- The tag of a transmitted command, and whether its frame has been transmitted. -/
  tag : Option Nat := none
  sent : Bool := false
  /-- It has been withdrawn: while the attempt that carries it runs, or once it has been transmitted (R205, R419). -/
  dropped : Bool := false
  /-- Its CANCEL has been transmitted ahead of its execution time, so its node will not execute it (R419, R420). -/
  cancelled : Bool := false
  /-- It was handed on late (R30). -/
  late : Bool := false
  deriving DecidableEq, Repr

/-- A CANCEL entry that waits for a slot window (R419). -/
structure SlotCancel where
  node : Nat
  sub : Nat
  tag : Nat
  time : Time
  deriving DecidableEq, Repr

/-- The look-ahead and coverage settings in force; writes take effect at the next sweep close (R215, R242). -/
structure LookSet where
  cfg : W32 := 0x100000C8
  horizon : W32 := 0x07D00064
  remote : W32 := 0x07D00064
  learn : W32 := 0x20104080
  reject : W32 := 0x00C801F4
  type0 : W32 := 0
  type1 : W32 := 0
  type2 : W32 := 0
  type3 : W32 := 0
  fid : W32 := 0x70000280
  overlap : W32 := 0x00643200
  prefetch : W32 := 0x2710
  deriving DecidableEq, Repr

/-- The fidelity accumulators (R213). -/
structure Fidelity where
  n : Nat := 0
  max : Nat := 0
  out : Nat := 0
  sum : Int := 0
  sq : Nat := 0
  jitSum : Int := 0
  jitSq : Nat := 0
  deriving DecidableEq, Repr

/-- The states of a cache slot (R230). -/
inductive SlotState where
  | free
  | requested
  | refused
  | clean
  | dirty
  | writing
  deriving DecidableEq, Repr

/-- What a slot held before a SUPPLY took it (R47). -/
structure TilePrior where
  st : SlotState := .free
  tx : Int := 0
  ty : Int := 0
  fill : Nat := 0
  cells : Tab Nat := []
  marked : Nat := 0
  touched : Nat := 0
  pinnedAt : Nat := 0
  owesRequest : Option Nat := none
  deriving DecidableEq, Repr

/-- A load into a slot in progress or complete but not yet visible (R235): the new cells, replace, and the supplying descriptor. -/
structure TileLoad where
  /-- The image: the state of an unlisted cell, and the cells that differ. -/
  fill : Nat
  cells : Tab Nat
  replace : Bool
  /-- The SUPPLY that began the load, until a reset of its ring's context takes it away (R68). -/
  index : Option W32
  /-- The slot before the SUPPLY. -/
  prior : TilePrior := {}
  /-- The load has completed; its content becomes visible at the next sweep. -/
  done : Bool := false
  /-- Cells marked while the load was in progress. -/
  marks : List Nat := []
  deriving DecidableEq, Repr

/-- Why a slot is written back (R238), and what follows. -/
structure TileWrite where
  /-- Ring 86 index and address of the buffer. -/
  buffer : W32
  addr : Nat
  reason : Nat
  /-- FLUSH or EVICT descriptor of ring 85 that waits for this copy. -/
  forDesc : Option W32 := none
  /-- The key that the slot takes afterwards, for reuse (R231), and its request kind. -/
  nextKey : Option (Int × Int × Nat) := none
  deriving DecidableEq, Repr

/-- A cache slot (R230): its image is the state `fill` of an unlisted cell and the cells that differ. -/
structure TileSlot where
  st : SlotState := .free
  tx : Int := 0
  ty : Int := 0
  fill : Nat := 0
  cells : Tab Nat := []
  marked : Nat := 0
  /-- Marks made while writing (R230). -/
  remarked : Nat := 0
  /-- Order of the latest touch; and one more than the number of the sweep in which a point last lay in the tile, 0 before any did (R230). -/
  touched : Nat := 0
  pinnedAt : Nat := 0
  /-- A request that waits for ring 84: its kind (R232). -/
  owesRequest : Option Nat := none
  load : Option TileLoad := none
  write : Option TileWrite := none
  deriving DecidableEq, Repr

/-- The coverage stage (R217 to R244). -/
structure Coverage where
  slots : Tab TileSlot := []
  /-- Counter of touches. -/
  clock : Nat := 1
  /-- BUFFER descriptors taken and not yet filled: ring 86 index and address (R238). -/
  buffers : List (W32 × Nat) := []
  /-- An EVICT in progress on ring 85: its index, discard, and the keys still to do. -/
  evicting : Option (Option W32 × Bool × List (Int × Int)) := none
  deriving DecidableEq, Repr

/-- The lane engine. -/
structure LaneEngine where
  lanes : Tab Lane := []
  caravans : Tab Caravan := []
  /-- Free entries of the milestone pool (R192). -/
  poolFree : Nat := 65536
  /-- MARKs that wait for their insertion visit (R187). -/
  marksDue : List MarkDue := []
  /-- Insertion numbers and event identifiers given out. -/
  nextSeq : Nat := 1
  nextEv : Nat := 1
  /-- The lowest waybill ring that may still be applied in this sweep, by what it reaches: a lane at its index, a caravan at 4,096 plus its index; 8 after a forwarded waybill, 9 after a target (R25, R168, R262). -/
  ringTurn : Tab Nat := []
  /-- Sweeps closed since reset. -/
  sweeps : Nat := 0
  set : LookSet := {}
  fid : Fidelity := {}
  /-- The reject tally of R211. -/
  rejects : W32 := 0
  heap : List DispItem := []
  /-- Slot queues by port (R29). -/
  slotQueue : Tab (List SlotCmd) := []
  cancels : Tab (List SlotCancel) := []
  /-- The drive die's held state as the lane engine last applied it (R316, R318). -/
  leaseSeen : Bool := false
  lapseDue : Bool := false
  grantDue : Bool := false
  convoy : Convoy := {}
  coverage : Coverage := {}
  deriving DecidableEq, Repr

end Sys2Proof.Machine
end

