-- ==== Sys2Proof/Machine/StateBus.lean ====
section
/-! DEFINITION. State of the bus unit: per port the error confinement, the priority queue, the attempt in progress, and time-triggered operation (R379 to R431). -/
namespace Sys2Proof.Machine

/-- A frame as the rings lay it out (R386): identifier word, control word, and data bytes, an XL frame's acceptance field first. -/
structure BusFrame where
  id : W32 := 0
  ctrl : W32 := 0
  data : List Byte := []
  deriving DecidableEq, Repr

/-- Where a frame in an attempt comes from. -/
inductive BusSrc where
  /-- The priority queue: the index of its SEND descriptor. -/
  | prio (index : W32)
  | slot
  | convoy
  deriving DecidableEq, Repr

/-- A priority-queue entry (R390). -/
structure BusEntry where
  index : W32
  frame : BusFrame
  /-- Failed attempts so far (R393). -/
  fails : Nat := 0
  deriving DecidableEq, Repr

/-- A command entry of a formed frame, whose tag it gets as its frame starts (R416, R417). -/
structure SlotEntry where
  id : Nat
  node : Nat
  sub : Nat
  code : Nat
  profile : Nat
  at' : Nat
  duty : Nat
  deriving DecidableEq, Repr

/-- A formed command frame (R415 to R417): FD, or XL with its acceptance field; the low byte of `vcid` and of `sdt`, the base time, and the entries. -/
structure SlotFrame where
  xl : Bool
  accept : Nat := 0
  vcid : Nat := 0
  sdt : Nat := 0
  base : Nat
  cancels : List SlotCancel := []
  cmds : List SlotEntry := []
  deriving DecidableEq, Repr

/-- An attempt in progress (R392), or the frame that a bus-off port holds (R398). -/
structure BusAttempt where
  src : BusSrc
  frame : BusFrame
  slot : Option SlotFrame := none
  /-- The outbox entry of a convoy frame: node and bytes. -/
  convoy : Option (Nat × List Byte) := none
  sof : Time
  /-- The transmit ring has been disabled since the attempt began (R394). -/
  orphan : Bool := false
  deriving DecidableEq, Repr

/-- The schedule-matrix window in progress (R412, R413). -/
structure BusWindow where
  /-- 0 free, 1 exclusive, 2 arbitrating. -/
  kind : Nat
  /-- 0 slot, 1 convoy, 2 priority, 3 none. -/
  source : Nat
  ends : Time
  /-- A frame failed in this exclusive window; a frame that did not fit has been counted. -/
  failed : Bool := false
  noFit : Bool := false
  /-- Frames that have had their one attempt in this exclusive window (R412). -/
  tried : List (BusSrc × BusFrame) := []
  deriving DecidableEq, Repr

/-- A bus port. -/
structure BusPort where
  /-- CAN_STAT.state (R402). -/
  st : Nat := 0
  cfgErr : Bool := false
  /-- Enable has been cleared while an attempt runs (R394). -/
  stopping : Bool := false
  /-- When the port stopped while a frame of another node may have been in progress, which it still finishes (R394). -/
  stoppedAt : Option Time := none
  /-- CAN_RX_CFG as the latest frame to end found it at its start, and the values that writes replaced since, newest first, each with the instant of its end (R401). -/
  rxCfg : W32 := 0
  rxPast : List (Time × W32) := []
  tec : Nat := 0
  recErr : Nat := 0
  /-- Error-passive has been entered; the port is bus-off even while disabled (R395, R399). -/
  passive : Bool := false
  busOff : Bool := false
  noAck : Bool := false
  ackErrs : Nat := 0
  tdcv : Nat := 0
  /-- A wake-up has been reported (R381). -/
  woke : Bool := false
  queue : List BusEntry := []
  attempt : Option BusAttempt := none
  held : Option BusAttempt := none
  /-- When the intermission after the port's latest transmission begins, if that was the last frame on the bus (R397). -/
  txEnd : Option Time := none
  /-- CAN_TT_STAT: state, current master's priority, cycle count, latest |e| (R411, R429). -/
  tt : Nat := 0
  master : Nat := 15
  cycle : Nat := 0
  err : Nat := 0
  /-- The relation to the master's clock (R410): anchor, ratio with 30 fraction bits, good, no anchor yet, and the stamp of the previous reference message. -/
  ta : Int := 0
  ga : Int := 0
  ratio : Nat := 2 ^ 30
  good : Nat := 0
  first : Bool := true
  stamp : Option Time := none
  /-- Device time at which the basic cycle began, misses in a row, when listening began (R411). -/
  cycleAt : Time := 0
  misses : Nat := 0
  listenAt : Time := 0
  /-- A potential master's attempt is due after a miss (R411). -/
  candidate : Bool := false
  /-- As master: C_0 in global time, cycles since, and the previous reference message's SOF (R408, R409). -/
  c0 : Int := 0
  k : Nat := 0
  ownRef : Option Time := none
  window : Option BusWindow := none
  /-- The matrix ran when the port went bus-off, and its position keeps counting (R398, R411). -/
  running : Bool := false
  /-- Convoy frames of this basic cycle have been queued (R423). -/
  convoyTurn : Bool := false
  /-- The column for which convoy frames have been formed, and those frames: node and bytes (R414). -/
  convoyFormed : Option (Nat × List (Nat × List Byte)) := none
  /-- Formed command frames, and the counts that give their seq and tags (R416, R417). -/
  formed : List SlotFrame := []
  frameCount : Nat := 0
  tagCount : Nat := 0
  /-- Per node, when it last sent its status, and the nodes found silent (R422). -/
  nodeSeen : Tab Time := []
  nodeMask : Tab Nat := []
  silent : List Nat := []
  enabledAt : Time := 0
  deriving DecidableEq, Repr

end Sys2Proof.Machine
end

