-- ==== Sys2Proof/Machine/StateHost.lean ====
section
/-! DEFINITION. State of the host interface and of the observing and guarding units: Cister rings and doorbells, the ledger, the trace port, start-up, clocks and resets, the monitor and its security state, and the application cores. -/
namespace Sys2Proof.Machine

/-- How far a fetched descriptor has come (R41, R43, R61). -/
inductive DescPhase where
  /-- Fetched, its execution not begun. -/
  | waiting
  /-- Its effect has begun and its completion is outstanding (a bus frame, a monitor request, a loop sample in progress). -/
  | running
  /-- Finished; its completion waits in the ring's backlog (R61). -/
  | held
  /-- Completed; the entry is released once every earlier one is (R41). -/
  | done
  deriving DecidableEq, Repr

/-- A descriptor fetched from a post ring: its free-running index, its bytes (R45) and its phase. -/
structure Desc where
  index : W32
  bytes : List Byte
  phase : DescPhase := .waiting
  deriving DecidableEq, Repr

/-- A completion that waits for space in its completion ring (R50, R61). -/
structure HeldCmp where
  index : W32
  tag : Nat
  status : Nat
  result : W32
  doneIrq : Bool
  deriving DecidableEq, Repr

/-- One ring context (R39, R40, R70 to R74). -/
structure Ring where
  /-- CISTER_RING_BASE_LO and CISTER_RING_BASE_HI. -/
  baseLo : W32 := 0
  baseHi : W32 := 0
  /-- CISTER_RING_CFG, all bits (R72). -/
  cfg : W32
  /-- CISTER_RING_STAT.fault and .cause (R74). -/
  fault : Bool := false
  cause : Nat := 0
  /-- The ring is stopped by a fault until it is disabled and enabled again (R66). -/
  stop : Bool := false
  /-- CISTER_RING_STAT.owner (R74). -/
  fwOwner : Bool := false
  /-- The software index S and the device index D. -/
  s : W32 := 0
  d : W32 := 0
  /-- Post ring: the index of the next entry to fetch (R43). -/
  f : W32 := 0
  /-- Records dropped since the device wrote its previous entry (R51). -/
  drops : Nat := 0
  /-- A drop episode is open (R581). -/
  episode : Bool := false
  /-- Descriptors fetched and not yet released, oldest first. -/
  fetched : List Desc := []
  /-- Completions of this post ring that wait for completion-ring space, or for leave to write host memory, oldest first (R61, R67). -/
  backlog : List HeldCmp := []
  /-- What `fetched` holds was fetched before the ring was last enabled: it runs to its end without moving D (R64, R65). -/
  leftover : Bool := false
  deriving DecidableEq, Repr

/-- Moderation of one MSI-X vector or core interrupt line (R62, R71): signalled events pending and the microsecond of the first. -/
structure Moderation where
  pending : Nat := 0
  first : Nat := 0
  deriving DecidableEq, Repr

/-- The content of a notification (R53, R54): its occurrences folded or merged, and their subject, detail and times. -/
structure NotifBody where
  count : Nat
  subject : W32
  detail : W32
  first : Time
  last : Time
  deriving DecidableEq, Repr

/-- One notification kind outstanding on the notification ring (R54). -/
structure Notif where
  /-- Waiting to be written. -/
  waiting : Option NotifBody := none
  /-- Written at this index of the ring and not yet released. -/
  written : Option W32 := none
  /-- Occurrences merged while written. -/
  merged : Option NotifBody := none
  deriving DecidableEq, Repr

/-- The Cister host interface. -/
structure Cister where
  /-- Ring contexts that differ from their reset state. -/
  rings : Tab Ring := []
  /-- Notification kinds outstanding, and the kinds waiting to be written, oldest first (R54). -/
  notifs : Tab Notif := []
  notifWait : List Nat := []
  /-- Moderation state: vector v at v, core line k at 64 + k (R62, R71). -/
  moderation : Tab Moderation := []
  /-- The MSI-X table by 4-byte word: entry v is words 4v to 4v + 3 (R37, R567). -/
  msixTable : Tab W32 := []
  /-- The MSI-X pending bit array (R63). -/
  msixPending : List Nat := []
  /-- The MSI-X function mask (R63). -/
  functionMask : Bool := false
  /-- PCI Express Bus Master Enable, and the D3hot power state (R67). -/
  busMaster : Bool := false
  d3hot : Bool := false
  /-- The endpoint answers configuration requests (R515). -/
  endpointReady : Bool := false
  /-- PERST_N is high (R438). -/
  perstHigh : Bool := true
  /-- Device-issued writes of host memory that wait until the device may issue memory requests, oldest first (R67). -/
  owedWrites : List (Nat × List Byte) := []
  /-- Rings whose index mirror is behind D (R60). -/
  mirrorDue : List Nat := []
  /-- The host watchdog: since when it runs, if it runs (R69). -/
  hostWdog : Option Time := none
  deriving DecidableEq, Repr

/-- One ledger record (R487). -/
structure LedgerRec where
  code : Nat := 0
  stream : Nat := 0
  /-- Flags: operating-time form, unsigned after alarm, coalesced, gap. -/
  opForm : Bool := false
  unsigned : Bool := false
  coalesced : Bool := false
  gap : Bool := false
  repeats : Nat := 0
  last : Nat := 0
  /-- The 8-byte stamp (R490). -/
  stamp : Nat := 0
  /-- The 16-byte payload, first byte lowest. -/
  payload : Nat := 0
  /-- Device time of the first occurrence, from which `last` is formed. -/
  at' : Time := 0
  deriving DecidableEq, Repr

/-- One ledger stream (R485 to R503). Positions are 64-bit; the index of a record is its low 32 bits (R486). -/
structure LStream where
  /-- The input queue, at most 64 records, oldest first. -/
  queue : List LedgerRec := []
  /-- Drops not yet reported in a LOST record (R493). -/
  lostDue : Nat := 0
  /-- An input-drop episode is open (R493). -/
  dropping : Bool := false
  /-- Records in the buffer share, by position. -/
  buffer : Tab LedgerRec := []
  /-- Records in flash, by position. -/
  flash : Tab LedgerRec := []
  /-- Next position to be written to flash. -/
  flashNext : Nat := 0
  /-- Oldest readable position (LEDGER_FIRST). -/
  first : Nat := 0
  /-- The export mark (LEDGER_EXPORTED) and the next position to be written to ring 89 (R503). -/
  exported : Nat := 0
  exportNext : Nat := 0
  /-- Flash writing of the stream is stopped (LEDGER_STAT.stopped, R485). -/
  stopped : Bool := false
  /-- Sectors marked bad in the sector map (R494). -/
  badSectors : List Nat := []
  /-- The sector being written, counted in the stream's share (R485, R494). -/
  sector : Nat := 0
  deriving DecidableEq, Repr

/-- A ledger record written to ring 89 and not yet released (R503). -/
structure ExportEntry where
  index : W32
  stream : Nat
  position : Nat
  deriving DecidableEq, Repr

/-- The ledger unit (R485 to R507). -/
structure Ledger where
  streams : Tab LStream := []
  /-- LEDGER_CURSOR: stream and index in force; a low word held for its high word (R501). -/
  cursorStream : Nat := 0
  cursorIndex : W32 := 0
  cursorHeld : Option W32 := none
  /-- The record loaded in LEDGER_WINDOW0 to LEDGER_WINDOW7 (R501, R502). -/
  window : LedgerRec := {}
  /-- LEDGER_RTC_MS as latched by the latest read of LEDGER_RTC (R506). -/
  rtcMs : W32 := 0
  /-- LEDGER_RTC_CTRL.armed: an RTC set waits for a PPS edge (R491). -/
  rtcArmed : Bool := false
  /-- AUDIT blocks closed and awaiting their SIG group, by block number (R499). -/
  blocksOpen : List Nat := []
  /-- H(b) of the AUDIT blocks closed so far, by block number (R499). -/
  hashes : Tab Nat := []
  /-- Ring 89 entries written and not yet released (R503). -/
  exportLog : List ExportEntry := []
  deriving DecidableEq, Repr

/-- The always-on domain (R438, R477, R479, R486, R491, R492). -/
structure AlwaysOn where
  /-- The RTC: valid once set; its milliseconds since 2000-01-01 at device time `rtcAt`. -/
  rtcValid : Bool := false
  rtcMillis : Nat := 0
  rtcAt : Time := 0
  /-- The operating-time and power-cycle counters. -/
  opSeconds : Nat := 0
  /-- Device time at which the operating-time counter last counted, or the control die left reset (R492). -/
  opAt : Time := 0
  powerCycles : Nat := 0
  /-- Next record position of each stream (R486, R496). -/
  nextPos : Tab Nat := []
  /-- Alarm latch: violation sources recorded (R478). -/
  alarmLatch : Nat := 0
  /-- Kill latch (R479). -/
  killLatch : Bool := false
  /-- Consecutive failed signature checks (R477). -/
  sigFails : Nat := 0
  /-- The violation of this run of failed checks has been raised (R477). -/
  sigRaised : Bool := false
  deriving DecidableEq, Repr

/-- The Plager trace port (R536 to R540): packets in the FIFO, oldest first, and the loss counters. -/
structure Trace where
  fifo : List (List Byte) := []
  /-- Bytes of the oldest packet already driven out. -/
  sent : Nat := 0
  /-- TRACE_DROP. -/
  dropped : W32 := 0
  /-- Packets dropped since the previous OVERFLOW packet. -/
  lost : Nat := 0
  /-- Device time of the latest SYNC. -/
  lastSync : Time := 0
  /-- Half bytes of the port's time not yet used (R536). -/
  half : Nat := 0
  /-- The monitor has written and locked TRACE_MASK (R470, R577). -/
  masked : Bool := false
  deriving DecidableEq, Repr

/-- Start-up (R514 to R524). -/
structure Startup where
  /-- START_STAT.state: 0 rom to 7 operational, 8 recovery. -/
  phase : Nat := 0
  /-- This start follows a warm or clock-fault reset (R514, R519). -/
  warm : Bool := false
  slotFallback : Bool := false
  noDrive : Bool := false
  leased : Bool := false
  trained : Bool := false
  fwStarted : Bool := false
  charterApplied : Bool := false
  defaultCharter : Bool := false
  /-- The control die is out of cold reset (R511). -/
  released : Bool := false
  /-- Device time of the reset release. -/
  releaseAt : Time := 0
  /-- Device time at which the current state began (R518). -/
  phaseAt : Time := 0
  /-- START_TIME (R522). -/
  startTime : Nat := 0
  /-- The self-test of the calibration state has been started (R520). -/
  bistStarted : Bool := false
  deriving DecidableEq, Repr

/-- One line of an event crossing: when its latest acknowledge phase began, and whether a pulse pends (R445, R446). -/
structure EventLine where
  since : Option Time := none
  pends : Bool := false
  deriving DecidableEq, Repr

/-- Clocks, resets and crossings (R436 to R453). -/
structure Clocks where
  sysLock : Bool := false
  ethLock : Bool := false
  pipeLock : Bool := false
  timeCoarse : Bool := false
  /-- CLK_STAT bits 5:0. -/
  faults : Nat := 0
  /-- RST_CAUSE bits 31:28: cold, warm, ref_fault, pll_fault. -/
  causeCold : Bool := true
  causeWarm : Bool := false
  causeRef : Bool := false
  causePll : Bool := false
  /-- RST_WARM_CNT. -/
  warmCount : W32 := 0
  /-- Domains held in reset (R435, R438): FB, BUS, ETH. -/
  fbReset : Bool := true
  busReset : Bool := true
  ethReset : Bool := true
  /-- Crossings whose far side is in reset, and those whose discard episode is open (R449, R450). -/
  farDown : List Nat := []
  discarding : List Nat := []
  /-- A clock-fault reset is due to be reported to the monitor as violation source 2 at the next start (R437). -/
  refFaultDue : Bool := false
  /-- A SAFETY record of a warm reset is due at the next start (R481). -/
  warmRecordDue : Bool := false
  /-- Device time advances by the 32.768 kHz clock since this instant (R442). -/
  coarseFrom : Option Time := none
  deriving DecidableEq, Repr

/-- One application-cluster core as the monitor and the service window see it (R459, R461, R475, R483). -/
structure CoreState where
  /-- SEC_CORE_STAT: 0 not started, 1 running, 2 halted, 3 halted with restarts exhausted. -/
  run : Nat := 0
  restarts : Nat := 0
  /-- Device time of the latest write of CORE_WDOG_KICK, or of the start (R461). -/
  kickedAt : Time := 0
  haltedAt : Time := 0
  /-- The service block at 0x5020_0000 + k × 0x40 (R475). -/
  service : List Byte := []
  /-- The status of the service request in progress (R475). -/
  serving : Option Nat := none
  deriving DecidableEq, Repr

/-- An image as it stands in a flash slot (R462, R463). -/
abbrev Image := List Byte

/-- The 1 bits among the low `n` bits of a number. -/
def onesIn (n x : Nat) : Nat := ((List.range n).filter (fun i => (x / 2 ^ i) % 2 = 1)).length

/-- A monitor request handed to the monitor and not yet completed (R471). -/
structure MonRequest where
  ring : Nat
  index : W32
  opcode : Nat
  status : Nat
  result : W32 := 0
  /-- ACTIVATE with restart: a warm reset follows the completion. -/
  restart : Bool := false
  /-- STAGE, ACTIVATE and CONFIRM: the image types concerned, as R462 codes them. -/
  types : Nat := 0
  deriving DecidableEq, Repr

/-- The monitor, its one-time-programmable memory, the boot directory and the alarm state (R456 to R484). -/
structure Security where
  /-- The applied charter body; the empty list is the default charter (R466, R468). -/
  charter : List Byte := []
  /-- Every RWL field is locked (ID_LOCK, R577). -/
  locked : Bool := false
  verMon : W32 := 0
  verCharter : W32 := 0
  verFw : W32 := 0
  /-- The version of the monitor image that runs, and SEC_FLOORS as the charter state wrote it (R578). -/
  monRuns : W32 := 0
  floorsShown : W32 := 0
  /-- A valid firmware image runs; otherwise resources given to cores are held by nobody (R466). -/
  fwValid : Bool := false
  /-- OTP (R467). -/
  oemHash : Nat := 0
  deviceId : W64 := 0
  floorMon : Nat := 0
  floorFw : Nat := 0
  floorCharter : Nat := 0
  revoked : Nat := 0
  /-- The keys_dead bits (R467), whether the test port is fused (R457), and the PUF activation code. -/
  deadBits : Nat := 0
  testFused : Bool := true
  pufCode : List Byte := []
  /-- The directory in force (R462): seq, active, trial, valid_a, valid_b, and the types of trial status that have run. -/
  seq : W32 := 0
  active : Nat := 0
  trial : Nat := 0
  validA : Nat := 0
  validB : Nat := 0
  trialRan : Nat := 0
  /-- The records that directory copies 0 and 1 hold in flash, and the copy in force (R462). -/
  dirCopies : Tab (List Byte) := []
  dirCopy : Nat := 0
  /-- Slot images: type (1 to 3) × 2 + slot. -/
  slots : Tab Image := []
  /-- SEC_ALARM, and the level in force and the highest level since cold reset (R478, R483). -/
  alarms : Nat := 0
  keyLock : Bool := false
  auditErased : Bool := false
  level : Nat := 0
  /-- The audit key was erased before this cold reset: a SECURITY record is due when it is derived again (R478). -/
  auditRecordDue : Bool := false
  /-- Keys derived by the monitor and present (R474). -/
  keysPresent : Bool := false
  /-- Region faults counted in the current whole second of device time (R477). -/
  faultSecond : Nat := 0
  faultsInSecond : Nat := 0
  /-- The violation of this second has been raised (R477). -/
  faultsRaised : Bool := false
  /-- Monitor requests outstanding, at most 4 (R471). -/
  requests : List MonRequest := []
  /-- The counter part of SEAL's initialisation vector (R475). -/
  sealCount : Nat := 0
  /-- SEC_RECOVERY_LO, _HI and _CTRL (R480). -/
  recoveryLo : W32 := 0
  recoveryHi : W32 := 0
  recoveryCtrl : W32 := 0
  /-- The QSPI flash found by discovery: log2 of its size, mode and clock (ID_FLASH, R576); 0 none. -/
  flashLog2 : Nat := 0
  flashMode : Nat := 0
  flashMhz : Nat := 0
  /-- ID_REVISION.drive, reported at the first training (R576). -/
  driveRevision : Nat := 0
  /-- ID_BADACC (R568, R576). -/
  badAcc : W32 := 0
  deriving DecidableEq, Repr

/-- The device is dead: 4 or more of the keys_dead bits are set (R467, R479). -/
def Security.keysDead (x : Security) : Bool := decide (4 ≤ onesIn 8 x.deadBits)

end Sys2Proof.Machine
end

