-- ==== Sys2Proof/Machine/StateCourse.lean ====
section
/-! DEFINITION. State of the feedback unit (FB0 to FB15, AIN0 to AIN15, LATCH0 to LATCH7, EMU0 to EMU3) and of the course unit. -/
namespace Sys2Proof.Machine

/-- Extremes of a calibration track (R127). -/
structure Extremes where
  max : Int := 0
  min : Int := 0
  deriving DecidableEq, Repr

/-- Calibration statistics: the sine and cosine tracks, and the sum and difference of the corrected tracks, the latter two in 2^-15 codes (R127). -/
structure CalStats where
  s : Extremes := {}
  c : Extremes := {}
  sum : Extremes := {}
  diff : Extremes := {}
  deriving DecidableEq, Repr

/-- One feedback channel (R116 to R133). Speeds and the observer carry 16 fraction bits. -/
structure FbCh where
  /-- FB_STAT.state: 0 OFF, 1 ACQUIRE, 2 TRACK, 3 FAULT, and since when (R130). -/
  st : Nat := 0
  stAt : Time := 0
  /-- The signed 48-bit count (R123). -/
  pos : Int := 0
  /-- FB_STAT.dir: the last count was negative. -/
  negative : Bool := false
  /-- Accepted levels of the A and B inputs (R117, R119, R121). -/
  a : Bool := false
  b : Bool := false
  /-- The accepted level of the Z input (R117, R120). -/
  z : Bool := false
  /-- FB_STAT bits 7:0 (R132) and overspeed (R126). -/
  sticky : Nat := 0
  overspeed : Bool := false
  /-- FB_INDEX, and the position at the previous index (R120). -/
  index : W32 := 0
  indexPos : Option Int := none
  /-- Period measurement: the estimate, the last period in FB clocks, the last edge, and edges in a row less than 5 us apart (R121). -/
  vPeriod : Int := 0
  lastPeriod : Nat := 0
  lastEdge : Option Time := none
  fastEdges : Nat := 0
  /-- Hall code, and since when it is invalid (R122). -/
  hall : Nat := 0
  hallBadAt : Option Time := none
  /-- Interpolation: the previous line angle, the amplitude of the latest sample, and samples in a row outside the window (R124, R125). -/
  angle : Option Nat := none
  amp : Nat := 0
  ampBad : Nat := 0
  /-- Calibration: complete periods and their statistics, and the period in progress: travel, start, whether it still counts, and its statistics (R127). -/
  calPeriods : Nat := 0
  calStats : Option CalStats := none
  calTravel : Int := 0
  calStart : Time := 0
  calGood : Bool := false
  calRun : Option CalStats := none
  /-- The tracking observer, and its latest update (R129). -/
  pEst : Int := 0
  vEst : Int := 0
  obsAt : Time := 0
  /-- When a cause that faults the channel was last present (R132). -/
  faultAt : Time := 0
  deriving DecidableEq, Repr

/-- One analogue input (R136 to R138): samples since enable, newest first and at most 64, its result, and the limit counters. -/
structure AinCh where
  samples : List Nat := []
  result : Nat := 0
  valid : Bool := false
  out : Bool := false
  outRun : Nat := 0
  inRun : Nat := 0
  deriving DecidableEq, Repr

/-- A capture of a latch on its way to the course unit (R109, R134). -/
structure Capture where
  latch : Nat
  time : Time
  position : Int
  deriving DecidableEq, Repr

/-- One encoder-emulation output (R139 to R142). -/
structure EmuCh where
  /-- The signed total I, and the source value last added. -/
  total : Int := 0
  source : Option Int := none
  /-- The ratio in effect, and a numerator held for its denominator (R141). -/
  num : Nat := 0
  den : Nat := 0
  heldNum : Option Nat := none
  /-- E and I when the ratio took effect. -/
  eBase : Int := 0
  iBase : Int := 0
  /-- Edges emitted, the latest one's time, the Gray phase, and the levels of EMU_Zn and of the direction. -/
  emitted : Int := 0
  lastEdge : Time := 0
  phase : Nat := 0
  z : Bool := false
  forward : Bool := true
  /-- EMU_STAT.overrun, and the edges dropped in the episode (R140). -/
  overrun : Bool := false
  dropped : Nat := 0
  deriving DecidableEq, Repr

/-- The feedback unit. -/
structure Feedback where
  ch : Tab FbCh := []
  ain : Tab AinCh := []
  /-- Device time of the last accepted edge of each latch (R134). -/
  latchEdge : Tab (Option Time) := []
  /-- The level that each latch trigger's filter has accepted (R134). -/
  latchLevel : Tab Bool := []
  emu : Tab EmuCh := []
  deriving DecidableEq, Repr

/-- A pose: X and Y in mm with 16 fraction bits, the heading as a binary angle with 16 fraction bits, and the hitch angle (R77). -/
structure Pose where
  x : Int := 0
  y : Int := 0
  heading : Int := 0
  hitch : Int := 0
  deriving DecidableEq, Repr

/-- A history entry (R107): the close instant, machine course with 16 fraction bits, and the pose; and the speed and yaw rate of its sweep. -/
structure HistEntry where
  time : Time
  course : Int
  pose : Pose
  speed : Int
  yaw : Int
  deriving DecidableEq, Repr

/-- A latch record (R109). -/
structure LatchRec where
  time : Time := 0
  course : Int := 0
  x : Int := 0
  y : Int := 0
  heading : Int := 0
  position : W32 := 0
  deriving DecidableEq, Repr

/-- The settings of the course page that are in force; writes take effect at the next sweep close (R82, R86, R113). -/
structure CourseSet where
  src : W32 := 0xC0010A00
  wheelScale : W32 := 0
  radarScale : W32 := 0
  blend : W32 := 0x8000
  slip : W32 := 0x200A01F4
  sweep : W32 := 5
  reverse : W32 := 0xC80
  imuCfg : W32 := 0xE00
  imuScale : W32 := 0
  imuBias : W32 := 0
  hitchCfg : W32 := 0x2AAB
  hitchGeom : W32 := 0
  ainGain : W32 := 0
  ainOfs : W32 := 0
  pose : W32 := 0x03E801F4
  deriving DecidableEq, Repr

/-- A host-supplied value: the latest one, when it was supplied (none while it waits), and whether it is stale (R83). -/
structure HostValue where
  value : Int := 0
  at' : Option Time := none
  stale : Bool := false
  deriving DecidableEq, Repr

/-- The course unit (R77 to R114). -/
structure Course where
  /-- The device time of the latest sweep close, the duration of that sweep, and whether a close has taken place since the reset (R85, R108). -/
  lastClose : Time := 0
  duration : Nat := 0
  closed : Bool := false
  /-- Settings in force. -/
  set : CourseSet := {}
  /-- Machine course with 16 fraction bits, wrapping at 64 bits; machine speed in Q24.8; yaw rate (R77). -/
  mc : Int := 0
  speed : Int := 0
  yaw : Int := 0
  /-- Changes of the latest sweep: course (16 fraction bits), heading (16 fraction bits), and hitch angle, and the hitch angle at its start (R103, R104). -/
  dMc : Int := 0
  dHeading : Int := 0
  dHitch : Int := 0
  hitchPrev : Int := 0
  /-- Machine acceleration, Q24.8 (R77). -/
  accel : Int := 0
  /-- The yaw rate of the implement at the close, in binary-angle units per second (R104, R259). -/
  yawT : Int := 0
  pose : Pose := {}
  /-- Correction remainders, X and Y with 16 fraction bits, heading with 16 (R94, R95). -/
  remX : Int := 0
  remY : Int := 0
  remHeading : Int := 0
  /-- Retained frame-shift instants, newest first, and the time before which history is unavailable (R96). -/
  shifts : List Time := []
  histFloor : Time := 0
  /-- FIX descriptors received since the latest sweep, oldest first (R24, R94). -/
  fixDue : List Desc := []
  /-- Course history, newest first (R107). -/
  history : List HistEntry := []
  /-- Delivered positions (8 fraction bits) of the feedback channels at the latest close (R79, R131). -/
  fbAtClose : Tab Int := []
  /-- Host-supplied speed, yaw rate and hitch angle (R83, R97). -/
  hostSpeed : HostValue := {}
  hostYaw : HostValue := {}
  hostHitch : HostValue := {}
  /-- HOST_SOURCE_TIMEOUT has found the host source lost (R83). -/
  hostLost : Bool := false
  /-- Sources found lost at the latest close: bit 0 wheel, bit 1 radar, bit 2 host; and the sources in use since then, coded alike (R83, R583). -/
  lostBits : Nat := 0
  inUse : Nat := 4
  /-- COURSE_STAT: source_lost, running, coasting, slip, reverse, jackknife, pose_range, imu_stale. -/
  lost : Bool := false
  running : Bool := false
  coasting : Bool := false
  slip : Bool := false
  reverse : Bool := false
  jackknife : Bool := false
  poseRange : Bool := false
  imuStale : Bool := false
  /-- The source in use, as COURSE_STAT.active_src codes it. -/
  active : Nat := 3
  /-- Start and speed of a coast, and whether it has ended at rest (R83, R583). -/
  coastAt : Time := 0
  coastSpeed : Int := 0
  rested : Bool := false
  /-- Slip timers: how long |s| has been above the threshold, or at most half of it, in device-time units (R84). -/
  slipHigh : Nat := 0
  slipLow : Nat := 0
  /-- The last yaw rate read, and stale sweeps in a row (R90). -/
  imuYaw : Int := 0
  /-- The midpoint of the data transfer of the last read that completed (R90). -/
  imuStamp : Time := 0
  imuMisses : Nat := 0
  /-- The forward peak P and the reverse trough V, in cs (R110). -/
  peak : Int := 0
  trough : Int := 0
  /-- Captures on their way to the latch FIFOs, and the FIFOs (R109). -/
  captures : List Capture := []
  latchFifo : Tab (List LatchRec) := []
  /-- COURSE_PPS_LO and _HI, and COURSE_PPS_CNT (R89). -/
  ppsTime : Time := 0
  ppsCount : W32 := 0
  ppsSeen : Bool := false
  deriving DecidableEq, Repr

end Sys2Proof.Machine
end

