-- ==== Sys2Proof/Machine/StateDrive.lean ====
section
/-! DEFINITION. State of the drive die (channels, banks, boost converter, thermal model, lease) and of the relay link between the dies. -/
namespace Sys2Proof.Machine

/-- A pending event in a channel's store (R278). -/
structure DrvEv where
  id : Nat
  /-- 1 on, 2 off, 3 rate. -/
  kind : Nat
  time : Time
  d : Nat := 0
  /-- It had already passed when it arrived (R279). -/
  late : Bool := false
  /-- Its number in the channel's order of arrival (R279). -/
  arrival : Nat := 0
  deriving DecidableEq, Repr

/-- A shot from the instant it becomes due (R274, R286, R289). Times in device-time units. -/
structure Shot where
  /-- The on event it belongs to; whether a pulse instant started it and not the event itself; and whether an earlier shot of that event has been due. -/
  ev : Nat
  pulse : Bool
  later : Bool := false
  due : Time
  ready : Time
  /-- The backstop delays it until `ready` (R289). -/
  delayed : Bool := false
  late : Bool := false
  gateOn : Option Time := none
  phase : Nat := 0
  phaseAt : Time := 0
  timedOut : Bool := false
  /-- defer_tol as it was when the shot began to wait, in device-time units (R287, R299). -/
  tol : Nat := 0
  deriving DecidableEq, Repr

/-- A report of R292 as R305 lays it out; `ev` is the event it belongs to, which no payload carries: by it the model's lane engine finds the event of the report. DESIGN CHOICE (log 104). -/
structure Report where
  channel : Nat
  closing : Bool
  flags : Nat
  gate : Time
  /-- None is 0xFFFF_FFFF on the wire. -/
  delay : Option Nat := none
  deferral : Nat := 0
  backstop : Nat := 0
  ev : Nat := 0
  deriving DecidableEq, Repr

/-- A report that awaits the end of its detection window, and whether the detector runs for it (R290 to R292). -/
structure Window where
  ends : Time
  det : Bool
  /-- The detector's set-up in the profile slot of the shot: DRV_PROF_DET0 or DET1, and DRV_PROF_DET2 (R290, R291). -/
  set : W32 := 0
  set2 : W32 := 0
  /-- When the closing quench of a closing report ended (R291). -/
  quiet : Option Time := none
  rep : Report
  deriving DecidableEq, Repr

/-- A drive channel (R268 to R292, R320 to R326). -/
structure DrvCh where
  pending : List DrvEv := []
  /-- On events have switched the channel on; the duty d; the event that did. -/
  on : Bool := false
  d : Nat := 0
  onEv : Nat := 0
  /-- DRV_CH_STAT.state (R299). -/
  st : Nat := 0
  shot : Option Shot := none
  /-- DRV_CH_CFG in effect since the latest ready instant (R299). -/
  cfg : W32 := 0x20140064
  gateOff : Option Time := none
  /-- The low side conducts; the running open interval asks for freewheel; the latest closing of the low side (R274, R275). -/
  low : Bool := false
  freewheel : Bool := false
  closedAt : Option Time := none
  /-- Low-side closings in the running hysteretic battery phase, since the bank rail last stood at boost (R320). -/
  closings : List Time := []
  /-- A shot of the present on event has been due; events that have arrived; and the end of the latest closing quench. -/
  begun : Bool := false
  arrivals : Nat := 0
  quietAt : Time := 0
  /-- Pulsing: the period of the latest pulse start, the end of the running pulse, and the next pulse's due instant (R283, R284). -/
  per : Nat := 0
  pulseEnd : Option Time := none
  nextPulse : Option Time := none
  /-- Reports that await the end of their window (R290 to R292). -/
  opening : List Window := []
  closing : List Window := []
  discards : W32 := 0
  /-- Latest current sample, mA (R299). -/
  current : Nat := 0
  /-- Sense-offset calibration: a gap has been used since enable, the latest usable gap, and the starvation episode (R272). -/
  calibrated : Bool := false
  gapAt : Time := 0
  starved : Bool := false
  /-- Thermal model: temperature in 2^-24 °C (none: ambient), level, latest R_hot, when a window completed that no update has used, and measured (R320 to R323). -/
  temp : Option Int := none
  level : Nat := 0
  rHot : Option Nat := none
  windowAt : Option Time := none
  measured : Bool := false
  /-- Off time before the gate-on of the latest shot, and that instant (R321). -/
  coolBefore : Nat := 0
  shotAt : Time := 0
  deriving DecidableEq, Repr

/-- What a relay frame carries (R304). -/
inductive FrameBody where
  | idle
  | event (ch : Nat) (ev : DrvEv)
  | retime (ch id : Nat) (t : Time)
  | withdraw (ch id : Nat)
  | write (off : Nat) (v : W32)
  | time (t : Time)
  | grant (g : Nat)
  | revoke
  /-- Channel 0 to 63, or 64 + k for a bank, and the bits to clear (R325, R327). -/
  | clear (target : Nat) (bits : W32)
  | report (r : Report)
  /-- A segment of the register copy and its words (R298). -/
  | status (seg : Nat) (words : List W32)
  | fault (target : Nat) (bits : W32)
  | lease (held : Bool) (e last cause : Nat)
  deriving DecidableEq, Repr

/-- A relay frame (R303). -/
structure Frame where
  seq : Nat
  epoch : Nat
  ack : Nat
  leaseEpoch : Nat
  body : FrameBody
  /-- The sender's own note of when it last sent the frame (R306); it does not travel. -/
  sentAt : Time := 0
  deriving DecidableEq, Repr

/-- One direction of the relay link: the sender's next sequence number and unacknowledged frames, frames in flight, and the receiver's next expected number, discards in a row and latest acceptance (R306, R308). -/
structure Link where
  next : Nat := 0
  unacked : List Frame := []
  /-- Bodies that wait for a sequence number: at most 128 frames stand unacknowledged (the model's own bound under the 256 of R303). -/
  waiting : List FrameBody := []
  flight : List Frame := []
  expect : Nat := 0
  discards : Nat := 0
  acceptedAt : Time := 0
  deriving DecidableEq, Repr

/-- The relay link (R302 to R309). -/
structure Relay where
  trained : Bool := false
  epoch : Nat := 0
  down : Link := {}
  up : Link := {}
  /-- The reset-state lines as each die sees the other's (R309); a die in reset sees none. -/
  driveReset : Bool := false
  controlReset : Bool := false
  /-- The surviving die has acted on the line (R309). -/
  driveSeen : Bool := true
  controlSeen : Bool := true
  /-- Events that stood in the channel stores when the drive die was reset (R309). -/
  lostStore : Nat := 0
  /-- A die has been reset since the link was last trained (R309); the register rewrite of R439 is due, and is not yet acknowledged. -/
  renew : Bool := false
  rewriteDue : Bool := false
  rewriting : Bool := false
  /-- Segments of the register copy refreshed since training (R307, R514). -/
  refreshed : List Nat := []
  /-- The device time of the latest TIME frame sent (R307). -/
  timeAt : Time := 0
  deriving DecidableEq, Repr

/-- The lease on the drive die (R310 to R315): it is held while E is not zero. -/
structure DriveLease where
  e : Nat := 0
  last : Nat := 0
  timerAt : Time := 0
  cause : Nat := 0
  leaseAt : Time := 0
  deriving DecidableEq, Repr

/-- The lease as the control die and the monitor know it (R313, R316, R317). -/
structure ControlLease where
  held : Bool := false
  epoch : Nat := 0
  cause : Nat := 0
  lapseAt : Time := 0
  /-- The epoch that lapsed last (R329). -/
  lapseEpoch : Nat := 0
  /-- A lapse has been seen since the last grant was confirmed. -/
  lapsed : Bool := false
  /-- A GRANT is on its way, and whether it follows a lapse. -/
  granting : Option Nat := none
  startupDone : Bool := false
  regrants : Nat := 0
  requests : Nat := 0
  /-- The instant of the latest request, and whether host software made it (R570). -/
  reqFrom : Option (Time × Bool) := none
  /-- A LEASE frame has been received since the link trained. -/
  known : Bool := false
  deriving DecidableEq, Repr

/-- The drive die. -/
structure Drive where
  /-- In reset; and healthy supplies have let it leave (R512). -/
  inReset : Bool := true
  /-- When it was last reset. -/
  resetAt : Time := 0
  ch : Tab DrvCh := []
  /-- The registers on the drive die, by BAR0 offset; the control die's copy is `State.regs` (R298). -/
  regs : Tab W32 := []
  tallies : Tab W32 := []
  lease : DriveLease := {}
  /-- The drive die's reckoning of device time minus device time, in 2^-24 units, as the latest TIME frame left it (R279, R443). -/
  skew : Int := 0
  /-- The correction of its rate per TIME frame, and whether a TIME frame has set the count since training; both in 2^-24 units (R443). -/
  rate : Int := 0
  synced : Bool := false
  /-- The boost converter regulates; its MOSFET is on, since the start of its latest switching cycle (R293). -/
  boostRun : Bool := false
  boostGate : Bool := false
  cycleAt : Option Time := none
  ov : Bool := false
  uv : Bool := false
  vboost : Nat := 0
  /-- Energy below 1 mJ of BOOST_RECOVERED and BOOST_SUPPLIED, in units of 62.5 fJ: 10 uW for a drive-die clock (R295). -/
  recoveredRem : Nat := 0
  suppliedRem : Nat := 0
  /-- The drive oscillator is at fault (R437). -/
  oscFault : Bool := false
  /-- Reports received and awaiting step 3 of the next sweep (R305, R24). -/
  reports : List Report := []
  deriving DecidableEq, Repr

end Sys2Proof.Machine
end

