-- ==== Sys2Proof/Machine/StateUnits.lean ====
section
/-! DEFINITION. State of the PWM unit of the control engine and of the target stream. Instants of the 480 MHz PWM clock are kept in twelfths of a device-time unit; one PWM clock is five of them. -/
namespace Sys2Proof.Machine

/-- A PWM channel (R331 to R346). -/
structure PwmCh where
  /-- The counter has run since the reset (R335, R346). -/
  started : Bool := false
  /-- The running stretch of the counter: when it began, its first tick, the level before it, and the period, compare and tick length in it. -/
  at' : Nat := 0
  tick : Nat := 0
  before : Bool := false
  per : Nat := 19200
  c : Nat := 0
  centre : Bool := false
  tickLen : Nat := 5
  /-- The latest transitions of the signal before this stretch, newest first: instant and new level. -/
  past : List (Nat × Bool) := []
  /-- The dither index, and PWM_LIMIT, PWM_TIMING and PWM_PHASE as of the latest reload (R332, R348). -/
  dither : Nat := 0
  limit : W32 := 0x80000000
  timing : W32 := 0
  phase : W32 := 0
  /-- What each shadow held before the updates that no reload has passed yet, newest first, with their instants (R336). -/
  cmpWas : List (Nat × W32) := []
  perWas : List (Nat × W32) := []
  /-- The output stands at its safe level; and what holds it there: a trip, the clock monitor, a halted core (R346). -/
  safe : Bool := true
  tripHold : Bool := false
  clockHold : Bool := false
  haltHold : Bool := false
  /-- PWM_STAT.trip, clock, halt, clipped, filtered. -/
  trip : Bool := false
  clock : Bool := false
  halt : Bool := false
  clipped : Bool := false
  filtered : Bool := false
  /-- PWM_STAT.clipped and filtered as they stood before the latest reload, which a further one of its clock replaces (R341, R344). -/
  flagsWas : Bool × Bool := (false, false)
  /-- The PWM_STAT bit of the latest cause of a safe state (R537). -/
  cause : Nat := 31
  /-- Lane on events that take effect at the next reload (R341). -/
  armed : List LaneEv := []
  deriving DecidableEq, Repr

/-- The PWM unit. -/
structure Pwm where
  ch : Tab PwmCh := []
  /-- Levels of balls TRIP_IN0 to TRIP_IN11, bit t high (R345). -/
  pins : Nat := 0xFFF
  /-- Per trip input, when it became asserted, in twelfths of a unit (R345). -/
  tripSince : Tab Nat := []
  /-- The clock monitor finds the PWM clock faulty (R346, R436). -/
  clockBad : Bool := false
  deriving DecidableEq, Repr

/-- A term of a program slot (R366). -/
structure Term where
  coef : Int := 0
  operand : Nat := 0
  /-- The right and left shifts of the main path. -/
  r : Nat := 0
  l : Nat := 0
  dest : Nat := 0
  last : Bool := false
  ends : Bool := false
  fcoef : Int := 0
  fl : Nat := 0
  deriving DecidableEq, Repr

/-- A loop context (R353 to R372). -/
structure LoopCh where
  /-- The 128-byte context image; empty before the first CONFIG. -/
  image : List Byte := []
  terms : Tab Term := []
  enabled : Bool := false
  enabledAt : Time := 0
  /-- The references of R358 and R363 have been recorded: when, FB positions (8 fraction bits) and lane courses of in0 to in3, and C0 of the trigger lane. -/
  primed : Option Time := none
  refs : List Int := []
  c0 : Int := 0
  /-- Predicted crossing instants and their multiples (R361). -/
  due : List (Time × Int) := []
  /-- The latest latch edge that triggered (R362). -/
  latchSeen : Option Time := none
  /-- The previous sample instant; skips; samples; a skip episode; a skip since the last record. -/
  lastAt : Option Time := none
  skips : W32 := 0
  samples : W32 := 0
  skipping : Bool := false
  skipNoted : Bool := false
  /-- States s0 to s15 and the applied output, in main format (R367, R368). -/
  st : Tab Int := []
  y : Int := 0
  /-- A fallback output computed and not yet applied: y and s15 (R370). -/
  waiting : Option (Int × Int) := none
  lastFallback : Bool := false
  limited : Bool := false
  idle : Bool := false
  /-- Samples since the last output record (R357). -/
  sinceRecord : Nat := 0
  deriving DecidableEq, Repr

/-- The control engine. -/
structure Loops where
  ch : Tab LoopCh := []
  post : Tab Int := []
  /-- The fallback path is in use, and since when why: 1 start-up, 3 failure, 0 a test window (R373, R374). -/
  fallback : Bool := true
  stay : Nat := 1
  bistActive : Bool := false
  bistFail : Bool := false
  /-- A self-test has been requested; the latest test's start. -/
  bistReq : Bool := false
  bistAt : Time := 0
  /-- Caravan factors written by loops, for the next sweep (R359). -/
  factors : List (Nat × Nat) := []
  /-- When the four MAC lanes are free, in cycles of 600 MHz, and the longest latency in such cycles (R369). -/
  macFree : List Nat := [0, 0, 0, 0]
  /-- The latest instant with a main-path sample, the costs of its samples by loop, and when the MAC lanes were free before them. -/
  macAt : Time := 0
  macGroup : Tab Nat := []
  macBase : List Nat := [0, 0, 0, 0]
  latency : Nat := 0
  /-- Costs of the samples of the last microsecond, LOOP_LOAD.peak and .recent, and the millisecond in progress with its highest load (R369). -/
  window : List (Time × Nat) := []
  peak : Nat := 0
  recent : Nat := 0
  ms : Nat := 0
  msPeak : Nat := 0
  deriving DecidableEq, Repr

/-- An Ethernet MAC (R245 to R256). -/
structure EthMac where
  /-- The time map: gPTP anchor, device-time anchor, ratio (R250). -/
  valid : Bool := false
  gAnchor : Nat := 0
  tAnchor : Nat := 0
  ratio : Nat := 0
  /-- Targets dropped in the present drop episode, and an episode of targets not placeable in time (R256, R260). -/
  dropped : Nat := 0
  timeEpisode : Bool := false
  deriving DecidableEq, Repr

/-- A queued target (R254, R256): the MAC and camera entry, the message's camera, sequence and exposure, and the record. -/
structure TargetRec where
  mac : Nat
  entry : Nat
  camera : Nat
  sequence : Nat
  exposure : Nat
  alongMin : Int
  alongMax : Int
  latMin : Int
  latMax : Int
  dt : Int
  id : Nat
  cls : Nat
  deriving DecidableEq, Repr

/-- The Ethernet MACs and the target stream. -/
structure Eth where
  mac : Tab EthMac := []
  queue : List TargetRec := []
  /-- ETH_MDIO.busy (R265). -/
  mdioBusy : Bool := false
  deriving DecidableEq, Repr

end Sys2Proof.Machine
end

