-- ==== Sys2Proof/Machine/State.lean ====
section
/-! DEFINITION. The state of the device: every unit's registers, queues, counters and modes as plain data, the queue of waiting commands, the faults and refusals of a step, and the state after a cold reset. -/
namespace Sys2Proof.Machine

/-- A memory: bytes by address, an unlisted byte reads 0x00. -/
abbrev Memory := List Host.Cell

/-- What leaves the device while a command takes effect, in order. DESIGN CHOICE (log 7). DESIGN CHOICE (log 14). -/
inductive Out where
  /-- An MSI-X message of a vector (R62). -/
  | msix (vector : Nat)
  /-- An interrupt on a line of the application cluster (R71). -/
  | coreLine (core : Nat)
  /-- The service-done line of a core (R475). -/
  | serviceDone (core : Nat)
  /-- The region-fault line of a core (R458, R459). -/
  | regionFault (core : Nat)
  /-- A report through PCI Express Advanced Error Reporting (R66). -/
  | aer
  /-- A pulse on ball PWM_SYNC_OUT (R343). -/
  | syncOut
  /-- A read over the IMU SPI master: the address byte on the wire, and the data bytes that follow (R90). -/
  | imuRead (address : Byte) (bytes : Nat)
  /-- A frame that a MAC sends, FCS excluded (R248). -/
  | ethFrame (mac : Nat) (frame : List Byte)
  /-- A frame that a bus port begins to transmit (R391, R409, R423). Where the bits of its XL data phase go out as PWM symbols, their short phase, long phase and sampling offset in BUS clocks (R384). -/
  | busFrame (port : Nat) (frame : BusFrame) (symbols : Option (Nat × Nat × Nat))
  /-- A bus port acknowledges a frame that it receives (R380). -/
  | busAck (port : Nat)
  /-- A bus port sends an error flag, a passive one of recessive bits (R380, R384, R395). -/
  | errorFlag (port : Nat) (passive : Bool)
  /-- A bus port sends an overload frame (R379). -/
  | overload (port : Nat)
  /-- A trace packet (R537). -/
  | trace (packet : List Byte)
  /-- Idle bytes 0x00 that the trace port drives (R536). -/
  | traceIdle (bytes : Nat)
  deriving DecidableEq, Repr

/-- Why a step stops. -/
inductive Fault where
  /-- Raised by a command that brings about one of the cases of R533, whose behaviour the manual leaves undefined; `rule` is the rule that names the case. Safe: nothing is proved about the device beyond it. -/
  | undefinedUse (rule : Nat)
  deriving DecidableEq, Repr

/-- Why a command has no meaning. -/
inductive Refusal where
  /-- Raised by the dispatcher for a command without a meaning; safe. -/
  | notModelled (mnemonic : String)
  deriving DecidableEq, Repr

/-- The state of the YG-860. DESIGN CHOICE (log 7). -/
structure State where
  /-- Commands that wait, first in, first out (the model's own). -/
  pending : List Instr
  /-- Device time (R12). -/
  now : Time
  /-- Draws of free values so far (the model's own). -/
  freeDraws : Nat
  /-- What left the device during the latest command (the model's own). -/
  out : List Out
  /-- The value the latest read command returned (the model's own). -/
  readData : W64
  hostMem : Memory
  messageStore : Memory
  appSram : Memory
  /-- Stored register bits by BAR0 offset; an unlisted register holds its reset value (R14, R567). -/
  regs : Tab W32
  /-- Tallies: by index of R541 below 512, and by BAR0 offset for those with a page of their own. -/
  tallies : Tab W32
  /-- Tallies as captured by TALLY_SNAP, and the capture instant (R542). -/
  tallySnap : Tab W32
  tallySnapTime : Time
  /-- Latched _HI words: actor code × 2^20 + offset of the _LO word (R88, R569). -/
  hiLatch : Tab W32
  cister : Cister
  ledger : Ledger
  aon : AlwaysOn
  trace : Trace
  startup : Startup
  clocks : Clocks
  /-- Lines of the event crossings: vector v of crossing 2 at v, crossing 11 at 64 (R446, R448). -/
  eventLines : Tab EventLine
  cores : Tab CoreState
  security : Security
  feedback : Feedback
  course : Course
  engine : LaneEngine
  drive : Drive
  relay : Relay
  lease : ControlLease
  pwm : Pwm
  loops : Loops
  eth : Eth
  bus : Tab BusPort
  deriving DecidableEq, Repr

/-- The device right after a cold reset that finds an always-on domain just reset. DESIGN CHOICE (log 3). DESIGN CHOICE (log 4). DESIGN CHOICE (log 5). PRESUMED (log 13). DESIGN CHOICE (log 82). DESIGN CHOICE (log 96). -/
def State.reset : State where
  pending := []
  now := 0
  freeDraws := 0
  out := []
  readData := 0
  hostMem := []
  messageStore := []
  appSram := []
  regs := []
  tallies := []
  tallySnap := []
  tallySnapTime := 0
  hiLatch := []
  cister := {}
  ledger := {}
  aon := {}
  trace := {}
  startup := {}
  clocks := {}
  eventLines := []
  cores := []
  security := {}
  feedback := {}
  course := {}
  engine := {}
  drive := {}
  relay := {}
  lease := {}
  pwm := {}
  loops := {}
  eth := {}
  bus := []

end Sys2Proof.Machine
end

