-- ==== Sys2Proof/Machine/Ops.lean ====
section
/-! DEFINITION. The operations that every unit shares: device time, outputs, memories, registers, tallies, trace packets, ledger reports, interrupts, notifications, delivery entries and completions. -/
namespace Sys2Proof.Machine

/-- Device-time units in a microsecond, a millisecond and a second (R12). -/
def usUnits : Nat := 200
def msUnits : Nat := 200000
/-- A count of clock edges differs from its nominal count by more than `tol` (R436). -/
def edgesOff (edges nominal tol : Nat) : Bool := decide (nominal + tol < edges) || decide (edges + tol < nominal)
def secUnits : Nat := 200000000

/-! ### Outputs, registers, tallies and memories -/

/-- Append to what leaves the device. -/
def emit (o : Out) (s : State) : State := { s with out := s.out ++ [o] }

/-- A free value: nothing constrains it, and the next draw is another one. DESIGN CHOICE (log 6). -/
def freeWord (s : State) : W64 := Config.freeValue s.freeDraws

/-- Count one draw of a free value. DESIGN CHOICE (log 6). -/
def drawFree (s : State) : State := { s with freeDraws := s.freeDraws + 1 }

/-- The stored bits of position `i` (and `j`) of a register: its reset value until written. -/
def rd2 (s : State) (r : Reg) (i j : Nat) : W32 := tabGet r.reset s.regs (regOff r i j)
/-- The stored bits of position `i` of a register. -/
def rd (s : State) (r : Reg) (i : Nat) : W32 := rd2 s r i 0
/-- Store the bits of position `i` (and `j`) of a register. -/
def wr2 (r : Reg) (i j : Nat) (v : W32) (s : State) : State :=
  { s with regs := tabSet r.reset s.regs (regOff r i j) v }
/-- Store the bits of position `i` of a register. -/
def wr (r : Reg) (i : Nat) (v : W32) (s : State) : State := wr2 r i 0 v s
/-- Bits `hi` to `lo` of a register. -/
def rf (s : State) (r : Reg) (i hi lo : Nat) : Nat := fld (rd s r i) hi lo
/-- Bit `b` of a register. -/
def rb (s : State) (r : Reg) (i b : Nat) : Bool := flag (rd s r i) b

/-- A tally (R541), or a counter of a page of its own by BAR0 offset. -/
def tally (s : State) (k : Nat) : W32 := tabGet 0 s.tallies k
/-- Raise a tally; every tally wraps at 2^32 (R541). -/
def bumpBy (k n : Nat) (s : State) : State :=
  { s with tallies := tabMod 0 s.tallies k (fun v => v + BitVec.ofNat 32 n) }
/-- Raise a tally by one. -/
def bump (k : Nat) (s : State) : State := bumpBy k 1 s
/-- Set a tally. -/
def setTally (k : Nat) (v : W32) (s : State) : State := { s with tallies := tabSet 0 s.tallies k v }

/-- Tally indices (R541). -/
def T.badAccess : Nat := 128
def T.doorbellReject : Nat := 129
def T.notifMerge : Nat := 130
def T.truncation : Nat := 131
def T.sweepOverrun : Nat := 132
def T.lateDispatch : Nat := 133
def T.spotRefused : Nat := 134
def T.ppsReject : Nat := 135
def T.imuStale : Nat := 136
def T.latchDrop (n : Nat) : Nat := 144 + n
def T.latchHoldoff (n : Nat) : Nat := 152 + n
def T.quadError (n : Nat) : Nat := 160 + n
def T.indexError (n : Nat) : Nat := 176 + n
def T.emuOverrun (n : Nat) : Nat := 192 + n
def T.covMiss : Nat := 196
def T.covReqMerge : Nat := 197
def T.covMarkLost : Nat := 198
def T.covOverExcl : Nat := 199
def T.covEdgeOvf : Nat := 200
/-- The eleven tallies of a MAC in R264 order. -/
def T.eth (mac k : Nat) : Nat := 208 + 16 * mac + k
def T.bankRefused (k : Nat) : Nat := 240 + k
def T.bankConflict (k : Nat) : Nat := 248 + k
def T.drvDefer (n : Nat) : Nat := 256 + n
def T.drvMinoff (n : Nat) : Nat := 320 + n
def T.drvNomotion (n : Nat) : Nat := 384 + n
def T.boostRecovered : Nat := 448
def T.boostSupplied : Nat := 449
def T.relayCrc : Nat := 450
def T.relayRetrain : Nat := 451
def T.relayLost : Nat := 452
def T.leaseLapses : Nat := 453
def T.tripIn (k : Nat) : Nat := 456 + k
def T.loopSkip : Nat := 468
def T.loopLimited : Nat := 469
def T.loopBistRuns : Nat := 470
def T.regionFaults : Nat := 471
def T.ledgerLost (k : Nat) : Nat := 472 + k
def T.xingMerge (k : Nat) : Nat := 476 + k
def T.xingLost (k : Nat) : Nat := 494 + k

/-- The byte at an address of a memory. DESIGN CHOICE (log 3). -/
def memByte (m : Memory) (a : Nat) : Byte := tabGet 0 m a
/-- Store a byte; the canonical form is kept (a zero byte is not listed). -/
def memSet (m : Memory) (a : Nat) (b : Byte) : Memory := tabSet 0 m a b
/-- `n` bytes from an address upward. -/
def memRead (m : Memory) : Nat → Nat → List Byte
  | _, 0 => []
  | a, n + 1 => memByte m a :: memRead m (a + 1) n
/-- Store bytes from an address upward. -/
def memWrite (m : Memory) : Nat → List Byte → Memory
  | _, [] => m
  | a, b :: rest => memWrite (memSet m a b) (a + 1) rest
/-- The canonical form of a memory. -/
abbrev Memory.wf (m : Memory) : Bool := tabWf (0 : Byte) m

/-- Read bytes as a device unit: from the message store for a ring on chip, from host memory otherwise. -/
def dmaRead (s : State) (onChip : Bool) (a n : Nat) : List Byte :=
  if onChip then memRead s.messageStore a n else memRead s.hostMem a n
/-- The device may issue memory requests (R67). DESIGN CHOICE (log 94). -/
def busOk (s : State) : Bool := s.cister.busMaster && !s.cister.d3hot
/-- Write bytes as a device unit; while the device may issue no memory request, a write of host memory waits (R67). DESIGN CHOICE (log 115). -/
def dmaWrite (onChip : Bool) (a : Nat) (bs : List Byte) (s : State) : State :=
  if onChip then { s with messageStore := memWrite s.messageStore a bs }
  else if busOk s then { s with hostMem := memWrite s.hostMem a bs }
  else { s with cister := { s.cister with owedWrites := s.cister.owedWrites ++ [(a, bs)] } }
/-- Carry out the writes of host memory that waited, in order (R67). DESIGN CHOICE (log 115). -/
def payWrites (s : State) : State :=
  { s with
    hostMem := s.cister.owedWrites.foldl (fun m w => memWrite m w.1 w.2) s.hostMem
    cister := { s.cister with owedWrites := [] } }
/-- Software's own writes to a memory, made visible before its doorbell (R44). -/
def applyStore (st : Store) (s : State) : State :=
  match st.space with
  | .hostMem => { s with hostMem := memWrite s.hostMem st.addr st.bytes }
  | .message => { s with messageStore := memWrite s.messageStore st.addr st.bytes }
  | .app => { s with appSram := memWrite s.appSram st.addr st.bytes }

/-! ### Trace (R535 to R540) -/

/-- Bytes in the trace FIFO. -/
def traceLevel (tr : Trace) : Nat := (tr.fifo.map List.length).foldl (· + ·) 0 - tr.sent

/-- Drive `n` bytes out of the port: packets leave in order, then idle bytes (R536, R538). -/
def traceDrain (tr : Trace) : Nat → List (List Byte) → List Out × Trace
  | n, [] => (if n = 0 then [] else [.traceIdle n], { tr with fifo := [], sent := 0 })
  | n, p :: rest =>
    let left := p.length - tr.sent
    if n < left then ([], { tr with fifo := p :: rest, sent := tr.sent + n })
    else
      let (os, tr') := traceDrain { tr with sent := 0 } (n - left) rest
      (.trace p :: os, tr')

/-- Queue a packet, or drop it whole when it finds no room (R539). -/
def tracePush (p : List Byte) (tr : Trace) : Trace :=
  if traceLevel tr + p.length ≤ 4096 then { tr with fifo := tr.fifo ++ [p] }
  else { tr with dropped := tr.dropped + 1, lost := tr.lost + 1 }

/-- A SYNC packet at a device time (R537). -/
def traceSyncPacket (t : Time) : List Byte :=
  [0x10, 0x59, 0x47, 0x38, 0x60] ++ leBytes 8 t

/-- TRACE_MASK: once the monitor has written it, a word that the manual leaves to the monitor, with source 13 always masked (R540, R577). DESIGN CHOICE (log 97). -/
def traceMask (s : State) : W32 :=
  if s.trace.masked then (Config.traceMask &&& R.TRACE_MASK.rw) ||| 0x2000#32 else rd s R.TRACE_MASK 0

/-- Whether a source emits: its bit set in TRACE_CFG.src and clear in TRACE_MASK.mask; in recovery the ROM masks every source (R540). -/
def traceOn (s : State) (src : Nat) : Bool :=
  rb s R.TRACE_CFG 0 31 && rb s R.TRACE_CFG 0 src && s.startup.phase != 8 && !flag (traceMask s) src

/-- Once room has returned after a loss, the next packets are an OVERFLOW carrying the number lost and a SYNC (R539). -/
def traceRecover (t : Time) (tr : Trace) : Trace :=
  if tr.lost ≠ 0 && traceLevel tr + 20 ≤ 4096 then
    { tr with fifo := tr.fifo ++ [0xE0 :: leBytes 2 t ++ leBytes 4 tr.lost, traceSyncPacket t], lost := 0, lastSync := t }
  else tr

/-- A packet of a source for an event at device time `t` (R537 to R539). -/
def traceAt (src sub : Nat) (t : Time) (payload : List Byte) (s : State) : State :=
  if traceOn s src then
    let tr := traceRecover s.now s.trace
    let p := BitVec.ofNat 8 (src * 16 + sub) :: leBytes 2 t ++ payload
    if tr.lost = 0 then { s with trace := tracePush p tr }
    else { s with trace := { tr with dropped := tr.dropped + 1, lost := tr.lost + 1 } }
  else s

/-- A packet of a source, its event at the present device time. -/
def traceEvent (src sub : Nat) (payload : List Byte) (s : State) : State := traceAt src sub s.now payload s

/-- The byte that the enabled port drives next, 0x00 when idle; none while all nine of its balls are low (R536). -/
def plagerByte (s : State) : Option Byte :=
  if rb s R.TRACE_CFG 0 31 then some ((s.trace.fifo.flatten.drop s.trace.sent).head?.getD 0) else none

/-- The port over `units` of device time: an enabled one drives a byte at each edge of PLAGER_CLK, 3 bytes in 2 units (R536). -/
def tracePass (s : State) (units : Nat) : List Out × Trace :=
  if rb s R.TRACE_CFG 0 31 then
    let halves := units * 3 + s.trace.half
    traceDrain { s.trace with half := halves % 2 } (halves / 2) s.trace.fifo
  else ([], s.trace)

/-- The start of every command: device time advances to the command's instant, the port drives out the bytes that time allows, and the outputs of the command before are gone. DESIGN CHOICE (log 2). -/
def begin' (t : Time) (s : State) : State :=
  let now := if s.now < t then t else s.now
  let (os, tr) := tracePass s (now - s.now)
  { s with now := now, out := os, trace := tr }

/-! ### Owners under the charter (R466, R468, R571) -/

/-- A byte of the charter body; every byte of the default charter names host software, owner 0 (R466). DESIGN CHOICE (log 91). -/
def charterByte (s : State) (off : Nat) : Nat := u8 s.security.charter off
/-- The code of an actor (R468, R576): 0 host software, 1 to 4 core 0 to 3. -/
def actorCode : Actor → Nat
  | .host => 0
  | .core k => k.val + 1
/-- An owner code, with a core's resource held by nobody while no valid firmware exists (R466). -/
def effOwner (s : State) (code : Nat) : Nat :=
  if code = 0 then 0 else if s.security.fwValid then code else 0xF
def drvOwner (s : State) (n : Nat) : Nat := effOwner s (charterByte s n)
def pwmOwner (s : State) (n : Nat) : Nat := effOwner s (charterByte s (64 + n))
def busOwner (s : State) (n : Nat) : Nat := effOwner s (charterByte s (112 + n))
def ringOwner (s : State) (n : Nat) : Nat := effOwner s (charterByte s (144 + n) % 16)
def ethOwner (s : State) (n : Nat) : Nat := effOwner s (charterByte s (272 + n))
def profileOwner (s : State) : Nat := effOwner s (charterByte s 274)
def tripOwner (s : State) : Nat := effOwner s (charterByte s 275)
def pwmGlobalOwner (s : State) : Nat := effOwner s (charterByte s 276)
def pwmModuleOwner (s : State) (m : Nat) : Nat := effOwner s (charterByte s (278 + m))

/-! ### Ledger reports (R487 to R493) -/

/-- RTC milliseconds since 2000-01-01 at the present device time (R491). DESIGN CHOICE (log 91). -/
def rtcNow (s : State) : Nat := s.aon.rtcMillis + (s.now - s.aon.rtcAt) / msUnits

/-- The stamp of a record queued now in a stream: its form flag and its 8 bytes (R490). -/
def ledgerStamp (s : State) (stream : Nat) : Bool × Nat :=
  let op := rb s R.LEDGER_CFG 0 stream || !s.aon.rtcValid || bitOf s.clocks.faults 5
  if op then (true, s.aon.opSeconds % 2 ^ 32 + s.aon.powerCycles * 2 ^ 32)
  else (false, rtcNow s / 1000 % 2 ^ 32 + rtcNow s % 1000 * 2 ^ 32)

def lstream (s : State) (k : Nat) : LStream := tabGet {} s.ledger.streams k
def setLStream (k : Nat) (l : LStream) (s : State) : State :=
  { s with ledger := { s.ledger with streams := tabSet {} s.ledger.streams k l } }

/-- The first waiting record with a code, coalesced with a new occurrence at `now` (R493). -/
def coalesce (code now : Nat) : List LedgerRec → Option (List LedgerRec)
  | [] => none
  | r :: rest =>
    if r.code = code then
      some ({ r with repeats := capNat 0xFFFF (r.repeats + 1), coalesced := true,
                     last := capNat 0xFFFF (roundDivNat (now - r.at') (10 * msUnits)) } :: rest)
    else match coalesce code now rest with
      | none => none
      | some l => some (r :: l)

/-- A record as it enters its input queue (R490). -/
def mkRecord (s : State) (stream code payload : Nat) : LedgerRec :=
  let st := ledgerStamp s stream
  { code := code, stream := stream, opForm := st.1, stamp := st.2, payload := payload, at' := s.now }

/-! ### Clock-domain crossings (R449, R450) -/

/-- Whether the far side of a crossing is in reset, as far as a domain or the link tells (R448). -/
def farInReset (s : State) (k : Nat) : Bool :=
  if k ≤ 2 then !s.cister.perstHigh || !s.clocks.pipeLock
  else if k = 3 || k = 4 || k = 5 || k = 6 then s.clocks.fbReset
  else if k = 8 || k = 12 || k = 13 then s.clocks.busReset
  else if k = 9 || k = 14 || k = 15 then s.clocks.ethReset
  else false

/-- An item offered to crossing `k` is lost: its far side is in reset, seen already or not (R449). -/
def crossDown (s : State) (k : Nat) : Bool := s.clocks.farDown.contains k || farInReset s k

/-- Pass one item over crossing `k`: while the far side is in reset it is discarded and counted, and the first discard of an episode raises notification kind 0x35 (R449, R450). `note` raises the notification. -/
def crossWith (note : Nat → Nat → Nat → State → State) (k : Nat) (f : State → State) (s : State) : State :=
  if crossDown s k then
    let s' := bump (T.xingLost k) s
    if s.clocks.discarding.contains k then s'
    else note 0x35 k (tally s' (T.xingLost k)).toNat
      { s' with clocks := { s'.clocks with discarding := s'.clocks.discarding ++ [k] } }
  else f s

/-- The longest acknowledge phase of an event crossing, in whole device-time units: 1 s + 3 d + 3 s of R445 is 19 ns for crossing 2 and 13.3 ns for crossing 11. DESIGN CHOICE (log 18). -/
def phaseUnits (line : Nat) : Nat := if line < 64 then 4 else 3

/-- One pulse on a line of an event crossing: it starts a phase, becomes the pending event, or joins the pending one (R446). The second part is whether the far side sees an event for it. -/
def eventPulse (now : Time) (phase : Nat) (l : EventLine) : EventLine × Bool :=
  match l.since with
  | none => ({ since := some now }, true)
  | some t0 =>
    if now < t0 + phase then (if l.pends then (l, false) else ({ l with pends := true }, true))
    else if l.pends && now < t0 + 2 * phase then ({ since := some (t0 + phase), pends := true }, true)
    else ({ since := some now }, true)

/-- `m` pulses of one source clock on a line of event crossing `k`: those that join others count in the merge tally (R446). -/
def eventPulses (k line m : Nat) (s : State) : State :=
  if m = 0 then s
  else
    let (l, seen) := eventPulse s.now (phaseUnits line) (tabGet {} s.eventLines line)
    let joined := m - 1 + b2n (!seen)
    let s := { s with eventLines := tabSet {} s.eventLines line l }
    if joined = 0 then s else bumpBy (T.xingMerge k) joined s

/-- The line of crossing 11 (R448). -/
def pwmLine : Nat := 64

/-! ### Interrupts (R60, R62, R63, R71) -/

def ringReset (n : Nat) : Ring :=
  let code : Nat :=
    if n < 8 then 0x201 else if n < 16 then 0x002 else if n < 48 then 0x103 else if n < 80 then 0x104
    else if n < 82 then 0x105 else if n < 84 then 0x706 else if n = 84 then 0x007 else if n = 85 then 0x108
    else if n = 86 then 0x109 else if n = 87 then 0x20A else if n = 88 then 0x20B else if n = 89 then 0x20C
    else if n = 90 then 0x10D else 0
  { cfg := BitVec.ofNat 32 code }

def ring (s : State) (n : Nat) : Ring := tabGet (ringReset n) s.cister.rings n
def setRing (n : Nat) (r : Ring) (s : State) : State :=
  { s with cister := { s.cister with rings := tabSet (ringReset n) s.cister.rings n r } }
def modRing (n : Nat) (f : Ring → Ring) (s : State) : State := setRing n (f (ring s n)) s

/-- Field accessors of CISTER_RING_CFG (R72). -/
def Ring.enable (r : Ring) : Bool := flag r.cfg 31
def Ring.onChip (r : Ring) : Bool := flag r.cfg 30
def Ring.cmpMode (r : Ring) : Nat := fld r.cfg 29 28
/-- The context index of the completion ring (R72). -/
def Ring.cmpRing (r : Ring) : Nat := 8 + fld r.cfg 27 25
def Ring.irqEn (r : Ring) : Bool := flag r.cfg 24
def Ring.vector (r : Ring) : Nat := fld r.cfg 23 18
/-- The entry size: a spare context of kind loop output takes entry_code 1 (R72). -/
def Ring.entryCode (r : Ring) : Nat := if fld r.cfg 3 0 = 0xE then 1 else fld r.cfg 11 8
def Ring.entryBytes (r : Ring) : Nat := 2 ^ (r.entryCode + 4)
def Ring.entries (r : Ring) : Nat := 2 ^ (fld r.cfg 7 4 + 4)
def Ring.kind (r : Ring) : Nat := fld r.cfg 3 0
/-- The ring runs: enabled and not stopped by a fault (R64, R66). -/
def Ring.running (r : Ring) : Bool := r.enable && !r.stop
/-- The memory address of the entry with a free-running index (R40, R71). -/
def Ring.entryAddr (r : Ring) (i : W32) : Nat :=
  (if r.onChip then r.baseLo.toNat else r.baseHi.toNat * 2 ^ 32 + r.baseLo.toNat)
    + (i.toNat % r.entries) * r.entryBytes
/-- Whether a kind code names a ring that software writes (R39, R73). -/
def postKind (k : Nat) : Bool := k = 1 || k = 3 || k = 5 || k = 8 || k = 9 || k = 0xA || k = 0xB
def Ring.isPost (r : Ring) : Bool := postKind r.kind
/-- A delivery ring whose entries software all owns (R42). -/
def Ring.fullNow (r : Ring) : Bool := decide (r.entries ≤ (r.d - r.s).toNat)
/-- Disabled with nothing outstanding (R74). -/
def Ring.idle (r : Ring) : Bool := !r.running && r.fetched.isEmpty && r.backlog.isEmpty

/-- A ring is reachable: on chip, or the device may issue memory requests. -/
def reachable (s : State) (r : Ring) : Bool := r.onChip || busOk s

/-- The MSI-X mask bit of a vector: bit 0 of the fourth word of its table entry, set after reset. PRESUMED (log 13). -/
def vectorMasked (s : State) (v : Nat) : Bool := flag (tabGet 1 s.cister.msixTable (4 * v + 3)) 0
/-- A message of a vector is withheld (R63, R67). -/
def withheld (s : State) (v : Nat) : Bool := s.cister.functionMask || vectorMasked s v || !busOk s

/-- Write the 8-byte index mirror of a ring (R59); a ring on chip has none (R71). -/
def mirrorWrite (n : Nat) (s : State) : State :=
  let r := ring s n
  let lo := rd s R.CISTER_MIRROR_BASE_LO 0
  let hi := rd s R.CISTER_MIRROR_BASE_HI 0
  let drops := if r.isPost then (0 : W32) else tally s n
  if flag lo 0 && !r.onChip && busOk s then
    dmaWrite false (hi.toNat * 2 ^ 32 + (lo.toNat - lo.toNat % 1024) + 8 * n)
      (leBytes 4 r.d.toNat ++ leBytes 4 drops.toNat) s
  else s

/-- Write every mirror that is behind D: it precedes any message that signals the change (R60). -/
def mirrorFlush (s : State) : State :=
  if busOk s then
    let s' := s.cister.mirrorDue.foldl (fun s n => mirrorWrite n s) s
    { s' with cister := { s'.cister with mirrorDue := [] } }
  else s

/-- Note that a ring's D has moved (R60). DEDUCED (log 22). -/
def mirrorMark (n : Nat) (s : State) : State :=
  if s.cister.mirrorDue.contains n || (ring s n).onChip then s
  else { s with cister := { s.cister with mirrorDue := s.cister.mirrorDue ++ [n] } }

/-- Put a message of a vector on its line of crossing 2; what the far side sees of it leaves, after the mirrors (R60, R446, R448). DESIGN CHOICE (log 18). -/
def sendVector (v : Nat) (s : State) : State :=
  let s := mirrorFlush s
  let seen := (eventPulse s.now (phaseUnits v) (tabGet {} s.eventLines v)).2
  let s := eventPulses 2 v 1 s
  if seen then emit (.msix v) s else s

/-- Send a message of line `line` (vector, or core line at 64 + k), or set the pending bit of a withheld vector (R62, R63, R71). -/
def sendLine (line : Nat) (s : State) : State :=
  if 64 ≤ line then emit (.coreLine (line - 64)) s
  else if withheld s line then
    if s.cister.msixPending.contains line then s
    else { s with cister := { s.cister with msixPending := s.cister.msixPending ++ [line] } }
  else sendVector line s

/-- The moderation setting of a line: count and holdoff in microseconds (R75). -/
def modCount (s : State) (line : Nat) : Nat :=
  let w := if 64 ≤ line then rd s R.CISTER_CORE_MOD (line - 64) else rd s R.CISTER_MSIX_MOD line
  if fld w 7 0 = 0 then 1 else fld w 7 0
def modHoldoff (s : State) (line : Nat) : Nat :=
  let w := if 64 ≤ line then rd s R.CISTER_CORE_MOD (line - 64) else rd s R.CISTER_MSIX_MOD line
  capNat 10000 (fld w 31 16)

def moderation (s : State) (line : Nat) : Moderation := tabGet {} s.cister.moderation line
def setModeration (line : Nat) (m : Moderation) (s : State) : State :=
  { s with cister := { s.cister with moderation := tabSet {} s.cister.moderation line m } }

/-- Device time in whole microseconds. -/
def nowUs (s : State) : Nat := s.now / usUnits

/-- A signalled event of a line (R62). DESIGN CHOICE (log 14). DESIGN CHOICE (log 93). -/
def signalLine (line : Nat) (doneIrq : Bool) (s : State) : State :=
  let m := moderation s line
  let first := if m.pending = 0 then nowUs s else m.first
  if doneIrq || modCount s line ≤ m.pending + 1 || modHoldoff s line ≤ nowUs s - first then
    setModeration line { pending := 0, first := first } (sendLine line s)
  else setModeration line { pending := m.pending + 1, first := first } s

/-- A ring signals its vector, or its core line for a ring on chip (R62, R71). DESIGN CHOICE (log 112). -/
def signalRing (n : Nat) (doneIrq : Bool) (s : State) : State :=
  let r := ring s n
  if r.irqEn then
    if r.onChip then (if r.vector < 4 then signalLine (64 + r.vector) doneIrq s else s)
    else signalLine r.vector doneIrq s
  else s

/-! ### Delivery entries (R48, R50 to R55, R61, R65, R581) -/

/-- The phase bit of an entry with index `i` in a ring of `n` entries (R48). -/
def phaseBit (n : Nat) (i : W32) : Nat := if i.toNat / n % 2 = 0 then 2 ^ 31 else 0

/-- Write the next entry of a delivery ring: its first word carries the phase bit, D advances, and the ring signals (R48, R62). -/
def putEntry (n : Nat) (head : Nat) (rest : List Byte) (doneIrq : Bool) (s : State) : State :=
  let r := ring s n
  let s := dmaWrite r.onChip (r.entryAddr r.d) (leBytes 4 (head % 2 ^ 31 + phaseBit r.entries r.d) ++ rest) s
  let s := modRing n (fun r => { r with d := r.d + 1, drops := 0, episode := false }) s
  signalRing n doneIrq (mirrorMark n s)

/-- Write a record with the header of R51, truncated to the entry (R52), and `zeros` reserved bytes behind it (R16). -/
def putPadded (n kind : Nat) (drops : Nat) (record : List Byte) (zeros : Nat) (s : State) : State :=
  let room := (ring s n).entryBytes - 8
  let cut := decide (room < record.length)
  let s := if cut then bump T.truncation s else s
  putEntry n (b2n cut * 2 ^ 30 + kind % 256 * 2 ^ 16 + record.length % 2 ^ 16)
    (leBytes 4 (capNat 0xFFFFFFFF drops) ++ (record ++ List.replicate zeros 0).take room) false s

/-- Write a record without reserved bytes behind it. -/
def putRecord (n kind : Nat) (drops : Nat) (record : List Byte) (s : State) : State := putPadded n kind drops record 0 s

/-- The ring can take an entry now. -/
def canPut (s : State) (n : Nat) : Bool :=
  let r := ring s n
  r.running && reachable s r && !r.fullNow

def notif (s : State) (k : Nat) : Notif := tabGet {} s.cister.notifs k
def setNotif (k : Nat) (x : Notif) (s : State) : State :=
  { s with cister := { s.cister with notifs := tabSet {} s.cister.notifs k x } }

/-- The notification ring's context. -/
def notifRing : Nat := 90

/-- Write waiting notifications, oldest kind first, while the ring takes entries (R54). -/
def notifFlush : Nat → State → State
  | 0, s => s
  | fuel + 1, s =>
    match s.cister.notifWait with
    | [] => s
    | k :: rest =>
      if canPut s notifRing then
        let x := notif s k
        let s := { s with cister := { s.cister with notifWait := rest } }
        match x.waiting with
        | none => notifFlush fuel s
        | some b =>
          let i := (ring s notifRing).d
          let s := putRecord notifRing k b.count
            (leBytes 4 b.subject.toNat ++ leBytes 4 b.detail.toNat ++ leBytes 8 b.last ++ leBytes 8 b.first) s
          notifFlush fuel (setNotif k { x with waiting := none, written := some i } s)
      else s

/-- Raise a notification of kind `k` for an occurrence at time `t` (R53, R54). While the notification ring does not run, kind 0x01 waits (R64) and every other kind is dropped and counted (R65). -/
def notifyAt (k subject detail : Nat) (t : Time) (s : State) : State :=
  let sub := BitVec.ofNat 32 subject
  let det := BitVec.ofNat 32 detail
  if !(ring s notifRing).running && k ≠ 1 then bump notifRing s
  else
    let x := notif s k
    match x.waiting, x.written with
    | some b, _ =>
      setNotif k { x with waiting := some { b with count := b.count + 1, subject := sub, detail := det, last := t } }
        (bump T.notifMerge s)
    | none, some _ =>
      let b := match x.merged with
        | none => { count := 1, subject := sub, detail := det, first := t, last := t }
        | some b => { b with count := b.count + 1, subject := sub, detail := det, last := t }
      setNotif k { x with merged := some b } (bump T.notifMerge s)
    | none, none =>
      let s := setNotif k { x with waiting := some { count := 0, subject := sub, detail := det, first := t, last := t } } s
      notifFlush 64 { s with cister := { s.cister with notifWait := s.cister.notifWait ++ [k] } }

/-- Raise a notification now. DESIGN CHOICE (log 15). -/
def notify (k subject detail : Nat) (s : State) : State := notifyAt k subject detail s.now s

/-- Pass one item over crossing `k` (R449). DESIGN CHOICE (log 93). -/
def cross (k : Nat) (f : State → State) (s : State) : State := crossWith notify k f s

/-- A delivery ring drops a record: the drop tally, the drops field, and the drop episode (R61, R65, R581). -/
def dropRecord (n : Nat) (s : State) : State :=
  let r := ring s n
  let s := bump n (setRing n { r with drops := capNat 0xFFFFFFFF (r.drops + 1), episode := true } s)
  if r.episode then s else notify 0x02 n 1 s

/-- Deliver a record to a receive or loop-output ring, or drop it (R51, R61, R65). -/
def deliver (n kind : Nat) (record : List Byte) (s : State) : State :=
  if canPut s n then putRecord n kind (ring s n).drops record s else dropRecord n s

/-! ### Ledger reports, continued -/

/-- Queue a record in a stream's input; at a full queue it coalesces or is dropped and counted (R493). -/
def ledgerQueue (rec : LedgerRec) (s : State) : State :=
  let k := rec.stream
  let l := lstream s k
  if l.queue.length < 64 then setLStream k { l with queue := l.queue ++ [rec] } s
  else
    match coalesce rec.code s.now l.queue with
    | some q => setLStream k { l with queue := q } s
    | none =>
      let s := bump (T.ledgerLost k) (setLStream k { l with lostDue := l.lostDue + 1, dropping := true } s)
      if l.dropping then s else notify 0x3C k (tally s (T.ledgerLost k)).toNat s

/-- Report an event to a stream with a unit record's payload: subject, detail and device time (R488). -/
def ledgerReport (stream code subject detail : Nat) (s : State) : State :=
  ledgerQueue (mkRecord s stream code
    (subject % 2 ^ 32 + detail % 2 ^ 32 * 2 ^ 32 + s.now % 2 ^ 64 * 2 ^ 64)) s

/-- The streams (R485). -/
def streamFault : Nat := 0
def streamSafety : Nat := 1
def streamAudit : Nat := 2
def streamSecurity : Nat := 3

/-! ### Completions (R41, R43, R46, R47, R50, R61) -/

/-- Advance D past the leading completed entries, one at a time (R41); a ring in mode none signals each advance (R62). What was fetched before the ring was last enabled leaves without moving D (R64). -/
def releaseDone : Nat → Nat → State → State
  | 0, _, s => s
  | fuel + 1, n, s =>
    let r := ring s n
    match r.fetched with
    | [] => s
    | x :: rest =>
      if x.phase = .done then
        if r.leftover then
          releaseDone fuel n (setRing n { r with fetched := rest, leftover := !rest.isEmpty } s)
        else
        let s := mirrorMark n (setRing n { r with fetched := rest, d := r.d + 1 } s)
        releaseDone fuel n (if r.cmpMode = 0 then signalRing n (bitOf (u8 x.bytes 2) 0) s else s)
      else s

/-- Set the phase of the fetched descriptor with an index. -/
def setPhase (i : W32) (p : DescPhase) (l : List Desc) : List Desc :=
  l.map (fun x => if x.index = i then { x with phase := p } else x)

/-- Mark a descriptor completed with a status and release what can be released (R41, R537). -/
def markDone (n : Nat) (status : Nat) (i : W32) (s : State) : State :=
  let s := traceEvent 11 1 ([BitVec.ofNat 8 n, 0] ++ leBytes 2 status ++ leBytes 4 i.toNat) s
  let s := modRing n (fun r => { r with fetched := setPhase i .done r.fetched }) s
  releaseDone (ring s n).fetched.length n s

/-- Write a completion-ring entry (R50). DEDUCED (log 19). -/
def putCompletion (c n : Nat) (h : HeldCmp) (s : State) : State :=
  putEntry c (n * 2 ^ 24 + h.status % 2 ^ 16)
    (leBytes 2 h.tag ++ [0, 0] ++ leBytes 4 h.index.toNat ++ leBytes 4 h.result.toNat) h.doneIrq s

/-- Write a descriptor's in-place status; the entry is released, and the ring signals the status written (R45, R46, R62). Its mirror precedes the message (R60). -/
def putStatus (n : Nat) (h : HeldCmp) (s : State) : State :=
  let r := ring s n
  let s := dmaWrite r.onChip (r.entryAddr h.index + 6) (leBytes 2 (h.status % 2 ^ 15 + 2 ^ 15)) s
  signalRing n h.doneIrq (markDone n h.status h.index s)

/-- A ring that writes no completion entry has a write of host memory outstanding before a descriptor of it can complete (R41, R67). DESIGN CHOICE (log 115). -/
def waitsForBus (s : State) (r : Ring) : Bool :=
  !reachable s r && (r.cmpMode = 1 || !s.cister.owedWrites.isEmpty)

/-- Complete descriptor `x` of post ring `n` with a status and a result, in the ring's completion mode (R46); a completion that its memory cannot take yet is held (R61, R67). -/
def complete (n : Nat) (x : Desc) (status : Nat) (result : W32) (s : State) : State :=
  let r := ring s n
  let i := x.index
  let doneIrq := bitOf (u8 x.bytes 2) 0
  let quiet := bitOf (u8 x.bytes 2) 1
  let h : HeldCmp := { index := i, tag := u16 x.bytes 4, status := status, result := result, doneIrq := doneIrq }
  let held : State := setRing n { r with backlog := r.backlog ++ [h], fetched := setPhase i .held r.fetched } s
  if r.cmpMode = 2 then
    if quiet && status = 0 then markDone n status i s
    else if !(ring s r.cmpRing).running then markDone n status i (dropRecord r.cmpRing s)
    else if r.backlog.isEmpty && canPut s r.cmpRing then markDone n status i (putCompletion r.cmpRing n h s)
    else held
  else if waitsForBus s r then held
  else if r.cmpMode = 1 then putStatus n h s
  else markDone n status i s

/-- Write the held completions of post ring `n` that its completion ring, or host memory, now takes, or drop them if the completion ring is disabled (R61, R65, R67). -/
def drainBacklog : Nat → Nat → State → State
  | 0, _, s => s
  | fuel + 1, n, s =>
    let r := ring s n
    match r.backlog with
    | [] => s
    | h :: rest =>
      let c := r.cmpRing
      let s' := setRing n { r with backlog := rest } s
      if r.cmpMode ≠ 2 then
        if !reachable s r then s
        else drainBacklog fuel n (if r.cmpMode = 1 then putStatus n h s' else markDone n h.status h.index s')
      else if !(ring s c).running then drainBacklog fuel n (markDone n h.status h.index (dropRecord c s'))
      else if canPut s c then drainBacklog fuel n (markDone n h.status h.index (putCompletion c n h s'))
      else s

/-- Write held completions of every ring that completes into ring `c`, in ascending ring order. DESIGN CHOICE (log 110). -/
def drainInto (c : Nat) (s : State) : State :=
  (s.cister.rings.map (·.1)).foldl
    (fun s n => if (ring s n).isPost && (ring s n).cmpMode = 2 && (ring s n).cmpRing = c
      then drainBacklog (ring s n).backlog.length n s else s) s

/-- Write the held completions of every ring, in ascending ring order, as far as their memory takes them (R61, R67). -/
def drainAll (s : State) : State :=
  (s.cister.rings.map (·.1)).foldl (fun s n => drainBacklog (ring s n).backlog.length n s) s

/-! ### Descriptors in execution -/

/-- The oldest fetched descriptor of a ring that waits for execution. -/
def nextDesc (s : State) (n : Nat) : Option Desc :=
  (ring s n).fetched.find? (fun x => decide (x.phase = .waiting))

/-- Mark a fetched descriptor as in execution (R65). -/
def markRunning (n : Nat) (i : W32) (s : State) : State :=
  modRing n (fun r => { r with fetched := setPhase i .running r.fetched }) s

/-- The fetched descriptor of ring `n` with an index, if it is still outstanding. -/
def descAt (s : State) (n : Nat) (i : W32) : Option Desc :=
  (ring s n).fetched.find? (fun x => decide (x.index = i))

/-- Complete the running descriptor `i` of ring `n`, if it is outstanding. -/
def completeAt (n : Nat) (i : W32) (status : Nat) (result : W32) (s : State) : State :=
  match descAt s n i with
  | none => s
  | some x => complete n x status result s

end Sys2Proof.Machine
end

