-- ==== Sys2Proof/Machine/Access.lean ====
section
/-! DEFINITION. What every access to BAR0 or its alias passes through before a register acts on it: recovery, access size, assignment, start-up state, owner and lock (R38, R515, R568 to R577). -/
namespace Sys2Proof.Machine

/-- What becomes of a write before its register sees it. -/
inductive Gate where
  | allow
  /-- Ignored without counting (R574, R573, R17). -/
  | ignore
  /-- Ignored and counted under R568 with a cause of ID_BADACC. -/
  | bad (cause : Nat)
  deriving DecidableEq, Repr

/-- Count a bad access, and capture the first one since ID_BADACC.valid was cleared (R568, R576). DESIGN CHOICE (log 23). -/
def badAccess (a : Actor) (write : Bool) (cause : Nat) (bar2 : Bool) (off : Nat) (s : State) : State :=
  let s := bump T.badAccess s
  if flag s.security.badAcc 31 then s
  else
    let w := 2 ^ 31 + b2n write * 2 ^ 30 + actorCode a * 2 ^ 27 + cause * 2 ^ 24 + b2n bar2 * 2 ^ 23 + off % 2 ^ 20
    { s with security := { s.security with badAcc := BitVec.ofNat 32 w } }

/-- The start-up state has reached firmware: owners exist and set-up writes take effect (R515, R516). -/
def setupOpen (s : State) : Bool := 3 ≤ s.startup.phase && s.startup.phase ≤ 7
/-- The operational state (R514). -/
def operational (s : State) : Bool := s.startup.phase = 7
def inRecovery (s : State) : Bool := s.startup.phase = 8

/-- The 4 KiB page of a BAR0 offset (R567). -/
def pageOf (off : Nat) : Nat := off / 0x1000

/-- Registers that also accept an 8-byte write at their offset (R569). -/
def pairAt (off : Nat) : Bool :=
  regHas R.PWM_CMP off || regHas R.EMU_NUM off || off = R.LEDGER_CURSOR_LO.base

/-- A BAR0 offset with a register, a word of the MSI-X table, or of its pending bits (R567). -/
def assigned (off : Nat) : Bool :=
  (regAt off).isSome || (0xFE000 ≤ off && off < 0xFE400) || (0xFF000 ≤ off && off < 0xFF008)

/-- Registers of the ledger page that the owner of ring 89 writes (R506). -/
def ledgerOwned (off : Nat) : Bool :=
  off = R.LEDGER_CFG.base || off = R.LEDGER_CURSOR_LO.base || off = R.LEDGER_CURSOR_HI.base
    || off = R.LEDGER_RTC_SET.base || off = R.LEDGER_RTC_CTRL.base || off = R.LEDGER_EXPORT.base
    || regHas R.LEDGER_AUDIT off

/-- Whether an actor owns the register at an assigned offset (R571, R573, R348, R353, R400). -/
def owns (s : State) (a : Actor) (off : Nat) : Bool :=
  let me := actorCode a
  let is (code : Nat) : Bool := me = code
  let p := pageOf off
  let o := off % 0x1000
  if p = 0x02 then
    (if regHas R.CISTER_CORE_MOD off then a ≠ .host else a = .host)
  else if p = 0x00 || p = 0x04 || p = 0x06 || p = 0xFE || p = 0xFF then a = .host
  else if p = 0x01 then is (ringOwner s (o / 0x20))
  else if p = 0x03 then a = .host
  else if p = 0x05 then is (ringOwner s 89)
  else if p = 0x08 || p = 0x09 then is (ringOwner s 87)
  else if p = 0x0A then is (ringOwner s 0)
  else if p = 0x0B then is (if 0x100 ≤ o && o < 0x200 then ethOwner s 1 else ethOwner s 0)
  else if p = 0x0C then off = R.LOOP_BIST_REQ.base || is (ringOwner s 88)
  else if p = 0x10 || p = 0x12 then
    if off = R.LEASE_REQ.base then true
    else if o < 0x800 then is (drvOwner s (o / 0x20))
    else if o < 0xC00 then is (drvOwner s (8 * ((o - 0x800) / 0x10)))
    else is (drvOwner s 0)
  else if p = 0x11 then is (profileOwner s)
  else if p = 0x14 then
    if o < 0x800 then is (pwmOwner s (o / 0x20))
    else if o < 0xA00 then is (pwmModuleOwner s ((o - 0x800) / 0x10))
    else if o < 0xB00 then is (tripOwner s)
    else is (pwmGlobalOwner s)
  else if p = 0x18 then is (busOwner s (o / 0x80))
  else if 0x19 ≤ p && p ≤ 0x20 then is (busOwner s (4 * (p - 0x19) + o / 0x400))
  else false

/-- Whether a register that software may write at all stands at an offset: a write to a register that is read-only throughout is ignored by its access code (R14, R17). -/
def writable (off : Nat) : Bool :=
  match regAt off with
  | some r => r.rw ≠ 0 || r.w1c ≠ 0 || r.wo ≠ 0
  | none => 0xFE000 ≤ off && off < 0xFE400

/-- The fields the monitor locks (R577). -/
def lockable (off : Nat) : Bool := off = R.LOOP_BIST_CFG.base || off = R.TRACE_MASK.base

/-- An access of an actor reaches the device: one of host software once the endpoint answers (R515), one of a core while it runs (R461). -/
def reaches (s : State) : Actor → Bool
  | .host => s.cister.endpointReady
  | .core k => decide ((tabGet {} s.cores k).run = 1)

/-- The gate of a write of `size` bytes at a BAR0 offset by an actor. Writes to LEASE_CFG and LEASE_STAT count, whoever makes them (R330), and outside recovery so do those to page 0x03, which nobody owns (R571). DESIGN CHOICE (log 17). DESIGN CHOICE (log 23). -/
def gateWrite (s : State) (a : Actor) (off size : Nat) : Gate :=
  let p := pageOf off
  let core := decide (a ≠ .host)
  let cursor := off = R.LEDGER_CURSOR_LO.base || off = R.LEDGER_CURSOR_HI.base
  if !reaches s a then .ignore
  else if inRecovery s && !(p = 0x00 || p = 0x03 || cursor) then .ignore
  else if core && (p = 0xFE || p = 0xFF) then .ignore
  else if !((size = 4 && off % 4 = 0) || (size = 8 && off % 8 = 0 && pairAt off)) then .bad 2
  else if !assigned off then .bad 1
  else if inRecovery s then (if a = .host then .allow else .bad 3)
  else if !setupOpen s && !(p = 0x00 || p = 0x03 || p = 0x04 || cursor) then .bad 4
  else if off = R.LEASE_CFG.base || off = R.LEASE_STAT.base || p = 0x03 then .bad 3
  else if (p = 0x05 && !ledgerOwned off) || (p = 0x12 && 0xC00 ≤ off % 0x1000 && !writable off) then .ignore
  else if !setupOpen s && cursor then (if a = .host then .allow else .bad 3)
  else if lockable off && s.security.locked then .bad 5
  else if !owns s a off then .bad 3
  else if !writable off then .ignore
  else .allow

/-- Pass a write through its gate to what its register does with it. -/
def gated (a : Actor) (off size : Nat) (f : State → State) (s : State) : State :=
  match gateWrite s a off size with
  | .allow => f s
  | .ignore => s
  | .bad c => badAccess a true c false off s

/-- Pass a write that sets an output unit's enable: before the operational state it is ignored and counted (R516). -/
def gatedEnable (a : Actor) (off size : Nat) (f : State → State) (s : State) : State :=
  gated a off size (fun s => if operational s then f s else badAccess a true 4 false off s) s

end Sys2Proof.Machine
end

