-- ==== Sys2Proof/Machine/Hooks.lean ====
section
/-! DEFINITION. What the host side sets in motion in other units: the inhibit of caravan 0, the tile requests that wait for ring 84, a bus transmit ring that stops, and the clock and the ears of a bus port (R69, R83, R33, R65, R380, R407, R410). -/
namespace Sys2Proof.Machine

/-- Inhibit caravan 0 exactly as an INHIBIT waybill would: its own_enable becomes 0 (R69, R83, R162). -/
def rootInhibit (s : State) : State :=
  let d : Caravan := { configured := true, ownEnable := true, factor := 0x1000, reverse := true }
  { s with engine := { s.engine with
      caravans := tabMod d s.engine.caravans 0 (fun c => { c with ownEnable := false }) } }

def tileSlot (s : State) (i : Nat) : TileSlot := tabGet {} s.engine.coverage.slots i
def setTileSlot (i : Nat) (x : TileSlot) (s : State) : State :=
  { s with engine := { s.engine with coverage := { s.engine.coverage with
      slots := tabSet {} s.engine.coverage.slots i x } } }

/-- The tile-request ring. -/
def tileRing : Nat := 84

/-- The load that the SUPPLY of ring 85 with index `i` began has failed: its slot is again as the SUPPLY found it (R47, R66). -/
def dropLoad (i : W32) (s : State) : State :=
  let held (p : TilePrior) : Bool :=
    s.engine.coverage.slots.any (fun e => e.2.st ≠ .free && decide (e.2.tx = p.tx) && decide (e.2.ty = p.ty) && e.2.load.isNone)
  { s with engine := { s.engine with coverage := { s.engine.coverage with
      slots := tabMap {} (fun x =>
        match x.load with
        | none => x
        | some ld =>
          if ld.index ≠ some i || ld.done then x
          else if x.st ≠ .requested then { x with load := none }
          else
            let p := ld.prior
            if held p then {}
            else { st := p.st, tx := p.tx, ty := p.ty, fill := p.fill, cells := p.cells, marked := p.marked
                   touched := p.touched, pinnedAt := p.pinnedAt, owesRequest := p.owesRequest }) s.engine.coverage.slots } } }

/-- The writeback buffers are gone: a tile being copied out is dirty again, and a FLUSH that waited for its copy waits to begin (R68, R238). DESIGN CHOICE (log 114). -/
def dropBuffers (s : State) : State :=
  let flushes := s.engine.coverage.slots.filterMap (fun e => e.2.write.bind (·.forDesc))
  let s := { s with engine := { s.engine with coverage := { s.engine.coverage with
      buffers := []
      slots := tabMap {} (fun x =>
        if x.st = .writing then { x with st := .dirty, remarked := 0, write := none } else x) s.engine.coverage.slots } } }
  modRing 85 (fun r => { r with fetched := flushes.foldl (fun l i => setPhase i .waiting l) r.fetched }) s

/-- Post the request of slot `i`, or leave it waiting as a flag on the slot (R33, R232). -/
def tilePost (i kind : Nat) (s : State) : State :=
  let x := tileSlot s i
  if canPut s tileRing then
    setTileSlot i { x with owesRequest := none }
      (putRecord tileRing kind 0 (leBytes 4 (wrapU 32 x.tx) ++ leBytes 4 (wrapU 32 x.ty)) s)
  else setTileSlot i { x with owesRequest := some kind } s

/-- Post every waiting tile request that the ring now takes (R33). -/
def tileRepost (s : State) : State :=
  (s.engine.coverage.slots.map (·.1)).foldl (fun s i =>
    match (tileSlot s i).owesRequest with
    | none => s
    | some k => tilePost i k s) s

def busPort (s : State) (p : Nat) : BusPort := tabGet {} s.bus p
def setBus (p : Nat) (b : BusPort) (s : State) : State := { s with bus := tabSet {} s.bus p b }
def modBus (p : Nat) (f : BusPort → BusPort) (s : State) : State := setBus p (f (busPort s p)) s

/-- Global time of a port's relation at device time `t`. -/
def relGlobal (b : BusPort) (t : Int) : Int := b.ga + roundShift ((t - b.ta) * b.ratio) 30
/-- Network time at device time `t`. -/
def networkTime (s : State) (t : Int) : Int :=
  if s.engine.convoy.joined then relGlobal (busPort s s.engine.convoy.parentPort) t else t
/-- A port's global time at device time `t`. -/
def portGlobal (s : State) (p : Nat) (t : Int) : Int :=
  let b := busPort s p
  if b.tt = 3 then networkTime s t else relGlobal b t
def ttOn (s : State) (p : Nat) : Bool := rb s R.CAN_TT_CFG p 31
/-- A base identifier is that of a potential master known on the bus: this device, or the current master (R431). -/
def isReference (s : State) (p id : Nat) : Bool :=
  let known (prio : Nat) : Bool := prio < 8 && id = rf s R.CAN_TT_CFG p 21 11 + prio
  ttOn s p && (known (rf s R.CAN_TT_CFG p 29 26) || known (busPort s p).master)

/-- Internal loopback: the port hears only itself (R380). -/
def loopback (s : State) (p : Nat) : Bool := rf s R.CAN_PORT_CFG p 30 28 = 3

/-- The port takes part in the traffic of its bus, and hears other nodes' frames (R380, R385, R398). -/
def hears (s : State) (p : Nat) : Bool := ((busPort s p).st = 2 || (busPort s p).st = 3) && !loopback s p

/-- The descriptor of an attempt. -/
def BusAttempt.index (a : BusAttempt) : Option W32 :=
  match a.src with
  | .prio i => some i
  | _ => none

/-- The transmit ring of port `p` stops: queued frames complete with 0x0005, a held one with 0x0102, and one in an attempt when the attempt ends (R394). -/
def busTxDisabled (p : Nat) (s : State) : State :=
  let b := busPort s p
  let inAttempt := b.attempt.bind (·.index)
  let held := b.held.bind (·.index)
  let s := setBus p { b with
    queue := b.queue.filter (fun e => some e.index = inAttempt)
    held := if held.isSome then none else b.held
    attempt := b.attempt.map (fun a => { a with orphan := a.orphan || a.index.isSome }) } s
  (b.queue.filter (fun e => some e.index ≠ inAttempt)).foldl
    (fun s e => completeAt (16 + p) e.index (if some e.index = held then 0x0102 else 5) 0 s) s
end Sys2Proof.Machine
end

