-- ==== Sys2Proof/Machine/Ledger.lean ====
section
/-! DEFINITION. The ledger: stream entry, flash, AUDIT blocks, the real-time clock, reading, exporting and the records of a start (R485 to R508). -/
namespace Sys2Proof.Machine

/-- The bytes of a record as stored (R487). -/
def recBytes (r : LedgerRec) : List Byte :=
  leBytes 2 r.code ++ leBytes 1 r.stream
    ++ leBytes 1 (b2n r.opForm + 2 * b2n r.unsigned + 4 * b2n r.coalesced + 8 * b2n r.gap)
    ++ leBytes 2 r.repeats ++ leBytes 2 r.last ++ leBytes 8 r.stamp ++ leBytes 16 r.payload

/-- The next position of a stream (R486). -/
def nextPos (s : State) (k : Nat) : Nat := tabGet 0 s.aon.nextPos k
def setNextPos (k p : Nat) (s : State) : State :=
  { s with aon := { s.aon with nextPos := tabSet 0 s.aon.nextPos k p } }

/-- The record of a stream at a position, wherever it stands (R502); the zero record where none stands. -/
def recordAt (s : State) (k p : Nat) : LedgerRec :=
  let l := lstream s k
  let r := tabGet {} l.buffer p
  if r.code = 0 then tabGet {} l.flash p else r

/-- The device is dead: at level 3 nothing more is written (R478, R500). -/
def ledgerDead (s : State) : Bool := s.security.keysDead

/-! ### AUDIT blocks (R499, R500) -/

/-- H(b - 1) for block `b`: SHA-256 of the device identifier before the first block. -/
def prevHash (s : State) (b : Nat) : Nat :=
  if b = 0 then Config.sha256 (leBytes 8 s.security.deviceId.toNat) else tabGet 0 s.ledger.hashes (b - 1)

/-- h[b] over the 64 data records of block `b`. -/
def blockHash (s : State) (b : Nat) : Nat :=
  Config.sha256 (beBytes 32 (prevHash s b)
    ++ ((List.range 64).map (fun i => recBytes (recordAt s streamAudit (70 * b + i)))).flatten)

/-- Record `i` (0 to 5) of the SIG group of block `b` (R499); its r and s are zeros while the audit key is erased (R500). PRESUMED (log 90). -/
def sigRecord (s : State) (b i : Nat) : LedgerRec :=
  let sig := if s.security.auditErased then List.replicate 64 0 else Config.auditSign (tabGet 0 s.ledger.hashes b)
  let bytes := beBytes 32 (prevHash s b) ++ sig
  { mkRecord s streamAudit 0x0006 (leNat ((bytes.drop (16 * i)).take 16)) with
      unsigned := s.security.auditErased }

/-- Put a record in a stream's buffer share at a position. -/
def bufferPut (k p : Nat) (r : LedgerRec) (s : State) : State :=
  let l := lstream s k
  setLStream k { l with buffer := tabSet {} l.buffer p r } s

/-- Close block `b`: its hash is fixed and its SIG group is due (R499). -/
def closeBlock (b : Nat) (s : State) : State :=
  { s with ledger := { s.ledger with
      hashes := tabSet 0 s.ledger.hashes b (blockHash s b)
      blocksOpen := s.ledger.blocksOpen ++ [b] } }

/-- Write the SIG group of block `b`. -/
def putSigs (b : Nat) (s : State) : State :=
  (List.range 6).foldl (fun s i => bufferPut streamAudit (70 * b + 64 + i) (sigRecord s b i) s) s

/-- SIG: the oldest closed block gets its SIG group (R499, R500). -/
def execSig (t : Time) (s : State) : Host.Outcome State Fault Refusal :=
  let s := begin' t s
  match s.ledger.blocksOpen with
  | [] => .next s
  | b :: rest =>
    if ledgerDead s then .next s
    else .next (putSigs b { s with ledger := { s.ledger with blocksOpen := rest } })

/-! ### Entry and flash (R485, R493, R494) -/

/-- Fix a record's position as it enters the buffer (R494), closing an AUDIT block at its 64th data record (R499). -/
def enterBuffer (k : Nat) (r : LedgerRec) (s : State) : State :=
  let p := nextPos s k
  let r := if k = streamAudit then { r with unsigned := s.security.auditErased } else r
  let s := bufferPut k p r s
  let s := if k = streamAudit && p % 70 = 63 then closeBlock (p / 70) (setNextPos k (p + 7) s)
    else setNextPos k (p + 1) s
  if k = streamSecurity && rb s R.TRACE_CFG 0 31 && flag (traceMask s) 16 then s
  else traceEvent 12 0 ([BitVec.ofNat 8 k, 0] ++ leBytes 2 r.code ++ leBytes 4 p) s

/-- Queue the LOST record that is due now that the queue has space (R493). -/
def queueLost (k : Nat) (s : State) : State :=
  let l := lstream s k
  if l.lostDue = 0 then s
  else setLStream k { l with queue := l.queue ++ [mkRecord s k 0x0002 l.lostDue], lostDue := 0, dropping := false } s

/-- Places of a stream's buffer share in use: its records, and the SIG positions kept for blocks that await their group (R485, R499). -/
def shareUsed (s : State) (k : Nat) : Nat :=
  (lstream s k).buffer.length + (if k = streamAudit then 6 * s.ledger.blocksOpen.length else 0)

/-- Places that the next record takes: one that closes an AUDIT block takes its SIG positions with it (R499). -/
def placesFor (s : State) (k : Nat) : Nat := if k = streamAudit && nextPos s k % 70 = 63 then 7 else 1

/-- The oldest record of a stream's input queue enters its buffer share of 4,096 records, once the ledger has taken stock of flash at the start (R485, R493, R496). -/
def enterNext (k : Nat) (s : State) : State :=
  let l := lstream s k
  match l.queue with
  | [] => s
  | r :: rest =>
    if shareUsed s k + placesFor s k ≤ 4096 && !ledgerDead s && s.startup.phase ≠ 0 then
      queueLost k (enterBuffer k r (setLStream k { l with queue := rest } s))
    else s

/-- Every record that waits in a stream's input queue enters its buffer share, as far as there is room. -/
def enterAll (k : Nat) (s : State) : State :=
  (List.range (lstream s k).queue.length).foldl (fun s _ => enterNext k s) s

/-- A START or KEY record still waits in an input queue (R489). -/
def startRecordsWait (s : State) : Bool :=
  [0, 1, 2, 3].any (fun k => (lstream s k).queue.any (fun r => r.code = 0x0001 || r.code = 0x0005))

/-- LEDGER_ENTRY: a stream takes its oldest queued record into its buffer share (R485, R493). The last record of the START and KEY groups ends the monitor state, and the charter state begins (R514). DESIGN CHOICE (log 86). -/
def execLedgerEntry (t : Time) (k : Fin 4) (s : State) : Host.Outcome State Fault Refusal :=
  let s := enterNext k (begin' t s)
  .next (if s.startup.phase = 1 && !startRecordsWait s then
    { s with startup := { s.startup with phase := 2, phaseAt := s.now } } else s)

/-- Sectors of the ledger area of the flash (R462, R485). -/
def areaSectors (s : State) : Nat :=
  if s.security.flashLog2 = 0 then 0 else (2 ^ s.security.flashLog2 - 0x8C0000) / 4096
/-- Sectors of a stream's share (R485). -/
def shareSectors (s : State) (k : Nat) : Nat :=
  if k = streamFault then areaSectors s / 4 else if k = streamAudit then areaSectors s / 2 else areaSectors s / 8
/-- The first sector of a stream's share, counted in the ledger area. -/
def shareBase (s : State) (k : Nat) : Nat :=
  ((List.range k).map (shareSectors s)).foldl (· + ·) 0
/-- Records a stream's good sectors hold, 128 each. -/
def shareRecords (s : State) (k : Nat) : Nat := (shareSectors s k - (lstream s k).badSectors.length) * 128
/-- The next good sector of a stream's share behind the one being written: the good sectors are used in turn (R494). DESIGN CHOICE (log 92). -/
def nextSector (s : State) (k : Nat) : Nat :=
  let n := shareSectors s k
  let i := (lstream s k).sector
  (((List.range n).map (fun j => (i + 1 + j) % n)).find? (fun j =>
    !(lstream s k).badSectors.contains (shareBase s k + j))).getD i

/-- The oldest record position that stands in a stream's flash area. DESIGN CHOICE (log 92). -/
def flashFirst (l : LStream) : Nat :=
  match l.flash with
  | [] => l.flashNext
  | (p, _) :: _ => p

/-- Whether the oldest sector of a full area may be reused (R485). -/
def sectorReusable (k : Nat) (l : LStream) : Bool :=
  let last := flashFirst l / 128 * 128 + 128
  k = streamFault || k = streamSafety || decide (last ≤ l.exported) || decide (last ≤ l.first)

/-- A stream's flash area has no room for another record. -/
def areaFull (s : State) (k : Nat) : Bool :=
  decide (shareRecords s k ≤ (lstream s k).flashNext - flashFirst (lstream s k) / 128 * 128)

/-- Erase the oldest sector of a stream (R485). -/
def eraseOldest (l : LStream) : LStream :=
  let last := flashFirst l / 128 * 128 + 128
  { l with flash := l.flash.filter (fun e => decide (last ≤ e.1)), first := max l.first last }

/-- A stream has a record ready for flash: the next one in index order stands in its buffer (R494). -/
def flashReady (s : State) (k : Nat) : Bool :=
  let l := lstream s k
  (tabGet {} l.buffer l.flashNext).code != 0 && !l.stopped

/-- The streams in the order in which flash and export serve them: SAFETY, SECURITY, AUDIT, FAULT (R494). -/
def serveOrder : List Nat := [1, 3, 2, 0]

/-- Write the next record of a stream to flash, or mark its sector bad (R494); a full AUDIT or SECURITY area stops (R485). -/
def flashWrite (k : Nat) (ok : Bool) (s : State) : State :=
  let full := areaFull s k
  let l := lstream s k
  if full && !sectorReusable k l then
    notify 0x3D k (nextPos s k % 2 ^ 32) (setLStream k { l with stopped := true } s)
  else
    let s := if full then setLStream k (eraseOldest l) s else s
    let l := lstream s k
    if ok then
      let r := tabGet {} l.buffer l.flashNext
      setLStream k { l with
        buffer := tabErase l.flashNext l.buffer
        flash := tabSet {} l.flash l.flashNext r
        flashNext := l.flashNext + 1
        sector := if (l.flashNext + 1) % 128 = 0 then nextSector s k else l.sector } s
    else
      let bad := shareBase s k + l.sector
      let s := setLStream k { l with badSectors := l.badSectors ++ [bad] } s
      notify 0x3E k bad (setLStream k { lstream s k with sector := nextSector s k } s)

/-- LEDGER_FLASH_WRITE: the first stream in serving order with a record ready writes it; `ok` says whether the flash took it (R494). At level 3 nothing more is written (R500). -/
def execLedgerFlashWrite (t : Time) (ok : Bool) (s : State) : Host.Outcome State Fault Refusal :=
  let s := begin' t s
  match serveOrder.find? (fun k => !ledgerDead s && flashReady s k && 0 < shareRecords s k) with
  | none => .next s
  | some k => .next (flashWrite k ok s)

/-- Flash writing resumes as soon as a sector becomes reusable (R485). -/
def resumeStream (k : Nat) (s : State) : State :=
  let l := lstream s k
  if l.stopped && sectorReusable k l then setLStream k { l with stopped := false } s else s

/-! ### The real-time clock and the operating time (R491, R492, R506) -/

/-- Set the RTC to a time in milliseconds and write the RTC_SET record (R491). -/
def rtcApply (millis : Nat) (s : State) : State :=
  let old := rtcNow s
  let s := { s with
    aon := { s.aon with rtcValid := true, rtcMillis := millis, rtcAt := s.now }
    ledger := { s.ledger with rtcArmed := false } }
  ledgerQueue (mkRecord s streamAudit 0x0004
    (old / 1000 % 2 ^ 32 + old % 1000 * 2 ^ 32 + millis / 1000 % 2 ^ 32 * 2 ^ 64 + millis % 1000 * 2 ^ 96)) s

/-- An accepted GNSS_PPS edge applies an armed set with ms forced to 0 (R491). -/
def rtcPps (s : State) : State :=
  if s.ledger.rtcArmed then cross 17 (rtcApply ((rd s R.LEDGER_RTC_SET 0).toNat * 1000)) s else s

/-- A write of `v` to LEDGER_RTC_CTRL (R491, R507). -/
def rtcCtrl (v : W32) (s : State) : State :=
  let s := wr R.LEDGER_RTC_CTRL 0 (regMerge R.LEDGER_RTC_CTRL 0 v) s
  if flag v 31 then
    if flag v 30 then { s with ledger := { s.ledger with rtcArmed := true } }
    else cross 17 (rtcApply ((rd s R.LEDGER_RTC_SET 0).toNat * 1000 + capNat 999 (fld v 9 0))) s
  else s

/-- RTC_SET: a write of LEDGER_RTC_CTRL by the owner of ring 89 (R491). -/
def execRtcSet (t : Time) (a : Actor) (v : W32) (s : State) : Host.Outcome State Fault Refusal :=
  .next (gated a R.LEDGER_RTC_CTRL.base 4 (rtcCtrl v) (begin' t s))

/-- The value of LEDGER_RTC_MS: milliseconds, and bit 31 valid (R506). -/
def rtcMsWord (s : State) : W32 := BitVec.ofNat 32 (rtcNow s % 1000 + b2n s.aon.rtcValid * 2 ^ 31)

/-- LEDGER_RTC_READ: the seconds are returned and the milliseconds latched (R506). -/
def execLedgerRtcRead (t : Time) (s : State) : Host.Outcome State Fault Refusal :=
  let s := begin' t s
  .next { s with
    readData := BitVec.ofNat 64 (rtcNow s / 1000 % 2 ^ 32)
    ledger := { s.ledger with rtcMs := rtcMsWord s } }

/-- OPERATING_TIME_TICK: a second has passed in which the control die is out of cold reset (R492). -/
def execOperatingTimeTick (t : Time) (s : State) : Host.Outcome State Fault Refusal :=
  let s := begin' t s
  if s.startup.released && s.aon.opAt + secUnits ≤ s.now then
    .next { s with aon := { s.aon with opSeconds := s.aon.opSeconds + 1, opAt := s.aon.opAt + secUnits } }
  else .next s

/-! ### Reading (R501, R502) -/

/-- The position that an index names, if it lies at or after the first and before the next (R486, R501). -/
def positionOf (s : State) (k : Nat) (i : W32) : Option Nat :=
  let next := nextPos s k
  let back := (BitVec.ofNat 32 next - i).toNat
  if 0 < back && back ≤ next - (lstream s k).first then some (next - back) else none

/-- Load the record at the cursor into the window (R501). -/
def loadWindow (s : State) : State :=
  let k := s.ledger.cursorStream
  let r := match positionOf s k s.ledger.cursorIndex with
    | none => {}
    | some p => recordAt s k p
  { s with ledger := { s.ledger with window := r } }

/-- Set the cursor to a stream and an index and load the window (R501). -/
def setCursor (k : Nat) (i : W32) (s : State) : State :=
  loadWindow { s with ledger := { s.ledger with cursorStream := k % 4, cursorIndex := i, cursorHeld := none } }

/-- What a write to the cursor does: `v` at the low word (8 or 4 bytes) or at the high word (R501, R569). -/
def cursorWrite (high : Bool) (size : Nat) (v : W64) (s : State) : State :=
  if size = 8 then setCursor (bits v.toNat 33 32) (v.setWidth 32) s
  else if high then setCursor (bits v.toNat 1 0) (s.ledger.cursorHeld.getD s.ledger.cursorIndex) s
  else { s with ledger := { s.ledger with cursorHeld := some (v.setWidth 32) } }

/-- LEDGER_CURSOR_WRITE (R501). -/
def execLedgerCursorWrite (t : Time) (a : Actor) (high : Bool) (size : Nat) (v : W64) (s : State) :
    Host.Outcome State Fault Refusal :=
  .next (gated a (if high then R.LEDGER_CURSOR_HI.base else R.LEDGER_CURSOR_LO.base) size
    (cursorWrite high size v) (begin' t s))

/-- Word `i` of the window (R501). -/
def windowWord (s : State) (i : Nat) : W32 := BitVec.ofNat 32 (u32 (recBytes s.ledger.window) (4 * i))

/-- LEDGER_WINDOW7_READ: the word is returned and the index advances by one (R501). -/
def execLedgerWindow7Read (t : Time) (s : State) : Host.Outcome State Fault Refusal :=
  let s := begin' t s
  let v := windowWord s 7
  .next (loadWindow { s with
    readData := v.setWidth 64
    ledger := { s.ledger with cursorIndex := s.ledger.cursorIndex + 1 } })

/-! ### Export (R503) -/

/-- The ledger export ring. -/
def exportRing : Nat := 89

/-- The next position a stream would export: the first one with a record from its export mark on, past what a clear, an erase or a power loss removed (R496, R503). -/
def exportPos (s : State) (k : Nat) : Nat :=
  let l := lstream s k
  let p := max l.exportNext l.first
  (listMin ((l.flash ++ l.buffer).filterMap (fun e => if p ≤ e.1 then some e.1 else none))).getD (nextPos s k)

/-- A stream has a record to export; an AUDIT record only after its block's SIG group exists (R503). -/
def exportable (s : State) (k : Nat) : Bool :=
  let p := exportPos s k
  flag (rd s R.LEDGER_EXPORT 0) k && decide (p < nextPos s k)
    && (recordAt s k p).code != 0
    && (k != streamAudit || (recordAt s k (70 * (p / 70) + 69)).code != 0)

/-- LEDGER_EXPORT_ENTRY: the next exportable record is written to ring 89 (R503). -/
def execLedgerExportEntry (t : Time) (s : State) : Host.Outcome State Fault Refusal :=
  let s := begin' t s
  if rb s R.LEDGER_EXPORT 0 31 && canPut s exportRing then
    match serveOrder.find? (fun k => exportable s k) with
    | none => .next s
    | some k =>
      let p := exportPos s k
      let i := (ring s exportRing).d
      let s := putPadded exportRing 0x01 (ring s exportRing).drops
        (leBytes 4 p ++ leBytes 1 k ++ [0, 0, 0] ++ recBytes (recordAt s k p)) 16 s
      let l := lstream s k
      let s := setLStream k { l with exportNext := p + 1 } s
      .next { s with ledger := { s.ledger with
        exportLog := s.ledger.exportLog ++ [{ index := i, stream := k, position := p }] } }
  else .next s

/-- Release of export entries `s0` to before `s1`: each stream's export mark moves past its released records (R503). -/
def ledgerReleased (s0 s1 : W32) (s : State) : State :=
  let gone := s.ledger.exportLog.filter (fun e => decide ((e.index - s0).toNat < (s1 - s0).toNat))
  let kept := s.ledger.exportLog.filter (fun e => !decide ((e.index - s0).toNat < (s1 - s0).toNat))
  let s := gone.foldl (fun s e =>
    let l := lstream s e.stream
    setLStream e.stream { l with exported := max l.exported (e.position + 1) } s) s
  let s := { s with ledger := { s.ledger with exportLog := kept } }
  resumeStream streamSecurity (resumeStream streamAudit s)

/-! ### The records of a start (R496, R498) -/

/-- Positions of a stream lost with the buffer: assigned, but neither in flash nor in the buffer, nor kept for the SIG group of a closed block (R496). -/
def lostPositions (s : State) (k : Nat) : Nat :=
  nextPos s k - (lstream s k).flashNext - shareUsed s k

/-- Fill lost AUDIT positions again: PAD records for data, the SIG group of a block for its SIG positions (R496). -/
def refillAudit : Nat → Nat → State → State
  | 0, _, s => s
  | n + 1, p, s =>
    let s :=
      if p % 70 < 64 then bufferPut streamAudit p { mkRecord s streamAudit 0x0007 0 with gap := true } s
      else bufferPut streamAudit p (sigRecord s (p / 70) (p % 70 - 64)) s
    let s := if p % 70 = 63 then
        { s with ledger := { s.ledger with hashes := tabSet 0 s.ledger.hashes (p / 70) (blockHash s (p / 70)) } }
      else s
    refillAudit n (p + 1) s

/-- Every stream takes stock of flash and queues its START record (R489, R496); `cause` is RST_CAUSE. -/
def ledgerStart (cause : Nat) (s : State) : State :=
  let lost := lostPositions s streamAudit
  let counts := [0, 1, 2, 3].map (fun k => (k, lostPositions s k))
  let s := refillAudit lost (lstream s streamAudit).flashNext s
  counts.foldl (fun s e =>
    let s := if e.1 = streamAudit || e.2 = 0 then s
      else
        let l := lstream s e.1
        setLStream e.1 { l with
          flashNext := nextPos s e.1
          sector := if nextPos s e.1 / 128 = l.flashNext / 128 then l.sector else nextSector s e.1 } s
    ledgerQueue (mkRecord s e.1 0x0001
      (cause % 2 ^ 32 + e.2 % 2 ^ 32 * 2 ^ 32 + s.aon.powerCycles % 2 ^ 24 * 2 ^ 64)) s) s

/-- The KEY group, once the audit-signing key exists: the audit public key, and the identity-key signature over SHA-256 of device_id and that key (R498). -/
def ledgerKeys (s : State) : State :=
  if s.security.auditErased then s else
  let digest := Config.sha256 (leBytes 8 s.security.deviceId.toNat ++ Config.auditKey)
  let bytes := fitBytes 64 Config.auditKey ++ fitBytes 64 (Config.identitySign digest)
  (List.range 8).foldl (fun s i =>
    ledgerQueue (mkRecord s streamAudit 0x0005 (leNat ((bytes.drop (16 * i)).take 16))) s) s

end Sys2Proof.Machine
end

