-- ==== Sys2Proof/Machine/Misuse.lean ====
section
/-! DEFINITION. The cases of undefined use that rest on memory (R76, R244, R533): overlapping rings, descriptors that reference ring memory, and software's stores into what the device owns. -/
namespace Sys2Proof.Machine

/-- A stretch of memory: in the message store or in host memory, its first address and its length. -/
structure Span where
  onChip : Bool
  addr : Nat
  len : Nat
  deriving DecidableEq, Repr

/-- Two stretches share a byte. -/
def Span.meets (a b : Span) : Bool :=
  a.onChip == b.onChip && decide (a.addr < b.addr + b.len) && decide (b.addr < a.addr + a.len)
    && decide (0 < a.len) && decide (0 < b.len)

/-- The memory of a ring. -/
def Ring.span (r : Ring) : Span := { onChip := r.onChip, addr := r.entryAddr 0, len := r.entries * r.entryBytes }

/-- The memory of every ring that runs or still holds entries in execution, and of the index mirror (R41, R59, R65). -/
def ringSpans (s : State) : List Span :=
  let lo := rd s R.CISTER_MIRROR_BASE_LO 0
  ((s.cister.rings.filter (fun e => !e.2.idle)).map (fun e => e.2.span))
    ++ (if flag lo 0 then
      [{ onChip := false, addr := (rd s R.CISTER_MIRROR_BASE_HI 0).toNat * 2 ^ 32 + (lo.toNat - lo.toNat % 1024), len := 1024 }]
    else [])

/-- Some two of a list of stretches overlap. -/
def anyOverlap : List Span → Bool
  | [] => false
  | a :: rest => rest.any (fun b => a.meets b) || anyOverlap rest

/-- Memory of two rings, or a ring and the mirror block, overlap (R76). -/
def ringsOverlap (s : State) : Bool := anyOverlap (ringSpans s)

/-- The buffers that a descriptor of a ring kind references. -/
def descBuffers (r : Ring) (bytes : List Byte) : List Span :=
  let at' (o n : Nat) : List Span := [{ onChip := r.onChip, addr := u64 bytes o, len := n }]
  match r.kind, u16 bytes 0 with
  | 1, 0x18 => at' 16 128
  | 1, 0x40 => at' 16 (u32 bytes 12)
  | 1, 0x43 => at' 8 192
  | 1, 0x45 => at' 8 160
  | 5, 1 => at' 8 (u16 bytes 16)
  | 8, 1 => if bitOf (u8 bytes 24) 1 then [] else at' 16 16384
  | 9, 1 => at' 8 16384
  | 0xB, 1 => at' 16 128
  | 0xB, 2 => at' 16 (12 * u8 bytes 11)
  | 0xB, 7 => at' 16 128
  | _, _ => []

/-! ### The regions that the charter grants to field firmware (R459, R468) -/

/-- Byte `off` of core `k`'s block in the charter (R468). -/
def coreField (k off : Nat) : Nat := 304 + 144 * k + off

/-- A region as a charter lays it out: base, size, and the permission bits read 0, write 1, execute 2 (R459, R468). -/
structure Region where
  valid : Bool
  base : Nat
  size : Nat
  perm : Nat
  deriving DecidableEq, Repr

/-- Region `i` of core `k` in a charter body. -/
def regionOf (body : List Byte) (k i : Nat) : Region :=
  let w := u32 body (coreField k (16 + 8 * i) + 4)
  { valid := bitOf w 31, base := u32 body (coreField k (16 + 8 * i)), size := w % 32, perm := bits w 10 8 }

/-- Whether an address of a core lies in one of its regions with a permission (R459). -/
def inRegions (s : State) (k addr perm : Nat) : Bool :=
  (List.range 16).any (fun i =>
    let r := regionOf s.security.charter k i
    r.valid && bitOf r.perm perm && decide (r.base ≤ addr) && decide (addr < r.base + 2 ^ r.size))

/-- A buffer lies in a core's regions with a permission: regions cover whole 4 KiB pages (R459, R475). -/
def bufferIn (s : State) (k addr len perm : Nat) : Bool :=
  len = 0 || (List.range ((addr + len - 1) / 4096 - addr / 4096 + 1)).all (fun i => inRegions s k ((addr / 4096 + i) * 4096) perm)

/-- A stretch outside the windows granted to the device: host memory, and the message-store regions that the charter grants to a core (R76, R458, R459). DESIGN CHOICE (log 20): read or write permission makes a region one, execute alone does not. -/
def Span.outside (s : State) (b : Span) : Bool :=
  if b.onChip then
    decide (0x100000 < b.addr + b.len) || (0 < b.len && !(List.range ((b.addr + b.len - 1) / 4096 - b.addr / 4096 + 1)).all (fun i =>
      (List.range 4).any (fun k => [0, 1].any (fun p => inRegions s k (0x40000000 + (b.addr / 4096 + i) * 4096) p))))
  else decide (2 ^ 64 < b.addr + b.len)

/-- A descriptor references memory outside the device's windows, or a ring's memory or the mirror block (R76). DESIGN CHOICE (log 20). -/
def descMisuse (s : State) (r : Ring) (bytes : List Byte) : Bool :=
  (descBuffers r bytes).any (fun b => b.outside s || (ringSpans s).any (fun x => x.meets b))

/-- The stretches of `c` entries of a ring from free-running index `i` on. -/
def entrySpans (r : Ring) (i : W32) (c : Nat) : List Span :=
  let p := i.toNat % r.entries
  let k := min c (r.entries - p)
  [{ onChip := r.onChip, addr := r.entryAddr i, len := k * r.entryBytes },
   { onChip := r.onChip, addr := r.entryAddr 0, len := (c - k) * r.entryBytes }]

/-- The buffers of every descriptor of a ring that the device owns: fetched and not released, or posted and not fetched (R41). -/
def ownedBuffers (s : State) (r : Ring) : List Span :=
  r.fetched.flatMap (fun x => descBuffers r x.bytes)
    ++ (List.range (r.s - r.f).toNat).flatMap (fun i =>
      descBuffers r (dmaRead s r.onChip (r.entryAddr (r.f + BitVec.ofNat 32 i)) r.entryBytes))

/-- What the device owns of a ring: entries, and the buffers that unreleased descriptors reference; of a stopped ring, the descriptors in execution and theirs (R41, R42, R65). DESIGN CHOICE (log 20). -/
def ownedSpans (s : State) (r : Ring) : List Span :=
  if !r.running then r.fetched.flatMap (fun x => entrySpans r x.index 1 ++ descBuffers r x.bytes)
  else if r.isPost then
    entrySpans r r.d (r.s - r.d).toNat ++ ownedBuffers s r
  else entrySpans r r.d (r.entries - (r.d - r.s).toNat)

/-- The stretch that a store of software's writes, if it lies in host memory or the message store. -/
def storeSpan (st : Store) : Option Span :=
  match st.space with
  | .hostMem => some { onChip := false, addr := st.addr, len := st.bytes.length }
  | .message => some { onChip := true, addr := st.addr, len := st.bytes.length }
  | .app => none

/-- A store of an actor takes effect: host software reaches host memory alone, and a core what its regions let it write (R21, R458 to R460). DESIGN CHOICE (log 12). -/
def storeAllowed (s : State) (a : Actor) (st : Store) : Bool :=
  match a, st.space with
  | .host, .hostMem => true
  | .core k, .app => bufferIn s k st.addr st.bytes.length 1 && decide (st.addr + st.bytes.length ≤ 0x300000)
  | .core k, .message =>
    bufferIn s k (0x40000000 + st.addr) st.bytes.length 1 && decide (st.addr + st.bytes.length ≤ 0x100000)
  | _, _ => false

/-- Software writes what the device owns (R76). DESIGN CHOICE (log 11). -/
def storesMisuse (s : State) (stores : List Store) : Bool :=
  stores.any (fun st => match storeSpan st with
    | none => false
    | some b => s.cister.rings.any (fun e => (ownedSpans s e.2).any (fun x => x.meets b)))

/-- Memory of rings and mirror overlaps, or reaches into what a fetched descriptor references (R76). DESIGN CHOICE (log 20). -/
def ringsMisuse (s : State) : Bool :=
  ringsOverlap s || s.cister.rings.any (fun e => e.2.fetched.any (fun x =>
    (descBuffers e.2 x.bytes).any (fun b => (ringSpans s).any (fun y => y.meets b))))

/-- A writeback buffer that the device owns overlaps another, or a tile image that it is reading (R244). DESIGN CHOICE (log 10). -/
def tilesMisuse (s : State) : Bool :=
  let r := ring s 86
  let back := if r.running then ownedBuffers s r else r.fetched.flatMap (fun x => descBuffers r x.bytes)
  let read := ((ring s 85).fetched.filter (fun x => x.phase = .running)).flatMap (fun x => descBuffers (ring s 85) x.bytes)
  anyOverlap back || back.any (fun b => read.any (fun x => x.meets b))

/-- End a step in the next state, or in the named case of undefined use. DESIGN CHOICE (log 10). -/
def orUndefined (rule : Nat) (bad : Bool) (s : State) : Host.Outcome State Fault Refusal :=
  if bad then .fault (.undefinedUse rule) else .next s

end Sys2Proof.Machine
end

