-- ==== Sys2Proof/Machine/Cister.lean ====
section
/-! DEFINITION. The commands of the Cister host interface: doorbells, fetches, mirrors, ring enable, disable and fault, MSI-X, bus mastering, Function Level Reset and the host watchdog (R36 to R76, R579, R581). -/
namespace Sys2Proof.Machine

/-! ### Post rings -/

/-- Opcodes that a post ring's kind defines: anything else completes with status 0x0002 (R47). -/
def knownOpcode (kind op : Nat) : Bool :=
  match kind with
  | 1 => (0x10 ≤ op && op ≤ 0x18) || op = 0x20 || op = 0x21 || (0x40 ≤ op && op ≤ 0x45)
  | 3 => op = 1
  | 5 => op = 1 || op = 2
  | 8 => 1 ≤ op && op ≤ 4
  | 9 => op = 1
  | 0xA => 1 ≤ op && op ≤ 3
  | 0xB => 1 ≤ op && op ≤ 7
  | _ => false

/-- Complete leading descriptors of unknown opcode (R47); the ring goes on with the next. -/
def skipUnknown : Nat → Nat → State → State
  | 0, _, s => s
  | fuel + 1, n, s =>
    match nextDesc s n with
    | none => s
    | some x =>
      if knownOpcode (ring s n).kind (u16 x.bytes 0) then s
      else skipUnknown fuel n (complete n x 2 0 s)

/-- What executing a descriptor gives: the state, its status and result, and whether it has finished. -/
structure DescResult where
  state : State
  status : Nat := 0
  result : W32 := 0
  finished : Bool := true

/-- A descriptor's execution can begin: a buffer in host memory that it references waits until the device may issue memory requests (R67). -/
def canExecute (s : State) (n : Nat) (x : Desc) : Bool :=
  reachable s (ring s n) || (descBuffers (ring s n) x.bytes).isEmpty

/-- Execute the oldest waiting descriptor of ring `n` if its opcode is `op` (R43): it completes at once, or stays in execution. -/
def runDesc (n op : Nat) (f : Desc → State → DescResult) (s : State) : State :=
  match nextDesc s n with
  | none => s
  | some x =>
    if u16 x.bytes 0 = op && canExecute s n x then
      let r := f x s
      let s := if r.finished then complete n x r.status r.result r.state else markRunning n x.index r.state
      skipUnknown (ring s n).fetched.length n s
    else s

/-- A port fetches from its transmit ring while it is enabled, transmits at all (R380), and has a free priority-queue entry for each descriptor that it holds (R390). -/
def portTakes (s : State) (p : Nat) : Bool :=
  let mode := rf s R.CAN_PORT_CFG p 30 28
  (busPort s p).st ≠ 0 && (mode = 0 || mode = 3)
    && decide (((ring s (16 + p)).fetched.filter (fun x => x.phase = .waiting || x.phase = .running)).length < 64)

/-- The conditions under which the device fetches from a post ring; a completion ring that is full stops it, a disabled one does not (R43, R61, R65, R67, R238, R390); nor does it fetch while descriptors of before the latest enable run (R64). DEDUCED (log 19). -/
def mayFetch (s : State) (n : Nat) : Bool :=
  let r := ring s n
  r.running && r.isPost && r.f != r.s && !r.leftover && reachable s r && !(r.kind = 9 && r.cmpMode = 0)
    && (r.kind != 3 || portTakes s (n - 16))
    && (r.cmpMode != 2 || (r.backlog.isEmpty && (!(ring s r.cmpRing).running || canPut s r.cmpRing)))

/-- The next entry of a post ring as the device reads it. -/
def nextEntry (s : State) (n : Nat) : Desc :=
  let r := ring s n
  { index := r.f, bytes := dmaRead s r.onChip (r.entryAddr r.f) r.entryBytes }

/-- Fetching the next entry is a use that R76 leaves undefined. -/
def fetchMisuse (s : State) (n : Nat) : Bool :=
  let r := ring s n
  descMisuse (setRing n { r with f := r.f + 1, fetched := r.fetched ++ [nextEntry s n] } s) r (nextEntry s n).bytes

/-- Fetch the next entry of a post ring (R43). -/
def fetchNext (n : Nat) (s : State) : State :=
  let r := ring s n
  let s := setRing n { r with f := r.f + 1, fetched := r.fetched ++ [nextEntry s n] } s
  skipUnknown (ring s n).fetched.length n s

/-! ### Doorbells (R56 to R58, R69, R70, R579) -/

/-- Whether a doorbell value is in range (R58). -/
def doorbellOk (r : Ring) (v : W32) : Bool :=
  if r.isPost then decide ((r.s - r.d).toNat ≤ (v - r.d).toNat) && decide ((v - r.d).toNat ≤ r.entries)
  else decide ((v - r.s).toNat ≤ (r.d - r.s).toNat)

/-- Restart the host watchdog, if its period is not zero (R69). -/
def hostWdogStart (s : State) : State :=
  { s with cister := { s.cister with
      hostWdog := if rf s R.CISTER_HOST_WDOG 0 15 0 = 0 then none else some s.now } }

/-- Whether index `i` lies in the released span from `s0` to before `s1`. -/
def inSpan (s0 s1 i : W32) : Bool := decide ((i - s0).toNat < (s1 - s0).toNat)

/-- Release of notification entries: a kind with merged occurrences is written once more (R54). -/
def notifReleased (s0 s1 : W32) (s : State) : State :=
  let s := (List.range 64).foldl (fun s k =>
    let x := notif s k
    match x.written with
    | none => s
    | some i =>
      if inSpan s0 s1 i then
        match x.merged with
        | none => setNotif k {} s
        | some b =>
          let s := setNotif k { waiting := some b } s
          { s with cister := { s.cister with notifWait := s.cister.notifWait ++ [k] } }
      else s) s
  notifFlush 64 s

/-- What an accepted doorbell sets in motion besides moving S. -/
def doorbellEffects (n : Nat) (s0 : W32) (s : State) : State :=
  let r := ring s n
  if r.isPost then s
  else if r.kind = 2 then drainInto n s
  else if r.kind = 0xD then notifReleased s0 r.s s
  else if r.kind = 7 then tileRepost s
  else if r.kind = 0xC then ledgerReleased s0 r.s s
  else s

/-- A 4-byte doorbell of ring `n` with value `v` that reached an existing owner. DESIGN CHOICE (log 109). -/
def ringDoorbell (n : Nat) (v : W32) (s : State) : State :=
  let r := ring s n
  if !r.running then s
  else if doorbellOk r v then
    let s := setRing n { r with s := v } s
    let s := if r.onChip then s else hostWdogStart s
    let s := traceEvent 11 0 ([BitVec.ofNat 8 n, 0, 0, 0] ++ leBytes 4 v.toNat) s
    doorbellEffects n r.s s
  else notify 0x00 n v.toNat (bump T.doorbellReject s)

/-- The charter gives ring `n` to field firmware, whether or not a valid image runs (R70). -/
def givenToCore (s : State) (n : Nat) : Bool :=
  let c := charterByte s (144 + n) % 16
  1 ≤ c && c ≤ 4

/-! ### Index mirror -/

/-- MIRROR_UPDATE: the mirror of a ring whose D has moved is written (R59, R60). -/
def execMirrorUpdate (t : Time) (n : Fin 128) (s : State) : Host.Outcome State Fault Refusal :=
  let s := begin' t s
  if s.cister.mirrorDue.contains n.val && busOk s then
    let s := mirrorWrite n s
    .next { s with cister := { s.cister with mirrorDue := s.cister.mirrorDue.filter (fun k => k != n.val) } }
  else .next s

/-! ### Enabling, disabling and faults (R64 to R66, R72, R74) -/

/-- The bits of CISTER_RING_CFG that software writes on ring `n` (R72). -/
def cfgMask (n : Nat) : W32 :=
  if 91 ≤ n then 0xBFFC00FF#32 else if 16 ≤ n && n < 80 then 0xBFFC0FF0#32 else 0xBFFC00F0#32

/-- CISTER_RING_CFG of ring `n` after a write of `v`: location and fixed fields keep their values, and a spare context takes entry_code 1 with kind loop output, 0 with any other. -/
def cfgMerge (n : Nat) (old v : W32) : W32 :=
  let w := (old &&& ~~~ cfgMask n) ||| (v &&& cfgMask n)
  if 91 ≤ n then setFld w 11 8 (if fld w 3 0 = 0xE then 1 else 0) else w

/-- The cause for which an enable is refused, 0 for none (R64, R74). DESIGN CHOICE (log 16). -/
def enableCause (s : State) (n : Nat) (r : Ring) : Nat :=
  let c := ring s r.cmpRing
  if r.onChip && 0x100000 < r.baseLo.toNat + r.entries * r.entryBytes then 1
  else if 12 < fld r.cfg 7 4 then 2
  else if 16 ≤ n && n < 80 && !(1 ≤ fld r.cfg 11 8 && fld r.cfg 11 8 ≤ 8) then 2
  else if r.kind = 1 && r.cmpMode ≠ 2 then 3
  else if r.isPost && r.cmpMode = 3 then 3
  else if r.isPost && r.cmpMode = 2 &&
      !(c.running && decide (ringOwner s n = ringOwner s r.cmpRing) && c.onChip == r.onChip) then 3
  else if n = 90 && r.entries < 64 then 4
  else if r.kind = 0 || (91 ≤ n && r.kind ≠ 0xE) then 7
  else 0

/-- Outstanding notifications as the notification ring starts afresh: what was written is gone, what was merged waits. DESIGN CHOICE (log 15). -/
def notifRestart (s : State) : State :=
  (List.range 64).foldl (fun s k =>
    let x := notif s k
    match x.written, x.merged with
    | none, _ => s
    | some _, none => setNotif k { x with written := none } s
    | some _, some b =>
      let s := setNotif k { waiting := some b } s
      { s with cister := { s.cister with notifWait := s.cister.notifWait ++ [k] } }) s

/-- What follows a successful enable for the ring's kind (R33, R54, R503). -/
def enableEffects (n : Nat) (s : State) : State :=
  let k := (ring s n).kind
  if k = 0xD then notifFlush 64 (notifRestart s)
  else if k = 7 then tileRepost s
  else if k = 0xC then
    { s with ledger := { s.ledger with
        exportLog := [],
        streams := tabMap {} (fun l => { l with exportNext := l.exported }) s.ledger.streams } }
  else s

/-- Enable ring `n` with its configuration `cfg`, or refuse (R64). A fault bit still set does not refuse it and stays (R64, R74). DESIGN CHOICE (log 111). -/
def enableRing (n : Nat) (cfg : W32) (s : State) : State :=
  let r := { ring s n with cfg := cfg }
  let cause := enableCause s n r
  if cause = 0 then
    let moved := r.d ≠ 0
    let s := setRing n { r with s := 0, d := 0, f := 0, episode := false, stop := false, leftover := !r.fetched.isEmpty } s
    enableEffects n ((if moved then mirrorMark n else id) (setTally n 0 s))
  else
    let s := setRing n { r with cfg := setFlag cfg 31 false, fault := true, cause := cause } s
    notify 0x01 n cause s

/-- A write of `v` to CISTER_RING_CFG with enable 1: the other fields take the write only while the ring is idle (R64, R65). DESIGN CHOICE (log 111). -/
def ringCfgEnable (n : Nat) (v : W32) (s : State) : State :=
  let r := ring s n
  if r.enable then s
  else enableRing n (if r.idle then cfgMerge n r.cfg v else setFlag r.cfg 31 true) s

/-- RING_ENABLE (R64). Undefined where R76 says so. -/
def execRingEnable (t : Time) (a : Actor) (n : Fin 128) (v : W32) (s : State) : Host.Outcome State Fault Refusal :=
  let s := begin' t s
  if flag v 31 then
    let s := gated a (regOff R.CISTER_RING_CFG n 0) 4 (ringCfgEnable n v) s
    orUndefined 76 (ringsMisuse s) s
  else .next s

/-- Complete every descriptor whose execution has not begun with status 0x0005 (R65). -/
def discardWaiting : Nat → Nat → State → State
  | 0, _, s => s
  | fuel + 1, n, s =>
    match nextDesc s n with
    | none => s
    | some x => discardWaiting fuel n (complete n x 5 0 s)

/-- Writeback buffers held and not being filled are descriptors whose execution has not begun: they complete with 0x0005 (R65, R238). DEDUCED (log 113). -/
def releaseBuffers (s : State) : State :=
  let held := s.engine.coverage.buffers
  held.foldl (fun s b => completeAt 86 b.1 5 0 s)
    { s with engine := { s.engine with coverage := { s.engine.coverage with buffers := [] } } }

/-- Stop a ring: unstarted descriptors are discarded, and what waits to be written into it is dropped (R65). -/
def stopRing (n : Nat) (r : Ring) (s : State) : State :=
  let s := setRing n r s
  let s := if r.isPost then discardWaiting r.fetched.length n s else s
  let s := if r.kind = 3 then busTxDisabled (n - 16) s else s
  let s := if r.kind = 9 then releaseBuffers s else s
  if r.kind = 2 then drainInto n s else s

/-- A write of `v` to CISTER_RING_CFG with enable 0: a running ring stops; an idle one takes the other fields (R65). -/
def ringCfgDisable (n : Nat) (v : W32) (s : State) : State :=
  let r := ring s n
  if r.enable then stopRing n { r with cfg := setFlag r.cfg 31 false, stop := false } s
  else if r.idle then setRing n { r with cfg := cfgMerge n r.cfg v } s
  else s

/-- RING_DISABLE (R65). -/
def execRingDisable (t : Time) (a : Actor) (n : Fin 128) (v : W32) (s : State) : Host.Outcome State Fault Refusal :=
  let s := begin' t s
  if flag v 31 then .next s else .next (gated a (regOff R.CISTER_RING_CFG n 0) 4 (ringCfgDisable n v) s)

/-- The device is still reading what a descriptor references: its execution has not begun, or it is a tile image being loaded (R66, R235). DESIGN CHOICE (log 116). -/
def stillReading (s : State) (n : Nat) (x : Desc) : Bool :=
  x.phase = .waiting || ((ring s n).kind = 8 && x.phase = .running && u16 x.bytes 0 = 1)

/-- A DMA error while reading the body or a buffer of a descriptor: it has no effect, and completes with 0x0006; the ring goes on with the next (R47, R66). DESIGN CHOICE (log 116). -/
def bodyFault (n : Nat) (i : W32) (s : State) : State :=
  match descAt s n i with
  | none => s
  | some x =>
    if stillReading s n x then
      skipUnknown (ring s n).fetched.length n (complete n x 6 0 (if (ring s n).kind = 8 then dropLoad i s else s))
    else s

/-- A running ring enters the fault state with a cause (R66, R74). -/
def ringFaulted (n cause : Nat) (s : State) : State :=
  let r := ring s n
  if r.running then
    emit .aer (notify 0x01 n cause (stopRing n { r with stop := true, fault := true, cause := cause } s))
  else s

/-- RING_FAULT (R66): the ring stops as though disabled; an error on a descriptor's body or buffer completes that descriptor instead. -/
def execRingFault (t : Time) (n : Fin 128) (src : RingFaultSrc) (s : State) : Host.Outcome State Fault Refusal :=
  let s := begin' t s
  match src with
  | .body i => .next (bodyFault n i s)
  | .ring => .next (ringFaulted n 5 s)
  | .mirror => .next (ringFaulted n 6 s)

/-! ### MSI-X (R62, R63, R67) -/

/-- MSIX_HOLDOFF_EXPIRY: the per-microsecond check of a line (R62). -/
def execMsixHoldoffExpiry (t : Time) (line : Fin 68) (s : State) : Host.Outcome State Fault Refusal :=
  let s := begin' t s
  let m := moderation s line
  if 0 < m.pending && modHoldoff s line ≤ nowUs s - m.first then
    .next (setModeration line { m with pending := 0 } (sendLine line s))
  else .next s

/-- Send the message of a vector whose pending bit is set, unless it is still withheld (R63). -/
def sendPending (v : Nat) (s : State) : State :=
  if s.cister.msixPending.contains v && !withheld s v then
    sendVector v { s with cister := { s.cister with msixPending := s.cister.msixPending.filter (fun k => k != v) } }
  else s

/-- Send every pending vector that nothing withholds, in ascending order (R67). -/
def sendAllPending (s : State) : State := (List.range 64).foldl (fun s v => sendPending v s) s

/-- MSIX_UNMASK: a mask changes; a message withheld until now is sent (R63). -/
def execMsixUnmask (t : Time) (v : Option (Fin 64)) (mask : Bool) (s : State) : Host.Outcome State Fault Refusal :=
  let s := begin' t s
  match v with
  | none => .next (sendAllPending { s with cister := { s.cister with functionMask := mask } })
  | some v =>
    let w := setFlag (tabGet 1 s.cister.msixTable (4 * v.val + 3)) 0 mask
    .next (sendPending v { s with cister := { s.cister with
      msixTable := tabSet 1 s.cister.msixTable (4 * v.val + 3) w } })

/-- BUS_MASTER_RESTORE: pending vectors are sent, and what waited for memory requests is written (R67). -/
def execBusMasterRestore (t : Time) (s : State) : Host.Outcome State Fault Refusal :=
  let s := begin' t s
  let s := sendAllPending (payWrites { s with cister := { s.cister with busMaster := true, d3hot := false } })
  .next (tileRepost (notifFlush 64 (drainAll s)))

/-- BUS_MASTER_DISABLE: Bus Master Enable goes to 0, or the function enters D3hot (R67). -/
def execBusMasterDisable (t : Time) (d3 : Bool) (s : State) : Host.Outcome State Fault Refusal :=
  let s := begin' t s
  if d3 then .next { s with cister := { s.cister with d3hot := true } }
  else .next { s with cister := { s.cister with busMaster := false } }

/-! ### Function Level Reset and the host watchdog (R68, R69) -/

/-- A ring's context as a reset of its side leaves it: the charter's owner and location stay (R68, R70). -/
def ringCleared (n : Nat) (r : Ring) : Ring :=
  { ringReset n with
    cfg := setFlag (ringReset n).cfg 30 r.onChip
    fwOwner := r.fwOwner }

/-- What a unit has in execution goes on without the descriptor that began it, once that ring's context is reset: ring 128 is none (R68). DESIGN CHOICE (log 119). -/
def orphanRunning (s : State) : State :=
  let host (n : Nat) : Bool := decide (n < 128) && !(ring s n).onChip
  let c := s.engine.convoy
  let v := s.engine.coverage
  let v := if host 85 then { v with
      evicting := v.evicting.map (fun e => (none, e.2))
      slots := tabMap {} (fun x => { x with
        load := x.load.map (fun l => { l with index := none })
        write := x.write.map (fun w => { w with forDesc := none }) }) v.slots } else v
  { s with
    engine := { s.engine with
      coverage := v
      convoy := { c with
        forwarded := c.forwarded.filter (fun f => !host f.ring)
        parts := c.parts.map (fun x => if host x.ring then { x with ring := 128 } else x) } }
    security := { s.security with
      requests := s.security.requests.map (fun q => if host q.ring then { q with ring := 128 } else q) } }

/-- What units hold of descriptors of host-located rings is discarded with them: frames queued in a bus port, and writeback buffers (R68). -/
def dropFetched (s : State) : State :=
  let s := orphanRunning s
  let s := (List.range 32).foldl (fun s p => if (ring s (16 + p)).onChip then s else busTxDisabled p s) s
  let s := if (ring s 87).onChip then s else { s with course := { s.course with fixDue := [] } }
  if (ring s 86).onChip then s else dropBuffers s

/-- Reset the host side of Cister: contexts of host-located rings, the mirror base, the MSI-X table and moderation, and the configuration space (R68). DESIGN CHOICE (log 94). -/
def hostSideReset (s : State) : State :=
  let s := (List.range 128).foldl (fun s n =>
    if (ring s n).onChip then s else setTally n 0 (setRing n (ringCleared n (ring s n)) s)) s
  let s := dropFetched s
  let s := (List.range 64).foldl (fun s v => setModeration v {} (wr R.CISTER_MSIX_MOD v 1 s)) s
  let s := wr R.CISTER_MIRROR_BASE_LO 0 0 (wr R.CISTER_MIRROR_BASE_HI 0 0 (wr R.ID_SCRATCH 0 0 s))
  { s with
    cister := { s.cister with
      msixTable := [], msixPending := [], functionMask := false
      busMaster := false, d3hot := false, mirrorDue := [], owedWrites := [] }
    security := { s.security with badAcc := 0 }
    hiLatch := s.hiLatch.filter (fun e =>
      !(e.1 % 2 ^ 20 = R.CISTER_MIRROR_BASE_LO.base
        || (regHas R.CISTER_RING_BASE_LO (e.1 % 2 ^ 20) && !(ring s (regIdx R.CISTER_RING_BASE_LO (e.1 % 2 ^ 20))).onChip))) }

/-- FUNCTION_LEVEL_RESET (R68). -/
def execFunctionLevelReset (t : Time) (s : State) : Host.Outcome State Fault Refusal :=
  .next (ledgerReport streamSafety 0x0140 0 0 (hostSideReset (begin' t s)))

/-- A write of CISTER_HOST_WDOG starts the watchdog afresh (R69). -/
def hostWdogWrite (v : W32) (s : State) : State :=
  hostWdogStart (wr R.CISTER_HOST_WDOG 0 (regMerge R.CISTER_HOST_WDOG 0 v) s)

/-- HOST_WDOG_WRITE (R69): host software owns the register (R571). -/
def execHostWdogWrite (t : Time) (a : Actor) (v : W32) (s : State) : Host.Outcome State Fault Refusal :=
  .next (gated a R.CISTER_HOST_WDOG.base 4
    (hostWdogWrite v) (begin' t s))

/-- Whether the host watchdog has run for its period (R69). -/
def hostWdogDue (s : State) : Bool :=
  match s.cister.hostWdog with
  | none => false
  | some t0 => decide (rf s R.CISTER_HOST_WDOG 0 15 0 * msUnits ≤ s.now - t0)

/-- HOST_WDOG_EXPIRY (R69): it stays stopped until a doorbell or a write starts it again. -/
def execHostWdogExpiry (t : Time) (s : State) : Host.Outcome State Fault Refusal :=
  let s := begin' t s
  if hostWdogDue s then
    let period := rf s R.CISTER_HOST_WDOG 0 15 0
    let s := { s with cister := { s.cister with hostWdog := none } }
    let s := ledgerReport streamSafety 0x0103 0 period (notify 0x03 0 period s)
    .next (if rb s R.CISTER_HOST_WDOG 0 31 then rootInhibit s else s)
  else .next s

end Sys2Proof.Machine
end

