-- ==== Sys2Proof/Machine/Trig.lean ====
section
/-! DEFINITION. Sines, cosines and arc tangents of binary angles, correctly rounded (R580, R124). -/
namespace Sys2Proof.Machine

/-- π with 128 fraction bits. -/
def piFix : Nat := 0x3243F6A8885A308D313198A2E03707344

/-- The device's value of 2π is this divided by 2^29 (R103). DESIGN CHOICE (log 26). -/
def twoPi : Nat := 0xC90FDAA2

/-- Taylor series of the sine of `x` (128 fraction bits, below π/2): `term` is the current term, `k` its index. -/
def sinSeries : Nat → Nat → Nat → Nat → Int
  | 0, _, _, _ => 0
  | fuel + 1, k, x2, term =>
    let next := term * x2 / 2 ^ 128 / ((2 * k + 2) * (2 * k + 3))
    (if k % 2 = 0 then (term : Int) else -(term : Int)) + sinSeries fuel (k + 1) x2 next

/-- The sine of `r / 2^k` of a quarter turn, for `r` below `2^k`, with 128 fraction bits. -/
def sinQuarter (r k : Nat) : Int :=
  let x := r * piFix / 2 ^ (k + 1)
  sinSeries 34 0 (x * x / 2 ^ 128) x

/-- The sine of `a / 2^k` of a turn, with 128 fraction bits; exact at multiples of a quarter turn. -/
def sinWide (a : Int) (k : Nat) : Int :=
  let n := wrapU k a * 4
  let q := n / 2 ^ k
  let r := n % 2 ^ k
  match q with
  | 0 => sinQuarter r k
  | 1 => if r = 0 then 2 ^ 128 else sinQuarter (2 ^ k - r) k
  | 2 => -sinQuarter r k
  | _ => if r = 0 then -(2 ^ 128) else -sinQuarter (2 ^ k - r) k

/-- The cosine of `a / 2^k` of a turn, with 128 fraction bits. -/
def cosWide (a : Int) (k : Nat) : Int := sinWide (a + (2 ^ k / 4 : Nat)) k

/-- The sine of `a / 2^k` of a turn in Q2.30, rounded once (R580). -/
def sinQ (a : Int) (k : Nat) : Int := roundDiv (sinWide a k) (2 ^ 98)
/-- The cosine of `a / 2^k` of a turn in Q2.30, rounded once (R580). -/
def cosQ (a : Int) (k : Nat) : Int := roundDiv (cosWide a k) (2 ^ 98)

/-- Whether the direction (c, s), taken in [0, 1) turn, lies at or past `m / 2^k` of a turn. -/
def pastAngle (s c : Int) (m k : Nat) : Bool :=
  let upper := decide (0 < s) || (decide (s = 0) && decide (0 < c))
  let upperM := decide (2 * m < 2 ^ k)
  if upper && !upperM then false
  else if !upper && upperM then true
  else decide (0 ≤ cosWide m k * s - sinWide m k * c)

/-- Binary search for the number of half-unit boundaries at or below the direction. -/
def atanSearch : Nat → Int → Int → Nat → Nat → Nat
  | 0, _, _, _, acc => acc
  | n + 1, s, c, k, acc =>
    let cand := acc + 2 ^ n
    if cand ≤ 2 ^ k && pastAngle s c (2 * cand - 1) (k + 1) then atanSearch n s c k cand else atanSearch n s c k acc

/-- The direction (c, s) as a binary angle of `2^k` units per turn, rounded to the nearest unit. -/
def atanUnits (s c : Int) (k : Nat) : Nat := atanSearch (k + 1) s c k 0 % 2 ^ k

end Sys2Proof.Machine
end

