-- ==== Sys2Proof/Machine/Feedback.lean ====
section
/-! DEFINITION. The feedback unit: counting, interpolation and its calibration, the tracking observer, faults, latch triggers, analogue inputs and encoder emulation (R116 to R145). -/
namespace Sys2Proof.Machine

def fb (s : State) (n : Nat) : FbCh := tabGet {} s.feedback.ch n
def setFb (n : Nat) (c : FbCh) (s : State) : State :=
  { s with feedback := { s.feedback with ch := tabSet {} s.feedback.ch n c } }

/-- Channel modes (R116). -/
def fbMode (s : State) (n : Nat) : Nat := rf s R.FB_CFG n 30 28
def modeQuad : Nat := 0
def modePulse : Nat := 1
def modeSin : Nat := 2
def modeHall : Nat := 3

/-- A channel counts in ACQUIRE and TRACK (R130). -/
def FbCh.counting (c : FbCh) : Bool := c.st = 1 || c.st = 2

/-- The observer bandwidth in Hz, held to 10 to 20,000 (R129). -/
def fbBw (s : State) (n : Nat) : Nat :=
  let bw := rf s R.FB_OBS n 31 16
  if bw < 10 then 10 else capNat 20000 bw

/-- FB clocks in a device-time interval: 6.25 ns against 5 ns (R441). -/
def fbClocks (units : Nat) : Nat := units * 4 / 5

/-! ### Faults (R132, R133) -/

/-- Sticky bits of FB_STAT (R132). -/
def stickyWire : Nat := 7
def stickyAmplitude : Nat := 6
def stickyQerr : Nat := 5
def stickyIndex : Nat := 4
def stickyHall : Nat := 3
def stickyTracking : Nat := 2
def stickyOverfreq : Nat := 1
def stickyCfg : Nat := 0

/-- A number with bit `i` set. -/
def withBit (x i : Nat) : Nat := if bitOf x i then x else x + 2 ^ i

/-- Set a sticky bit of FB_STAT. -/
def fbSticky (n bit : Nat) (s : State) : State :=
  let c := fb s n
  setFb n { c with sticky := withBit c.sticky bit } s

/-- A cause that faults the channel: its bit, and FAULT with notification 0x0C and a FAULT record at entry (R132, R133). -/
def fbFault (n bit : Nat) (s : State) : State :=
  if (fb s n).st = 0 then s else
  let s := fbSticky n bit s
  let c := fb s n
  if c.st = 3 then setFb n { c with faultAt := s.now } s
  else
    let s := setFb n { c with st := 3, stAt := s.now, faultAt := s.now, vPeriod := 0 } s
    ledgerReport streamFault 0x030C n c.sticky (notify 0x0C n c.sticky s)

/-- Entry to ACQUIRE: the observer starts at the position with zero speed (R130), and the period measurement and the line angle start anew. DESIGN CHOICE (log 122). -/
def fbAcquire (n : Nat) (s : State) : State :=
  let c := fb s n
  setFb n { c with st := 1, stAt := s.now, pEst := c.pos * 2 ^ 16, vEst := 0, obsAt := s.now, vPeriod := 0, lastEdge := none,
                   fastEdges := 0, ampBad := 0, angle := none, calRun := none, calGood := false, calTravel := 0 } s

/-! ### Counting (R119 to R123) -/

/-- Move a channel's 48-bit count (R123). -/
def moveCount (c : FbCh) (d : Int) : FbCh :=
  if d = 0 then c else { c with pos := wrapS 48 (c.pos + d), negative := decide (d < 0) }

/-- The Gray step from levels (a, b) to (a', b'): A leads B for positive counts; `none` when both change (R119). -/
def grayStep (a b a' b' : Bool) : Option Int :=
  if a = a' && b = b' then some 0
  else if a ≠ a' && b ≠ b' then none
  else if a ≠ a' then (if a' = b then some (-1) else some 1)
  else (if b' = a then some 1 else some (-1))

/-- The glitch filter: a level is accepted once it has been stable for FB_FILT.filt FB clocks (R117). -/
def passesFilter (s : State) (n held : Nat) : Bool := rf s R.FB_FILT n 7 0 ≤ held

/-- A wire whose accepted level is `level` stands at `!rising` for `before` clocks and then at `rising` for `held`, behind a filter of `filt` clocks: the level accepted then, and whether the edge is accepted (R117, R134). -/
def acceptEdge (filt : Nat) (level rising : Bool) (before held : Nat) : Bool × Bool :=
  let was := if filt ≤ before then !rising else level
  if filt ≤ held then (rising, was != rising) else (was, false)

/-- QUADRATURE_EDGE (R117, R119). -/
def execQuadratureEdge (t : Time) (n : Fin 16) (a : WireLevel) (b : WireLevel) (s : State) : Host.Outcome State Fault Refusal :=
  let s := begin' t s
  let c := fb s n
  let a := if passesFilter s n a.held then a.level else c.a
  let b := if passesFilter s n b.held then b.level else c.b
  let c1 := { c with a := a, b := b }
  if fbMode s n = modeQuad && c.st ≠ 0 then
    match grayStep c.a c.b a b with
    | some d => .next (setFb n (if c.counting then moveCount c1 d else c1) s)
    | none =>
      let s := fbSticky n stickyQerr (bump (T.quadError n) (setFb n c1 s))
      .next (if rb s R.FB_CFG n 24 then fbFault n stickyQerr s else s)
  else .next (setFb n c1 s)

/-- The period speed estimate as it stands now: limited by the time since the last edge (R121). -/
def periodSpeed (s : State) (c : FbCh) : Int :=
  match c.lastEdge with
  | none => c.vPeriod
  | some t0 =>
    let clocks := fbClocks (s.now - t0)
    if c.lastPeriod < clocks && clocks ≠ 0 then
      let lim : Int := roundDivNat (160000000 * 2 ^ 16) clocks
      clampInt (-lim) lim c.vPeriod
    else c.vPeriod

/-- Move the size of the speed estimate toward a measured period; its sign is that of the step (R121, R122). -/
def periodEstimate (s : State) (n : Nat) (c : FbCh) (clocks : Nat) (negative : Bool) : FbCh :=
  let c' := { c with lastEdge := some s.now, lastPeriod := clocks }
  if c.lastEdge.isNone || clocks = 0 || !c.counting then c'
  else
    let meas := roundDiv (160000000 * 2 ^ 16) clocks
    let v : Int := (periodSpeed s c).natAbs
    -- the fraction 2π × bw × P / 160,000,000 as num / den, at most 1
    let num := twoPi * fbBw s n * clocks
    let den := 160000000 * 2 ^ 29
    let size := if den ≤ num then meas else v + roundDiv ((meas - v) * num) den
    { c' with vPeriod := if negative then -size else size }

/-- PULSE_EDGE (R117, R121): in FAULT the position and the speed stand, and edges that come too fast keep the cause present. -/
def execPulseEdge (t : Time) (n : Fin 16) (x : PulseSeen) (s : State) : Host.Outcome State Fault Refusal :=
  let s := begin' t s
  let c := fb s n
  let edge := acceptEdge (rf s R.FB_FILT n 7 0) c.a true x.low x.high
  if fbMode s n = modePulse && c.st ≠ 0 && edge.2 then
    let fast := c.lastEdge.isSome && decide (x.clocks < 800)
    let c1 := { moveCount (periodEstimate s n c x.clocks false) (if c.counting then 1 else 0) with
      a := edge.1, fastEdges := if fast then c.fastEdges + 1 else 0 }
    let s := setFb n c1 s
    if fast then
      let s := fbSticky n stickyOverfreq s
      .next (if 16 ≤ c1.fastEdges then fbFault n stickyOverfreq s else s)
    else .next s
  else .next (setFb n { c with a := edge.1 } s)

/-- PULSE_ZERO_TIMEOUT: no edge for zero_ms (R121). -/
def execPulseZeroTimeout (t : Time) (n : Fin 16) (s : State) : Host.Outcome State Fault Refusal :=
  let s := begin' t s
  let c := fb s n
  match c.lastEdge with
  | none => .next s
  | some t0 =>
    if (fbMode s n = modePulse || fbMode s n = modeHall) && c.counting
        && rf s R.FB_PULSE n 15 0 * msUnits ≤ s.now - t0 then
      .next (setFb n { c with vPeriod := 0 } s)
    else .next s

/-- The place of a valid Hall code in the positive sequence (R122). -/
def hallPlace (code : Nat) : Option Nat :=
  match code with
  | 4 => some 0 | 6 => some 1 | 2 => some 2 | 3 => some 3 | 1 => some 4 | 5 => some 5
  | _ => none

/-- The wire window in device-time units of 5 ns: 20 per 0.1 us; 0 acts as 1 (R118). -/
def wireWindow (s : State) (n : Nat) : Nat :=
  let w := rf s R.FB_CFG n 15 8
  (if w = 0 then 1 else w) * 20

/-- A Hall channel takes a code: an invalid one is timed, and one that has stood beyond the window was a cause of the fault until now (R122, R132). -/
def hallTake (s : State) (n : Nat) (code : Nat) (c : FbCh) : FbCh :=
  let valid := (hallPlace code).isSome
  let lasted := match c.hallBadAt with
    | some t0 => decide (wireWindow s n < s.now - t0)
    | none => false
  { c with
    hall := code
    hallBadAt := if valid then none else some (c.hallBadAt.getD s.now)
    faultAt := if valid && lasted && c.st = 3 then s.now else c.faultAt }

/-- The accepted level of one wire of a Hall code: bit `i` of the code, or of the accepted one while it has not stood long enough (R117). -/
def hallBit (s : State) (n code old i held : Nat) : Nat :=
  if passesFilter s n held then code / 2 ^ i % 2 else old / 2 ^ i % 2

/-- The accepted code, each wire through its own filter, U the most significant bit (R117, R122). -/
def hallAccepted (s : State) (n code old : Nat) (x : HallSeen) : Nat :=
  4 * hallBit s n code old 2 x.u + 2 * hallBit s n code old 1 x.v + hallBit s n code old 0 x.w

/-- HALL_STEP (R117, R122): a skipped code counts while the channel is on; a step from an invalid code moves and counts nothing. DESIGN CHOICE (log 103). -/
def execHallStep (t : Time) (n : Fin 16) (code : BitVec 3) (x : HallSeen) (s : State) : Host.Outcome State Fault Refusal :=
  let s := begin' t s
  let c := fb s n
  let code := hallAccepted s n code.toNat c.hall x
  let c1 := hallTake s n code c
  if fbMode s n = modeHall && c.st ≠ 0 then
    match hallPlace c.hall, hallPlace code with
    | some i, some j =>
      let d := (j + 6 - i) % 6
      if 2 ≤ d && d ≤ 4 then .next (bump (T.quadError n) (setFb n c1 s))
      else if d = 0 || !c.counting then .next (setFb n c1 s)
      else .next (setFb n (moveCount (periodEstimate s n c1 x.clocks (decide (d = 5))) (if d = 1 then 1 else -1)) s)
    | _, _ => .next (setFb n c1 s)
  else .next (setFb n c1 s)

/-- HALL_INVALID: an invalid code has persisted beyond the window (R122). -/
def execHallInvalid (t : Time) (n : Fin 16) (s : State) : Host.Outcome State Fault Refusal :=
  let s := begin' t s
  let c := fb s n
  match c.hallBadAt with
  | none => .next s
  | some t0 =>
    if fbMode s n = modeHall && c.st ≠ 0 && wireWindow s n < s.now - t0 then .next (fbFault n stickyHall s) else .next s

/-- The index check of R120: the change since the previous index must be ± the lines' counts. -/
def indexOk (s : State) (n : Nat) (prev : Option Int) (pos : Int) : Bool :=
  let lines := (rd s R.FB_LINES n).toNat
  let want : Int := (if fbMode s n = modeSin then 4096 else 4) * lines
  match prev with
  | none => true
  | some p =>
    let d := wrapS 48 (pos - p)
    !rb s R.FB_CFG n 25 || lines = 0 || d = want || d = -want

/-- INDEX_EDGE (R117, R120): the index never resets the position. -/
def execIndexEdge (t : Time) (x : IndexSeen) (s : State) : Host.Outcome State Fault Refusal :=
  let s := begin' t s
  let c := fb s x.n
  let edge := acceptEdge (rf s R.FB_FILT x.n 7 0) c.z true x.low x.high
  let c := { c with z := edge.1 }
  if (fbMode s x.n = modeQuad || fbMode s x.n = modeSin) && c.st ≠ 0 && edge.2 then
    let s1 := setFb x.n { c with index := BitVec.ofInt 32 c.pos, indexPos := some c.pos } s
    if indexOk s x.n c.indexPos c.pos then .next s1
    else .next (bump (T.indexError x.n) (fbSticky x.n stickyIndex s1))
  else .next (setFb x.n c s)

/-! ### Sine and cosine (R124 to R128) -/

/-- A line angle and amplitude: the tracks after the calibration set, as the exact direction (s1 × cos δ, c2 × cos δ). -/
structure SinCos where
  /-- s1, in codes. -/
  s1 : Int
  /-- (c - ofs_c) × gain_c, with 15 fraction bits. -/
  c1 : Int
  /-- cos(delta) in Q2.30. -/
  cosD : Int
  /-- c1 - s1 × sin(delta), with 30 fraction bits. -/
  num : Int

/-- Apply the calibration set to a sample (R124). DESIGN CHOICE (log 26). -/
def sinCosOf (s : State) (n : Nat) (sine cosine : Int) : SinCos :=
  let s1 := sine - signed 16 (rf s R.FB_CAL_OFS n 31 16)
  let c1 := (cosine - signed 16 (rf s R.FB_CAL_OFS n 15 0)) * rf s R.FB_CAL_GAIN n 31 16
  let delta := signed 16 (rf s R.FB_CAL_GAIN n 15 0)
  { s1 := s1, c1 := c1, cosD := cosQ delta 16, num := c1 * 2 ^ 15 - s1 * sinQ delta 16 }

/-- The manual states an angle: cos(delta) is not zero and the sample is not at the origin. -/
def SinCos.stated (x : SinCos) : Bool := x.cosD ≠ 0 && !(x.s1 = 0 && x.num = 0)

/-- The line angle in counts, 4,096 per period (R124); free where the manual states none. DESIGN CHOICE (log 26). -/
def lineAngle (s : State) (x : SinCos) : Nat :=
  if x.stated then
    if 0 < x.cosD then atanUnits (x.s1 * x.cosD) x.num 12 else atanUnits (x.s1 * -x.cosD) (-x.num) 12
  else (freeWord s).toNat % 4096

/-- The amplitude in codes, rounded (R124, R125); free where cos(delta) is zero. -/
def lineAmp (s : State) (x : SinCos) : Nat :=
  if x.cosD = 0 then (freeWord s).toNat / 4096 % 65536
  else
    let d := x.cosD.natAbs
    -- amp² × cos² δ, in Q60 against cos δ in Q30
    let sq := (x.s1 * x.s1).natAbs * d * d + x.num.natAbs * x.num.natAbs
    capNat 65535 (roundDivNat (sqrtRound (sq * 2 ^ 16)) (d * 2 ^ 8))

/-- Extremes that take in a value. -/
def widen (e : Option Extremes) (v : Int) : Extremes :=
  match e with
  | none => { max := v, min := v }
  | some e => { max := max e.max v, min := min e.min v }

/-- Statistics that take in a sample of raw codes (R127). -/
def calAdd (st : Option CalStats) (sine cosine : Int) (x : SinCos) : CalStats :=
  { s := widen (st.map CalStats.s) sine
    c := widen (st.map CalStats.c) cosine
    sum := widen (st.map CalStats.sum) (x.s1 * 2 ^ 15 + x.c1)
    diff := widen (st.map CalStats.diff) (x.s1 * 2 ^ 15 - x.c1) }

def mergeExtremes (a b : Extremes) : Extremes := { max := max a.max b.max, min := min a.min b.min }

/-- Statistics of complete periods together. -/
def calMerge (a : Option CalStats) (b : CalStats) : CalStats :=
  match a with
  | none => b
  | some a => { s := mergeExtremes a.s b.s, c := mergeExtremes a.c b.c
                sum := mergeExtremes a.sum b.sum, diff := mergeExtremes a.diff b.diff }

/-- Follow the signal period in progress through one sample (R127): a reversal or an amplitude outside the window spoils it; a full wrap completes it. DESIGN CHOICE (log 124). -/
def calTrack (now : Time) (c : FbCh) (d : Int) (inWindow : Bool) (sine cosine : Int) (x : SinCos) : FbCh :=
  let travel := c.calTravel + d
  let reversed := decide (d * c.calTravel < 0)
  let run := calAdd c.calRun sine cosine x
  let good := c.calGood && inWindow && !reversed
  if 4096 ≤ travel.natAbs then
    let dur := now - c.calStart
    let inBand := decide (1333 ≤ dur) && decide (dur ≤ secUnits)
    let c := if good && inBand then
        { c with calPeriods := c.calPeriods + 1, calStats := some (calMerge c.calStats run) } else c
    { c with calTravel := if travel < 0 then travel + 4096 else travel - 4096,
             calStart := now, calGood := true, calRun := none }
  else if reversed then { c with calTravel := d, calStart := now, calGood := false, calRun := none }
  else { c with calTravel := travel, calGood := good, calRun := some run }

/-- The faults a sample finds, in FAULT too: a step of more than a quarter period, and the fourth sample in a row outside the window (R125, R126, R132). -/
def sampleFaults (n : Nat) (d : Int) (bad : Nat) (s : State) : State :=
  let s := if 1024 < d.natAbs then fbFault n stickyOverfreq s else s
  if 4 ≤ bad then fbFault n stickyAmplitude s else s

/-- SINCOS_SAMPLE (R124 to R127): the whole calibration set is taken at the start of the sample. The first sample after entry to ACQUIRE moves nothing. The latest sample alone gives FB_STAT.overspeed. DESIGN CHOICE (log 122). DESIGN CHOICE (log 123). -/
def execSincosSample (t : Time) (n : Fin 16) (sine cosine : Int) (s : State) : Host.Outcome State Fault Refusal :=
  let s := begin' t s
  let c := fb s n
  if fbMode s n = modeSin && c.st ≠ 0 then
    let sine := clampInt (-8192) 8191 sine
    let cosine := clampInt (-8192) 8191 cosine
    let x := sinCosOf s n sine cosine
    let angle := lineAngle s x
    let amp := lineAmp s x
    let s := if x.stated then s else drawFree s
    let d : Int := match c.angle with
      | none => 0
      | some a => signed 12 (wrapU 12 ((angle : Int) - a))
    let inWindow := decide (rf s R.FB_SC_WIN n 15 0 ≤ amp) && decide (amp ≤ rf s R.FB_SC_WIN n 31 16)
    let bad := if inWindow then 0 else c.ampBad + 1
    -- 150 kHz is 614.4 counts per microsecond
    let c1 := { c with angle := some angle, amp := amp, ampBad := bad, overspeed := decide (614 < d.natAbs) }
    if c.counting then
      let c2 := moveCount c1 d
      let c3 := if c.st = 2 && rb s R.FB_CAL n 31 then calTrack s.now c2 d inWindow sine cosine x
        else { c2 with calRun := none, calGood := false, calTravel := 0, calStart := s.now }
      .next (sampleFaults n d bad (setFb n c3 s))
    else .next (sampleFaults n d bad (setFb n c1 s))
  else .next s

/-- A step toward a target, limited in size (R128). -/
def stepToward (cur target limit : Int) : Int := cur + clampInt (-limit) limit (target - cur)

/-- The complete periods an update takes: 2^periods_log2, held to 4 to 10 (R127). -/
def calNeeded (s : State) (n : Nat) : Nat :=
  let p := rf s R.FB_CAL n 11 8
  2 ^ (if p < 4 then 4 else capNat 10 p)

/-- The calibration targets that statistics give: offsets in codes, gain_c in UQ1.15, delta in 2^-16 turn (R127). DESIGN CHOICE (log 124). -/
def calTargets (st : CalStats) : Int × Int × Int × Int :=
  let ampS := (st.s.max - st.s.min).toNat
  let ampC := (st.c.max - st.c.min).toNat
  let gain : Int := if ampC = 0 then 65535 else satU 16 (roundDiv (ampS * 2 ^ 15) ampC)
  let d := atanUnits (st.diff.max - st.diff.min) (st.sum.max - st.sum.min) 17
  (roundDiv (st.s.max + st.s.min) 2, roundDiv (st.c.max + st.c.min) 2, gain, (d : Int) - 2 ^ 14)

/-- CALIBRATION_UPDATE (R127, R128): the whole set is replaced between two samples. -/
def execCalibrationUpdate (t : Time) (n : Fin 16) (s : State) : Host.Outcome State Fault Refusal :=
  let s := begin' t s
  let c := fb s n
  match c.calStats with
  | none => .next s
  | some st =>
    if c.st = 2 && rb s R.FB_CAL n 31 && calNeeded s n ≤ c.calPeriods then
      let (os, oc, g, dl) := calTargets st
      let step : Int := rf s R.FB_CAL n 7 0
      let os := stepToward (signed 16 (rf s R.FB_CAL_OFS n 31 16)) os step
      let oc := stepToward (signed 16 (rf s R.FB_CAL_OFS n 15 0)) oc step
      let g := stepToward (rf s R.FB_CAL_GAIN n 31 16) g (step * 8)
      let dl := stepToward (signed 16 (rf s R.FB_CAL_GAIN n 15 0)) dl step
      let s := wr R.FB_CAL_OFS n (BitVec.ofNat 32 (wrapU 16 os * 2 ^ 16 + wrapU 16 oc)) s
      let s := wr R.FB_CAL_GAIN n (BitVec.ofNat 32 (wrapU 16 g * 2 ^ 16 + wrapU 16 dl)) s
      .next (setFb n { c with calPeriods := 0, calStats := none } s)
    else .next s

/-! ### The tracking observer (R129) -/

/-- OBSERVER_UPDATE (R129), with the device's value of 2π (R103). It stands still in FAULT. DESIGN CHOICE (log 125). -/
def execObserverUpdate (t : Time) (n : Fin 16) (s : State) : Host.Outcome State Fault Refusal :=
  let s := begin' t s
  let c := fb s n
  if (fbMode s n = modeQuad || fbMode s n = modeSin) && c.counting then
    let e := wrapS 64 (c.pos * 2 ^ 16 - c.pEst)
    let errMax := rf s R.FB_OBS n 15 0
    if errMax ≠ 0 && errMax * 2 ^ 16 < e.natAbs then .next (fbFault n stickyTracking s)
    else
      let bw := fbBw s n
      let v := c.vEst + roundDiv (e * (twoPi * twoPi * bw * bw)) (2 ^ 58 * 1000000)
      let p := c.pEst + roundDiv (v * 2 ^ 29 + 2 * e * (twoPi * bw)) (2 ^ 29 * 1000000)
      .next (setFb n { c with vEst := v, pEst := wrapS 64 p, obsAt := s.now } s)
  else .next s

/-! ### What other units take (R131) -/

/-- The speed a channel delivers, in counts/s with 16 fraction bits: 0 in OFF and FAULT (R130, R131). -/
def fbSpeed (s : State) (n : Nat) : Int :=
  let c := fb s n
  if !c.counting then 0
  else if fbMode s n = modeQuad || fbMode s n = modeSin then c.vEst else periodSpeed s c

/-- The position a channel delivers, with 8 fraction bits: the count where the observer stands still (R131). DESIGN CHOICE (log 125). -/
def fbPosition (s : State) (n : Nat) : Int :=
  let c := fb s n
  if fbMode s n = modeQuad && rb s R.FB_CFG n 26 && c.counting then
    let p := wrapS 56 (roundDiv (wrapS 64 (c.pEst - c.pos * 2 ^ 16)) (2 ^ 8))
    let d := if c.negative then clampInt (-255) 0 p else clampInt 0 255 p
    c.pos * 2 ^ 8 + d
  else c.pos * 2 ^ 8

/-- The course unit counts a channel as lost in FAULT and OFF (R83, R130). -/
def fbLost (s : State) (n : Nat) : Bool := !(fb s n).counting

/-! ### Faults, recovery, enable and disable -/

/-- WIRE_FAULT (R118): the check applies to the pairs that the mode uses differentially, once they have disagreed for longer than the window. -/
def execWireFault (t : Time) (n : Fin 16) (x : PairSeen) (s : State) : Host.Outcome State Fault Refusal :=
  let s := begin' t s
  let m := fbMode s n
  let applies :=
    (m = modeQuad) || (m = modePulse && x.pair.val = 0 && !rb s R.FB_CFG n 27) || (m = modeSin && x.pair.val = 2)
  if rb s R.FB_CFG n 23 && applies && (fb s n).st ≠ 0 && wireWindow s n < x.held then .next (fbFault n stickyWire s) else .next s

/-- FB_FAULT_RECOVERY: the cause has been absent for 10 ms (R132). -/
def execFbFaultRecovery (t : Time) (n : Fin 16) (s : State) : Host.Outcome State Fault Refusal :=
  let s := begin' t s
  let c := fb s n
  let hallBad := fbMode s n = modeHall && c.hallBadAt.isSome
  if c.st = 3 && 10 * msUnits ≤ s.now - c.faultAt && !hallBad then .next (fbAcquire n s) else .next s

/-- How long ACQUIRE lasts: max(1 ms, 4 / bw s) (R130). -/
def acquireTime (s : State) (n : Nat) : Nat := max msUnits (roundDivNat (4 * secUnits) (fbBw s n))

/-- FB_TRACK_ENTRY (R130). -/
def execFbTrackEntry (t : Time) (n : Fin 16) (s : State) : Host.Outcome State Fault Refusal :=
  let s := begin' t s
  let c := fb s n
  if c.st = 1 && acquireTime s n ≤ s.now - c.stAt then
    .next (setFb n { c with st := 2, stAt := s.now, calRun := none, calGood := false, calTravel := 0, calStart := s.now } s)
  else .next s

/-- A write of FB_CFG with enable 1: from 0 it loads the other fields and starts ACQUIRE; a reserved mode stays OFF (R116, R123, R145). -/
def fbCfgEnable (n : Nat) (v : W32) (s : State) : State :=
  if rb s R.FB_CFG n 31 then s
  else
    let s := wr R.FB_CFG n (regMerge R.FB_CFG 0 v) s
    if 4 ≤ fbMode s n then fbSticky n stickyCfg s
    else
      let c := fb s n
      let s := { s with course := { s.course with fbAtClose := tabSet 0 s.course.fbAtClose n 0 } }
      fbAcquire n (setFb n { c with pos := 0, negative := false, indexPos := none, calPeriods := 0, calStats := none } s)

/-- FB_ENABLE (R145); register writes cross from SYS to FB (R448). -/
def execFbEnable (t : Time) (a : Actor) (n : Fin 16) (v : W32) (s : State) : Host.Outcome State Fault Refusal :=
  let s := begin' t s
  if flag v 31 then .next (gated a (regOff R.FB_CFG n 0) 4 (cross 5 (fbCfgEnable n v)) s) else .next s

/-- A write of FB_CFG with enable 0: a running channel turns OFF and keeps its other fields; a stopped one takes them (R130, R145). -/
def fbCfgDisable (n : Nat) (v : W32) (s : State) : State :=
  if rb s R.FB_CFG n 31 then
    let c := fb s n
    setFb n { c with st := 0, stAt := s.now, vPeriod := 0, overspeed := false } (wr R.FB_CFG n (setFlag (rd s R.FB_CFG n) 31 false) s)
  else wr R.FB_CFG n (regMerge R.FB_CFG 0 v) s

/-- FB_DISABLE (R130, R133): the course unit judges the loss at its next close. -/
def execFbDisable (t : Time) (a : Actor) (n : Fin 16) (v : W32) (s : State) : Host.Outcome State Fault Refusal :=
  let s := begin' t s
  if flag v 31 then .next s else .next (gated a (regOff R.FB_CFG n 0) 4 (cross 5 (fbCfgDisable n v)) s)

/-! ### Analogue inputs (R136 to R138) -/

def ain (s : State) (n : Nat) : AinCh := tabGet {} s.feedback.ain n
def setAin (n : Nat) (c : AinCh) (s : State) : State :=
  { s with feedback := { s.feedback with ain := tabSet {} s.feedback.ain n c } }

/-- The code of a voltage in microvolts: floor(V / 1.8 V × 4,096), limited (R136). -/
def ainCode (uvolt : Int) : Nat := (clampInt 0 4095 (uvolt * 4096 / 1800000)).toNat

/-- The number of samples in an average (R137). -/
def ainWindow (s : State) (n : Nat) : Nat := 2 ^ capNat 6 (rf s R.AIN_CFG n 30 28)

/-- The limit counters after a result (R138). -/
def ainLimit (hold low high result : Nat) (c : AinCh) : AinCh :=
  if hold = 0 then { c with outRun := 0, inRun := 0 }
  else if result < low || high < result then
    { c with outRun := c.outRun + 1, inRun := 0, out := c.out || decide (hold ≤ c.outRun + 1) }
  else { c with inRun := c.inRun + 1, outRun := 0, out := c.out && !decide (hold ≤ c.inRun + 1) }

/-- An input that is enabled anew measures afresh; an episode beyond its limits goes on until results within them end it (R138). DESIGN CHOICE (log 120). -/
def ainStart (c : AinCh) : AinCh := { out := c.out }

/-- AIN_CONVERSION (R136 to R138). -/
def execAinConversion (t : Time) (n : Fin 16) (uvolt : Int) (s : State) : Host.Outcome State Fault Refusal :=
  let s := begin' t s
  if rb s R.AIN_CFG n 31 then
    let c := ain s n
    let w := ainWindow s n
    let samples := (ainCode uvolt :: c.samples).take 64
    if w ≤ samples.length then
      let result := roundDivNat ((samples.take w).foldl (· + ·) 0) w
      let c1 := ainLimit (rf s R.AIN_CFG n 27 20) (rf s R.AIN_LIMIT n 11 0) (rf s R.AIN_LIMIT n 27 16) result
        { c with samples := samples, result := result, valid := true }
      let s := setAin n c1 s
      .next (if c1.out && !c.out then notify 0x0D n result s else s)
    else .next (setAin n { c with samples := samples } s)
  else .next s

/-! ### Latch triggers (R134, R135) -/

/-- Whether an edge of the given polarity is selected (R145). -/
def edgeSelected (sel : Nat) (rising : Bool) : Bool := if rising then bitOf sel 0 else bitOf sel 1

/-- The position a latch captures: the count, or p_est extrapolated from the latest update to the edge instant in sine/cosine mode (R134). -/
def latchPosition (s : State) (ch : Nat) (t : Time) : Int :=
  let c := fb s ch
  if fbMode s ch = modeSin && c.counting then
    let dt : Int := (t : Int) - c.obsAt
    wrapS 48 (roundDiv (c.pEst + roundDiv (c.vEst * dt) secUnits) (2 ^ 16))
  else c.pos

/-- An edge at latch `n`'s selected source goes through its filter: the level accepted then, and whether it is an accepted edge of its polarity (R134, R145). -/
def latchSees (s : State) (n : Nat) (x : LatchSeen) : Bool × Bool :=
  let edge := acceptEdge (rf s R.LATCH_CFG n 23 16) (tabGet false s.feedback.latchLevel n) x.rising x.before x.held
  (edge.1, edge.2 && rb s R.LATCH_CFG n 31 && edgeSelected (rf s R.LATCH_CFG n 30 29) x.rising)

/-- The latch holds the level that its filter has accepted (R134). -/
def latchHold (n : Nat) (level : Bool) (s : State) : State :=
  { s with feedback := { s.feedback with latchLevel := tabSet false s.feedback.latchLevel n level } }

/-- LATCH_EDGE (R134): the capture crosses to the course unit, which makes a record of it at the next close (R109); it is dropped where two wait in the crossing already (R32, R448). An edge at the source that LATCH_CFG.src does not select is none of its trigger. -/
def execLatchEdge (t : Time) (n : Fin 8) (at' : Time) (x : LatchSeen) (s : State) : Host.Outcome State Fault Refusal :=
  let s := begin' t s
  if x.z != rb s R.LATCH_CFG n 28 then .next s else
  let edge := latchSees s n x
  let s := latchHold n edge.1 s
  if edge.2 then
    let soon := match tabGet none s.feedback.latchEdge n.val with
      | none => false
      | some t0 => decide (at' - t0 < rf s R.LATCH_CFG n 15 0 * usUnits)
    if soon then .next (bump (T.latchHoldoff n) s)
    else
      let ch := rf s R.LATCH_CFG n 27 24
      let cap : Capture := { latch := n.val, time := at', position := latchPosition s ch at' }
      let s := { s with feedback := { s.feedback with latchEdge := tabSet none s.feedback.latchEdge n.val (some at') } }
      if 2 ≤ x.waiting then .next (bump (T.latchDrop n) s)
      else .next (cross 4 (fun s => { s with course := { s.course with captures := s.course.captures ++ [cap] } }) s)
  else .next s

/-! ### Encoder emulation (R139 to R142) -/

def emu (s : State) (n : Nat) : EmuCh := tabGet {} s.feedback.emu n
def setEmu (n : Nat) (c : EmuCh) (s : State) : State :=
  { s with feedback := { s.feedback with emu := tabSet {} s.feedback.emu n c } }

/-- The ratio in force: 13 / 3,200 in ISO 11786 mode (R142). -/
def emuRatio (s : State) (n : Nat) (c : EmuCh) : Nat × Nat :=
  if rb s R.EMU_CFG n 15 then (13, 3200) else (c.num, c.den)

/-- The edges owed in total, E (R139, R141). -/
def emuOwedTotal (s : State) (n : Nat) (c : EmuCh) : Int :=
  let (num, den) := emuRatio s n c
  if den = 0 then c.eBase else c.eBase + (c.total - c.iBase) * num / (den : Int)

/-- A new ratio: what follows is counted with it; I and E are not rescaled, and in ISO 11786 mode it is not in force (R141, R142). DESIGN CHOICE (log 27). -/
def emuSetRatio (n num den : Nat) (s : State) : State :=
  let c := emu s n
  let c1 := { c with num := num, den := den, heldNum := none }
  if emuRatio s n c1 = emuRatio s n c then setEmu n c1 s
  else setEmu n { c1 with eBase := emuOwedTotal s n c, iBase := c.total } s

/-- A write of `size` bytes to EMU_NUM, or to EMU_DEN if `den`: both at once, or a numerator held until its denominator (R141, R569). -/
def emuRatioAct (n : Nat) (den : Bool) (size : Nat) (v : W64) (s : State) : State :=
  let lo := bits v.toNat 31 0
  let hi := bits v.toNat 63 32
  if size = 8 then
    emuSetRatio n lo hi (wr R.EMU_NUM n (BitVec.ofNat 32 lo) (wr R.EMU_DEN n (BitVec.ofNat 32 hi) s))
  else if den then
    emuSetRatio n ((emu s n).heldNum.getD (emu s n).num) lo (wr R.EMU_DEN n (BitVec.ofNat 32 lo) s)
  else setEmu n { emu s n with heldNum := some lo } (wr R.EMU_NUM n (BitVec.ofNat 32 lo) s)

/-- EMU_RATIO_WRITE (R141, R569). -/
def execEmuRatioWrite (t : Time) (a : Actor) (n : Fin 4) (den : Bool) (size : Nat) (v : W64) (s : State) :
    Host.Outcome State Fault Refusal :=
  .next (gated a (regOff (if den then R.EMU_DEN else R.EMU_NUM) n 0) size (cross 5 (emuRatioAct n den size v)) (begin' t s))

/-- EMU_EDGE: an owed edge is emitted once 500 ns have passed since the previous one (R140, R142). -/
def execEmuEdge (t : Time) (n : Fin 4) (s : State) : Host.Outcome State Fault Refusal :=
  let s := begin' t s
  let c := emu s n
  let owed := emuOwedTotal s n c - c.emitted
  if rb s R.EMU_CFG n 31 && (emuRatio s n c).2 ≠ 0 && owed ≠ 0 && (c.lastEdge = 0 || 100 ≤ s.now - c.lastEdge) then
    let d : Int := if 0 < owed then 1 else -1
    let e := c.emitted + d
    let zdiv : Int := (rd s R.EMU_ZDIV n).toNat
    let iso := rb s R.EMU_CFG n 15
    .next (setEmu n { c with
      emitted := e
      lastEdge := s.now
      phase := if iso then (if c.phase % 4 = 0 then 1 else 0) else wrapU 2 (c.phase + d)
      z := !iso && zdiv ≠ 0 && e / zdiv ≠ c.emitted / zdiv } s)
  else .next s

/-- Levels of EMU_An, EMU_Bn and EMU_Zn: A leads B for positive edges; a disabled output is low; EMU_Bn starts as in forward travel (R140, R142). -/
def emuLevels (s : State) (n : Nat) : Bool × Bool × Bool :=
  let c := emu s n
  if !rb s R.EMU_CFG n 31 then (false, false, false)
  else if rb s R.EMU_CFG n 15 then (c.phase = 1, rb s R.EMU_CFG n 14 && c.forward, false)
  else (c.phase = 1 || c.phase = 2, c.phase = 2 || c.phase = 3, c.z)

end Sys2Proof.Machine
end

