-- ==== Sys2Proof/Machine/Course.lean ====
section
/-! DEFINITION. The course unit: sources and their loss, slip, heading, hitch angle, pose and its correction, course history, reverse travel, latch records, PPS, and host-supplied motion (R77 to R114, R582, R583). -/
namespace Sys2Proof.Machine

/-- The course page as software has written it (R112); it comes into force at the next sweep close (R113). -/
def courseWritten (s : State) : CourseSet where
  src := rd s R.COURSE_SRC 0
  wheelScale := rd s R.COURSE_WHEEL_SCALE 0
  radarScale := rd s R.COURSE_RADAR_SCALE 0
  blend := rd s R.COURSE_BLEND 0
  slip := rd s R.COURSE_SLIP 0
  sweep := rd s R.COURSE_SWEEP 0
  reverse := rd s R.COURSE_REVERSE 0
  imuCfg := rd s R.COURSE_IMU_CFG 0
  imuScale := rd s R.COURSE_IMU_SCALE 0
  imuBias := rd s R.COURSE_IMU_BIAS 0
  hitchCfg := rd s R.COURSE_HITCH_CFG 0
  hitchGeom := rd s R.COURSE_HITCH_GEOM 0
  ainGain := rd s R.COURSE_HITCH_AIN_GAIN 0
  ainOfs := rd s R.COURSE_HITCH_AIN_OFS 0
  pose := rd s R.COURSE_POSE_CFG 0

/-! ### Fields of the settings in force (R113) -/

def CourseSet.mode (c : CourseSet) : Nat := fld c.src 31 30
def CourseSet.wheelCh (c : CourseSet) : Nat := fld c.src 29 26
def CourseSet.radarCh (c : CourseSet) : Nat := fld c.src 25 22
def CourseSet.onLoss (c : CourseSet) : Nat := fld c.src 18 17
/-- The timeout of host-supplied values in device-time units; 0 disables it (R83). -/
def CourseSet.hostTimeout (c : CourseSet) : Nat := fld c.src 15 8 * (10 * msUnits)
/-- The coast time in device-time units (R83). -/
def CourseSet.coastTime (c : CourseSet) : Nat := fld c.src 7 0 * (10 * msUnits)
/-- The radar weight, UQ1.16 (R113). -/
def CourseSet.weight (c : CourseSet) : Nat := capNat 0x10000 (fld c.blend 16 0)
/-- The sweep period in device-time units (R85). -/
def CourseSet.period (c : CourseSet) : Nat := (50 + 10 * capNat 35 (fld c.sweep 5 0)) * usUnits
/-- The yaw rate comes from the host; or the IMU is read (R90). -/
def CourseSet.yawHost (c : CourseSet) : Bool := flag c.imuCfg 30
def CourseSet.imuOn (c : CourseSet) : Bool := flag c.imuCfg 31 && !flag c.imuCfg 30
def CourseSet.hitchSrc (c : CourseSet) : Nat := fld c.hitchCfg 31 30
/-- x_h in mm (R99). -/
def CourseSet.hitchX (c : CourseSet) : Int := signed 16 (fld c.hitchGeom 31 16)

/-- The sources a mode uses: bit 0 wheel, bit 1 radar, bit 2 host (R81). -/
def modeBits (mode : Nat) : Nat :=
  match mode with
  | 0 => 1 | 1 => 2 | 2 => 3 | _ => 4

/-! ### Sources (R79 to R83) -/

/-- The sign that a feedback channel's counts take: `invert` for a signed channel, `radar_dir` for a pulse channel (R80). -/
def sourceSign (s : State) (c : CourseSet) (ch : Nat) : Int :=
  if fbMode s ch = modePulse then
    match fld c.src 21 20 with
    | 0 => if fbMode s c.wheelCh = modePulse then 1 else
        (if (if flag c.src 19 then -fbSpeed s c.wheelCh else fbSpeed s c.wheelCh) < 0 then -1 else 1)
    | 1 => if s.course.hostSpeed.value < 0 then -1 else 1
    | _ => 1
  else if flag c.src 19 then -1 else 1

/-- The count change of a channel since the latest close, with 8 fraction bits. -/
def countChange (s : State) (ch : Nat) : Int :=
  wrapS 56 (fbPosition s ch - tabGet 0 s.course.fbAtClose ch)

/-- The course change of a channel over the sweep, with 16 fraction bits (R79). -/
def sourceDelta (s : State) (c : CourseSet) (ch : Nat) (scale : W32) : Int :=
  roundDiv (sourceSign s c ch * countChange s ch * scale.toNat) (2 ^ 8)

/-- A machine or lane speed in Q24.8 saturates at ±(2^23 − 2^-8) (R77). -/
def satSpeed (v : Int) : Int := clampInt (-(2 ^ 31 - 1)) (2 ^ 31 - 1) v

/-- The speed that a channel gives, Q24.8 cs/s (R79). -/
def sourceSpeed (s : State) (c : CourseSet) (ch : Nat) (scale : W32) : Int :=
  satSpeed (roundDiv (sourceSign s c ch * fbSpeed s ch * scale.toNat) (2 ^ 24))

def wheelDelta (s : State) (c : CourseSet) : Int := sourceDelta s c c.wheelCh c.wheelScale
def radarDelta (s : State) (c : CourseSet) : Int := sourceDelta s c c.radarCh c.radarScale
def wheelSpeed (s : State) (c : CourseSet) : Int := sourceSpeed s c c.wheelCh c.wheelScale
def radarSpeed (s : State) (c : CourseSet) : Int := sourceSpeed s c c.radarCh c.radarScale

/-- Speed × time as a course change with 16 fraction bits. -/
def travel (v : Int) (dt : Nat) : Int := roundDiv (v * dt * 2 ^ 8) secUnits

/-- A host-supplied value's timeout has run out; it runs only once a value has been received (R83). DESIGN CHOICE (log 33). -/
def hostTimedOut (s : State) (c : CourseSet) (h : HostValue) : Bool :=
  match h.at' with
  | none => false
  | some t0 => c.hostTimeout ≠ 0 && decide (c.hostTimeout ≤ s.now - t0)

/-- The latest host-supplied speed; zero while it waits (R83). -/
def hostSpeedNow (s : State) : Int := if s.course.hostSpeed.at'.isNone then 0 else satSpeed s.course.hostSpeed.value

/-- Sources lost now: bit 0 wheel, bit 1 radar, bit 2 host (R83, R583). -/
def lostNow (s : State) (c : CourseSet) : Nat :=
  b2n (fbLost s c.wheelCh) + 2 * b2n (fbLost s c.radarCh)
    + 4 * b2n (s.course.hostLost || hostTimedOut s c s.course.hostSpeed)

/-- What course advances by: the sources used (bits), or a stop or a coast (R81, R83). -/
inductive Advance where
  | use (bits : Nat)
  | stop
  | coast
  deriving DecidableEq, Repr

/-- How course advances while the sources of `lost` are lost (R83). DEDUCED (log 29). -/
def advanceOf (c : CourseSet) (lost : Nat) : Advance :=
  let used := modeBits c.mode
  if used &&& lost = 0 then .use used
  else match c.onLoss with
    | 1 =>
      if used = 4 then .stop
      else if !bitOf lost 0 then .use 1
      else if !bitOf lost 1 then .use 2
      else .stop
    | 2 => .coast
    | _ => .stop

/-- The part of the sweep from `a` to `b` that lies before the end of a coast (R83, R583). DESIGN CHOICE (log 30). -/
def coastPart (c : CourseSet) (coastAt a b : Time) : Nat := min b (coastAt + c.coastTime) - a

/-- The course change of the sweep that ends now (R81, R583). -/
def advanceDelta (s : State) (c : CourseSet) (adv : Advance) (coastAt : Time) (coastSpeed : Int) : Int :=
  match adv with
  | .use 1 => wheelDelta s c
  | .use 2 => radarDelta s c
  | .use 3 => roundDiv ((0x10000 - (c.weight : Int)) * wheelDelta s c + c.weight * radarDelta s c) (2 ^ 16)
  | .use _ => travel (hostSpeedNow s) (s.now - s.course.lastClose)
  | .stop => 0
  | .coast => travel coastSpeed (coastPart c coastAt s.course.lastClose s.now)

/-- The machine speed at this close, Q24.8 (R81, R583). -/
def advanceSpeed (s : State) (c : CourseSet) (adv : Advance) (coastAt : Time) (coastSpeed : Int) : Int :=
  match adv with
  | .use 1 => wheelSpeed s c
  | .use 2 => radarSpeed s c
  | .use 3 => satSpeed (roundDiv ((0x10000 - (c.weight : Int)) * wheelSpeed s c + c.weight * radarSpeed s c) (2 ^ 16))
  | .use _ => hostSpeedNow s
  | .stop => 0
  | .coast => if s.now < coastAt + c.coastTime then coastSpeed else 0

/-- Declare a source lost: notification 0x08 and a SAFETY record (R83, R114). DEDUCED (log 32). -/
def declareLost (c : CourseSet) (src : Nat) (s : State) : State :=
  let subject := if src = 1 then c.wheelCh else if src = 2 then c.radarCh else 16
  ledgerReport streamSafety 0x0208 subject c.onLoss (notify 0x08 subject c.onLoss s)

/-- Declare each source of `bits` lost. -/
def declareAll (c : CourseSet) (bits : Nat) (s : State) : State :=
  [1, 2, 4].foldl (fun s b => if bits &&& b ≠ 0 then declareLost c b s else s) s

/-- Course has come to rest because of a loss: the inhibit of caravan 0, once each time it comes to rest (R83). -/
def comeToRest (c : CourseSet) (s : State) : State :=
  if s.course.rested then s
  else
    let s := { s with course := { s.course with rested := true, coasting := false, speed := 0 } }
    if flag c.src 16 then rootInhibit s else s

/-- The source bits an advance uses. -/
def Advance.bits : Advance → Nat
  | .use b => b
  | _ => 0

/-- What COURSE_STAT.active_src names for an advance; a stop or a coast keeps the mode's own source. -/
def activeOf (c : CourseSet) : Advance → Nat
  | .use 1 => 0
  | .use 2 => 1
  | .use 3 => 2
  | .use _ => 3
  | _ => c.mode

/-- The sources that a write taking effect brings in afresh, `inUse` being those in use: all of a new mode, or those of the mode or in use whose channel it changes (R583). -/
def sourcesChanged (o n : CourseSet) (inUse : Nat) : Nat :=
  let uses := modeBits o.mode ||| inUse
  if o.mode ≠ n.mode then modeBits n.mode
  else b2n (bitOf uses 0 && o.wheelCh != n.wheelCh) + 2 * b2n (bitOf uses 1 && o.radarCh != n.radarCh)

/-- Course stands still because of a loss (R83). -/
def restsOn (adv : Advance) (coasting : Bool) : Bool :=
  match adv with
  | .stop => true
  | .coast => !coasting
  | .use _ => false

/-- Judge the sources at a close: the course change of the sweep under the old settings, and the speed and the loss state that hold from now on under the new ones (R81 to R83, R583). DESIGN CHOICE (log 33). DEDUCED (log 117). -/
def closeSources (n : CourseSet) (s : State) : State :=
  let o := s.course.set
  let newSrc := sourcesChanged o n s.course.inUse
  let changed := newSrc != 0
  let gone := if o.mode ≠ n.mode then 7 else newSrc
  let now0 := lostNow s o
  -- the sweep that ends here
  let fresh := now0 &&& s.course.inUse &&& (7 - s.course.lostBits % 8) &&& (7 - gone)
  let eff := (now0 &&& (7 - gone)) ||| s.course.lostBits
  let advD := advanceOf o eff
  let startCoast := decide (advD = .coast) && !s.course.lost
  let coastAt := if startCoast then s.course.lastClose else s.course.coastAt
  let coastSpeed := if startCoast then s.course.speed else s.course.coastSpeed
  let dMc := advanceDelta s o advD coastAt coastSpeed
  let s := declareAll o fresh s
  -- a host source brought into use waits for its first HOST_MOTION
  let s := if n.mode = 3 && o.mode ≠ 3 then
      { s with course := { s.course with hostLost := false, hostSpeed := { s.course.hostSpeed with at' := none } } } else s
  -- the state from here on
  let lost1 := lostNow s n
  let adv := advanceOf n lost1
  let anew := decide (newSrc &&& lost1 ≠ 0)
  let startCoast1 := decide (adv = .coast) && (anew || !(s.course.lost || decide (fresh ≠ 0)))
  let coastAt := if startCoast1 then s.course.lastClose else coastAt
  let coastSpeed := if startCoast1 then s.course.speed else coastSpeed
  let v := advanceSpeed s n adv coastAt coastSpeed
  let s := if anew then declareAll n (newSrc &&& lost1) s else s
  let isLost := decide (modeBits n.mode &&& lost1 ≠ 0)
  let c := s.course
  let coasting := decide (adv = .coast) && decide (s.now < coastAt + n.coastTime)
  let rests := isLost && restsOn adv coasting
  let s := { s with course := { c with
    mc := wrapS 64 (c.mc + dMc)
    dMc := dMc
    speed := v
    accel := if s.now = c.lastClose then 0 else satS 32 (roundDiv ((v - c.speed) * secUnits) (s.now - c.lastClose))
    lostBits := lost1
    inUse := adv.bits
    lost := isLost
    coasting := coasting
    coastAt := coastAt
    coastSpeed := coastSpeed
    rested := c.rested && rests && !changed
    running := !isLost && !(n.mode = 3 && c.hostSpeed.at'.isNone)
    active := activeOf n adv } }
  if rests then comeToRest n s else s

/-! ### Yaw rate, hitch angle and stale host values (R83, R90, R100, R101) -/

/-- A host-supplied value goes stale: notification 0x0B, subject 3, at the start of the episode (R83). -/
def goStale (hitch : Bool) (s : State) : State :=
  let h := if hitch then s.course.hostHitch else s.course.hostYaw
  let uses := if hitch then decide (s.course.set.hitchSrc = 3) else s.course.set.yawHost
  if uses && !h.stale && hostTimedOut s s.course.set h then
    let s := { s with course :=
      if hitch then { s.course with hostHitch := { h with stale := true } }
      else { s.course with hostYaw := { h with stale := true } } }
    notify 0x0B 3 (b2n s.course.hostYaw.stale + 2 * b2n s.course.hostHitch.stale) s
  else s

/-- The host value in use: zero while it waits or is stale (R83). -/
def hostValueNow (h : HostValue) : Int := if h.at'.isNone || h.stale then 0 else h.value

/-- The yaw rate of an IMU read (R90). -/
def imuRate (c : CourseSet) (raw : W32) : Int :=
  let x : Int := if flag c.imuCfg 29 then raw.toInt else signed 16 (raw.toNat % 2 ^ 16)
  satS 32 (roundDiv (x * c.imuScale.toInt - c.imuBias.toInt * 2 ^ 8) (2 ^ 8))

/-- Data bytes of an IMU sample (R90). -/
def CourseSet.imuBytes (c : CourseSet) : Nat := if flag c.imuCfg 29 then 4 else 2
/-- How long `n` bits take on the IMU SPI, whose clock is 600 / (4 × (spi_div + 1)) MHz (R90). -/
def CourseSet.spiUnits (c : CourseSet) (n : Nat) : Nat := roundDivNat (n * 4 * (fld c.imuCfg 15 8 + 1)) 3

/-- The sample of an IMU read that began at an instant, if its address byte and data have passed by the close (R90). -/
def imuSample (s : State) (imu : Option (Time × W32)) : Option (Time × W32) :=
  match imu with
  | some (t0, raw) => if t0 + s.course.set.spiUnits (8 + 8 * s.course.set.imuBytes) ≤ s.now then some (t0, raw) else none
  | none => none

/-- The IMU read of the sweep that ends here: the transaction, and its value or a miss (R90). -/
def closeImu (imu : Option (Time × W32)) (s : State) : State :=
  let set := s.course.set
  if set.imuOn then
    let s := emit (.imuRead (BitVec.ofNat 8 (fld set.imuCfg 23 16 ||| 0x80)) set.imuBytes) s
    let c := s.course
    match imuSample s imu with
    | some (t0, raw) =>
      let w := imuRate set raw
      { s with course := { c with
          imuYaw := w, yaw := w, imuMisses := 0, imuStale := false
          imuStamp := t0 + set.spiUnits (8 + 4 * set.imuBytes) } }
    | none =>
      let s := bump T.imuStale s
      let c := s.course
      let misses := capNat 8 (c.imuMisses + 1)
      if misses = 8 && !c.imuStale then
        notify 0x0B 0 (wrapU 32 c.imuYaw)
          { s with course := { c with imuMisses := misses, imuStale := true, yaw := 0 } }
      else { s with course := { c with imuMisses := misses, yaw := if c.imuStale then 0 else c.imuYaw } }
  else
    { s with course := { s.course with
        imuYaw := 0, imuMisses := 0, imuStale := false
        yaw := if set.yawHost then hostValueNow s.course.hostYaw else 0 } }

/-- The settings written take force: a host value newly selected waits, and a yaw rate of a source no longer selected is not kept (R82, R83, R90). -/
def closeSettings (n : CourseSet) (s : State) : State :=
  let c := s.course
  let sameYaw := n.yawHost == c.set.yawHost && n.imuOn == c.set.imuOn
  { s with course := { c with
      set := n
      hostYaw := if n.yawHost && !c.set.yawHost then { c.hostYaw with at' := none, stale := false } else c.hostYaw
      hostHitch := if n.hitchSrc = 3 && c.set.hitchSrc ≠ 3 then { c.hostHitch with at' := none, stale := false }
        else c.hostHitch
      yaw := if sameYaw then c.yaw else 0
      imuYaw := if sameYaw then c.imuYaw else 0
      imuMisses := if sameYaw then c.imuMisses else 0
      imuStale := if sameYaw then c.imuStale else false } }

/-- The change of the estimated hitch angle over a sweep, with 16 fraction bits; v, ω and T in device formats (R100). -/
def hitchEstimate (v w : Int) (phi16 : Int) (xh : Int) (axle T : Nat) : Int :=
  if axle = 0 then 0
  else
    let sn := sinQ phi16 48
    let cs := cosQ phi16 48
    let d1 : Nat := 2 ^ 44 * axle * twoPi
    roundDiv ((-(v * sn * 2 ^ 61) + w * xh * cs * (2 ^ 14 * twoPi) - w * d1) * (T * 2 ^ 16)) (d1 * secUnits)

/-- The hitch angle at this close with 16 fraction bits (R100). -/
def hitchNow (s : State) : Int :=
  let c := s.course
  let set := c.set
  match set.hitchSrc with
  | 0 => 0
  | 1 =>
    let code : Int := (ain s (fld set.hitchCfg 29 26)).result
    (code - fld set.ainOfs 11 0) * set.ainGain.toInt * 2 ^ 16
  | 2 =>
    let phi16 := c.pose.hitch * 2 ^ 16
    if fld set.hitchGeom 15 0 = 0 then 0
    else phi16 + hitchEstimate c.speed c.yaw phi16 set.hitchX (fld set.hitchGeom 15 0) (s.now - c.lastClose)
  | _ => hostValueNow c.hostHitch * 2 ^ 16

/-- The hitch angle, rounded to its 32 bits, its change and the jackknife flag at a close (R7, R77, R100, R101, R104). -/
def closeHitch (s : State) : State :=
  let c := s.course
  let phi := wrapS 32 (roundDiv (hitchNow s) (2 ^ 16))
  let d16 := wrapS 32 (phi - c.pose.hitch) * 2 ^ 16
  let limit := fld c.set.hitchCfg 15 0 * 2 ^ 16
  let jack := if limit < phi.natAbs then true else if phi.natAbs < limit then false else c.jackknife
  let T := s.now - c.lastClose
  let s := { s with course := { c with
    pose := { c.pose with hitch := phi }
    hitchPrev := c.pose.hitch * 2 ^ 16
    dHitch := d16
    yawT := satS 32 (c.yaw + (if T = 0 then 0 else roundDiv (d16 * secUnits) (T * 2 ^ 16)))
    jackknife := jack } }
  if jack && !c.jackknife then notify 0x0B 2 (wrapU 32 phi) s else s

/-! ### Slip (R84) -/

def closeSlip (s : State) : State :=
  let c := s.course
  let set := c.set
  let vw := wheelSpeed s set
  let vr := radarSpeed s set
  let ok := !fbLost s set.wheelCh && !fbLost s set.radarCh && vr ≠ 0
    && decide (fld set.slip 23 16 * 6400 * 2 ^ 8 ≤ vr.natAbs)
  if ok then
    let T := s.now - c.lastClose
    let diff := (vw - vr).natAbs
    let excess := decide (fld set.slip 31 24 * vr.natAbs < diff * 2 ^ 8)
    let under := decide (diff * 2 ^ 9 ≤ fld set.slip 31 24 * vr.natAbs)
    let high := if excess then c.slipHigh + T else 0
    let low := if under then c.slipLow + T else 0
    let hold := fld set.slip 15 0 * msUnits
    let set' := !c.slip && excess && decide (hold ≤ high)
    let clear := c.slip && under && decide (hold ≤ low)
    let s := { s with course := { c with slipHigh := high, slipLow := low, slip := (c.slip || set') && !clear } }
    if set' then
      let q := satS 32 (if 0 < vr then roundDiv ((vw - vr) * 2 ^ 24) vr.natAbs else roundDiv ((vr - vw) * 2 ^ 24) vr.natAbs)
      ledgerReport streamFault 0x0209 set.wheelCh (wrapU 32 q) (notify 0x09 set.wheelCh (wrapU 32 q) s)
    else s
  else s

/-! ### Pose (R91, R92, R95) -/

/-- A position of either axis that would leave the range: notification 0x0B, subject 1, once per episode; where both axes would, its detail is X (R92, R114). DESIGN CHOICE (log 98). -/
def poseRangeNote (x y : Int) (s : State) : State :=
  let out (v : Int) : Bool := satS 48 v ≠ v
  if (out x || out y) && !s.course.poseRange then
    let v := if out x then x else y
    notify 0x0B 1 (wrapU 32 (v / 2 ^ 16)) { s with course := { s.course with poseRange := true } }
  else s

/-- Set the current position, saturating (R92). -/
def setPosition (x y : Int) (s : State) : State :=
  let s := poseRangeNote x y s
  { s with course := { s.course with pose := { s.course.pose with x := satS 48 x, y := satS 48 y } } }

/-- The correction step of a remainder over a sweep of `T` units (R95). -/
def corrStep (tau T : Nat) (r : Int) : Int := if tau ≤ T then r else roundDiv (r * T) tau

/-- Dead reckoning and correction at a close (R91, R95). DESIGN CHOICE (log 30). -/
def closePose (s : State) : State :=
  let c := s.course
  let T := s.now - c.lastClose
  let dth := roundDiv (c.yaw * T * 2 ^ 16) secUnits
  let mid := c.pose.heading + roundDiv dth 2
  let tau := fld c.set.pose 31 16 * msUnits
  let sx := corrStep tau T c.remX
  let sy := corrStep tau T c.remY
  let sh := corrStep tau T c.remHeading
  let x := c.pose.x + roundDiv (c.dMc * cosQ mid 48) (2 ^ 36)
  let y := c.pose.y + roundDiv (c.dMc * sinQ mid 48) (2 ^ 36)
  let s := { s with course := { c with
    dHeading := dth
    pose := { c.pose with heading := wrapU 48 (c.pose.heading + dth + sh) }
    remX := c.remX - sx
    remY := c.remY - sy
    remHeading := c.remHeading - sh } }
  setPosition (x + sx) (y + sy) s

/-! ### Reverse travel (R110) -/

/-- Machine course in whole course steps, signed 48 bits: its 16 fraction bits are held internally alone (R77). -/
def mcSteps (s : State) : Int := wrapS 48 (s.course.mc / 2 ^ 16)

/-- The reverse state at a close; entering it raises notification 0x0A (R110). DESIGN CHOICE (log 30). -/
def closeReverse (s : State) : State :=
  let c := s.course
  let m := mcSteps s
  let h : Int := fld c.set.reverse 23 0
  if c.reverse then
    let v := if wrapS 48 (m - c.trough) < 0 then m else c.trough
    if h < wrapS 48 (m - v) then { s with course := { c with reverse := false, peak := m, trough := v } }
    else { s with course := { c with trough := v } }
  else
    let p := if 0 < wrapS 48 (m - c.peak) then m else c.peak
    if h < wrapS 48 (p - m) then
      notify 0x0A 0 (wrapU 32 m) { s with course := { c with reverse := true, peak := p, trough := m } }
    else { s with course := { c with peak := p } }

/-! ### Course history (R107, R108) -/

/-- The history retained at a close: entries at most 2.000 s old. DESIGN CHOICE (log 30). -/
def closeHistory (s : State) : State :=
  let c := s.course
  let e : HistEntry := { time := s.now, course := c.mc, pose := c.pose, speed := c.speed, yaw := c.yaw }
  { s with course := { c with
      history := e :: c.history.takeWhile (fun h => decide (s.now ≤ h.time + 2 * secUnits)) } }

/-- What a lookup of the course history answers (R108). -/
inductive Lookup where
  | expired
  | future
  /-- Course in cs, X and Y in mm, the heading and the hitch angle as 32-bit binary angles. -/
  | found (course x y heading hitch : Int)
  deriving DecidableEq, Repr

/-- Interpolate between two values, rounding once to units of 2^`f` (R108). DESIGN CHOICE (log 31). -/
def interp (v0 dv : Int) (k n : Nat) (f : Nat) : Int := roundDiv (v0 * n + dv * k) (n * 2 ^ f)

/-- The entry at or before a time and the one after it. -/
def bracket (t : Time) : List HistEntry → Option (HistEntry × HistEntry)
  | e1 :: e0 :: rest => if e0.time ≤ t && t < e1.time then some (e0, e1) else bracket t (e0 :: rest)
  | _ => none

/-- Course, pose and hitch angle at a device time; beyond the newest entry X and Y follow the mid-interval heading, as R91 has it for a sweep (R108). DESIGN CHOICE (log 31). -/
def lookupAt (s : State) (t : Time) : Lookup :=
  let c := s.course
  match c.history with
  | [] => .expired
  | newest :: _ =>
    if t < c.histFloor then .expired
    else if newest.time ≤ t then
      let dt := t - newest.time
      if 2 * c.set.period < dt then .future
      else
        let d16 := travel newest.speed dt
        let dth := roundDiv (newest.yaw * dt * 2 ^ 16) secUnits
        let mid := newest.pose.heading + roundDiv dth 2
        .found (wrapS 48 (roundDiv (newest.course + d16) (2 ^ 16)))
          (satS 32 (roundDiv (newest.pose.x + roundDiv (d16 * cosQ mid 48) (2 ^ 36)) (2 ^ 16)))
          (satS 32 (roundDiv (newest.pose.y + roundDiv (d16 * sinQ mid 48) (2 ^ 36)) (2 ^ 16)))
          (wrapU 32 (roundDiv (newest.pose.heading + dth) (2 ^ 16)))
          newest.pose.hitch
    else match bracket t c.history with
      | none => .expired
      | some (e0, e1) =>
        let k := t - e0.time
        let n := e1.time - e0.time
        .found (wrapS 48 (interp e0.course (wrapS 64 (e1.course - e0.course)) k n 16))
          (satS 32 (interp e0.pose.x (e1.pose.x - e0.pose.x) k n 16))
          (satS 32 (interp e0.pose.y (e1.pose.y - e0.pose.y) k n 16))
          (wrapU 32 (interp e0.pose.heading (wrapS 48 (e1.pose.heading - e0.pose.heading)) k n 16))
          (wrapS 32 (interp e0.pose.hitch (wrapS 32 (e1.pose.hitch - e0.pose.hitch)) k n 0))

/-! ### Latch records (R109) -/

def latchFifo (s : State) (n : Nat) : List LatchRec := tabGet [] s.course.latchFifo n
def setLatchFifo (n : Nat) (l : List LatchRec) (s : State) : State :=
  { s with course := { s.course with latchFifo := tabSet [] s.course.latchFifo n l } }

/-- Form the record of a capture and append it, or drop it at a full FIFO (R109); where the lookup is expired, its course and pose are zero. DESIGN CHOICE (log 100). -/
def latchRecord (cap : Capture) (s : State) : State :=
  let rec' : LatchRec := match lookupAt s cap.time with
    | .found c x y h _ => { time := cap.time, course := c, x := x, y := y, heading := h,
                            position := BitVec.ofInt 32 cap.position }
    | _ => { time := cap.time, position := BitVec.ofInt 32 cap.position }
  let q := latchFifo s cap.latch
  if q.length < 16 then setLatchFifo cap.latch (q ++ [rec']) s else bump (T.latchDrop cap.latch) s

/-- Records of the captures before this close (R109). -/
def closeLatches (s : State) : State :=
  let due := s.course.captures.filter (fun c => decide (c.time < s.now))
  let keep := s.course.captures.filter (fun c => !decide (c.time < s.now))
  due.foldl (fun s c => latchRecord c s) { s with course := { s.course with captures := keep } }

/-! ### The close (R24 step 1) -/

/-- The next sweep close is due at this time (R85). DESIGN CHOICE (log 28). -/
def sweepDue (s : State) : Time := s.course.lastClose + s.course.set.period

/-- The first sweep after a reset lasts one period (R85). -/
def firstSweep (s : State) : State :=
  { s with course := { s.course with lastClose := s.now - s.course.set.period } }

/-- Step 1 of R24: the course unit closes the sweep sample. DEDUCED (log 29). -/
def courseClose (imu : Option (Time × W32)) (s : State) : State :=
  let n := courseWritten s
  let s := if s.course.closed then s else firstSweep s
  let s := goStale true (goStale false s)
  let s := closeImu imu s
  let s := closeSources n s
  let yaw0 := s.course.yaw
  let s := closePose { s with course := { s.course with set := { s.course.set with pose := n.pose } } }
  let s := closeSettings n { s with course := { s.course with yaw := yaw0 } }
  let s := closeHitch s
  let s := closeSlip s
  let s := closeReverse s
  let T := s.now - s.course.lastClose
  let s := closeHistory s
  let s := { s with course := { s.course with
    lastClose := s.now, duration := T, closed := true
    fbAtClose := (List.range 16).foldl (fun t n => tabSet 0 t n (fbPosition s n)) s.course.fbAtClose } }
  closeLatches s

/-! ### The course unit's own events -/

/-- COAST_EXPIRY: the coast time is counted from the close before the loss (R583). -/
def execCoastExpiry (t : Time) (s : State) : Host.Outcome State Fault Refusal :=
  let s := begin' t s
  if s.course.coasting && s.course.coastAt + s.course.set.coastTime ≤ s.now then
    .next (comeToRest s.course.set s)
  else .next s

/-- HOST_SOURCE_TIMEOUT: the host source is lost; the next close acts on it (R83, R583). -/
def execHostSourceTimeout (t : Time) (s : State) : Host.Outcome State Fault Refusal :=
  let s := begin' t s
  if hostTimedOut s s.course.set s.course.hostSpeed then
    .next { s with course := { s.course with hostLost := true } }
  else .next s

/-- HOST_VALUE_STALE: the host yaw rate or hitch angle times out (R83). -/
def execHostValueStale (t : Time) (hitch : Bool) (s : State) : Host.Outcome State Fault Refusal :=
  .next (goStale hitch (begin' t s))

/-- PPS_EDGE (R89): an edge less than 100 ms after the latest accepted one is rejected. DESIGN CHOICE (log 99). -/
def execPpsEdge (t : Time) (s : State) : Host.Outcome State Fault Refusal :=
  let s := begin' t s
  if s.course.ppsSeen && s.now - s.course.ppsTime < 100 * msUnits then .next (bump T.ppsReject s)
  else
    let s := { s with course := { s.course with
      ppsTime := s.now, ppsCount := s.course.ppsCount + 1, ppsSeen := true } }
    .next (rtcPps s)

/-! ### Pose correction (R93 to R97) -/

/-- The valid bits of a pose-correction descriptor (R93). -/
def poseValid (x : Desc) (i : Nat) : Bool := bitOf (u8 x.bytes 40) i

/-- The magnitude of a position error in mm, rounded and saturating (R93). -/
def errMag (ex ey : Int) : Nat := capNat 0xFFFFFFFF (sqrtRound ((ex * ex + ey * ey).toNat))

/-- A FIX at step 3 of R24 (R94). -/
def fixDesc (x : Desc) (s : State) : DescResult :=
  match lookupAt s (u64 x.bytes 8) with
  | .expired => { state := s, status := 0x0100 }
  | .future => { state := s, status := 0x0101 }
  | .found _ px py ph _ =>
    let ex := i32 x.bytes 16 - px
    let ey := i32 x.bytes 20 - py
    let eh := wrapS 32 ((u32 x.bytes 24 : Int) - ph)
    let pos := poseValid x 0
    let mag := BitVec.ofNat 32 (if pos then errMag ex ey else 0)
    let gate : Int := fld s.course.set.pose 15 0
    if pos && !poseValid x 5 && gate ≠ 0 && gate * gate < ex * ex + ey * ey then
      { state := s, status := 0x0102, result := mag }
    else
      let c := s.course
      let c := if pos then { c with remX := ex * 2 ^ 16, remY := ey * 2 ^ 16 } else c
      let c := if poseValid x 1 then { c with remHeading := eh * 2 ^ 16 } else c
      { state := { s with course := c }, result := mag }

/-- The rotation by the heading difference about P, then the translation onto G (R96); positions with 16 fraction bits, P and G in mm. -/
def shiftPoint (dh px py gx gy : Int) (x y : Int) : Int × Int :=
  let ux := x - px * 2 ^ 16
  let uy := y - py * 2 ^ 16
  let sn := sinQ dh 32
  let cs := cosQ dh 32
  (gx * 2 ^ 16 + roundDiv (ux * cs - uy * sn) (2 ^ 30), gy * 2 ^ 16 + roundDiv (ux * sn + uy * cs) (2 ^ 30))

/-- A historical pose in the shifted frame (R96). -/
def shiftPose (dh px py gx gy : Int) (p : Pose) : Pose :=
  let (x, y) := shiftPoint dh px py gx gy p.x p.y
  { p with x := satS 48 x, y := satS 48 y, heading := wrapU 48 (p.heading + dh * 2 ^ 16) }

/-- Retain a frame shift made now: at most 4 younger than 2 s (R96). -/
def retainShift (s : State) : State :=
  let young := s.now :: s.course.shifts.filter (fun t => decide (s.now < t + 2 * secUnits))
  let kept := young.take 4
  let floor := if 4 < young.length then max s.course.histFloor ((kept.getLast?).getD 0) else s.course.histFloor
  { s with course := { s.course with shifts := kept, histFloor := floor } }

/-- SET_POSE (R96). -/
def setPoseDesc (x : Desc) (s : State) : DescResult :=
  match lookupAt s (u64 x.bytes 8) with
  | .expired => { state := s, status := 0x0100 }
  | .future => { state := s, status := 0x0101 }
  | .found _ px py ph _ =>
    let pos := poseValid x 0
    let gx := if pos then i32 x.bytes 16 else px
    let gy := if pos then i32 x.bytes 20 else py
    let dh := if poseValid x 1 then wrapS 32 ((u32 x.bytes 24 : Int) - ph) else 0
    let mag := BitVec.ofNat 32 (if pos then errMag (gx - px) (gy - py) else 0)
    let c := s.course
    let (nx, ny) := shiftPoint dh px py gx gy c.pose.x c.pose.y
    let s := { s with course := { c with
      remX := 0, remY := 0, remHeading := 0, poseRange := false
      pose := { c.pose with heading := wrapU 48 (c.pose.heading + dh * 2 ^ 16) }
      history := c.history.map (fun e => { e with pose := shiftPose dh px py gx gy e.pose }) } }
    { state := retainShift (setPosition nx ny s), result := mag }

/-- HOST_MOTION (R97). DEDUCED (log 29). -/
def hostMotionDesc (x : Desc) (s : State) : DescResult :=
  let sup (v : Int) : HostValue := { value := v, at' := some s.now, stale := false }
  let c := s.course
  let c := if poseValid x 2 then { c with hostSpeed := sup (i32 x.bytes 28), hostLost := false } else c
  let c := if poseValid x 3 then { c with hostYaw := sup (i32 x.bytes 32) } else c
  let c := if poseValid x 4 then { c with hostHitch := sup (i32 x.bytes 36) } else c
  { state := { s with course := c } }

/-- The ring of pose corrections. -/
def poseRing : Nat := 87

/-- Step 3 of R24: the FIX descriptors received are applied in ring order and complete (R94). -/
def applyFixes (s : State) : State :=
  s.course.fixDue.foldl (fun s x =>
    let r := fixDesc x s
    completeAt poseRing x.index r.status r.result r.state) { s with course := { s.course with fixDue := [] } }

/-- FIX: the oldest waiting descriptor of ring 87 is received, if it is a FIX; step 3 of the next sweep applies it (R24, R94). -/
def execFix (t : Time) (s : State) : Host.Outcome State Fault Refusal :=
  .next (runDesc poseRing 1 (fun x s =>
    { state := { s with course := { s.course with fixDue := s.course.fixDue ++ [x] } }, finished := false }) (begin' t s))

/-- SET_POSE: the oldest waiting descriptor of ring 87 is applied at once, if it is a SET_POSE, and before it the FIX descriptors it follows (R96). DEDUCED (log 102). -/
def execSetPose (t : Time) (s : State) : Host.Outcome State Fault Refusal :=
  .next (runDesc poseRing 2 (fun x s => setPoseDesc x (applyFixes s)) (begin' t s))

/-- HOST_MOTION: the oldest waiting descriptor of ring 87 is applied, if it is a HOST_MOTION (R97). -/
def execHostMotion (t : Time) (s : State) : Host.Outcome State Fault Refusal :=
  .next (runDesc poseRing 3 hostMotionDesc (begin' t s))

end Sys2Proof.Machine
end

