-- ==== Sys2Proof/Machine/Relay.lean ====
section
/-! DEFINITION. The relay link between the dies: frames sent, acknowledged and accepted in sequence, and the tolls they hold (R302 to R309, R29). -/
namespace Sys2Proof.Machine

/-! ### The bytes of a frame (R302 to R305) -/

/-- The type code of a frame (R304). -/
def FrameBody.code : FrameBody → Nat
  | .idle => 0x1
  | .event _ _ => 0x2
  | .retime _ _ _ => 0x3
  | .withdraw _ _ => 0x4
  | .write _ _ => 0x5
  | .time _ => 0x6
  | .grant _ => 0x7
  | .revoke => 0x8
  | .clear _ _ => 0x9
  | .report _ => 0xB
  | .status _ _ => 0xC
  | .fault _ _ => 0xD
  | .lease _ _ _ _ => 0xE

/-- The payload of a REPORT (R305). -/
def Report.payload (r : Report) : List Byte :=
  leBytes 1 (r.channel % 64 + 128 * b2n r.closing) ++ [0] ++ leBytes 2 (r.flags % 2 ^ 11) ++ leBytes 8 r.gate
    ++ leBytes 4 (r.delay.getD 0xFFFFFFFF) ++ leBytes 2 (capNat 0xFFFF r.deferral) ++ leBytes 2 (capNat 0xFFFF r.backstop)

/-- The payload of a frame (R304): its items in the order of the table. DESIGN CHOICE (log 108). -/
def FrameBody.payload : FrameBody → List Byte
  | .idle => []
  | .event ch e => leBytes 4 e.id ++ leBytes 1 ch ++ leBytes 1 e.kind ++ leBytes 8 e.time ++ leBytes 2 e.d
  | .retime ch id t => leBytes 4 id ++ leBytes 1 ch ++ leBytes 8 t
  | .withdraw ch id => leBytes 4 id ++ leBytes 1 ch
  | .write off v => leBytes 4 off ++ leBytes 4 v.toNat
  | .time t => leBytes 8 t
  | .grant g => leBytes 2 g
  | .revoke => []
  | .clear target bits => leBytes 1 target ++ leBytes 4 bits.toNat
  | .report r => r.payload
  | .status seg words => leBytes 1 seg ++ words.flatMap (fun w => leBytes 4 w.toNat)
  | .fault target bits => leBytes 1 target ++ leBytes 4 bits.toNat
  | .lease held e last cause => leBytes 1 (b2n held) ++ leBytes 2 e ++ leBytes 2 last ++ leBytes 1 cause

/-- The header of a frame (R303). -/
def Frame.header (f : Frame) : List Byte :=
  leBytes 1 (f.body.code + 16 * f.epoch) ++ leBytes 1 f.seq ++ leBytes 1 f.ack ++ leBytes 1 f.body.payload.length
    ++ leBytes 2 f.leaseEpoch ++ leBytes 2 0

/-- One bit of CRC-32, least significant bit first. -/
def crcBit (c : W32) : W32 := if flag c 0 then c >>> 1 ^^^ 0xEDB88320#32 else c >>> 1

/-- One byte of CRC-32. -/
def crcByte (c : W32) (b : Byte) : W32 :=
  (List.range 8).foldl (fun c _ => crcBit c) (c ^^^ b.zeroExtend 32)

/-- CRC-32 as IEEE 802.3 forms it (R302). PRESUMED (log 105). -/
def crc32 (bs : List Byte) : W32 := ~~~ bs.foldl crcByte 0xFFFFFFFF#32

/-- A frame as it travels: header, payload and CRC-32 over both (R302). -/
def Frame.wire (f : Frame) : List Byte :=
  let body := f.header ++ f.body.payload
  body ++ leBytes 4 (crc32 body).toNat

/-- The CRC of the bytes received is correct (R302, R306). -/
def wireOk (bs : List Byte) : Bool :=
  let n := bs.length - 4
  decide (12 ≤ bs.length) && bs.drop n = leBytes 4 (crc32 (bs.take n)).toNat

/-- Bytes received with some bits inverted on the way. -/
def flipBits : List Byte → List Byte → List Byte
  | [], _ => []
  | bs, [] => bs
  | b :: bs, x :: xs => (b ^^^ x) :: flipBits bs xs

/-! ### Sending and accepting -/

/-- The number after a sequence number (R303). -/
def seqNext (n : Nat) : Nat := (n + 1) % 256

/-- The acknowledgement that a receiver returns: the number of the last frame it accepted (R303). -/
def Link.lastAccepted (l : Link) : Nat := (l.expect + 255) % 256

/-- A link after its sender has sent a frame; an untrained link keeps it until training completes (R308). -/
def Link.push (l : Link) (trained : Bool) (now : Time) (f : Frame) : Link :=
  { l with
    next := seqNext l.next
    unacked := l.unacked ++ [{ f with sentAt := now }]
    flight := if trained then l.flight ++ [{ f with sentAt := now }] else l.flight }

/-- The lease epoch that the control die believes is held, 0 if none (R303). -/
def believedEpoch (s : State) : Nat := if s.lease.held then s.lease.epoch else 0

/-- A direction can give a frame a sequence number now. -/
def Link.open' (l : Link) : Bool := l.unacked.length < 128

/-- The control die gives a frame its header and sends it. -/
def sendDown (b : FrameBody) (s : State) : State :=
  let f : Frame := { seq := s.relay.down.next, epoch := s.relay.epoch, ack := s.relay.up.lastAccepted,
                     leaseEpoch := believedEpoch s, body := b }
  { s with relay := { s.relay with down := s.relay.down.push s.relay.trained s.now f } }

/-- The drive die gives a frame its header and sends it. -/
def sendUp (b : FrameBody) (s : State) : State :=
  let f : Frame := { seq := s.relay.up.next, epoch := s.relay.epoch, ack := s.relay.down.lastAccepted,
                     leaseEpoch := s.drive.lease.e, body := b }
  { s with relay := { s.relay with up := s.relay.up.push s.relay.trained s.now f } }

/-- The control die sends a frame, in order behind those that wait. -/
def pushDown (b : FrameBody) (s : State) : State :=
  if s.relay.down.open' && s.relay.down.waiting.isEmpty then sendDown b s
  else { s with relay := { s.relay with down := { s.relay.down with waiting := s.relay.down.waiting ++ [b] } } }

/-- The drive die sends a frame, in order behind those that wait. -/
def pushUp (b : FrameBody) (s : State) : State :=
  if s.relay.up.open' && s.relay.up.waiting.isEmpty then sendUp b s
  else { s with relay := { s.relay with up := { s.relay.up with waiting := s.relay.up.waiting ++ [b] } } }

/-- Send the down frames that waited, as far as there is room. -/
def refillDown : Nat → State → State
  | 0, s => s
  | fuel + 1, s =>
    match s.relay.down.waiting with
    | [] => s
    | b :: rest =>
      if s.relay.down.open' then
        refillDown fuel (sendDown b { s with relay := { s.relay with down := { s.relay.down with waiting := rest } } })
      else s

/-- Send the up frames that waited, as far as there is room. -/
def refillUp : Nat → State → State
  | 0, s => s
  | fuel + 1, s =>
    match s.relay.up.waiting with
    | [] => s
    | b :: rest =>
      if s.relay.up.open' then
        refillUp fuel (sendUp b { s with relay := { s.relay with up := { s.relay.up with waiting := rest } } })
      else s

/-- Unacknowledged frames after an acknowledgement of number `ack` (R306). -/
def dropAcked (ack : Nat) (l : List Frame) : List Frame :=
  if l.any (fun f => f.seq = ack) then (l.dropWhile (fun f => f.seq != ack)).drop 1 else l

/-- Whether the receiver takes a frame: its link epoch matches and its number is the next expected (R306). -/
def takes (s : State) (l : Link) (f : Frame) : Bool :=
  s.relay.trained && f.epoch = s.relay.epoch && f.seq = l.expect

/-- The receiving side of a link after it has accepted the frame at the head of the flight. -/
def Link.accept (l : Link) (now : Time) : Link :=
  { l with flight := l.flight.drop 1, expect := seqNext l.expect, discards := 0, acceptedAt := now }

/-- The sending side of a link after an acknowledgement. -/
def Link.acked (l : Link) (ack : Nat) : Link := { l with unacked := dropAcked ack l.unacked }

/-- The down frame that the drive die is about to receive. -/
def headDown (s : State) : Option Frame :=
  match s.relay.down.flight with
  | f :: _ => if takes s s.relay.down f then some f else none
  | [] => none

/-- The up frame that the control die is about to receive. -/
def headUp (s : State) : Option Frame :=
  match s.relay.up.flight with
  | f :: _ => if takes s s.relay.up f then some f else none
  | [] => none

/-- The drive die accepts a frame: its acknowledgement frees up frames. -/
def takeDown (f : Frame) (s : State) : State :=
  let s := { s with relay := { s.relay with
      down := s.relay.down.accept s.now
      up := s.relay.up.acked f.ack } }
  refillUp s.relay.up.waiting.length s

/-- A WRITE is on its way or not yet acknowledged (R439). -/
def writesDue (s : State) : Bool :=
  let isWrite (b : FrameBody) : Bool := match b with
    | .write _ _ => true
    | _ => false
  s.relay.down.waiting.any isWrite || s.relay.down.unacked.any (fun f => isWrite f.body)

/-- The control die accepts a frame: its acknowledgement returns relay-link tolls (R306). -/
def takeUp (f : Frame) (s : State) : State :=
  let s := { s with relay := { s.relay with
      up := s.relay.up.accept s.now
      down := s.relay.down.acked f.ack } }
  let s := refillDown s.relay.down.waiting.length s
  { s with relay := { s.relay with rewriting := s.relay.rewriting && writesDue s } }

/-- A frame that spends a relay-link toll (R29, R306). -/
def spendsToll (b : FrameBody) : Bool :=
  match b with
  | .event _ _ => true
  | .retime _ _ _ => true
  | .withdraw _ _ => true
  | _ => false

/-- Relay-link tolls in use: unacknowledged EVENT, RETIME and WITHDRAW frames (R29, R306). -/
def relayTolls (s : State) : Nat :=
  (s.relay.down.unacked.filter (fun f => spendsToll f.body)).length
    + (s.relay.down.waiting.filter spendsToll).length

/-- Frames of one direction that the other die has not yet accepted, by their bodies. -/
def notAccepted (l : Link) : List FrameBody :=
  (l.unacked.drop (l.unacked.length - (l.next + 256 - l.expect) % 256)).map (·.body) ++ l.waiting

def drvCh (s : State) (n : Nat) : DrvCh := tabGet {} s.drive.ch n
def setDrvCh (n : Nat) (c : DrvCh) (s : State) : State :=
  { s with drive := { s.drive with ch := tabSet {} s.drive.ch n c } }

/-- Tolls of a channel's store in use: events on their way and events pending there (R29). -/
def storeTolls (s : State) (ch : Nat) : Nat :=
  ((notAccepted s.relay.down).filter (fun b => match b with
    | .event c _ => c = ch
    | _ => false)).length + (drvCh s ch).pending.length

end Sys2Proof.Machine
end

