-- ==== Sys2Proof/Machine/LaneCore.lean ====
section
/-! DEFINITION. Lanes and caravans: the settings in force, the caravan walker, effective rates, the motion of a lane's impact point, crossing times, and field positions (R99 to R106, R147 to R160, R87, R195, R198, R204, R220). -/
namespace Sys2Proof.Machine

def lane (s : State) (k : Nat) : Lane := tabGet {} s.engine.lanes k
def setLane (k : Nat) (l : Lane) (s : State) : State :=
  { s with engine := { s.engine with lanes := tabSet {} s.engine.lanes k l } }
def modLane (k : Nat) (f : Lane → Lane) (s : State) : State := setLane k (f (lane s k)) s

/-- Caravan 0 is configured after reset (R153). -/
def caravanReset (k : Nat) : Caravan :=
  if k = 0 then { configured := true, ownEnable := true, factor := 0x1000, reverse := true } else {}
def caravan (s : State) (k : Nat) : Caravan := tabGet (caravanReset k) s.engine.caravans k
def setCaravan (k : Nat) (c : Caravan) (s : State) : State :=
  { s with engine := { s.engine with caravans := tabSet (caravanReset k) s.engine.caravans k c } }
def modCaravan (k : Nat) (f : Caravan → Caravan) (s : State) : State := setCaravan k (f (caravan s k)) s

/-- Configured lanes, ascending. -/
def lanesOf (s : State) : List Nat := (s.engine.lanes.filter (fun e => e.2.configured)).map (·.1)

/-- Configured caravans, ascending; caravan 0 always is. -/
def caravansOf (s : State) : List Nat :=
  0 :: (s.engine.caravans.filter (fun e => e.1 ≠ 0 && e.2.configured)).map (·.1)

/-- Member-table entries in use (R154). -/
def memberCount (s : State) : Nat := (lanesOf s).length + (caravansOf s).length - 1

/-! ### The caravan walker (R155 to R158) -/

/-- What caravan 0 inherits: the parent share on a subordinate device (R156 to R158). -/
def rootShare (s : State) : Share := s.engine.convoy.share.getD {}

/-- The values of a caravan from those of its parent (R156 to R158). -/
def descend (p : Share) (c : Caravan) : Share where
  enable := p.enable && c.ownEnable
  p := capNat 0xFFFFFFFF (roundDivNat (p.p * c.factor) (2 ^ 12))
  reverse := p.reverse || c.reverse
  window := if c.tcEn then some (c.tcMin, c.tcMax) else p.window
  mode := if c.mode = 0 then p.mode else c.mode
  miss := if c.mode = 0 then p.miss else c.miss

/-- The effective values of caravan `k`, by ascent to caravan 0 within `fuel` levels. -/
def shareOf (s : State) : Nat → Nat → Share
  | 0, k => descend (rootShare s) (caravan s k)
  | fuel + 1, k =>
    if k = 0 then descend (rootShare s) (caravan s 0)
    else descend (shareOf s fuel (caravan s k).parent) (caravan s k)

/-- Step 2 of R24: the walker forms the effective values of every caravan. -/
def walk (s : State) : State :=
  let n := (caravansOf s).length
  (caravansOf s).foldl (fun t k => modCaravan k (fun c => { c with eff := shareOf s n k }) t) s

/-- Whether caravan `k` lies in the subtree of caravan `top`. -/
def below (s : State) (top : Nat) : Nat → Nat → Bool
  | 0, k => k = top
  | fuel + 1, k => k = top || (k ≠ 0 && below s top fuel (caravan s k).parent)

/-- The lanes that a command to caravan `top` reaches, ascending. -/
def lanesBelow (s : State) (top : Nat) : List Nat :=
  let n := (caravansOf s).length
  (lanesOf s).filter (fun k => below s top n (lane s k).parent)

/-- The proxy caravans in the subtree of caravan `top`, ascending. -/
def proxiesBelow (s : State) (top : Nat) : List Nat :=
  let n := (caravansOf s).length
  (caravansOf s).filter (fun k => (caravan s k).proxy && below s top n k)

/-! ### Turns within a sweep (R25, R168, R262) -/

/-- Source `n` has reached these lanes and caravans in the sweep in progress: a waybill ring by its index, then the parent's waybills, then the target stage. -/
def setTurn (n : Nat) (keys : List Nat) (s : State) : State :=
  { s with engine := { s.engine with ringTurn := keys.foldl (fun t k => tabSet 0 t k n) s.engine.ringTurn } }

/-- The place of the parent's waybills in a sweep's order, behind every waybill ring, and that of the target stage behind them (R168, R262). -/
def afterRings : Nat := 128
def afterWaybills : Nat := 129

/-- Step 2 of R24: which lanes the fidelity accumulators count, under the member table that takes effect (R213). -/
def walkCounted (s : State) : State :=
  let inside := lanesBelow s (fld s.engine.set.fid 26 16)
  (lanesOf s).foldl (fun s k => modLane k (fun l => { l with counted := inside.contains k }) s) s

/-! ### Settings in force (R195, R198, R204, R215, R242) -/

/-- The look-ahead and coverage registers as written. DEDUCED (log 21). -/
def lookWritten (s : State) : LookSet where
  cfg := rd s R.LOOKAHEAD_CFG 0
  horizon := rd s R.LOOKAHEAD_HORIZON 0
  remote := rd s R.LOOKAHEAD_HORIZON_REMOTE 0
  learn := rd s R.LOOKAHEAD_LEARN 0
  reject := rd s R.LOOKAHEAD_REJECT 0
  type0 := rd s R.LOOKAHEAD_TYPE 0
  type1 := rd s R.LOOKAHEAD_TYPE 1
  type2 := rd s R.LOOKAHEAD_TYPE 2
  type3 := rd s R.LOOKAHEAD_TYPE 3
  fid := rd s R.LOOKAHEAD_FID_CFG 0
  overlap := rd s R.COVERAGE_CFG 0
  prefetch := rd s R.COVERAGE_PREFETCH 0

def LookSet.type (x : LookSet) (t : Nat) : W32 :=
  match t with
  | 0 => x.type0 | 1 => x.type1 | 2 => x.type2 | _ => x.type3

/-- The per-lane cap (R192). -/
def laneCap (s : State) : Nat :=
  let c := fld s.engine.set.cfg 31 24
  if c = 0 then 1 else capNat 64 c
/-- The re-time threshold in device-time units (R202). -/
def retimeMin (s : State) : Nat := fld s.engine.set.cfg 15 0

/-- A unit of 10 us in device-time units. -/
def tenUs : Nat := 10 * usUnits

def Binding.isRemote : Binding → Bool
  | .remote _ _ _ => true
  | _ => false
def Binding.isDirect : Binding → Bool
  | .direct _ => true
  | _ => false
/-- The binding code of R149. -/
def Binding.code : Binding → Nat
  | .unbound => 0 | .direct _ => 1 | .pwm _ => 2 | .remote _ _ _ => 3
/-- The binding field of R163. -/
def Binding.field : Binding → Nat
  | .unbound => 0 | .direct c => c | .pwm c => c
  | .remote p n u => p + n * 2 ^ 8 + u * 2 ^ 16

/-- The horizon H of a binding's class, in device-time units (R198). -/
def horizonOf (s : State) (b : Binding) : Nat :=
  let w := if b.isRemote then s.engine.set.remote else s.engine.set.horizon
  let h := fld w 31 16
  (if h < 200 then 200 else capNat 10000 h) * tenUs
/-- The freeze window F_eff (R204). -/
def freezeOf (s : State) (b : Binding) : Nat :=
  let w := if b.isRemote then s.engine.set.remote else s.engine.set.horizon
  let f := fld w 15 0
  min ((if f < 20 then 20 else capNat 1000 f) * tenUs) (horizonOf s b / 2)

/-- transport and rate_delay of a lane type (R195). -/
def transportOf (s : State) (t : Nat) : Nat := fld (s.engine.set.type t) 31 16 * tenUs
def rateDelayOf (s : State) (t : Nat) : Nat := fld (s.engine.set.type t) 15 0 * tenUs

/-- The model delay of an event kind: on, off, or rate (R195). -/
def modelDelay (s : State) (l : Lane) (kind : Nat) : Nat :=
  match kind with
  | 1 => l.onDelay
  | 2 => l.offDelay
  | _ => rateDelayOf s l.type

/-- The latest sweep close T_k. -/
def tk (s : State) : Time := s.course.lastClose

/-! ### Rates (R158, R278) -/

/-- The effective rate of a lane at a lane rate: one rounding to UQ16.16 (R158). -/
def effRate (s : State) (l : Lane) (rate : Nat) : Nat :=
  let sh := (caravan s l.parent).eff
  let tc : Nat :=
    if l.type = 0 || l.type = 2 then
      match sh.window with
      | none => 0x1000
      | some (lo, hi) => (clampInt lo hi l.ratio).toNat
    else 0x1000
  capNat 0xFFFFFFFF (roundDivNat (rate * sh.p * tc) (2 ^ 36))

/-- The duty that an effective rate gives, and whether it was limited to 1.0 (R278). -/
def dutyOf (l : Lane) (eff : Nat) : Nat × Bool :=
  if l.type = 3 then (0x8000, false)
  else if 0x10000 < eff then (0x8000, true)
  else (roundDivNat eff 2, false)

/-! ### Motion (R102 to R105) -/

/-- The fore-aft place of the impact point in its body: a = x + g (R99). -/
def Lane.foreAft (l : Lane) : Int := l.x + l.g

/-- The course at which a lane is anchored (R102). -/
def anchorCourse (s : State) (l : Lane) : Int :=
  let a := if l.implement then s.course.set.hitchX + l.foreAft else l.foreAft
  wrapS 64 ((s.course.mc / 2 ^ 16 + 64 * a) * 2 ^ 16)

/-- The hitch angle at the close, with 16 fraction bits. -/
def hitch16 (s : State) : Int := s.course.pose.hitch * 2 ^ 16

/-- The lane-course increment of the sweep, with 16 fraction bits (R103, R104). -/
def courseStep (s : State) (l : Lane) : Int :=
  let c := s.course
  if l.implement then
    let mid := 2 * c.hitchPrev + c.dHitch
    roundDiv (c.dMc * cosQ mid 49 * 2 ^ 55 + c.set.hitchX * c.dHeading * twoPi * sinQ mid 49
      - l.y * (c.dHeading + c.dHitch) * twoPi * 2 ^ 30) (2 ^ 85)
  else c.dMc - roundDiv (l.y * c.dHeading * twoPi) (2 ^ 55)

/-- Lane speed at the close, Q24.8, rounded once; the implement turns at ω + Δφ / T (R103, R104). -/
def laneSpeed (s : State) (l : Lane) : Int :=
  let c := s.course
  if l.implement then
    let phi := hitch16 s
    let T : Nat := if c.duration = 0 then 1 else c.duration
    let turn : Int := c.yaw * T * 2 ^ 16 + (if c.duration = 0 then 0 else c.dHitch * secUnits)
    satSpeed (roundDiv ((c.speed * cosQ phi 48 * 2 ^ 47 + c.set.hitchX * c.yaw * twoPi * sinQ phi 48) * (T * 2 ^ 16)
      - l.y * turn * twoPi * 2 ^ 30) (2 ^ 77 * (T * 2 ^ 16)))
  else satSpeed (c.speed - roundDiv (l.y * c.yaw * twoPi) (2 ^ 47))

/-- The turn ratio; it holds below 0.1 m/s (R105). -/
def turnRatio (s : State) (l : Lane) (v : Int) : Int :=
  let m := s.course.speed
  if 6400 * 2 ^ 8 ≤ m.natAbs then
    satS 16 (if 0 < m then roundDiv (v * 2 ^ 12) m.natAbs else roundDiv (-v * 2 ^ 12) m.natAbs)
  else l.ratio

/-- A lane after the motion of a sweep: anchored at its first visit, with no acceleration yet, and integrated afterwards (R102 to R105). DESIGN CHOICE (log 101). -/
def laneMotion (s : State) (l : Lane) : Lane :=
  let v := laneSpeed s l
  if l.anchored then
    { l with
      course := wrapS 64 (l.course + courseStep s l)
      v := v
      a := if s.course.duration = 0 then 0 else satS 32 (roundDiv ((v - l.v) * secUnits) s.course.duration)
      ratio := turnRatio s l v }
  else { l with anchored := true, course := anchorCourse s l, v := v, a := 0, ratio := turnRatio s l v }

/-- Lane course in whole steps, signed 48 bits. -/
def Lane.at (l : Lane) : Int := wrapS 48 (l.course / 2 ^ 16)

/-- `a` is ahead of `b` (R78). -/
def ahead (a b : Int) : Bool := decide (0 < wrapS 48 (a - b))

/-- The square root in R87 with 32 fraction bits. -/
def rootFix (x : Nat) : Nat := isqrtBits 100 x 0

/-- The crossing time of lane course `p`, if there is one (R87). -/
def crossing (s : State) (l : Lane) (p : Int) : Option Int :=
  let d16 := wrapS 64 (p * 2 ^ 16 - l.course)
  let rad := l.v * l.v * 2 ^ 7 + l.a * d16
  if d16 ≤ 0 || rad < 0 then none
  else
    let den := l.v * 2 ^ 32 + rootFix (rad.toNat * 2 ^ 57)
    if den ≤ 0 then none else some (tk s + roundDiv (2 * d16 * secUnits * 2 ^ 24) den.toNat)

/-- Course travelled at a lane's speed in a time, rounded to cs. -/
def speedTimes (v : Int) (dt : Int) : Int := roundDiv (v * dt) (2 ^ 8 * secUnits)

/-! ### Field positions (R106, R220) -/

/-- A field position scaled by `64 × K × 2^30` mm, for a lateral offset `bK / K` and a fore-aft place `a64 / 64` (R106). -/
def fieldScaled (s : State) (l : Lane) (a64 bK : Int) (K : Nat) : Int × Int :=
  let p := s.course.pose
  let base (v16 : Int) : Int := v16 * (64 * K) * 2 ^ 14
  let cs := cosQ p.heading 48
  let sn := sinQ p.heading 48
  if l.implement then
    let xh := s.course.set.hitchX
    let dir := p.heading + hitch16 s
    let cs2 := cosQ dir 48
    let sn2 := sinQ dir 48
    (base p.x + xh * cs * (64 * K) + a64 * K * cs2 - bK * 64 * sn2,
     base p.y + xh * sn * (64 * K) + a64 * K * sn2 + bK * 64 * cs2)
  else
    (base p.x + a64 * K * cs - bK * 64 * sn, base p.y + a64 * K * sn + bK * 64 * cs)

/-! ### Tallies and faults of a lane -/

/-- Set fault bits of a lane (R152). -/
def laneFault (k bits : Nat) (s : State) : State :=
  modLane k (fun l => { l with faults := l.faults ||| bits }) s

/-- The lane bound to a direct channel, if any (R149). -/
def laneOfDirect (s : State) (ch : Nat) : Option Nat :=
  (s.engine.lanes.find? (fun e => e.2.configured && decide (e.2.binding = .direct ch))).map (·.1)

/-- The lane bound to a PWM channel, if any. -/
def laneOfPwm (s : State) (ch : Nat) : Option Nat :=
  (s.engine.lanes.find? (fun e => e.2.configured && decide (e.2.binding = .pwm ch))).map (·.1)

/-- Return pool entries (R193). -/
def poolReturn (n : Nat) (s : State) : State :=
  { s with engine := { s.engine with poolFree := capNat 65536 (s.engine.poolFree + n) } }

/-- Pool entries that a lane holds. DESIGN CHOICE (log 37). -/
def Lane.entries (l : Lane) : Nat :=
  (l.queue.filter (·.entry)).length + (l.events.map (·.entries)).foldl (· + ·) 0
    + (l.overdue.map (·.entries)).foldl (· + ·) 0

/-- The milestone kind that a trace packet names for an event of a kind: that of the last milestone that moves its way, else the event's own. DESIGN CHOICE (log 126). -/
def milestoneKind (kind : Nat) (ms : List Milestone) : Nat :=
  match (ms.filter (fun m => m.kind = kind || (kind ≠ 3 && m.kind = kind + 3))).getLast? with
  | some m => m.kind
  | none => kind

/-- The milestone kind of an event for the trace (R537). -/
def LaneEv.traceKind (e : LaneEv) : Nat := if e.mkind = 0 then e.kind else e.mkind

/-- A LANE trace packet (R537). -/
def laneTrace (sub k kind : Nat) (pos : Int) (s : State) : State :=
  traceEvent 3 sub (leBytes 2 k ++ [BitVec.ofNat 8 kind, 0] ++ leBytes 4 (wrapU 32 pos)) s

/-- A DISPATCH trace packet (R537). -/
def dispTrace (sub k : Nat) (b : Binding) (t : Time) (s : State) : State :=
  traceEvent 4 sub ([BitVec.ofNat 8 b.code, 0] ++ leBytes 2 k ++ leBytes 4 b.field ++ leBytes 4 t) s

end Sys2Proof.Machine
end

