-- ==== Sys2Proof/Machine/Coverage.lean ====
section
/-! DEFINITION. The coverage stage: cells and tiles, the cache and its requests, the decision ahead of a lane, scanning and coverage edges, and marking (R217 to R233). -/
namespace Sys2Proof.Machine

/-- The cell side in mm (R218). -/
def cellMm (s : State) : Nat :=
  let c := rf s R.COVERAGE_CFG 0 31 16
  if c < 16 then 16 else capNat 1024 c

/-- A tile key and a cell index within the tile: j × 256 + i (R218). -/
structure CellRef where
  tx : Int
  ty : Int
  cell : Nat
  deriving DecidableEq, Repr

/-- The cell that a scaled field position lies in (R218). -/
def cellOf (s : State) (K : Nat) (p : Int × Int) : CellRef :=
  let d : Int := (64 * K * 2 ^ 30 : Nat) * cellMm s
  let cx := p.1 / d
  let cy := p.2 / d
  let tx := cx / 256
  let ty := cy / 256
  { tx := tx, ty := ty, cell := (cy - 256 * ty).toNat * 256 + (cx - 256 * tx).toNat }

/-- The number of points K across a footprint (R220). -/
def pointCount (s : State) (l : Lane) : Nat :=
  let c := cellMm s
  min 16 (max 1 ((2 * l.halfWidth + c - 1) / c))

/-- The cells under a lane's footprint at lane course `q` (R220). -/
def footprint (s : State) (l : Lane) (q : Int) : List CellRef :=
  let K := pointCount s l
  let a64 := 64 * l.foreAft + wrapS 48 (q - l.at)
  (List.range K).map (fun (n : Nat) =>
    cellOf s K (fieldScaled s l a64 (K * (l.y - l.halfWidth) + (2 * n + 1) * l.halfWidth) K))

/-- The cell under the centre point (R233). -/
def centreCell (s : State) (l : Lane) (q : Int) : CellRef :=
  cellOf s 1 (fieldScaled s l (64 * l.foreAft + wrapS 48 (q - l.at)) l.y 1)

/-! ### The cache (R230, R231) -/

def TileSlot.resident (x : TileSlot) : Bool := x.st = .clean || x.st = .dirty || x.st = .writing

/-- The slot that holds a key, if any. -/
def slotOf (s : State) (tx ty : Int) : Option Nat :=
  (s.engine.coverage.slots.find? (fun e => e.2.st != .free && decide (e.2.tx = tx) && decide (e.2.ty = ty))).map (·.1)

/-- A dirty slot is being written back for a key (R231). -/
def keyOnItsWay (s : State) (tx ty : Int) : Bool :=
  s.engine.coverage.slots.any (fun e => match e.2.write with
    | some w => (match w.nextKey with
        | some (a, b, _) => decide (a = tx) && decide (b = ty)
        | none => false)
    | none => false)

/-- A point has lain in the tile in the current or the previous sweep (R230). -/
def pinned (s : State) (x : TileSlot) : Bool := decide (0 < x.pinnedAt) && decide (s.engine.sweeps ≤ x.pinnedAt)

/-- Touch a slot. -/
def touchSlot (i : Nat) (s : State) : State :=
  let n := s.engine.coverage.clock
  let s := setTileSlot i { tileSlot s i with touched := n } s
  { s with engine := { s.engine with coverage := { s.engine.coverage with clock := n + 1 } } }

/-- Touch a slot for a point of a lane, which pins it (R230). -/
def pinSlot (i : Nat) (s : State) : State :=
  touchSlot i (setTileSlot i { tileSlot s i with pinnedAt := s.engine.sweeps + 1 } s)

/-- The slot least recently touched among those that satisfy a test. -/
def oldestSlot (ok : TileSlot → Bool) (l : Tab TileSlot) : Option Nat :=
  (l.foldl (fun acc e =>
    if ok e.2 then
      match acc with
      | none => some (e.1, e.2.touched)
      | some (i, t) => if e.2.touched < t then some (e.1, e.2.touched) else some (i, t)
    else acc) none).map (·.1)

/-- The first free slot of the 256 (R231). -/
def freeSlot (s : State) : Option Nat := (List.range 256).find? (fun i => decide ((tileSlot s i).st = .free))

/-- Begin to copy a dirty slot out into the first writeback buffer held (R238). -/
def startWrite (i reason : Nat) (forDesc : Option W32) (after : Option (Int × Int × Nat)) (s : State) : State :=
  match s.engine.coverage.buffers with
  | [] => s
  | (b, a) :: rest =>
    let s := { s with engine := { s.engine with coverage := { s.engine.coverage with buffers := rest } } }
    setTileSlot i { tileSlot s i with
      st := .writing
      remarked := 0
      write := some { buffer := b, addr := a, reason := reason, forDesc := forDesc, nextKey := after } } s

/-- A writeback buffer is held (R238). -/
def bufferFree (s : State) : Bool := !s.engine.coverage.buffers.isEmpty

/-- Take a slot for a new key under R231; `none` when no slot is available. A dirty slot is first written back. -/
def allocSlot (tx ty : Int) (kind : Nat) (s : State) : Option (Nat × Bool × State) :=
  let fresh (i : Nat) : Option (Nat × Bool × State) :=
    some (i, true, setTileSlot i { tx := tx, ty := ty, st := .requested } s)
  match freeSlot s with
  | some i => fresh i
  | none =>
    match oldestSlot (fun x => x.st = .refused) s.engine.coverage.slots with
    | some i => fresh i
    | none =>
      match oldestSlot (fun x => x.st = .clean && !pinned s x && x.load.isNone) s.engine.coverage.slots with
      | some i => fresh i
      | none =>
        if bufferFree s then
          match oldestSlot (fun x => x.st = .dirty && !pinned s x && x.load.isNone) s.engine.coverage.slots with
          | some i => some (i, false, startWrite i 1 none (some (tx, ty, kind)) s)
          | none => none
        else none

/-- What a point in a tile asks of the cache: touch the slot that holds the key; count a request already outstanding; take and request a slot (R230 to R232). -/
def wantTile (tx ty : Int) (kind : Nat) (s : State) : State :=
  match slotOf s tx ty with
  | some i =>
    let s := pinSlot i s
    if (tileSlot s i).st = .requested then bump T.covReqMerge s else s
  | none =>
    if keyOnItsWay s tx ty then bump T.covReqMerge s
    else match allocSlot tx ty kind s with
      | none => s
      | some (_, false, s) => s
      | some (i, true, s) => tilePost i kind (pinSlot i s)

/-- The keys of a list of cells, each once, in order of appearance. -/
def keysOf (l : List CellRef) : List (Int × Int) := (l.map (fun c => (c.tx, c.ty))).eraseDups

/-- Pin the slots that hold the tiles of a visit's points (R230). -/
def pinHeld (keys : List (Int × Int)) (s : State) : State :=
  keys.foldl (fun s k => match slotOf s k.1 k.2 with
    | some i => pinSlot i s
    | none => s) s

/-- Touch or request the tiles of a visit's points: those that hold a point are pinned before a slot is taken for another (R230, R231). -/
def wantTiles (l : List CellRef) (kind : Nat) (s : State) : State :=
  (keysOf l).foldl (fun s k => wantTile k.1 k.2 kind s) (pinHeld (keysOf l) s)

/-- The state of a cell; `none` where its tile is not resident (R221). -/
def cellState (s : State) (c : CellRef) : Option Nat :=
  match slotOf s c.tx c.ty with
  | none => none
  | some i => if (tileSlot s i).resident then some (tabGet (tileSlot s i).fill (tileSlot s i).cells c.cell) else none

/-! ### Decisions (R221, R222, R225) -/

/-- The overlap threshold p (R221). -/
def overlapPct (s : State) : Nat :=
  let p := fld s.engine.set.overlap 15 8
  if p = 0 then 1 else capNat 100 p

/-- The decision of an evaluation over its points: true is veto (R221, R222). -/
def decideOn (s : State) (l : Lane) (cells : List CellRef) : Bool :=
  let st := cells.map (cellState s)
  let K := cells.length
  let A := (st.filter (fun x => x = some 1)).length
  let E := (st.filter (fun x => x = some 2 || x = some 3)).length
  let M := (st.filter (fun x => x = none)).length
  if 0 < E then true
  else if 0 < M then
    match l.miss with
    | 1 => true
    | 2 => false
    | _ => l.scanVeto.getD false
  else if l.mode = 3 then decide (overlapPct s * K ≤ 100 * A)
  else false

/-- Evaluate lane `k` at lane course `q`: the decision, and the misses, requests and pins it makes (R221, R222, R230). DESIGN CHOICE (log 46). -/
def evaluate (k : Nat) (q : Int) (s : State) : Bool × State :=
  let l := lane s k
  let cells := footprint s l q
  let veto := decideOn s l cells
  let s := if cells.any (fun c => (cellState s c).isNone) then bump T.covMiss s else s
  (veto, wantTiles cells 1 s)

/-- The lane takes part in vetoing: mode guard or full, and not a switch (R148, R219). -/
def Lane.guarded (l : Lane) : Bool := (l.mode = 2 || l.mode = 3) && l.type ≠ 3

/-- The decision known at a course without a direct evaluation: that of the last edge at or behind it, else that found at the last evaluation behind it (R225). -/
def knownVeto (l : Lane) (p : Int) : Option Bool :=
  match l.scan with
  | none => none
  | some S =>
    if ahead p S then none
    else ((l.base ++ l.edges).filter (fun e => !ahead e.1 p)).getLast?.map (·.2)

/-- allowed(p) of lane `k` (R225); a lane that takes no part is always allowed. -/
def allowedAt (k : Nat) (p : Int) (s : State) : Bool × State :=
  let l := lane s k
  if l.guarded then
    match knownVeto l p with
    | some v => (!v, s)
    | none =>
      let (v, s) := evaluate k p s
      (!v, s)
  else (true, s)

/-! ### Scanning and prefetch (R223, R224, R233) -/

/-- The probe distance in cs (R223). -/
def probeDistance (s : State) (l : Lane) : Int :=
  speedTimes (l.v.natAbs : Int) (max l.onDelay l.offDelay + transportOf s l.type + horizonOf s l.binding : Nat)

/-- The scan of a visit (R223, R224). -/
def scanLane (k : Nat) (s : State) : State :=
  let l := lane s k
  if !l.guarded then s
  else
    let S := l.scan.getD l.at
    let s := setLane k { l with scan := some S } s
    let q := wrapS 48 (l.at + probeDistance s l)
    if 4 ≤ l.edges.length then
      let s := bump T.covEdgeOvf s
      if l.edgeFull then s
      else notify 0x16 k l.edges.length (modLane k (fun l => { l with edgeFull := true }) s)
    else
      let s := modLane k (fun l => { l with edgeFull := false }) s
      if ahead q S then
        let (v, s) := evaluate k q s
        modLane k (fun l => { l with
          scan := some q
          scanVeto := some v
          base := if l.base.isEmpty then [(q, v)] else l.base
          edges := match l.scanVeto with
            | some old => if old = v then l.edges else l.edges ++ [(q, v)]
            | none => l.edges }) s
      else s

/-- The prefetch point of a visit (R233). -/
def prefetchLane (k : Nat) (s : State) : State :=
  let l := lane s k
  if !l.guarded then s
  else
    let q := wrapS 48 (l.at + probeDistance s l + 64 * fld s.engine.set.prefetch 15 0)
    wantTiles [centreCell s l q] 2 s

/-- Edges that the lane has crossed leave its queue; what was decided there stays known (R224, R225). -/
def crossEdges (k : Nat) (s : State) : State :=
  modLane k (fun l => { l with
    edges := l.edges.filter (fun e => ahead e.1 l.at)
    base := l.base ++ l.edges.filter (fun e => !ahead e.1 l.at) }) s

/-! ### Marking (R228, R229) -/

/-- Whether an applying interval overlaps the sweep that ended at T_k. -/
def appliesNow (s : State) (l : Lane) : Bool :=
  let t1 := tk s
  let t0 := t1 - s.course.duration
  l.applying.any (fun i => decide (i.start < t1) && (match i.stop with
    | none => true
    | some e => decide (t0 < e) && decide (i.start < e)))

/-- Mark one point of lane `k` (R229). -/
def markPoint (k : Nat) (c : CellRef) (s : State) : State :=
  match slotOf s c.tx c.ty with
  | some i =>
    let x := tileSlot s i
    if x.resident then
      match tabGet x.fill x.cells c.cell with
      | 0 =>
        let x := { x with
          cells := tabSet x.fill x.cells c.cell 1
          marked := x.marked + 1
          remarked := x.remarked + b2n (x.st = .writing)
          st := if x.st = .clean then .dirty else x.st
          load := x.load.map (fun ld => if ld.done then ld else { ld with marks := ld.marks ++ [c.cell] }) }
        setTileSlot i x s
      | 1 => s
      | v =>
        let s := bump T.covOverExcl s
        if (lane s k).overExcl then s
        else notify 0x15 k v (modLane k (fun l => { l with overExcl := true }) s)
    else markLost s
  | none => markLost s
where
  markLost (s : State) : State :=
    let s := bump T.covMarkLost s
    if (lane s k).lostTiles.contains (c.tx, c.ty) then s
    else notify 0x14 k (wrapU 16 c.tx * 2 ^ 16 + wrapU 16 c.ty)
      (modLane k (fun l => { l with lostTiles := l.lostTiles ++ [(c.tx, c.ty)] }) s)

/-- A tile has become resident: the mark-loss episodes in it end (R229). -/
def tileResident (tx ty : Int) (s : State) : State :=
  (lanesOf s).foldl (fun s k =>
    if (lane s k).lostTiles.contains (tx, ty) then
      modLane k (fun l => { l with lostTiles := l.lostTiles.filter (fun t => decide (t ≠ (tx, ty))) }) s
    else s) s

/-- The marking of a visit (R229): unbound lanes never mark (R219). -/
def markLane (k : Nat) (s : State) : State :=
  let l := lane s k
  if l.guarded && l.binding ≠ .unbound && appliesNow s l then
    let cells := footprint s l l.at
    let excl := cells.any (fun c => cellState s c = some 2 || cellState s c = some 3)
    let s := wantTiles cells 1 s
    let s := cells.foldl (fun s c => markPoint k c s) s
    if excl then s else modLane k (fun l => { l with overExcl := false }) s
  else modLane k (fun l => { l with overExcl := false }) s

/-- The applying intervals that later visits can still need: those that have not ended, and the latest that has, which a report may move (R228). -/
def stillApplies (now : Time) : List Applying → List Applying
  | [] => []
  | i :: rest =>
    if i.stop.isNone then i :: stillApplies now rest
    else i :: rest.filter (fun j => match j.stop with
      | some t => decide (now < t)
      | none => true)

/-- Coverage edges are discarded, with what was found so far (R227). -/
def dropEdges (l : Lane) : Lane :=
  { l with edges := [], scan := none, scanVeto := none, base := [], edgeFull := false }

end Sys2Proof.Machine
end

