-- ==== Sys2Proof/Machine/Dispatcher.lean ====
section
/-! DEFINITION. The dispatcher and the life of a committed event: handing on under tolls, re-timing, withdrawal, execution at the binding, placement accounting and the learning of delays (R29, R30, R193, R200, R202, R205, R210 to R213). -/
namespace Sys2Proof.Machine

/-! ### Handing on (R29, R30) -/

def slotQueue (s : State) (p : Nat) : List SlotCmd := tabGet [] s.engine.slotQueue p
def setSlotQueue (p : Nat) (l : List SlotCmd) (s : State) : State :=
  { s with engine := { s.engine with slotQueue := tabSet [] s.engine.slotQueue p l } }
def slotCancels (s : State) (p : Nat) : List SlotCancel := tabGet [] s.engine.cancels p
def setSlotCancels (p : Nat) (l : List SlotCancel) (s : State) : State :=
  { s with engine := { s.engine with cancels := tabSet [] s.engine.cancels p l } }

/-- Commands of a slot queue that hold a toll: those not yet transmitted (R29, R416). -/
def slotTolls (s : State) (p : Nat) : Nat := ((slotQueue s p).filter (fun c => !c.sent)).length

/-- Change the committed event `id` of lane `k`. -/
def modEvent (k id : Nat) (f : LaneEv → LaneEv) (s : State) : State :=
  modLane k (fun l => { l with events := l.events.map (fun e => if e.id = id then f e else e) }) s

/-- The consumer of an item gives a toll now (R29); an event of a PWM channel waits for its instant and not for a toll (R341). -/
def tollReady (s : State) (x : DispItem) : Bool :=
  match x.binding, x.body with
  | .direct ch, .event _ => relayTolls s < 256 && storeTolls s ch < 16
  | .direct _, _ => relayTolls s < 256
  | .remote p _ _, .event _ => slotTolls s p < 64
  | .pwm _, .event _ => false
  | _, _ => true

/-- The drive die's form of an event (R278). -/
def drvEvOf (e : LaneEv) : DrvEv := { id := e.id, kind := e.kind, time := e.tExec, d := e.d }

/-- The field at of an entry: an execution time less the base of its frame, both in the port's global time (R417). -/
def entryAt (s : State) (p : Nat) (base : Int) (t : Time) : Nat :=
  let g := portGlobal s p t - base
  if g ≤ 0 then 0 else capNat 0xFFFFFFFF g.toNat

/-- Change the time of an untransmitted command in a slot queue, and convert it again in a frame that has been formed (R416). -/
def slotRetime (p id : Nat) (t : Time) (s : State) : State :=
  let again (f : SlotFrame) : SlotFrame :=
    { f with cmds := f.cmds.map (fun x => if x.id = id then { x with at' := entryAt s p f.base t } else x) }
  modBus p (fun b => { b with formed := b.formed.map again })
    (setSlotQueue p ((slotQueue s p).map (fun c =>
      if c.ev.id = id && !c.sent then { c with ev := { c.ev with tExec := t } } else c)) s)

/-- A formed command frame carries the command of event `id`. -/
def SlotFrame.carries (f : SlotFrame) (id : Nat) : Bool := f.cmds.any (fun x => x.id = id)

/-- A command is withdrawn: an untransmitted one leaves the slot queue; a transmitted one stays until its node executes it, and where that lies ahead it gets a CANCEL entry (R205, R419). -/
def slotRemove (p : Nat) (c : SlotCmd) (s : State) : State :=
  if c.sent then
    let s := setSlotQueue p ((slotQueue s p).map (fun x => if x.ev.id = c.ev.id then { x with dropped := true } else x)) s
    if s.now < c.ev.tExec then
      cross 12 (fun s => setSlotCancels p
        (slotCancels s p ++ [{ node := c.node, sub := c.sub, tag := c.tag.getD 0, time := c.ev.tExec }]) s) s
    else s
  else setSlotQueue p ((slotQueue s p).filter (fun x => x.ev.id != c.ev.id)) s

/-- A frame without the command of event `id`. -/
def SlotFrame.strip (id : Nat) (f : SlotFrame) : SlotFrame := { f with cmds := f.cmds.filter (fun x => x.id != id) }
/-- A frame left without entries is none. -/
def SlotFrame.empty (f : SlotFrame) : Bool := f.cmds.isEmpty && f.cancels.isEmpty

/-- An untransmitted command leaves the frames that have been formed, and the frame that a bus-off port holds (R398, R419). -/
def slotUnform (p id : Nat) (s : State) : State :=
  modBus p (fun b =>
    if (slotQueue s p).any (fun c => c.ev.id = id) then b
    else { b with
      formed := (b.formed.map (·.strip id)).filter (fun f => !f.empty)
      held := (b.held.map (fun a => { a with slot := a.slot.map (·.strip id) })).filter (fun a => !a.slot.any (·.empty)) }) s

/-- Withdraw a command from a slot queue; while a frame that carries it is in an attempt, the attempt decides what becomes of it (R419). -/
def slotWithdraw (p id : Nat) (s : State) : State :=
  match (slotQueue s p).find? (fun c => c.ev.id = id) with
  | none => s
  | some c =>
    let onWire := ((busPort s p).attempt.bind (·.slot)).any (·.carries id)
    if !c.sent && onWire then
      setSlotQueue p ((slotQueue s p).map (fun x => if x.ev.id = id then { x with dropped := true } else x)) s
    else slotUnform p id (slotRemove p c s)

/-- An event that changes only the rate at a visit, which is never late (R209, R418). -/
def LaneEv.untimed (e : LaneEv) : Bool := e.kind = 3 && e.pos.isNone

/-- The item is an event that waited for a toll and is handed on at or after its execution time (R30). -/
def DispItem.lateAt (x : DispItem) (now : Time) : Bool :=
  match x.body with
  | .event e => x.waited && decide (e.tExec ≤ now) && !e.untimed
  | _ => false

/-- Forget events that have executed, have been accounted, and whose position has been crossed or was none. -/
def pruneEvents (k : Nat) (s : State) : State :=
  modLane k (fun l =>
    let done (e : LaneEv) : Bool := e.executed && !(match e.pos with
      | some p => ahead p l.at
      | none => false)
    { l with events := (l.events.filter (fun e => !done e || e.owesReport)).map (fun e =>
        if done e then { e with pos := none } else e) }) s

/-- The end of the latest applying interval (R228). -/
def closeApplying (l : Lane) (e : LaneEv) (now : Time) : List Applying :=
  match l.applying with
  | i :: rest => if i.stop.isNone then { i with stop := some (now + l.offDelay + e.transport), offEv := e.id } :: rest else l.applying
  | [] => []

/-- The lane's output turns off at its binding (R151, R228). -/
def laneTurnsOff (k : Nat) (e : LaneEv) (s : State) : State :=
  modLane k (fun l => if l.on then { l with on := false, applying := closeApplying l e s.now } else l) s

/-- A consumer discards a committed event: it is spent and its transition is not committed again; a discarded off event leaves the lane off (R193, R282, R313, R325, R449). DESIGN CHOICE (log 42). -/
def spendEvent (k id : Nat) (s : State) : State :=
  match (lane s k).events.find? (fun y => y.id = id && !y.executed) with
  | none => s
  | some y =>
    let s := poolReturn y.entries (modEvent k id (fun z => { z with executed := true, entries := 0, at' := s.now }) s)
    pruneEvents k (if y.kind = 2 then laneTurnsOff k y s else s)

/-- Take an on event back from a PWM channel that awaits its reload (R205, R341). -/
def disarm (n id : Nat) (s : State) : State :=
  { s with pwm := { s.pwm with ch := tabMod {} s.pwm.ch n (fun c => { c with armed := c.armed.filter (fun e => e.id != id) }) } }

/-- Hand an item to its consumer, whose toll is ready. -/
def handOver (x : DispItem) (s : State) : State :=
  match x.binding, x.body with
  | .direct ch, .event e => pushDown (.event ch (drvEvOf e)) s
  | .direct ch, .retime id t => pushDown (.retime ch id t) s
  | .direct ch, .withdraw id => pushDown (.withdraw ch id) s
  | .pwm n, .withdraw id => disarm n id s
  | .pwm _, _ => s
  | .remote p n u, .event e =>
    if crossDown s 12 then spendEvent x.lane e.id (cross 12 id s)
    else setSlotQueue p (slotQueue s p ++ [{ lane := x.lane, node := n, sub := u, ev := e, late := x.lateAt s.now }]) s
  | .remote p _ _, .retime id t => slotRetime p id t s
  | .remote p _ _, .withdraw id => slotWithdraw p id s
  | .unbound, _ => s

/-- Count an event of lane `k` late, with notification 0x13 and its lateness in us (R30, R200). -/
def countLate (k : Nat) (late : Int) (s : State) : State :=
  notify 0x13 k (capNat 0xFFFFFFFF (roundDiv late usUnits).toNat)
    (modLane k (fun l => { l with lateCount := l.lateCount + 1 }) s)

/-- An event has missed its execution time on its way: it counts in the late-dispatch tally, and in its lane's if a milestone caused it and it has not been counted yet (R26, R30, R200). -/
def missed (k : Nat) (b : Binding) (e : LaneEv) (s : State) : State :=
  let known := (lane s k).events.any (fun y => y.id = e.id && y.late)
  let s := bump T.lateDispatch (dispTrace 3 k b e.tExec s)
  let s := if known || e.causes.isEmpty then s else countLate k ((s.now : Int) - e.tExec) s
  modEvent k e.id (fun y => { y with late := true }) s

/-- Note that an event has been handed on, late if it still waited at its execution time (R30). -/
def noteHanded (x : DispItem) (s : State) : State :=
  match x.body with
  | .event e =>
    let s := if x.lateAt s.now then missed x.lane x.binding e s else s
    modEvent x.lane e.id (fun y => { y with sent := true }) s
  | _ => s

/-- An item is a timed event, and not an order about one. -/
def DispItem.isEvent (x : DispItem) : Bool :=
  match x.body with
  | .event _ => true
  | _ => false

/-- Tolls of the dispatcher in use (R29). -/
def heapTolls (s : State) : Nat := (s.engine.heap.filter (fun x => !x.kept && x.isEvent)).length

/-- Hand on, in heap order, every item whose consumer gives a toll; the rest wait, and events of PWM channels stay to their execution instant (R29, R30, R341). -/
def passOn (s : State) : State :=
  let items := s.engine.heap
  items.foldl (fun s x =>
    if !x.kept && tollReady s x then noteHanded x (handOver x s)
    else
      let y := match x.binding with
        | .pwm _ => { x with waited := x.waited || x.kept }
        | _ => { x with waited := true }
      { s with engine := { s.engine with heap := s.engine.heap ++ [y] } })
    { s with engine := { s.engine with heap := [] } }

/-- An event that the lane engine kept gets a toll at `now`; one of a PWM channel has waited past its instant only if that has come (R30, R341). -/
def DispItem.admitted (now : Time) (x : DispItem) : DispItem :=
  let late := match x.body with
    | .event e => decide (e.tExec ≤ now)
    | _ => false
  match x.binding with
  | .pwm _ => { x with kept := false, waited := x.waited && late }
  | _ => { x with kept := false }

/-- The first event that the lane engine keeps gets a toll. -/
def admitFirst (now : Time) : List DispItem → List DispItem
  | [] => []
  | x :: rest => if x.kept then x.admitted now :: rest else x :: admitFirst now rest

/-- Events that the lane engine keeps are offered again as tolls of the dispatcher return (R28). -/
def admitOwed : Nat → State → State
  | 0, s => s
  | n + 1, s =>
    if heapTolls s < 1024 && s.engine.heap.any (·.kept) then
      admitOwed n (passOn { s with engine := { s.engine with heap := admitFirst s.now s.engine.heap } })
    else s

/-- Hand on what consumers take, and let in what the tolls that return allow (R28 to R30). -/
def handOn (s : State) : State :=
  let s := passOn s
  admitOwed s.engine.heap.length s

/-- The event that an item is or concerns. -/
def DispBody.id : DispBody → Nat
  | .event e => e.id
  | .retime id _ => id
  | .withdraw id => id

/-- Where an item's event stands among its lane's committed events; one that is not among them comes last. -/
def queuePlace (s : State) (x : DispItem) : Nat := (lane s x.lane).events.findIdx (fun e => e.id = x.body.id)

/-- Put an item into the heap in ascending execution time; ties by lane, then by queue order (R199). -/
def heapPut (s : State) (x : DispItem) : List DispItem → List DispItem
  | [] => [x]
  | y :: rest =>
    if x.key < y.key || (x.key = y.key && (x.lane < y.lane || (x.lane = y.lane && queuePlace s x < queuePlace s y)))
    then x :: y :: rest else y :: heapPut s x rest

/-- Offer an item to the dispatcher and hand on what can go; an event that finds no toll is kept (R28, R29). -/
def offer (x : DispItem) (s : State) : State :=
  let x := { x with kept := x.isEvent && decide (1024 ≤ heapTolls s) }
  handOn { s with engine := { s.engine with heap := heapPut s x s.engine.heap } }

/-- DISPATCH_ON_TOLL (R30). -/
def execDispatchOnToll (t : Time) (s : State) : Host.Outcome State Fault Refusal := .next (handOn (begin' t s))

/-! ### Committed events of a lane -/

/-- The event stands in the heap, not yet handed on. -/
def inHeap (s : State) (id : Nat) : Bool := s.engine.heap.any (fun x => match x.body with
  | .event e => e.id = id
  | _ => false)

/-- Put an event among the others of its lane by position; one without a position goes last. -/
def insertEv (e : LaneEv) : List LaneEv → List LaneEv
  | [] => [e]
  | y :: rest =>
    match e.pos, y.pos with
    | some p, some q => if ahead q p then e :: y :: rest else y :: insertEv e rest
    | some _, none => e :: y :: rest
    | none, _ => y :: insertEv e rest

/-- The lead of an event: round(v_lane × D) in cs (R196). DESIGN CHOICE (log 107). -/
def LaneEv.lead (e : LaneEv) : Int := speedTimes e.v (e.delay + e.transport)

/-- Commit an event of lane `k`: an unbound lane's drives nothing (R198). -/
def commitEvent (k : Nat) (e : LaneEv) (s : State) : State :=
  let l := lane s k
  let e := { e with
    id := s.engine.nextEv
    sent := decide (l.binding = .unbound)
    frozen := e.frozen || decide (e.tExec ≤ tk s + freezeOf s l.binding) }
  let s := { s with engine := { s.engine with nextEv := s.engine.nextEv + 1 } }
  let s := setLane k { l with events := insertEv e l.events, commits := l.commits + 1, lead := e.lead } s
  let s := laneTrace 1 k e.traceKind (e.pos.getD l.at) s
  let s := if e.kind ≠ 2 && l.binding ≠ .unbound && (dutyOf l (effRate s l e.value)).2 then
      modLane k (fun l => { l with rateSat := l.rateSat + 1 }) s else s
  if l.binding = .unbound then s
  else offer { lane := k, binding := l.binding, key := e.tExec, body := .event e } (dispTrace 0 k l.binding e.tExec s)

/-- Re-time a committed event (R202). -/
def retimeEvent (k : Nat) (e : LaneEv) (t : Time) (cross : Int) (v : Int) (delay transport : Nat) (s : State) : State :=
  let l := lane s k
  let s := modEvent k e.id (fun y => { y with tExec := t, tCross := cross, v := v, delay := delay, transport := transport }) s
  let s := modLane k (fun l => { l with lead := speedTimes v (delay + transport) }) s
  if l.binding = .unbound then s
  else
    let s := dispTrace 1 k l.binding t s
    if inHeap s e.id then
      let rest := s.engine.heap.filter (fun x => match x.body with
        | .event y => y.id != e.id
        | _ => true)
      match s.engine.heap.find? (fun x => match x.body with
        | .event y => y.id = e.id
        | _ => false) with
      | some x => { s with engine := { s.engine with
          heap := heapPut s { x with key := t, body := .event { e with tExec := t } } rest } }
      | none => s
    else offer { lane := k, binding := l.binding, key := t, body := .retime e.id t } s

/-- Withdraw a committed event from its binding: the pool entries of milestones already crossed return (R193, R205). -/
def withdrawEvent (k : Nat) (b : Binding) (e : LaneEv) (s : State) : State :=
  let s := poolReturn e.entries (modLane k (fun l => { l with events := l.events.filter (fun y => y.id != e.id) }) s)
  let s := laneTrace 5 k e.traceKind (e.pos.getD 0) s
  if b = .unbound then s
  else
    let s := dispTrace 2 k b e.tExec s
    if inHeap s e.id then
      { s with engine := { s.engine with heap := s.engine.heap.filter (fun x => match x.body with
        | .event y => y.id != e.id
        | _ => true) } }
    else offer { lane := k, binding := b, key := 0, body := .withdraw e.id } s

/-- Withdraw every event of lane `k` that has not executed and satisfies `ok`. -/
def withdrawAll (k : Nat) (b : Binding) (ok : LaneEv → Bool) (s : State) : State :=
  (((lane s k).events.filter (fun e => !e.executed)).filter ok).foldl (fun s e => withdrawEvent k b e s) s

/-- Command a binding off at the earliest instant it allows (R111, R150, R159, R226): an off event due now. -/
def commandOff (k : Nat) (s : State) : State :=
  let l := lane s k
  if l.on && !l.events.any (fun e => e.kind = 2 && !e.executed && e.pos.isNone) then
    commitEvent k { id := 0, kind := 2, tExec := s.now, frozen := true, delay := l.offDelay, transport := transportOf s l.type } s
  else s

/-! ### Execution at the binding (R151, R166, R193, R212, R228) -/

/-- The lane counts toward the fidelity accumulators (R213). DEDUCED (log 21). -/
def fidelityCounts (s : State) (k kind : Nat) (measured : Bool) : Bool :=
  let f := s.engine.set.fid
  (lane s k).counted && (if kind = 2 then flag f 29 else flag f 28) && (measured || !flag f 30)

/-- Account a placement error, and the jitter of a measured event (R212, R213). -/
def account (k kind : Nat) (err : Int) (jitter : Option Int) (s : State) : State :=
  if fidelityCounts s k kind jitter.isSome then
    let f := s.engine.fid
    let lim (lo hi : Int) := clampInt lo hi
    let top : Int := 2 ^ 63
    let f := { f with
      n := capNat 0xFFFFFFFF (f.n + 1)
      max := capNat 0xFFFFFFFF (max f.max err.natAbs)
      out := if fld s.engine.set.fid 15 0 < err.natAbs then capNat 0xFFFFFFFF (f.out + 1) else f.out
      sum := lim (-top) (top - 1) (f.sum + err)
      sq := capNat (2 ^ 64 - 1) (f.sq + err.natAbs * err.natAbs)
      jitSum := lim (-top) (top - 1) (f.jitSum + jitter.getD 0)
      jitSq := capNat (2 ^ 64 - 1) (f.jitSq + (jitter.getD 0).natAbs * (jitter.getD 0).natAbs) }
    { s with engine := { s.engine with fid := f } }
  else s

/-- The placement error of an event whose effect falls at `eff` (R212). -/
def placementError (e : LaneEv) (eff : Int) : Int := speedTimes e.v (eff - e.tCross)

/-- Return the pool entries of the milestones that caused an event (R193). DESIGN CHOICE (log 42). -/
def returnCauses (k : Nat) (e : LaneEv) (s : State) : State :=
  let l := lane s k
  let n := (l.queue.filter (fun m => m.entry && e.causes.contains m.seq)).length
  poolReturn (n + e.entries) (setLane k { l with
    queue := l.queue.map (fun m => if e.causes.contains m.seq then { m with entry := false } else m)
    events := l.events.map (fun y => if y.id = e.id then { y with entries := 0 } else y) } s)

/-- The applying intervals once an on event has executed; an unbound lane never applies (R228). -/
def openApplying (l : Lane) (e : LaneEv) (now : Time) : List Applying :=
  if l.binding = .unbound then l.applying
  else { start := now + l.onDelay + e.transport, onEv := e.id } :: l.applying

/-- The lane's output turns on at its binding through event `e`. One that is on but applies nothing, its shot refused, is re-asserted: its binding opens and it applies from now (R151, R166, R228, R288). DESIGN CHOICE (log 41). -/
def laneTurnsOn (k : Nat) (e : LaneEv) (s : State) : State :=
  modLane k (fun l =>
    if l.on && (l.binding = .unbound || l.applying.any (fun i => i.stop.isNone)) then { l with dSent := e.d }
    else
      { l with
        on := true
        onAt := if l.on then l.onAt else s.now
        dSent := e.d
        openings := l.openings + 1
        applying := openApplying l e s.now }) s

/-- Event `e` of lane `k` executes at its binding now; `report` says that a report of its shot will account it (R193, R212). -/
def eventExecutes (k : Nat) (e : LaneEv) (report : Bool) (s : State) : State :=
  let s := laneTrace 2 k e.traceKind (e.pos.getD 0) s
  let s := match e.kind with
    | 1 => laneTurnsOn k e s
    | 2 => laneTurnsOff k e s
    | _ => modLane k (fun l => { l with dSent := e.d }) s
  let caused := !e.causes.isEmpty
  let s := modEvent k e.id (fun y => { y with executed := true, at' := s.now, owesReport := report && caused }) s
  let s := returnCauses k e s
  let s := if caused && !report then
      account k e.kind (placementError e ((s.now : Int) + e.delay + e.transport)) none s else s
  pruneEvents k s

/-- Command a binding off that no lane holds any more, at the earliest instant it allows (R150, R205). -/
def bindingOff (k : Nat) (b : Binding) (s : State) : State :=
  if b = .unbound then s
  else
    let s := dispTrace 0 k b s.now s
    offer { lane := k, binding := b, key := s.now, body := .event { id := s.engine.nextEv, kind := 2, tExec := s.now } }
      { s with engine := { s.engine with nextEv := s.engine.nextEv + 1 } }

/-- An event executes at a binding whose lane no longer holds it: it was withdrawn too late, and the binding is commanded off (R205, R159). -/
def strayExecutes (k kind d : Nat) (s : State) : State :=
  let e : LaneEv := { id := 0, kind := kind, tExec := s.now, d := d, transport := transportOf s (lane s k).type }
  let s := laneTrace 2 k kind (lane s k).at s
  match kind with
  | 1 => commandOff k (laneTurnsOn k e s)
  | 2 => laneTurnsOff k e s
  | _ => modLane k (fun l => { l with dSent := d }) s

/-- The event `id` of lane `k` executes at its binding, or a stray one of the given kind and duty does. -/
def executesAt (k id kind d : Nat) (report : Bool) (s : State) : State :=
  match (lane s k).events.find? (fun e => e.id = id && !e.executed) with
  | some e => eventExecutes k e report s
  | none => strayExecutes k kind d s

/-- EXECUTION_INSTANT: a committed event of an unbound or remote lane reaches its execution time (R198); a remote one once its command has been transmitted. -/
def execExecutionInstant (t : Time) (k : Fin 4096) (s : State) : Host.Outcome State Fault Refusal :=
  let s := begin' t s
  let l := lane s k
  match l.binding with
  | .unbound =>
    match l.events.find? (fun e => !e.executed && decide (e.tExec ≤ s.now)) with
    | some e => .next (eventExecutes k e false s)
    | none => .next s
  | .remote p _ _ =>
    match (slotQueue s p).find? (fun c => c.lane = k.val && c.sent && !c.cancelled && decide (c.ev.tExec ≤ s.now)) with
    | some c =>
      let s := setSlotQueue p ((slotQueue s p).filter (fun y => y.ev.id != c.ev.id)) s
      .next (executesAt k c.ev.id c.ev.kind c.ev.d false s)
    | none => .next s
  | _ => .next s

/-! ### Learning (R210, R211) -/

/-- A delay model after a sample: the delay, the confidence, and whether the sample was rejected (R211). -/
def learnStep (s : State) (d conf m : Nat) : Nat × Nat × Bool :=
  let w := s.engine.set.learn
  let gain := fld w 31 24
  let up := fld w 23 16
  let dn := fld w 15 8
  let gate := fld w 7 0
  let reject := fld s.engine.set.reject 31 16 * tenUs
  let tol := fld s.engine.set.reject 15 0 * usUnits
  let e : Int := (m : Int) - d
  if gate ≤ conf && reject ≠ 0 && reject < e.natAbs then (d, conf - dn, true)
  else
    let k : Int := if conf < gate then max gain 128 else gain
    (satU 32 (d + roundDiv (e * k) 256), if e.natAbs ≤ tol then capNat 255 (conf + up) else conf - dn, false)

/-- Lane `k` learns a delay sample (R211). -/
def learn (k : Nat) (closing : Bool) (m : Nat) (s : State) : State :=
  modLane k (fun l =>
    let (d, c, rej) := learnStep s (if closing then l.offDelay else l.onDelay) l.confidence m
    let l := { l with confidence := c, learned := if rej then l.learned else true }
    if closing then { l with offDelay := d } else { l with onDelay := d })
    (if (learnStep s (if closing then (lane s k).offDelay else (lane s k).onDelay) (lane s k).confidence m).2.2 then
      { s with engine := { s.engine with rejects := s.engine.rejects + 1 } } else s)

/-! ### Delay reports applied at step 3 of R24 (R210, R212, R228, R287, R288) -/

/-- A report bit (R305). -/
def Report.flag (r : Report) (i : Nat) : Bool := bitOf r.flags i

/-- The latest interval that has an end gets a new end (R228). -/
def moveEnd (t : Time) : List Applying → List Applying
  | [] => []
  | i :: rest => if i.stop.isSome then { i with stop := some t } :: rest else i :: moveEnd t rest

/-- Move an applying interval under a report; a closing one that names the on event of an interval still open ends that one instead (R228). -/
def correctApplying (l : Lane) (r : Report) : List Applying :=
  match r.delay with
  | none => l.applying
  | some d =>
    if r.closing then
      (if r.ev = 0 || l.applying.any (fun i => i.onEv = r.ev && i.stop.isNone) then l.applying
       else moveEnd (r.gate + d) l.applying)
    else l.applying.map (fun i => if i.onEv = r.ev && r.ev ≠ 0 then { i with start := r.gate + d } else i)

/-- Shift the corrected ends by the transport of the lane's type (R228). -/
def withTransport (s : State) (l : Lane) (r : Report) : List Applying :=
  correctApplying l { r with delay := r.delay.map (· + transportOf s l.type) }

/-- A closing report that names the on event of an interval still open: the drive die has closed the shot itself, and the lane is off (R282, R323 to R325, R228). DESIGN CHOICE (log 41). -/
def shotClosed (s : State) (r : Report) (l : Lane) : Lane :=
  match l.applying with
  | i :: rest =>
    if r.closing && r.ev ≠ 0 && i.onEv = r.ev && i.stop.isNone then
      { l with on := false
               applying := { i with stop := some (r.gate + r.delay.getD l.offDelay + transportOf s l.type) } :: rest }
    else l
  | [] => l

/-- Account the event of a report (R212). DEDUCED (log 40). -/
def accountReport (k : Nat) (r : Report) (s : State) : State :=
  match (lane s k).events.find? (fun e => e.owesReport && e.id = r.ev) with
  | none => s
  | some e =>
    let noGate := r.flag 2 || r.flag 3 || r.flag 9
    let s := if noGate then s else
      match r.delay with
      | some d => account k e.kind (placementError e ((r.gate : Int) + d + e.transport))
          (some (roundDiv ((d : Int) - e.delay) usUnits)) s
      | none => account k e.kind (placementError e ((r.gate : Int) + e.delay + e.transport)) none s
    pruneEvents k (modEvent k e.id (fun y => { y with owesReport := false }) s)

/-- The on event of a report ran no shot: its lane has applied nothing, and one whose shot was cancelled is off; a refused shot, or one without a profile, follows an on event that has executed (R151, R280, R287, R325). DESIGN CHOICE (log 41). -/
def shotFailed (r : Report) (l : Lane) : Lane :=
  match l.applying with
  | i :: rest => if r.ev ≠ 0 && i.onEv = r.ev && i.stop.isNone then { l with on := l.on && !r.flag 3, applying := rest } else l
  | [] => l

/-- Apply one report to the lane of its channel (R24 step 3). DEDUCED (log 40). -/
def applyReport (r : Report) (s : State) : State :=
  match laneOfDirect s r.channel with
  | none => if r.flag 2 then notifyAt 0x1C r.channel (r.channel / 8) r.gate s else s
  | some k =>
    let s := match r.delay with
      | some d => learn k r.closing d s
      | none => s
    let s := modLane k (fun l => shotClosed s r { l with applying := withTransport s l r }) s
    let s := if r.flag 5 then laneFault k 8 s else s
    let s := if r.flag 1 then modLane k (fun l => { l with deferred := l.deferred + 1 }) s else s
    let failed := !r.closing && !r.flag 8 && (r.flag 2 || r.flag 3 || r.flag 9)
    let s := if failed then modLane k (shotFailed r) s else s
    let s := if r.flag 2 then
        notifyAt 0x1C r.channel (r.channel / 8) r.gate
          (laneFault k 64 (modLane k (fun l => { l with
            refused := l.refused + 1
            reassert := l.reassert || !r.flag 8 }) s))
      else s
    accountReport k r s

/-- Step 3 of R24: delay reports received since the previous sweep. -/
def applyReports (s : State) : State :=
  s.drive.reports.foldl (fun s r => applyReport r s) { s with drive := { s.drive with reports := [] } }

end Sys2Proof.Machine
end

