-- ==== Sys2Proof/Machine/Bus.lean ====
section
/-! DEFINITION. Bus ports: set-up, error confinement, the priority queue, attempts, and received frames (R379 to R404), with the clock and window of a time-triggered port as far as an attempt needs them (R407, R410 to R414). -/
namespace Sys2Proof.Machine

/-! ### Set-up (R382, R385, R406) -/

def portEnabled (s : State) (p : Nat) : Bool := rb s R.CAN_PORT_CFG p 31
/-- BUS clocks in a nominal and in a data-phase bit (R382). -/
def nomClocks (s : State) (p : Nat) : Nat :=
  let w := rd s R.CAN_NBT p
  (fld w 31 23 + 1) * (1 + (fld w 22 15 + 1) + (fld w 14 8 + 1))
def dataClocks (s : State) (p : Nat) : Nat :=
  let w := rd s R.CAN_DBT p
  (fld w 28 24 + 1) * (1 + (fld w 20 16 + 1) + (fld w 11 8 + 1))

/-- BUS clocks in a time quantum of the nominal and of the data phase (R382). -/
def nomQuantum (s : State) (p : Nat) : Nat := fld (rd s R.CAN_NBT p) 31 23 + 1
def dataQuantum (s : State) (p : Nat) : Nat := fld (rd s R.CAN_DBT p) 28 24 + 1
/-- A resynchronisation moves a bit by its phase error, at most sjw, in quanta (R382). -/
def resyncQuanta (sjw : Nat) (phase : Int) : Int := clampInt (-(sjw : Int)) sjw phase
/-- The BUS clock of a bit at which it is sampled, after a resynchronisation by a phase error in quanta (R382). -/
def sampleClock (s : State) (p : Nat) (dataPhase : Bool) (phase : Int) : Int :=
  let nbt := rd s R.CAN_NBT p
  let dbt := rd s R.CAN_DBT p
  if dataPhase then dataQuantum s p * (1 + (fld dbt 20 16 + 1) + resyncQuanta (fld dbt 3 0 + 1) phase)
  else nomQuantum s p * (1 + (fld nbt 22 15 + 1) + resyncQuanta (fld nbt 7 1 + 1) phase)

/-- The starts of columns 1 onwards rise strictly from above 0 and below length (R406). -/
def startsRise (s : State) (p length : Nat) : Nat → Nat → Nat → Bool
  | 0, _, _ => true
  | n + 1, c, prev =>
    let x := fld (rd2 s R.CAN_TT_COL p c) 15 0
    prev < x && x < length && startsRise s p length n (c + 1) x

/-- A configuration `cfg` of port `p` fails a condition of R385 or R406. -/
def cfgBad (s : State) (p : Nat) (cfg : W32) : Bool :=
  let nbt := rd s R.CAN_NBT p
  let dbt := rd s R.CAN_DBT p
  let n := nomClocks s p
  let d := dataClocks s p
  let fd := flag cfg 27
  let xl := flag cfg 26
  let imw := rd s R.CAN_IMW_CFG p
  let tt := rd s R.CAN_TT_CFG p
  let length := rf s R.CAN_TT_CYCLE p 31 16
  let columns := rf s R.CAN_TT_CYCLE p 6 0
  n < 80 || 8000 < n || fld nbt 22 15 < 1
    || fld nbt 22 15 < fld nbt 7 1 || fld nbt 14 8 < fld nbt 7 1
    || fld dbt 20 16 < fld dbt 3 0 || fld dbt 11 8 < fld dbt 3 0
    || (flag nbt 0 && n < 640)
    || ((fd || xl) && d < (if xl then 4 else 10))
    || 4 ≤ fld cfg 30 28
    || (rb s R.CAN_XL_PWM p 0 && !xl)
    || (flag imw 31 && !(flag tt 31 && flag tt 30))
    || (flag tt 31 && (length < 100 || columns = 0 || 64 < columns || !startsRise s p length (columns - 1) 1 0
        || fld tt 21 11 % 8 ≠ 0 || (flag tt 30 && !fd) || (flag imw 30 && !xl)))

/-! ### The clock of a port (R407, R410) -/

/-- Device-time units in `n` NTU of a port (R407). -/
def ntuUnits (s : State) (p n : Nat) : Nat :=
  let b := busPort s p
  let r := if b.tt = 3 && !s.engine.convoy.joined then 2 ^ 30
    else if b.tt = 3 then (busPort s s.engine.convoy.parentPort).ratio else b.ratio
  roundDivNat (n * usUnits * 2 ^ 30) r
def lockedPort (b : BusPort) : Bool := b.tt = 2 && 4 ≤ b.good

/-- The cycle count of a port; while it is silent after a running matrix, cycles go on at the predicted instants (R398, R411). -/
def ttCycleNow (s : State) (p : Nat) : Nat :=
  let b := busPort s p
  if b.tt = 4 && b.running then
    (b.cycle + (s.now - b.cycleAt) / ntuUnits s p (rf s R.CAN_TT_CYCLE p 31 16)) % 2 ^ capNat 6 (rf s R.CAN_TT_CYCLE p 15 13)
  else b.cycle

/-- CAN_TT_STAT (R429). -/
def ttStatWord (s : State) (p : Nat) : W32 :=
  let b := busPort s p
  BitVec.ofNat 32 (b.tt * 2 ^ 29 + b2n (lockedPort b) * 2 ^ 28 + b.master * 2 ^ 24 + ttCycleNow s p % 64 * 2 ^ 18 + capNat 0xFFFF b.err)

/-- The port's master changes (R411, R430). -/
def setMaster (p m : Nat) (s : State) : State :=
  if (busPort s p).master = m then s
  else
    let s := modBus p (fun b => { b with master := m }) s
    notify 0x30 p (fld (ttStatWord s p) 31 24) s

/-! ### Records and error confinement (R388, R395, R398) -/

def T.can (r : Reg) (p : Nat) : Nat := regOff r p 0

/-- CAN_RX_CFG as a frame that began at `sof` found it: a write takes effect at the next frame (R401). -/
def rxCfgAt (s : State) (p sof : Nat) : W32 :=
  (busPort s p).rxPast.foldl (fun v x => if sof < x.1 then x.2 else v) (rd s R.CAN_RX_CFG p)

/-- What happens now concerns a frame that began at `sof`; what earlier frames found is forgotten (R401). -/
def latchRx (p sof : Nat) (s : State) : State :=
  modBus p (fun b => { b with rxCfg := rxCfgAt s p sof, rxPast := b.rxPast.filter (fun x => decide (sof < x.1)) }) s

/-- A write of CAN_RX_CFG (R401). -/
def rxCfgWrite (p : Nat) (v : W32) (s : State) : State :=
  wr R.CAN_RX_CFG p (v &&& R.CAN_RX_CFG.rw)
    (modBus p (fun b => { b with rxPast := (s.now, rd s R.CAN_RX_CFG p) :: b.rxPast }) s)

/-- Deliver a record to a port's receive ring, over crossing 13 (R388, R448). -/
def busDeliver (p kind : Nat) (record : List Byte) (s : State) : State := cross 13 (deliver (48 + p) kind record) s

/-- Write an error record if CAN_RX_CFG.err_rec is 1 for the frame (R388). -/
def errRecord (p type place position : Nat) (s : State) : State :=
  let b := busPort s p
  if flag b.rxCfg 31 then
    busDeliver p 2 (leBytes 1 type ++ leBytes 1 place ++ leBytes 2 (capNat 0xFFFF position) ++ leBytes 2 b.tec
      ++ leBytes 1 (capNat 255 b.recErr) ++ [0] ++ leBytes 8 s.now) s
  else s

def BusFrame.fmt (f : BusFrame) : Nat := fld f.ctrl 1 0
def BusFrame.length (f : BusFrame) : Nat := fld f.ctrl 27 16
/-- A classical remote frame. -/
def BusFrame.remote (f : BusFrame) : Bool := f.fmt = 0 && flag f.id 30
def fdLengths : List Nat := [0, 1, 2, 3, 4, 5, 6, 7, 8, 12, 16, 20, 24, 32, 48, 64]

/-- The bits of the identifier word that a format uses (R386). -/
def BusFrame.idMask (f : BusFrame) : W32 :=
  if f.fmt = 2 then 0x01FF07FF#32
  else (if flag f.id 29 then 0x3FFFFFFF#32 else 0x000007FF#32) ||| (if f.fmt = 0 then 0x40000000#32 else 0#32)

/-- A frame with its reserved bits zero and a length, DLC and data that agree (R386). -/
def BusFrame.tidy (f : BusFrame) (length dlc : Nat) (esi : Bool) : BusFrame :=
  let ctrl := setFld (setFld f.ctrl 27 16 length) 7 4 dlc
  let ctrl := setFlag (setFlag (setFlag ctrl 31 false) 30 false) 3 esi
  let ctrl := if f.fmt = 1 then ctrl else setFlag ctrl 2 false
  { id := f.id &&& f.idMask
    ctrl := if f.fmt = 2 then ctrl else setFld ctrl 15 8 0
    data := fitBytes (if f.fmt = 2 then length + 4 else length) f.data }

/-- A frame as it is heard: its length follows its DLC, except in an XL frame (R386). -/
def BusFrame.heard (f : BusFrame) : BusFrame :=
  let dlc := fld f.ctrl 7 4
  let f := { f with ctrl := setFld f.ctrl 29 28 0 }
  match f.fmt with
  | 0 => f.tidy (if f.remote then 0 else capNat 8 dlc) dlc false
  | 1 => f.tidy (fdLengths.getD dlc 64) dlc (flag f.ctrl 3)
  | _ => f.tidy f.length 0 false

/-- A frame as a port sends it: its DLC follows its length, and an FD frame shows the port's own error state (R386). -/
def BusFrame.sent (f : BusFrame) (passive : Bool) : BusFrame :=
  let n := if f.remote then 0 else f.length
  f.tidy n (if f.fmt = 2 then 0 else (fdLengths.idxOf? n).getD 15) (f.fmt = 1 && passive)

/-- Write a frame record (R386, R388). -/
def frameRecord (p : Nat) (f : BusFrame) (self : Bool) (sof : Time) (s : State) : State :=
  busDeliver p 1 (leBytes 4 f.id.toNat ++ leBytes 4 (setFlag (setFld f.ctrl 29 28 0) 30 self).toNat ++ leBytes 8 sof ++ f.data) s

/-- The port codes the XL data phase as PWM symbols and signals no error in it (R384). -/
def xlSymbols (s : State) (p : Nat) (f : BusFrame) : Option (Nat × Nat × Nat) :=
  let w := rd s R.CAN_XL_PWM p
  if f.fmt = 2 && flag w 0 then some (fld w 29 24, fld w 21 16, fld w 13 8) else none

/-- A frame goes out at BUS_TXDn, unless the port loops back (R380). -/
def sendFrameOut (p : Nat) (f : BusFrame) (s : State) : State :=
  if loopback s p then s else emit (.busFrame p f (xlSymbols s p f)) s

/-- An error flag goes out: in normal operation only, and not in an XL data phase coded as PWM symbols (R380, R384). -/
def signalError (p : Nat) (mute : Bool) (s : State) : State :=
  if rf s R.CAN_PORT_CFG p 30 28 = 0 && !mute then emit (.errorFlag p (busPort s p).passive) s else s

/-- Overload frames follow a frame: the port sends one in reply to each, in normal operation only, and they count (R379, R380, R401). PRESUMED (log 67). -/
def overloads (p : Nat) (x : Overload) (s : State) : State :=
  let s := bumpBy (T.can R.CAN_OVERLOAD p) x.frames s
  if rf s R.CAN_PORT_CFG p 30 28 = 0 then (List.range x.frames).foldl (fun s _ => emit (.overload p) s) s else s

/-- A BUS trace packet (R537). Of a frame that the port has not received whole, fmt, length and identifier are free. DESIGN CHOICE (log 24). -/
def busTrace (sub p : Nat) (f : Option BusFrame) (s : State) : State :=
  match f with
  | some f => traceEvent 7 sub (leBytes 1 p ++ leBytes 1 f.fmt ++ leBytes 2 f.length ++ leBytes 4 f.id.toNat) s
  | none => drawFree (traceEvent 7 sub (leBytes 1 p ++ leBytes 7 (freeWord s).toNat) s)

/-- The port enters bus-off in an attempt at frame `f`, which is held (R395, R398). -/
def goBusOff (p : Nat) (f : Option BusFrame) (s : State) : State :=
  let s := busTrace 2 p f s
  let b := busPort s p
  let hold := b.attempt.filter (fun a => !a.orphan)
  let s := setBus p { b with
    st := 4, busOff := true, passive := false, attempt := none
    held := if b.held.isSome then b.held else hold
    queue := b.queue.map (fun e => if some e.index = hold.bind (·.index) then { e with fails := 0 } else e)
    window := none
    formed := []
    running := b.tt = 2 || b.tt = 3
    tt := if b.tt = 0 then 0 else 4 } s
  let detail := b2n (busPort s p).held.isSome
  let s := ledgerReport streamFault 0x082C p detail (bump (T.can R.CAN_BUSOFF p) s)
  notify 0x2C p detail (errRecord p 7 0 0 s)

/-- The error state follows the counters, after frame `f` if one changed them (R395). DESIGN CHOICE (log 65). -/
def confine (p : Nat) (f : Option BusFrame) (s : State) : State :=
  let b := busPort s p
  if 255 < b.tec && !b.busOff then goBusOff p f s
  else if b.busOff then s
  else
    let excess := decide (127 < b.tec) || decide (127 < b.recErr)
    if excess && !b.passive then
      let s := setBus p { b with passive := true, st := if b.st = 2 then 3 else b.st } s
      let s := notify 0x2D p (b.tec * 2 ^ 16 + b.recErr) (bump (T.can R.CAN_PASSIVE p) s)
      errRecord p 6 0 0 s
    else if !excess && b.passive then
      errRecord p 8 0 0 (setBus p { b with passive := false, st := if b.st = 3 then 2 else b.st } s)
    else s

/-- Counters change in normal operation and loopback only. PRESUMED (log 67). -/
def counts (s : State) (p : Nat) : Bool := rf s R.CAN_PORT_CFG p 30 28 = 0 || rf s R.CAN_PORT_CFG p 30 28 = 3

/-! ### Enabling and disabling (R381, R385, R394, R399) -/

/-- An enabled port begins: it integrates, or is bus-off as before (R385, R399, R411). DESIGN CHOICE (log 65). -/
def portBegin (p : Nat) (s : State) : State :=
  let tt := ttOn s p
  let s := latchRx p s.now (modBus p (fun b => { b with
    st := if b.busOff then 4 else 1
    stoppedAt := none
    tt := if !tt then 0 else if b.busOff then 4 else 1
    listenAt := s.now, enabledAt := s.now, misses := 0, candidate := false
    first := true, good := 0, ratio := 2 ^ 30, stamp := none, ownRef := none }) s)
  confine p none (setMaster p 15 s)

/-- The port stops; one that has been enabled again meanwhile begins (R385, R394, R399, R411). A frame of another node that was in progress still finishes. DESIGN CHOICE (log 65). -/
def portStop (p : Nat) (s : State) : State :=
  let heard := hears s p
  let s := modBus p (fun b => { b with
    st := 0, stopping := false, attempt := none, passive := false, woke := false, tt := 0, window := none
    stoppedAt := if heard then some s.now else none
    formed := [], candidate := false, running := false, convoyFormed := none, txEnd := none }) s
  if portEnabled s p then portBegin p s else s

/-- A write of CAN_PORT_CFG with enable 1; a port that has not stopped yet begins once it has (R385, R394, R406). DESIGN CHOICE (log 65). -/
def portEnable (p : Nat) (v : W32) (s : State) : State :=
  if portEnabled s p then s
  else
    let v := v &&& R.CAN_PORT_CFG.rw
    if cfgBad s p v then modBus p (fun b => { b with cfgErr := true }) (wr R.CAN_PORT_CFG p (setFlag v 31 false) s)
    else
      let s := modBus p (fun b => { b with cfgErr := false }) (wr R.CAN_PORT_CFG p v s)
      if (busPort s p).stopping then s else portBegin p s

/-- CAN_PORT_ENABLE: an actor writes CAN_PORT_CFG with enable 1 (R385, R516). -/
def execCanPortEnable (t : Time) (a : Actor) (p : Fin 32) (v : W32) (s : State) : Host.Outcome State Fault Refusal :=
  let s := begin' t s
  if flag v 31 then .next (gatedEnable a (regOff R.CAN_PORT_CFG p 0) 4 (cross 12 (portEnable p v)) s) else .next s

/-- A write of CAN_PORT_CFG with enable 0: a running port finishes the frame in progress and stops; a disabled one takes the other fields (R385, R394). -/
def portDisable (p : Nat) (v : W32) (s : State) : State :=
  if portEnabled s p then
    let s := wr R.CAN_PORT_CFG p (setFlag (rd s R.CAN_PORT_CFG p) 31 false) s
    if (busPort s p).attempt.isSome then modBus p (fun b => { b with stopping := true }) s else portStop p s
  else wr R.CAN_PORT_CFG p (v &&& R.CAN_PORT_CFG.rw) s

/-- CAN_PORT_DISABLE: an actor writes CAN_PORT_CFG with enable 0 (R394). -/
def execCanPortDisable (t : Time) (a : Actor) (p : Fin 32) (v : W32) (s : State) : Host.Outcome State Fault Refusal :=
  let s := begin' t s
  if flag v 31 then .next s else .next (gated a (regOff R.CAN_PORT_CFG p 0) 4 (cross 12 (portDisable p v)) s)

/-- CAN_INTEGRATION_COMPLETE (R385). -/
def execCanIntegrationComplete (t : Time) (p : Fin 32) (s : State) : Host.Outcome State Fault Refusal :=
  let s := begin' t s
  let b := busPort s p
  if b.st = 1 then .next (setBus p { b with st := if b.passive then 3 else 2 } s) else .next s

/-- A write of CAN_PORT_CTRL: recover starts the recovery of an enabled bus-off port (R399). -/
def portRecover (p : Nat) (v : W32) (s : State) : State :=
  let b := busPort s p
  if flag v 0 && b.st = 4 && portEnabled s p then setBus p { b with st := 5 } s else s

/-- RECOVER: an actor writes CAN_PORT_CTRL (R399). -/
def execRecover (t : Time) (a : Actor) (p : Fin 32) (v : W32) (s : State) : Host.Outcome State Fault Refusal :=
  let s := begin' t s
  .next (gated a (regOff R.CAN_PORT_CTRL p 0) 4 (cross 12 (portRecover p v)) s)

/-- RECOVERY_COMPLETE: 128 occurrences of 11 recessive bits have been counted (R399, R411). -/
def execRecoveryComplete (t : Time) (p : Fin 32) (s : State) : Host.Outcome State Fault Refusal :=
  let s := begin' t s
  let b := busPort s p
  if b.st ≠ 5 then .next s
  else
    let s := setBus p { b with
      st := 2, tec := 0, recErr := 0, busOff := false, passive := false
      tt := if b.tt = 0 then 0 else 1, listenAt := s.now, misses := 0, stamp := none, ownRef := none, candidate := false } s
    let s := latchRx p s.now s
    let s := notify 0x2F p 0 (errRecord p 8 0 0 s)
    .next (if b.tt = 0 then s else setMaster p 15 s)

/-- WAKE_UP: BUS_RXDn of a disabled port falls and stays low for `low` device-time units; 5 us of it wake (R381). -/
def execWakeUp (t : Time) (x : WakeSeen) (s : State) : Host.Outcome State Fault Refusal :=
  let s := begin' t s
  let b := busPort s x.p
  if b.st = 0 && rb s R.CAN_PORT_CFG x.p 24 && !b.woke && 5 * usUnits ≤ x.low then
    .next (notify 0x2B x.p 0 (setBus x.p { b with woke := true } s))
  else .next s

/-- Ball BUS_STBn: high requests standby (R381). -/
def busStandby (s : State) (p : Nat) : Bool :=
  s.clocks.busReset || (busPort s p).st = 0 || rb s R.CAN_PORT_CFG p 23
/-- Ball BUS_TXDn is held recessive, whatever the protocol controller does (R380, R381, R398). -/
def busRecessive (s : State) (p : Nat) : Bool :=
  let b := busPort s p
  s.clocks.busReset || b.st = 0 || b.st = 4 || b.st = 5 || loopback s p || rf s R.CAN_PORT_CFG p 30 28 = 2

/-! ### SEND (R386, R387, R390) -/

/-- The frame of a SEND descriptor, or none when it is invalid (status 0x0100). -/
def sendFrame (s : State) (p : Nat) (bytes : List Byte) : Option BusFrame :=
  let id := BitVec.ofNat 32 (u32 bytes 8)
  let ctrl := BitVec.ofNat 32 (u32 bytes 12)
  let f : BusFrame := { id := id, ctrl := ctrl }
  let n := f.length
  let okLen := match f.fmt with
    | 0 => n ≤ 8
    | 1 => fdLengths.contains n
    | 2 => 1 ≤ n && n ≤ 2048
    | _ => false
  let okFmt := match f.fmt with
    | 0 => true
    | 1 => rb s R.CAN_PORT_CFG p 27 && !flag id 30
    | 2 => rb s R.CAN_PORT_CFG p 26 && !flag id 30 && !flag id 29
    | _ => false
  let size := if f.fmt = 2 then n + 4 else if f.remote then 0 else n
  if okLen && okFmt && 24 + size ≤ bytes.length then
    some { f with data := (bytes.drop 24).take size }
  else none

/-- CAN_SEND: the oldest SEND descriptor of a port's transmit ring is validated and takes a priority-queue entry; while crossing 12 has no far side it is discarded (R390, R449). DESIGN CHOICE (log 66). -/
def execCanSend (t : Time) (p : Fin 32) (s : State) : Host.Outcome State Fault Refusal :=
  let s := begin' t s
  let b := busPort s p
  if crossDown s 12 then .next (runDesc (16 + p) 1 (fun _ s => { state := cross 12 id s, status := 7 }) s)
  else if b.st = 0 || !counts s p || 64 ≤ b.queue.length then .next s
  else .next (runDesc (16 + p) 1 (fun x s =>
    match sendFrame s p x.bytes with
    | none => { state := s, status := 0x0100 }
    | some f => { state := modBus p (fun b => { b with queue := b.queue ++ [{ index := x.index, frame := f }] }) s
                  finished := false }) s)

/-! ### Which frame starts (R391, R397, R398, R412, R413) -/

/-- The order of arbitration: a frame with the lower key wins (R391). PRESUMED (log 67). -/
def arbKey (f : BusFrame) : Nat :=
  let id := f.id.toNat
  if f.fmt ≠ 2 && flag f.id 29 then
    ((((bits id 28 18 * 2 + 1) * 2 + 1) * 2 ^ 18 + bits id 17 0) * 2 + b2n (flag f.id 30)) * 4 + f.fmt
  else (((bits id 10 0 * 2 + b2n (f.fmt = 0 && flag f.id 30)) * 2) * 2 ^ 18) * 2 * 4 + f.fmt

/-- The longest a frame can last, in BUS clocks, with the most stuff bits its format allows (R413). PRESUMED (log 67). -/
def worstClocks (f : BusFrame) (nom dat : Nat) : Nat :=
  let n := if flag f.id 30 then 0 else f.length
  let ext := flag f.id 29
  match f.fmt with
  | 0 => (if ext then 8 * n + 64 + (53 + 8 * n) / 4 else 8 * n + 44 + (33 + 8 * n) / 4) * nom
  | 1 =>
    let crc := if n ≤ 16 then 27 else 32
    let head := if ext then 44 else 21
    let body := 5 + 8 * n + (5 + 8 * n) / 4 + crc + 1
    (head + 9) * nom + body * (if flag f.ctrl 2 then dat else nom)
  | _ => (22 + 13) * nom + (116 + 8 * n + (116 + 8 * n) / 10 + 1) * dat

/-- The same in device-time units. -/
def worstUnits (s : State) (p : Nat) (f : BusFrame) : Nat :=
  (worstClocks f (nomClocks s p) (dataClocks s p) * 5 + 1) / 2

/-- The window that lets a time-triggered port start frames now. -/
def openWindow (s : State) (p : Nat) : Option BusWindow :=
  let b := busPort s p
  match b.window with
  | some w => if (b.tt = 2 || b.tt = 3) && s.now < w.ends && !(w.kind = 1 && w.failed) then some w else none
  | none => none

/-- The sources that may start now: slot, convoy, priority (R412). -/
def sourcesNow (s : State) (p : Nat) : Bool × Bool × Bool :=
  if !ttOn s p then (false, false, true)
  else match openWindow s p with
    | none => (false, false, false)
    | some w =>
      let b := busPort s p
      let slots := b.tt = 3 || lockedPort b
      if w.kind = 1 then (w.source = 0 && slots, w.source = 1, w.source = 2)
      else if w.kind = 2 then (w.source = 0 && slots, w.source = 1, true)
      else (false, false, false)

/-- The place of a convoy frame type in the sending order (R423). -/
def convoyRank (bytes : List Byte) : Nat :=
  match u8 bytes 0 with
  | 1 => 0 | 3 => 1 | 5 => 2 | 2 => 3 | 4 => 4 | _ => 5

/-- The convoy frame that goes next among some: node and bytes (R423). -/
def nextConvoy (frames : List (Nat × List Byte)) : Option (Nat × List Byte) :=
  frames.foldl (fun best x =>
    match best with
    | none => some x
    | some y => if convoyRank x.2 < convoyRank y.2 then some x else some y) none

/-- The convoy frames formed for the window in progress that wait to be sent (R414, R423). -/
def convoyWaiting (s : State) (p : Nat) : List (Nat × List Byte) :=
  let waiting := (s.engine.convoy.outbox.filter (fun x => x.1 = p)).map (·.2)
  match (busPort s p).convoyFormed with
  | some (_, l) => waiting.filter (fun x => l.contains x)
  | none => []

/-- A convoy frame on the bus: an FD frame with BRS, padded to an FD length (R415, R423). -/
def convoyFrame (node : Nat) (bytes : List Byte) : BusFrame :=
  let n := (fdLengths.find? (fun l => bytes.length ≤ l)).getD 64
  let cls := if convoyRank bytes ≤ 2 then 3 else 4
  { id := BitVec.ofNat 32 (cls * 256 + node % 256), ctrl := BitVec.ofNat 32 (n * 2 ^ 16 + 5), data := fitBytes n bytes }

/-- A 12-byte entry (R417). -/
def cmdEntry (node sub code profile tag at' duty : Nat) : List Byte :=
  leBytes 1 node ++ leBytes 1 (sub % 64) ++ leBytes 1 (code + 16 * profile) ++ leBytes 1 tag ++ leBytes 4 at'
    ++ leBytes 2 duty ++ [0, 0]

/-- The tag of the entry at place `i` of a frame that starts with a port's command count at `count` (R416). -/
def slotTag (count i : Nat) : Nat := (count + i) % 256

/-- A command frame on the bus (R415, R417): `seq` and `count` are the port's frame and command counts as it starts. -/
def SlotFrame.frame (f : SlotFrame) (seq count : Nat) : BusFrame :=
  let body := leBytes 1 1 ++ leBytes 1 (f.cancels.length + f.cmds.length) ++ leBytes 2 seq ++ leBytes 4 0 ++ leBytes 8 f.base
    ++ f.cancels.flatMap (fun c => cmdEntry c.node c.sub 5 0 c.tag 0 0)
    ++ f.cmds.zipIdx.flatMap (fun x => cmdEntry x.1.node x.1.sub x.1.code x.1.profile (slotTag count x.2) x.1.at' x.1.duty)
  if f.xl then
    { id := BitVec.ofNat 32 (0x1FF + f.sdt % 256 * 2 ^ 16)
      ctrl := BitVec.ofNat 32 (body.length * 2 ^ 16 + f.vcid % 256 * 2 ^ 8 + 2)
      data := leBytes 4 f.accept ++ body }
  else
    let n := (fdLengths.find? (fun l => body.length ≤ l)).getD 64
    { id := 0x1FF#32, ctrl := BitVec.ofNat 32 (n * 2 ^ 16 + 5), data := fitBytes n body }

/-- A frame has had its one attempt in the exclusive window in progress (R412). -/
def triedHere (s : State) (p : Nat) (a : BusAttempt) : Bool :=
  match openWindow s p with
  | some w => ttOn s p && w.kind = 1 && w.tried.contains (a.src, a.frame)
  | none => false

/-- The attempts that each source offers: at a held frame, only that frame (R391, R398, R412). -/
def offers (s : State) (p : Nat) : List BusAttempt :=
  let b := busPort s p
  let (slot, convoy, prio) := sourcesNow s p
  match b.held with
  | some h =>
    let ok := match h.src with
      | .prio _ => prio
      | .slot => slot
      | .convoy => convoy
    let frame := match h.slot with
      | some f => (f.frame b.frameCount b.tagCount).sent b.passive
      | none => h.frame
    if ok then [{ h with frame := frame, sof := s.now }] else []
  | none =>
    let qs := if prio then b.queue.map (fun e => { src := BusSrc.prio e.index, frame := e.frame, sof := s.now : BusAttempt }) else []
    let ss := if slot then (match b.formed with
      | f :: _ => [{ src := .slot, frame := f.frame b.frameCount b.tagCount, slot := some f, sof := s.now : BusAttempt }]
      | [] => []) else []
    let offer (x : Nat × List Byte) : BusAttempt := { src := .convoy, frame := convoyFrame x.1 x.2, convoy := some x, sof := s.now }
    let cs := if convoy then ((nextConvoy ((convoyWaiting s p).filter (fun x => !triedHere s p (offer x)))).map offer).toList else []
    (ss ++ cs ++ qs).filter (fun a => !triedHere s p a)

/-- The attempt that arbitration lets win; the earlier of equals. -/
def bestOffer : List BusAttempt → Option BusAttempt
  | [] => none
  | a :: rest =>
    match bestOffer rest with
    | none => some a
    | some b => if arbKey b.frame < arbKey a.frame then some b else some a

/-- Device-time units in some nominal bits (R382). -/
def bitUnits (s : State) (p bits : Nat) : Nat := (bits * nomClocks s p * 5 + 1) / 2

/-- An error-passive port that has just transmitted has waited its suspend time (R397). PRESUMED (log 67). -/
def suspended (s : State) (p : Nat) : Bool :=
  let b := busPort s p
  match b.txEnd with
  | some e => b.passive && s.now < e + bitUnits s p 11
  | none => false

/-- The port may start an attempt on an idle bus. -/
def mayStart (s : State) (p : Nat) : Bool :=
  let b := busPort s p
  (b.st = 2 || b.st = 3) && b.attempt.isNone && portEnabled s p && counts s p && !suspended s p

/-- Start the frame that wins, if it fits its window; the first that does not fit in a window counts (R391, R413). -/
def startFrame (p : Nat) (s : State) : State :=
  if !mayStart s p then s
  else match bestOffer (offers s p) with
    | none => s
    | some a =>
      let fits := match openWindow s p with
        | some w => !ttOn s p || s.now + worstUnits s p a.frame ≤ w.ends
        | none => true
      if fits then
        let sent := a.frame.sent (busPort s p).passive
        sendFrameOut p sent (modBus p (fun b => { b with
          attempt := some { a with frame := sent }
          window := b.window.map (fun w => { w with tried := if w.kind = 1 then w.tried ++ [(a.src, a.frame)] else w.tried })
          held := none }) s)
      else
        let b := busPort s p
        match b.window with
        | some w =>
          if w.noFit then s
          else bump (T.can R.CAN_TT_NOFIT p) (setBus p { b with window := some { w with noFit := true } } s)
        | none => s

/-- Start a frame where the bus is idle; an Imwald frame under a reference identifier is an undefined use (R431). DESIGN CHOICE (log 10). -/
def startOutcome (p : Nat) (idle : Bool) (s : State) : Host.Outcome State Fault Refusal :=
  let r := if idle then startFrame p s else s
  let clash := (busPort s p).attempt.isNone && (busPort r p).attempt.any (fun a => a.index.isNone && isReference s p (bits a.frame.id.toNat 10 0))
  if clash then .fault (.undefinedUse 431) else .next r

/-- CAN_ATTEMPT_START: the bus is idle and the port starts the frame that would win (R391). -/
def execCanAttemptStart (t : Time) (p : Fin 32) (s : State) : Host.Outcome State Fault Refusal :=
  startOutcome p true (begin' t s)

/-! ### How an attempt ends (R392 to R396) -/

/-- The attempt is over, and the intermission begins `bits` nominal bits from now; a stopping port stops (R394, R397). -/
def attemptOver (p bits : Nat) (s : State) : State :=
  let s := modBus p (fun b => { b with attempt := none, txEnd := some (s.now + bitUnits s p bits) }) s
  if (busPort s p).stopping then portStop p s else s

/-- A priority-queue frame leaves its entry and completes. DESIGN CHOICE (log 66). -/
def finishPrio (p : Nat) (i : W32) (status : Nat) (result : W32) (s : State) : State :=
  completeAt (16 + p) i status result
    (modBus p (fun b => { b with queue := b.queue.filter (fun e => e.index != i) }) s)

/-- The single_shot and stamp bits of a queued frame (R386). -/
def singleShot (s : State) (p : Nat) (i : W32) : Bool :=
  match (busPort s p).queue.find? (fun e => e.index = i) with
  | some e => flag e.frame.ctrl 29
  | none => false

/-- The attempt at a frame is over: the commands of it that were withdrawn meanwhile leave the queue and the frames formed, or, transmitted, are to be cancelled (R419). -/
def slotSettle (p : Nat) (f : SlotFrame) (s : State) : State :=
  ((slotQueue s p).filter (fun c => c.dropped && f.carries c.ev.id)).foldl
    (fun s c => slotUnform p c.ev.id (slotRemove p c s)) s

/-- The attempt at what source `a` sent has failed or lost: withdrawn commands of a command frame are no longer sent (R419). -/
def attemptSettle (p : Nat) (a : BusAttempt) (s : State) : State :=
  match a.slot with
  | some f => slotSettle p f s
  | none => s

/-- A CANCEL of the frame reaches its node ahead of the execution time (R419, R420). -/
def SlotFrame.cancelsCmd (f : SlotFrame) (now : Time) (c : SlotCmd) : Bool :=
  c.sent && c.dropped && decide (now < c.ev.tExec)
    && f.cancels.any (fun d => c.tag = some d.tag && d.node = c.node && d.sub = c.sub && d.time = c.ev.tExec)

/-- Commands of a transmitted frame: their tolls return and their events are frozen (R416); one whose execution time has passed is late (R26). -/
def slotSent (p : Nat) (f : SlotFrame) (s : State) : State :=
  let count := (busPort s p).tagCount
  let sent (c : SlotCmd) : SlotCmd :=
    match f.cmds.zipIdx.find? (fun x => x.1.id = c.ev.id) with
    | some x => { c with tag := some (slotTag count x.2), sent := true }
    | none => if f.cancelsCmd s.now c then { c with cancelled := true } else c
  let s := f.cmds.foldl (fun s x =>
    match (slotQueue s p).find? (fun c => c.ev.id = x.id) with
    | some c =>
      let s := if decide (c.ev.tExec ≤ s.now) && !c.late && !c.ev.untimed then
          missed c.lane (.remote p c.node c.sub) c.ev s else s
      modEvent c.lane c.ev.id (fun e => { e with frozen := true }) s
    | none => s) s
  let s := slotSettle p f (setSlotQueue p ((slotQueue s p).map sent) s)
  let s := setSlotCancels p ((slotCancels s p).filter (fun c => !f.cancels.any (fun d => d.tag = c.tag && d.node = c.node && d.sub = c.sub))) s
  let n := f.cmds.length + f.cancels.length
  let s := bumpBy (T.can R.CAN_IMW_CMDS p) n (modBus p (fun b => { b with
    formed := b.formed.erase f, frameCount := b.frameCount + 1, tagCount := b.tagCount + f.cmds.length }) s)
  handOn s

/-- Remove the first outbox entry equal to a frame that has been sent. -/
def outboxDrop (p n : Nat) (bytes : List Byte) : List (Nat × Nat × List Byte) → List (Nat × Nat × List Byte)
  | [] => []
  | x :: rest => if x = (p, n, bytes) then rest else x :: outboxDrop p n bytes rest

/-- A transmitter's success: counters, the acknowledgement, and the frame on the port's own receive ring where asked (R389, R395, R396). -/
def txOk (p : Nat) (f : BusFrame) (sof : Time) (x : Overload) (s : State) : State :=
  let s := overloads p x (busTrace 0 p (some f) (bump (T.can R.CAN_TX_OK p) s))
  let s := modBus p (fun b => { b with tec := b.tec - 1 + 8 * x.eights, ackErrs := 0, noAck := false }) s
  let s := if flag (busPort s p).rxCfg 30 || loopback s p then frameRecord p f true sof s else s
  confine p (some f) s

/-- An attempt succeeds, and `x` follows the frame (R392, R386). DESIGN CHOICE (log 68). -/
def attemptWon (p : Nat) (a : BusAttempt) (x : Overload) (s : State) : State :=
  let s := txOk p a.frame a.sof x s
  let s := match a.src with
    | .prio i =>
      let r := ring s (16 + p)
      let s := if flag a.frame.ctrl 28 then dmaWrite r.onChip (r.entryAddr i + 16) (leBytes 8 a.sof) s else s
      finishPrio p i 0 (BitVec.ofNat 32 a.sof) s
    | .slot => match a.slot with
      | some f => slotSent p f s
      | none => s
    | .convoy => match a.convoy with
      | some (n, bytes) => { s with engine := { s.engine with convoy := { s.engine.convoy with
          outbox := outboxDrop p n bytes s.engine.convoy.outbox } } }
      | none => s
  attemptOver p (14 * x.frames) s

/-- An attempt loses arbitration: the frame stays queued, unless it is single-shot (R392, R393). -/
def attemptLost (p : Nat) (a : BusAttempt) (s : State) : State :=
  let s := bump (T.can R.CAN_ARB_LOST p) s
  let s := match a.src with
    | .prio i =>
      if a.orphan then finishPrio p i 0x0104 0 s
      else if singleShot s p i then finishPrio p i 0x0103 0 s else s
    | _ => attemptSettle p a s
  let s := modBus p (fun b => { b with attempt := none, ackErrs := 0, txEnd := none }) s
  if (busPort s p).stopping then portStop p s else s

/-- The tally of an error type (R401). -/
def errTally (type : Nat) : Option Reg :=
  match type with
  | 1 => some R.CAN_ERR_BIT | 2 => some R.CAN_ERR_STUFF | 3 => some R.CAN_ERR_FORM
  | 4 => some R.CAN_ERR_CRC | 5 => some R.CAN_ERR_ACK | _ => none

def countErr (p type : Nat) (s : State) : State :=
  match errTally type with
  | some r => bump (T.can r p) s
  | none => s

/-- A transmitter's error: TEC, the ack-error count and its record (R395, R396). `x.exempt` says that an exception of ISO 11898-1 leaves TEC unchanged. PRESUMED (log 67). -/
def txError (p type place position : Nat) (x : SentError) (f : BusFrame) (s : State) : State :=
  let s := busTrace 1 p (some f) s
  let b := busPort s p
  let keep := x.exempt && ((type = 5 && b.passive) || type = 2)
  let acks := if type = 5 then b.ackErrs + 1 else 0
  let tec := (if keep then b.tec else b.tec + 8) + 8 * x.eights
  let s := countErr p type (setBus p { b with tec := tec, ackErrs := acks, noAck := b.noAck && !(x.acked && type ≠ 5) } s)
  let s := errRecord p type place position s
  if 16 ≤ acks && !b.noAck then notify 0x2E p f.id.toNat (modBus p (fun b => { b with noAck := true }) s) else s

/-- A data phase that the port checks at a secondary sample point: FD with bit-rate switching, or XL (R382, R384). -/
def BusFrame.fastData (f : BusFrame) : Bool := f.fmt = 2 || (f.fmt = 1 && flag f.ctrl 2)

/-- The transmitter delay that a frame measures counts as CAN_TDC says: none where compensation is off or the frame is classical (R384). -/
def tdcDelay (s : State) (p : Nat) (f : BusFrame) (delay : Option Nat) : Option Nat :=
  if rb s R.CAN_TDC p 31 && f.fmt ≠ 0 then delay.map (fun d => max d (rf s R.CAN_TDC p 6 0)) else none

/-- The secondary sample point lies beyond 127 BUS clocks, which counts as a bit error (R384). -/
def tdcBeyond (s : State) (p : Nat) (f : BusFrame) (delay : Option Nat) : Bool :=
  f.fastData && (tdcDelay s p f delay).any (fun d => decide (127 < d + rf s R.CAN_TDC p 22 16))

/-- A clock of a bit falls into the half-open span in which its level is wrong. -/
def wrongAt (wrong : Nat × Nat) (clock : Int) : Bool := decide ((wrong.1 : Int) ≤ clock) && decide (clock < wrong.2)

/-- The port takes a bit wrong whose level is wrong in a span of BUS clocks of the bit: at its sample point, or in the nominal phase with triple at 1 at two or more of the three samples (R382, R383). -/
def takenWrong (s : State) (p : Nat) (dataPhase : Bool) (wrong : Nat × Nat) (phase : Int) : Bool :=
  let at' := sampleClock s p dataPhase phase
  if rb s R.CAN_NBT p 0 && !dataPhase then
    let q : Int := nomQuantum s p
    decide (2 ≤ b2n (wrongAt wrong at') + b2n (wrongAt wrong (at' - q)) + b2n (wrongAt wrong (at' - 2 * q)))
  else wrongAt wrong at'

/-- A transmitting port takes one of its bits wrong: in the data phase of a frame that measured its delay, at the secondary sample point (R384). -/
def sentWrong (s : State) (p : Nat) (f : BusFrame) (dataPhase : Bool) (wrong : Nat × Nat) (phase : Int) (delay : Option Nat) : Bool :=
  match tdcDelay s p f delay with
  | some d => if dataPhase && f.fastData then wrongAt wrong (d + rf s R.CAN_TDC p 22 16) else takenWrong s p dataPhase wrong phase
  | none => takenWrong s p dataPhase wrong phase

/-- CAN_STAT.tdcv takes the delay measured (R384). -/
def tdcMeasure (p : Nat) (f : BusFrame) (delay : Option Nat) (s : State) : State :=
  match tdcDelay s p f delay with
  | some d => modBus p (fun b => { b with tdcv := capNat 127 d }) s
  | none => s

/-- The port transmits frame `f` and finds an error: its error flag, the counters, its record (R384, R388, R395, R396). -/
def sendingError (p type : Nat) (dataPhase : Bool) (position : Nat) (x : SentError) (f : BusFrame) (s : State) : State :=
  txError p type (1 + 2 * b2n dataPhase) position x f (signalError p (dataPhase && (xlSymbols s p f).isSome) s)

/-- Nominal bits from an error to the intermission: the error flag, as other nodes prolong it, and the delimiter (R397). PRESUMED (log 67). -/
def flagBits (x : SentError) : Nat := 14 + x.longer

/-- The attempt ends in an error (R393 to R396, R398). -/
def attemptFailed (p : Nat) (a : BusAttempt) (type : Nat) (dataPhase : Bool) (position : Nat) (x : SentError) (s : State) : State :=
  let s := sendingError p type dataPhase position x a.frame s
  let s := modBus p (fun b => { b with window := b.window.map (fun w => { w with failed := true }) }) s
  if 255 < (busPort s p).tec then
    let s := goBusOff p (some a.frame) s
    let s := match a.src with
      | .prio i => if a.orphan then finishPrio p i 0x0104 0 s else s
      | _ => attemptSettle p a s
    if (busPort s p).stopping then portStop p s else s
  else
    let s := confine p (some a.frame) s
    let retry := rf s R.CAN_PORT_CFG p 15 0
    let s := match a.src with
      | .prio i =>
        if a.orphan then finishPrio p i 0x0104 0 s
        else if singleShot s p i then finishPrio p i 0x0103 0 s
        else
          let s := modBus p (fun b => { b with queue := b.queue.map (fun e =>
            if e.index = i then { e with fails := e.fails + 1 } else e) }) s
          let fails := (((busPort s p).queue.find? (fun e => e.index = i)).map (·.fails)).getD 0
          if retry ≠ 0 && retry + 1 ≤ fails then finishPrio p i 0x0101 0 (bump (T.can R.CAN_RETRY_FAIL p) s) else s
      | _ => attemptSettle p a s
    attemptOver p (flagBits x) s

/-- A bit error at the secondary sample point of a frame whose delay puts that point beyond 127 clocks (R384). -/
def beyondError (x : SentFrame) : SentError :=
  { exempt := false, wrong := (0, 0), phase := 0, delay := x.delay, eights := x.overload.eights }

/-- CAN_ATTEMPT_SUCCESS: the attempt in progress ends with a valid frame; with `lost` it loses arbitration to another node's, which a port in loopback never hears (R380, R392). With the secondary sample point of an FD or XL frame beyond 127 clocks the attempt ends in a bit error instead, at a bit that the manual leaves open (R384). -/
def execCanAttemptSuccess (t : Time) (p : Fin 32) (lost : Bool) (x : SentFrame) (s : State) : Host.Outcome State Fault Refusal :=
  let s := begin' t s
  match (busPort s p).attempt with
  | none => .next s
  | some a =>
    let s := latchRx p a.sof s
    if lost then .next (if loopback s p then s else attemptLost p a s)
    else if tdcBeyond s p a.frame x.delay then
      .next (attemptFailed p a 1 true (freeWord s).toNat (beyondError x) (drawFree (tdcMeasure p a.frame x.delay s)))
    else .next (attemptWon p a x.overload (tdcMeasure p a.frame x.delay s))

/-- The port sees the error that is reported of a frame it sends: one of a type of R388, 1 to 5, at a bit that it takes wrong; in loopback it acknowledges and hears itself (R380, R383, R384). -/
def seesError (s : State) (p : Nat) (f : BusFrame) (type : Nat) (dataPhase : Bool) (x : SentError) : Bool :=
  let beyond := type = 1 && dataPhase && tdcBeyond s p f x.delay
  type ≠ 0 && !loopback s p && (beyond || sentWrong s p f dataPhase x.wrong x.phase x.delay)

/-- CAN_ATTEMPT_ERROR: the attempt ends in an error of a type of R388, 1 to 5, at a bit that the port takes wrong (R383, R393 to R396, R398). -/
def execCanAttemptError (t : Time) (p : Fin 32) (type : Fin 6) (dataPhase : Bool) (position : Nat) (x : SentError) (s : State) : Host.Outcome State Fault Refusal :=
  let s := begin' t s
  match (busPort s p).attempt with
  | none => .next s
  | some a =>
    if seesError s p a.frame type dataPhase x then
      .next (attemptFailed p a type dataPhase position x (tdcMeasure p a.frame x.delay (latchRx p a.sof s)))
    else .next s

/-! ### Receiving (R386, R389, R395) -/

/-- The port hears a frame that began at `sof`: a port that has stopped still finishes the one that was in progress (R380, R394). -/
def hearsFrame (s : State) (p sof : Nat) : Bool :=
  hears s p || ((busPort s p).st = 0 && !loopback s p && (busPort s p).stoppedAt.any (fun t0 => decide (sof < t0)))

/-- The counters have changed after a frame that the port heard; a port that has stopped is done with it (R394, R395). -/
def heardOver (p : Nat) (s : State) : State :=
  if (busPort s p).st = 0 then modBus p (fun b => { b with stoppedAt := none }) s else confine p none s

/-- CAN_FRAME_RECEIVED: a valid frame, laid out as R386, whose SOF fell at `sof`, and what follows it (R379, R389). DESIGN CHOICE (log 68). -/
def execCanFrameReceived (t : Time) (p : Fin 32) (id ctrl : W32) (data : List Byte) (sof : Time) (overload : Overload)
    (s : State) : Host.Outcome State Fault Refusal :=
  let s := begin' t s
  let f : BusFrame := BusFrame.heard { id := id, ctrl := ctrl, data := data }
  let known := f.fmt = 0 || (f.fmt = 1 && rb s R.CAN_PORT_CFG p 27) || (f.fmt = 2 && rb s R.CAN_PORT_CFG p 26)
  if !hearsFrame s p sof || !known then .next s
  else
    let s := latchRx p sof s
    let s := if rf s R.CAN_PORT_CFG p 30 28 = 2 then s else emit (.busAck p) s
    let s := overloads p overload (bump (T.can R.CAN_RX_OK p) s)
    let s := frameRecord p f false sof (busTrace 0 p (some f) (modBus p (fun b => { b with txEnd := none }) s))
    if !counts s p then .next (heardOver p s)
    else
      -- ISO 11898-1: a value of 119 to 127 after a success above 127
      let b := busPort s p
      let excess := decide (127 < b.recErr)
      let rec' := if excess then 119 + (freeWord s).toNat % 9 else b.recErr - 1
      let s := if excess then drawFree s else s
      .next (heardOver p (modBus p (fun b => { b with recErr := rec' + 8 * overload.eights }) s))

/-- CAN_RECEIVE_ERROR: an error in a frame that the port receives, or a protocol exception (type 9), after which the port integrates to the bus again; REC rises by 1, and by 8 as ISO 11898-1 says; an error shows at a bit that the port takes wrong (R379, R383, R388, R395). PRESUMED (log 67). -/
def execCanReceiveError (t : Time) (p : Fin 32) (type : Fin 10) (dataPhase : Bool) (position : Nat) (x : HeardError) (s : State) : Host.Outcome State Fault Refusal :=
  let s := begin' t s
  let err := 1 ≤ type.val && type.val ≤ 4 && takenWrong s p dataPhase x.wrong x.phase
  let exception := type = 9 && rb s R.CAN_PORT_CFG p 25
  if !hearsFrame s p x.sof || !(err || exception) then .next s
  else
    let s := countErr p type (modBus p (fun b => { b with txEnd := none }) (latchRx p x.sof s))
    let s := if err && counts s p then modBus p (fun b => { b with recErr := b.recErr + 1 + 8 * x.eights }) s else s
    let mute := dataPhase && x.xl && rb s R.CAN_XL_PWM p 0
    let s := errRecord p type (2 * b2n dataPhase) position (if err then signalError p mute s else s)
    let s := heardOver p (busTrace 1 p none s)
    .next (if exception && hears s p then modBus p (fun b => { b with st := 1 }) s else s)

/-! ### Status words (R401, R402) -/

/-- CAN_STAT. -/
def canStatWord (s : State) (p : Nat) : W32 :=
  let b := busPort s p
  BitVec.ofNat 32 (b.st * 2 ^ 29 + b2n b.noAck * 2 ^ 28 + b2n b.held.isSome * 2 ^ 27 + b2n b.cfgErr * 2 ^ 26
    + b2n b.attempt.isSome * 2 ^ 25 + b.tdcv)
/-- CAN_ERR. -/
def canErrWord (s : State) (p : Nat) : W32 :=
  let b := busPort s p
  BitVec.ofNat 32 (capNat 511 b.tec * 2 ^ 16 + capNat 255 b.recErr)
/-- CAN_QSTAT. -/
def canQWord (s : State) (p : Nat) : W32 :=
  BitVec.ofNat 32 ((busPort s p).queue.length * 2 ^ 16 + slotTolls s p)

end Sys2Proof.Machine
end

