-- ==== Sys2Proof/Machine/Clocks.lean ====
section
/-! DEFINITION. Clock monitors, the reset kinds and what each reaches, and the clock-domain crossings when one side is reset (R432 to R453). -/
namespace Sys2Proof.Machine

/-! ### What the resets leave -/

/-- A ledger stream after a reset of the control die: its input queue is lost (R495); its buffer share stays unless SRAM lost its content (R438). DESIGN CHOICE (log 76). -/
def streamAfter (keepBuffer : Bool) (l : LStream) : LStream :=
  { l with queue := [], lostDue := 0, dropping := false
           buffer := if keepBuffer then l.buffer else []
           exportNext := l.exported, stopped := false }

/-- The ledger after a reset of the control die. DESIGN CHOICE (log 75). -/
def ledgerAfter (keepBuffer : Bool) (l : Ledger) : Ledger :=
  { ({} : Ledger) with
    streams := tabMap {} (streamAfter keepBuffer) l.streams
    hashes := l.hashes
    blocksOpen := if keepBuffer then l.blocksOpen else [] }

/-- What survives every reset in the monitor's keeping: OTP, flash and the erasure of keys (R438, R462, R467, R478). -/
def securityAfter (x : Security) : Security :=
  { ({} : Security) with
    oemHash := x.oemHash, deviceId := x.deviceId, floorMon := x.floorMon, floorFw := x.floorFw, floorCharter := x.floorCharter
    revoked := x.revoked, deadBits := x.deadBits, testFused := x.testFused, pufCode := x.pufCode
    seq := x.seq, active := x.active, trial := x.trial, validA := x.validA, validB := x.validB, trialRan := x.trialRan
    dirCopies := x.dirCopies, dirCopy := x.dirCopy
    slots := x.slots }

/-- The cold reset (R438): both dies and every unit; device time is zero. The always-on domain, OTP and flash stay, and the power-cycle counter rises (R492). DESIGN CHOICE (log 76). -/
def coldReset (s : State) : State :=
  { State.reset with
    pending := s.pending
    freeDraws := s.freeDraws
    out := s.out
    hostMem := s.hostMem
    cister := { State.reset.cister with perstHigh := s.cister.perstHigh }
    pwm := { State.reset.pwm with pins := s.pwm.pins }
    ledger := ledgerAfter false s.ledger
    aon := { s.aon with
      rtcMillis := if s.aon.rtcValid then rtcNow s else s.aon.rtcMillis
      rtcAt := 0
      opAt := 0
      powerCycles := capNat (2 ^ 24 - 1) (s.aon.powerCycles + 1) }
    security := { securityAfter s.security with auditRecordDue := s.security.auditErased || s.security.auditRecordDue } }

/-- The LEDGER_LOST tallies after a warm reset: each report that was still in an input queue counts (R495, R541). -/
def lostTallies (s : State) : Tab W32 :=
  (List.range 4).foldl (fun t k => tabSet 0 t (T.ledgerLost k) (BitVec.ofNat 32 (lstream s k).queue.length)) []

/-- A reset of the control die alone (R438): device time, the drive die, RWS fields, the ledger buffer, the always-on domain and the content of SRAM stay. DESIGN CHOICE (log 75). -/
def controlReset (s : State) : State :=
  { State.reset with
    pending := s.pending
    now := s.now
    freeDraws := s.freeDraws
    out := s.out
    hostMem := s.hostMem
    messageStore := s.messageStore
    appSram := s.appSram
    tallies := lostTallies s
    cister := { State.reset.cister with perstHigh := s.cister.perstHigh }
    pwm := { State.reset.pwm with pins := s.pwm.pins }
    ledger := ledgerAfter true s.ledger
    aon := s.aon
    drive := { s.drive with reports := [] }
    relay := { s.relay with
      controlSeen := false
      refreshed := []
      down := { s.relay.down with unacked := [], waiting := [] } }
    lease := { State.reset.lease with regrants := s.lease.regrants, lapseAt := s.now }
    startup := { State.reset.startup with warm := true, released := s.startup.released, releaseAt := s.now, phaseAt := s.now }
    clocks := { s.clocks with
      faults := 0, fbReset := !s.clocks.sysLock, busReset := !s.clocks.sysLock, ethReset := !s.clocks.ethLock, farDown := [], discarding := []
      warmCount := if s.clocks.warmCount = 0xFFFFFFFF then s.clocks.warmCount else s.clocks.warmCount + 1 }
    security := { securityAfter s.security with
      alarms := s.security.alarms, level := s.security.level, auditErased := s.security.auditErased } }

/-- The monitor's warm reset (R438, R440): its SAFETY record follows at the next start (R481). DESIGN CHOICE (log 75). -/
def warmReset (s : State) : State :=
  let s := controlReset s
  { s with clocks := { s.clocks with causeWarm := true, warmRecordDue := true } }

/-- A clock-fault reset, of the reference or of the system PLL (`pll`): device time runs on from the RTC until the PLL locks again (R438, R442). -/
def clockFaultReset (pll : Bool) (s : State) : State :=
  let s := controlReset s
  { s with clocks := { s.clocks with
      causeRef := s.clocks.causeRef || !pll
      causePll := s.clocks.causePll || pll
      sysLock := false
      ethLock := s.clocks.ethLock && pll
      fbReset := true, busReset := true
      ethReset := s.clocks.ethReset || !pll
      timeCoarse := true
      coarseFrom := some s.now
      refFaultDue := true } }

/-- A rail below its supply monitor's threshold, in mV (R552). -/
def railLow (vcore vio18 vio33 : Nat) : Bool := decide (vcore < 740) || decide (vio18 < 1650) || decide (vio33 < 3000)

/-- COLD_RESET: rails in mV have stood so for `held` device-time units, and SYS_RESET_N has been low for `low`; a rail below its monitor's threshold for 500 ns, or the ball low for 1 us, is a cold reset (R438, R440, R492, R552). DESIGN CHOICE (log 80). DESIGN CHOICE (log 95). -/
def execColdReset (x : SupplySeen) (s : State) : Host.Outcome State Fault Refusal :=
  let s := begin' x.t s
  .next (if (railLow x.vcore x.vio18 x.vio33 && 100 ≤ x.held) || usUnits ≤ x.low then coldReset s else s)

/-- WARM_RESET: the monitor sends REVOKE, then makes a warm reset (R438, R481). DESIGN CHOICE (log 74). -/
def execWarmReset (t : Time) (s : State) : Host.Outcome State Fault Refusal :=
  let s := begin' t s
  .next (if s.startup.released then warmReset (pushDown .revoke s) else s)

/-- CLOCK_FAULT_RESET of the reference, or of the system PLL if `pll` (R438, R442). DESIGN CHOICE (log 74). -/
def execClockFaultReset (t : Time) (pll : Bool) (s : State) : Host.Outcome State Fault Refusal :=
  let s := begin' t s
  .next (if s.startup.released then clockFaultReset pll s else s)

/-! ### Domain resets (R438) -/

/-- Registers between two offsets take their reset values, the latches of R88 among them. -/
def regsReset (lo hi : Nat) (s : State) : State :=
  { s with
    regs := s.regs.filter (fun e => !(decide (lo ≤ e.1) && decide (e.1 < hi)))
    hiLatch := s.hiLatch.filter (fun e => !(decide (lo ≤ e.1 % 2 ^ 20) && decide (e.1 % 2 ^ 20 < hi))) }

/-- Tallies between two keys are cleared by the reset of their unit (R541). -/
def talliesReset (lo hi : Nat) (s : State) : State :=
  { s with tallies := s.tallies.filter (fun e => !(decide (lo ≤ e.1) && decide (e.1 < hi))) }

/-- The FB domain: every feedback channel is OFF (R438). -/
def fbDomainReset (s : State) : State :=
  let s := talliesReset 144 196 (regsReset 0x9000 0xA000 s)
  { s with feedback := {}, clocks := { s.clocks with fbReset := true } }

/-- The BUS domain: every port is disabled (R438, R381). -/
def busDomainReset (s : State) : State :=
  let s := talliesReset 0x18000 0x21000 (regsReset 0x18000 0x21000 s)
  { s with bus := [], clocks := { s.clocks with busReset := true } }

/-- The ETH domain: both time maps are invalid (R438, R251). Targets that wait in crossing 15 are lost once its other side sees the reset (R449). -/
def ethDomainReset (s : State) : State :=
  let s := talliesReset 208 240 (regsReset 0xB000 0xC000 s)
  { s with eth := { queue := s.eth.queue }, clocks := { s.clocks with ethReset := true } }

/-- A domain reset: 0 FB, 1 BUS, 2 ETH (R438). DESIGN CHOICE (log 77). -/
def domainReset (d : Nat) (s : State) : State :=
  if d = 0 then fbDomainReset s else if d = 1 then busDomainReset s else ethDomainReset s

/-- DOMAIN_RESET of domain 0 FB, 1 BUS or 2 ETH (R438). DESIGN CHOICE (log 74). -/
def execDomainReset (t : Time) (d : Fin 3) (s : State) : Host.Outcome State Fault Refusal :=
  .next (domainReset d (begin' t s))

/-- DOMAIN_RESET_RELEASE of domain 0 FB, 1 BUS or 2 ETH, whose clock has been healthy since `healthy`: it follows 1 ms later (R438). DESIGN CHOICE (log 81). -/
def execDomainResetRelease (t : Time) (d : Fin 3) (healthy : Time) (s : State) : Host.Outcome State Fault Refusal :=
  let s := begin' t s
  let c := s.clocks
  if healthy + msUnits ≤ s.now then
    .next { s with clocks :=
      if d.val = 0 then { c with fbReset := c.fbReset && !c.sysLock }
      else if d.val = 1 then { c with busReset := c.busReset && !c.sysLock }
      else { c with ethReset := c.ethReset && !c.ethLock } }
  else .next s

/-! ### Clock monitors (R436, R437) -/

/-- A monitor fault that leaves SYS running: its bit of CLK_STAT, notification kind 0x34 and a SAFETY record (R437, R454). DESIGN CHOICE (log 74). -/
def clockFault (bit : Nat) (s : State) : State :=
  let s := { s with clocks := { s.clocks with faults := withBit s.clocks.faults bit } }
  ledgerReport streamSafety 0x0934 bit s.clocks.faults (notify 0x34 bit s.clocks.faults s)

/-- REFERENCE_CLOCK_FAULT: the monitor of the 25 MHz reference has seen `edges` of it in a window of 1 ms, and none for the latest `gap` device-time units; it is off by more than 1 % or stopped for 1 us (R436). -/
def execReferenceClockFault (x : ClockSeen) (s : State) : Host.Outcome State Fault Refusal :=
  let s := begin' x.t s
  .next (if s.startup.released && (edgesOff x.edges 25000 250 || usUnits ≤ x.gap) then clockFaultReset false s else s)

/-- PLL_LOCK_LOST: the system PLL loses lock (R436). -/
def execPllLockLost (t : Time) (s : State) : Host.Outcome State Fault Refusal :=
  let s := begin' t s
  .next (if s.startup.released && s.clocks.sysLock then clockFaultReset true s else s)

/-- The device time after `edges` edges of the 32.768 kHz clock, each of 390,625 / 64 units (R442). DESIGN CHOICE (log 81). -/
def coarseTime (start edges : Nat) : Nat := start + roundDivNat (edges * 390625) 64

/-- PLL_LOCK: the system PLL (0), the Ethernet PLL (1) or the PCI Express PHY PLL (2) reports lock, and during start-up its domains leave reset (R435). After a clock-fault reset, `edges` edges of the 32.768 kHz clock have advanced device time until now (R442). DESIGN CHOICE (log 81). -/
def execPllLock (t : Time) (pll : Fin 3) (edges : Nat) (s : State) : Host.Outcome State Fault Refusal :=
  let s := begin' t s
  let c := s.clocks
  let starting := decide (s.startup.phase = 0)
  if pll.val = 0 then
    let now := match c.coarseFrom with
      | none => s.now
      | some t0 => max s.now (coarseTime t0 edges)
    .next { s with
      now := now
      clocks := { c with sysLock := true, coarseFrom := none
                         fbReset := c.fbReset && !starting, busReset := c.busReset && !starting } }
  else if pll.val = 1 then
    .next { s with clocks := { c with ethLock := true, ethReset := c.ethReset && !starting } }
  else .next { s with clocks := { c with pipeLock := true } }

/-- DOMAIN_CLOCK_FAULT: `edges` of the FB clock, or of the BUS clock if `bus`, in 1 us; more than 1 off nominal is a domain reset (R433, R436, R437). -/
def execDomainClockFault (t : Time) (x : DomainSeen) (s : State) : Host.Outcome State Fault Refusal :=
  let s := begin' t s
  .next (if edgesOff x.edges (if x.bus then 80 else 160) 1 then domainReset (if x.bus then 1 else 0) (clockFault (if x.bus then 3 else 2) s) else s)

/-- ETH_LOCK_LOST: the Ethernet PLL loses lock: a domain reset (R436, R437). -/
def execEthLockLost (t : Time) (s : State) : Host.Outcome State Fault Refusal :=
  let s := begin' t s
  .next (domainReset 2 (clockFault 4 { s with clocks := { s.clocks with ethLock := false } }))

/-- PIPE_LOCK_LOST: the link is down, and the host side of Cister is reset as by a Function Level Reset (R436, R68). -/
def execPipeLockLost (t : Time) (s : State) : Host.Outcome State Fault Refusal :=
  let s := begin' t s
  .next (clockFault 0 (hostSideReset { s with
    clocks := { s.clocks with pipeLock := false }
    cister := { s.cister with endpointReady := false } }))

/-- RTC_CLOCK_FAULT: `edges` of the 32.768 kHz clock in 1 s, and none for the latest `gap` device-time units; it is off by more than 0.1 % or stopped for 1 ms (R436). Streams stamp in operating time while the bit is set (R490). -/
def execRtcClockFault (x : ClockSeen) (s : State) : Host.Outcome State Fault Refusal :=
  let s := begin' x.t s
  .next (if edgesOff (x.edges * 1000) 32768000 32768 || msUnits ≤ x.gap then clockFault 5 s else s)

/-! ### PERST_N and the drive die -/

/-- PERST: PERST_N is low, or high again (R438). -/
def execPerst (t : Time) (low : Bool) (s : State) : Host.Outcome State Fault Refusal :=
  let s := begin' t s
  if low then .next (hostSideReset { s with cister := { s.cister with perstHigh := false, endpointReady := false } })
  else .next { s with cister := { s.cister with perstHigh := true } }

/-- The drive die is reset (R310, R438): pending events, profiles and register values are lost, and the control die sees its reset-state line next (R309). -/
def driveDieReset (s : State) : State :=
  let held := (s.drive.ch.map (fun e => e.2.pending.length)).foldl (· + ·) 0
  let s := talliesReset 240 450 s
  { s with
    drive := { State.reset.drive with inReset := true, resetAt := s.now, reports := s.drive.reports }
    relay := { s.relay with driveReset := true, driveSeen := false, lostStore := s.relay.lostStore + held, trained := false } }

/-- VIO33, in mV, is outside its operating range (R551). -/
def vio33Bad (vio33 : Nat) : Bool := decide (vio33 < 3135) || decide (3465 < vio33)

/-- DRIVE_DIE_RESET: VBAT, in mV, falls below 7.5 V, or VIO33 leaves its operating range (R438, R512). DESIGN CHOICE (log 95). -/
def execDriveDieReset (x : DriveSupplySeen) (s : State) : Host.Outcome State Fault Refusal :=
  let s := begin' x.t s
  .next (if x.vbat < 7500 || vio33Bad x.vio33 then driveDieReset s else s)

/-- DRIVE_DIE_RESET_RELEASE: VBAT and VIO33, in mV, have stood so for `good` device-time units; both good for 1 ms end the reset (R512). -/
def execDriveDieResetRelease (x : DriveSupplyGood) (s : State) : Host.Outcome State Fault Refusal :=
  let s := begin' x.t s
  .next (if 8000 ≤ x.vbat && !vio33Bad x.vio33 && msUnits ≤ x.good then { s with
    drive := { s.drive with inReset := false }
    relay := { s.relay with driveReset := false } } else s)

/-- DRIVE_OSCILLATOR_FAULT: `edges` of the 40 MHz drive oscillator in 10 us; more than 5 % off is a drive die reset (R432, R436). CLK_STAT has no bit for it, so the subject of its notification and record is free (R437, R454). DESIGN CHOICE (log 78). -/
def execDriveOscillatorFault (x : OscillatorSeen) (s : State) : Host.Outcome State Fault Refusal :=
  let s := begin' x.t s
  if !edgesOff x.edges 400 20 then .next s else
  let subject := (freeWord s).toNat % 2 ^ 32
  let s := driveDieReset (drawFree s)
  .next (ledgerReport streamSafety 0x0934 subject s.clocks.faults (notify 0x34 subject s.clocks.faults s))

/-- ALWAYS_ON_RESET: VBACKUP and VIO33, in mV, have both been below their limits for 500 ns (R552): the RTC is invalid, and the operating-time and power-cycle counters are cleared; everything else stays (R438, R492). DEDUCED (log 79). -/
def execAlwaysOnReset (x : BackupSeen) (s : State) : Host.Outcome State Fault Refusal :=
  let s := begin' x.t s
  if 1800 ≤ x.vbackup || 3000 ≤ x.vio33 || x.held < 100 then .next s else
  .next { s with aon := { s.aon with
    rtcValid := false, rtcMillis := 0, rtcAt := s.now, opSeconds := 0, opAt := s.now, powerCycles := 0 } }

/-! ### Crossings (R449, R450) -/

/-- The rings whose descriptors a unit behind a crossing executes (R448). -/
def crossingRings (k : Nat) : List Nat :=
  if k = 12 then (List.range 32).map (16 + ·) else if k = 14 then [80, 81] else []

/-- Discard an item of crossing `k`: it counts, and the first one of an episode raises kind 0x35 (R449, R450). DESIGN CHOICE (log 77). -/
def crossLose (k : Nat) (s : State) : State := cross k id s

/-- Complete every descriptor that has been fetched from a ring, in execution or not yet, with status 0x0007; each counts as discarded (R449). DESIGN CHOICE (log 77). -/
def loseFetched (k n : Nat) (s : State) : State :=
  ((ring s n).fetched.filter (fun x => x.phase = .waiting || x.phase = .running)).foldl
    (fun s x => complete n x 7 0 (crossLose k s)) s

/-- What waits at crossing 12 for a port's slot windows is discarded and counted: commands that no frame has carried yet, and cancels (R32, R449). -/
def loseSlots (p : Nat) (s : State) : State :=
  let unsent := (slotQueue s p).filter (fun c => !c.sent)
  let s := (slotCancels s p).foldl (fun s _ => crossLose 12 s) s
  let s := unsent.foldl (fun s c => spendEvent c.lane c.ev.id (crossLose 12 s)) s
  setSlotCancels p [] (setSlotQueue p ((slotQueue s p).filter (·.sent)) s)

/-- The convoy frames that wait at crossing 12 are discarded and counted (R448, R449). -/
def loseConvoy (s : State) : State :=
  let c := s.engine.convoy
  c.outbox.foldl (fun s _ => crossLose 12 s) { s with engine := { s.engine with convoy := { c with outbox := [] } } }

/-- What crossing `k` holds when it sees its far side in reset, besides the descriptors of its rings: latch captures, slot commands and convoy frames, targets, and messages on their way (R448, R449). -/
def loseHeld (k : Nat) (s : State) : State :=
  if k = 2 then
    let inFlight (l : EventLine) (line : Nat) : Nat :=
      if l.since.any (fun t0 => decide (s.now < t0 + phaseUnits line)) then 1 + b2n l.pends else 0
    let n := (s.eventLines.map (fun e => if e.1 < 64 then inFlight e.2 e.1 else 0)).foldl (· + ·) 0
    (List.range n).foldl (fun s _ => crossLose k s) s
  else if k = 4 then
    s.course.captures.foldl (fun s _ => crossLose k s) { s with course := { s.course with captures := [] } }
  else if k = 12 then loseConvoy ((List.range 32).foldl (fun s p => loseSlots p s) s)
  else if k = 15 then
    s.eth.queue.foldl (fun s _ => crossLose k s) { s with eth := { s.eth with queue := [] } }
  else s

/-- CROSSING_FAR_RESET: crossing `k` sees its far side in reset; what it holds is discarded (R449, R450). -/
def execCrossingFarReset (t : Time) (k : Fin 18) (s : State) : Host.Outcome State Fault Refusal :=
  let s := begin' t s
  let domain := decide (k.val ≤ 6 ∨ k.val = 8 ∨ k.val = 9 ∨ (12 ≤ k.val ∧ k.val ≤ 15))
  if s.clocks.farDown.contains k.val || (domain && !farInReset s k) then .next s
  else
    let s := loseHeld k { s with clocks := { s.clocks with farDown := s.clocks.farDown ++ [k.val] } }
    .next ((crossingRings k).foldl (fun s n => loseFetched k n s) s)

/-- CROSSING_RESTART: the far side of crossing `k` is back, and both sides restart from zero (R450). -/
def execCrossingRestart (t : Time) (k : Fin 18) (s : State) : Host.Outcome State Fault Refusal :=
  let s := begin' t s
  if farInReset s k then .next s
  else .next { s with
    clocks := { s.clocks with
      farDown := s.clocks.farDown.filter (fun j => j != k.val)
      discarding := s.clocks.discarding.filter (fun j => j != k.val) }
    eventLines := s.eventLines.filter (fun e => !((k.val = 2 && e.1 < 64) || (k.val = 11 && e.1 = pwmLine))) }

end Sys2Proof.Machine
end

