-- ==== Sys2Proof/Machine/Milestones.lean ====
section
/-! DEFINITION. Milestones: crossing, holds, output transitions, commit, re-timing and freeze, gap bridging, and the visit of a lane (R151, R159, R181 to R209, R225 to R227). -/
namespace Sys2Proof.Machine

/-! ### What milestones do to the wanted state (R181 to R183) -/

/-- Commanded state and spot count (R182). -/
structure Wanted where
  commanded : Bool
  spots : Nat
  deriving DecidableEq, Repr

def Wanted.on (w : Wanted) : Bool := w.commanded || 0 < w.spots

/-- The effect of one milestone other than RATE (R181). -/
def Wanted.apply (w : Wanted) (kind : Nat) : Wanted :=
  match kind with
  | 1 => { w with commanded := true }
  | 2 => { w with commanded := false }
  | 4 => { w with spots := w.spots + 1 }
  | 5 => { w with spots := w.spots - 1 }
  | _ => w

/-- The order of kinds at one position: RATE, ON and OFF, SPOT_OFF, SPOT_ON (R183). -/
def kindRank (kind : Nat) : Nat :=
  match kind with
  | 3 => 0 | 1 => 1 | 2 => 1 | 5 => 2 | _ => 3

/-- `m` comes before `n` in a queue: by position, then by kind, then by insertion (R183). -/
def milestoneBefore (m n : Milestone) : Bool :=
  if m.pos = n.pos then kindRank m.kind < kindRank n.kind || (kindRank m.kind = kindRank n.kind && m.seq < n.seq)
  else ahead n.pos m.pos

/-- Put a milestone in its place (R183). -/
def queueInsert (m : Milestone) : List Milestone → List Milestone
  | [] => [m]
  | n :: rest => if milestoneBefore m n then m :: n :: rest else n :: queueInsert m rest

def Lane.wanted (l : Lane) : Wanted := { commanded := l.commanded, spots := l.spots }

/-- Milestones applied in order. -/
def Wanted.applyAll (w : Wanted) (l : List Milestone) : Wanted := l.foldl (fun w m => w.apply m.kind) w

/-- The latest rate of RATE milestones, or `r`. -/
def rateAfter (r : Nat) (l : List Milestone) : Nat := l.foldl (fun r m => if m.kind = 3 then m.value else r) r

/-! ### Crossing (R111, R159, R183, R188, R193) -/

/-- The pool entry of a crossed milestone: it passes to the event it caused, to the transition that is overdue for it, or back to the pool. -/
def settleEntry (k : Nat) (m : Milestone) (s : State) : State :=
  if !m.entry then s
  else
    let l := lane s k
    if l.events.any (fun e => !e.executed && e.causes.contains m.seq) then
      setLane k { l with events := l.events.map (fun e =>
        if !e.executed && e.causes.contains m.seq then { e with entries := e.entries + 1 } else e) } s
    else if l.overdue.any (fun o => o.causes.contains m.seq) then
      setLane k { l with overdue := l.overdue.map (fun o =>
        if o.causes.contains m.seq then { o with entries := o.entries + 1 } else o) } s
    else poolReturn 1 s

/-- An event for a transition at a position exists, or the transition was bridged. -/
def covered (l : Lane) (kind : Nat) (pos : Int) : Bool :=
  l.events.any (fun e => e.kind = kind && decide (e.pos = some pos))
    || l.bridged.any (fun b => (kind = 2 && b.1 = pos) || (kind = 1 && b.2 = pos))

/-- Count a veto for a position once, its transition being caused by a milestone of `kind` (R198, R225, R537). -/
def countVeto (k : Nat) (pos : Int) (kind : Nat) (s : State) : State :=
  let l := lane s k
  if l.vetoed.contains pos then s
  else laneTrace 4 k kind pos (setLane k { l with vetoed := l.vetoed ++ [pos], vetoes := l.vetoes + 1 } s)

/-- The hold reasons other than coverage. -/
def strongHold (h : Nat) : Nat := h - h / 8 % 2 * 8

/-- The events of a lane that come before a position. -/
def eventsBefore (l : Lane) (p : Int) : List LaneEv :=
  l.events.filter (fun e => match e.pos with
    | some q => ahead p q
    | none => false)

/-- A lane's output at a position, as the events and bridged gaps around it have it: what the last event before it leaves, or what an executed event further on found. DESIGN CHOICE (log 43). -/
def plannedOn (l : Lane) (p : Int) : Bool :=
  l.bridged.any (fun b => !ahead b.1 p && ahead b.2 p) ||
  match ((eventsBefore l p).filter (fun e => e.kind ≠ 3)).getLast? with
  | some e => e.kind = 1
  | none =>
    match (l.events.filter (fun e => e.kind ≠ 3 && e.executed && e.pos.isSome)).head? with
    | some e => e.kind = 2
    | none => l.on

/-- Cross milestones `ms` together, at position `pos`: the wanted state and the rate move; a transition or a RATE that has no event yet is overdue, unless the lane is held off (R159, R188). DESIGN CHOICE (log 37). -/
def crossAt (k : Nat) (pos : Int) (ms : List Milestone) (s : State) : State :=
  let l := lane s k
  let w := l.wanted.applyAll ms
  let rates := ms.filter (fun m => m.kind = 3)
  let others := ms.filter (fun m => m.kind ≠ 3)
  let l1 := { l with
    commanded := w.commanded
    spots := w.spots
    rate := rateAfter l.rate ms
    queue := l.queue.filter (fun m => !ms.any (fun x => x.seq = m.seq)) }
  let s := setLane k l1 s
  let (ok, s) := if w.on then allowedAt k pos s else (true, s)
  let s := if w.on && !l.wanted.on && !ok && strongHold l.hold = 0 then countVeto k pos (milestoneKind 1 ms) s else s
  let transition := w.on != l.wanted.on && (ok || !w.on)
  let kind := if w.on then 1 else 2
  let l2 := lane s k
  let held := l2.hold ≠ 0
  let od1 : List Overdue :=
    if rates.isEmpty || l2.type = 3 || held || covered l2 3 pos || !plannedOn l2 pos then []
    else [{ kind := 3, pos := pos, value := l1.rate, causes := rates.map (·.seq), mkind := 3 }]
  let od2 : List Overdue :=
    if !transition || held || covered l2 kind pos then []
    else [{ kind := kind, pos := pos, value := l1.rate, causes := others.map (·.seq), mkind := milestoneKind kind ms }]
  let s := setLane k { l2 with overdue := l2.overdue ++ od1 ++ od2 } s
  ms.foldl (fun s m => settleEntry k m s) s

/-- Milestones of a queue that stand at one position, the first's; and the rest. -/
def headGroup (l : List Milestone) : List Milestone × List Milestone :=
  match l with
  | [] => ([], [])
  | m :: _ => (l.filter (fun x => x.pos = m.pos), l.filter (fun x => x.pos ≠ m.pos))

/-- The course at which a lane stands for a conversion: its own, or where it will be anchored (R102, R186). DESIGN CHOICE (log 36). -/
def courseFor (s : State) (l : Lane) : Int := if l.anchored then l.at else wrapS 48 (anchorCourse s l / 2 ^ 16)

/-- The lane course of a position given with a reference (R186). -/
def convert (s : State) (l : Lane) (ref : Nat) (pos : Int) : Int :=
  match ref with
  | 0 => pos
  | 1 => wrapS 48 (pos + (courseFor s l - mcSteps s))
  | _ => wrapS 48 (courseFor s l + pos)

/-- At their insertion visit, milestones given relative to the machine or the lane get their place in the queue (R186). -/
def settleRefs (k : Nat) (s : State) : State :=
  modLane k (fun l =>
    let placed := (l.queue.filter (fun m => m.ref ≠ 0)).map (fun m =>
      { m with pos := convert s l m.ref m.given, ref := 0, given := 0 })
    { l with queue := placed.foldl (fun q m => queueInsert m q) (l.queue.filter (fun m => m.ref = 0)) }) s

/-- A milestone was in the lane's queue at its latest visit already. -/
def Lane.seen (l : Lane) (m : Milestone) : Bool := decide (m.seq < l.freshFrom)

/-- Cross every milestone at or behind the lane course that was in the queue before, position by position (R181). -/
def crossAll : Nat → Nat → State → State
  | 0, _, s => s
  | fuel + 1, k, s =>
    let l := lane s k
    match headGroup (l.queue.filter (fun m => l.seen m && !ahead m.pos l.at)) with
    | ([], _) => s
    | (m :: ms, _) => crossAll fuel k (crossAt k m.pos (m :: ms) s)

/-- Of milestones inserted behind a lane's course, the SPOT_ON and SPOT_OFF pairs: they have no effect (R188). -/
def spotPairs (ms : List Milestone) : List Milestone :=
  ms.filter (fun m => (m.kind = 4 && ms.any (fun n => n.kind = 5 && n.seq = m.seq + 1))
    || (m.kind = 5 && ms.any (fun n => n.kind = 4 && n.seq + 1 = m.seq)))

/-- The insertion visit: cross together what was inserted since the latest visit at or behind the lane course (R25, R188). DESIGN CHOICE (log 37). -/
def crossInserted (k : Nat) (s : State) : State :=
  let l := lane s k
  let here := l.queue.filter (fun m => !l.seen m && !ahead m.pos l.at)
  let pairs := spotPairs (here.filter (fun m => ahead l.at m.pos))
  let s := poolReturn (pairs.filter (·.entry)).length
    (setLane k { l with queue := l.queue.filter (fun m => !pairs.contains m) } s)
  let ms := here.filter (fun m => !pairs.contains m)
  if ms.isEmpty then s else crossAt k l.at ms s

/-- Forget bridged pairs and vetoed positions that the lane has passed. -/
def forgetPassed (k : Nat) (s : State) : State :=
  modLane k (fun l => { l with
    bridged := l.bridged.filter (fun b => ahead b.2 l.at)
    vetoed := l.vetoed.filter (fun p => ahead p l.at) }) s

/-! ### Holds (R151, R226) -/

/-- The edges of a lane whose decisions are known, those that it has crossed among them: after backing up they can lie ahead again (R225). -/
def Lane.knownEdges (l : Lane) : List (Int × Bool) := l.base ++ l.edges

/-- The next allow edge ahead of a lane (R226). DESIGN CHOICE (log 46). -/
def nextAllowEdge (l : Lane) : Option Int :=
  ((l.knownEdges.filter (fun e => !e.2 && ahead e.1 l.at)).head?).map (·.1)

/-- The on transition at the lane's next allow edge has been committed (R226). -/
def edgeOnCommitted (l : Lane) : Bool :=
  match nextAllowEdge l with
  | none => false
  | some p => l.events.any (fun e => e.kind = 1 && decide (e.pos = some p))

/-- The hold reasons of a lane now (R151): own_inhibit, ancestor_inhibit, reverse, coverage, no_lease, parent_silent. DESIGN CHOICE (log 46). -/
def holdNow (s : State) (l : Lane) (allowed : Bool) : Nat :=
  let sh := (caravan s l.parent).eff
  b2n (!l.ownEnable) + 2 * b2n (!sh.enable) + 4 * b2n (s.course.reverse && sh.reverse)
    + 8 * b2n (!allowed && !edgeOnCommitted l)
    + 16 * b2n (l.binding.isDirect && !s.engine.leaseSeen)
    + 32 * b2n s.engine.convoy.parentSilent

/-- The execution time of a re-assertion (R151, R318). DESIGN CHOICE (log 41). -/
def reassertTime (s : State) (l : Lane) : Time :=
  tk s + freezeOf s l.binding + (match l.binding with
    | .direct ch => ch % 8 * (rf s R.DRV_REASSERT 0 15 0 * usUnits)
    | _ => 0)

/-- Send an on event of a re-assertion, with the current d (R151, R288, R318). DESIGN CHOICE (log 41). -/
def reassertOn (k : Nat) (t : Time) (s : State) : State :=
  let l := lane s k
  let (d, _) := dutyOf l l.eff
  commitEvent k { id := 0, kind := 1, tExec := t, delay := l.onDelay, transport := transportOf s l.type, d := d, value := l.rate } s

/-- A lane that a hold has turned off: what its events and bridged gaps did for transitions still ahead is undone, so those transitions are formed again (R151, R159). DESIGN CHOICE (log 45). -/
def undoAhead (k : Nat) (s : State) : State :=
  modLane k (fun l => { l with
    events := l.events.map (fun e => if e.executed then { e with pos := none } else e)
    bridged := l.bridged.filter (fun b => ahead b.1 l.at) }) s

/-- Overdue transitions that a hold withholds are not replayed: their pool entries return (R151, R193). -/
def dropOverdue (k : Nat) (gone : Overdue → Bool) (s : State) : State :=
  let l := lane s k
  poolReturn (((l.overdue.filter gone).map (·.entries)).foldl (· + ·) 0)
    (setLane k { l with overdue := l.overdue.filter (fun o => !gone o) } s)

/-- The lane is closing already: commanded off, or through a committed off transition at an edge that it has reached (R226). -/
def closing (l : Lane) : Bool :=
  l.events.any (fun e => e.kind = 2 && !e.executed && (match e.pos with
    | none => true
    | some p => e.onEdge && !ahead p l.at))

/-- No event of a discarded coverage edge is still to execute (R227). -/
def edgesSettled (l : Lane) : Bool := !l.events.any (fun e => e.onEdge && !e.executed)

/-- Once the frozen events of discarded edges have executed, what they did for positions ahead is undone (R227). -/
def undoEdges (k : Nat) (s : State) : State :=
  modLane k (fun l => { l with
    realign := false
    events := l.events.map (fun e => if e.onEdge && e.executed then { e with pos := none } else e) }) s

/-- The lane is called on and nothing on its way brings it on; an off on its way does not count as on (R151). -/
def calledOn (l : Lane) (allowed : Bool) : Bool :=
  l.wanted.on && allowed && (!l.on || l.events.any (fun e => e.kind = 2 && !e.executed && e.pos.isNone))
    && !l.events.any (fun e => e.kind = 1 && !e.executed)

/-- When the offs on their way will have executed. -/
def offsDone (l : Lane) : Time :=
  ((l.events.filter (fun e => e.kind = 2 && !e.executed && e.pos.isNone)).map (·.tExec)).foldl max 0

/-- The holds of a visit: what appears withdraws and commands off; what clears lets the lane take its called-for state (R151, R159, R205, R226, R288). DESIGN CHOICE (log 45). -/
def visitHolds (k : Nat) (s : State) : State :=
  let old := (lane s k).hold
  let (ok, s) := allowedAt k (lane s k).at s
  let l := lane s k
  let new := holdNow s l ok
  let s := setLane k { l with hold := new } s
  let s :=
    if strongHold new ≠ 0 then
      let s := if strongHold old = 0 then withdrawAll k l.binding (fun _ => true) s else s
      commandOff k (undoAhead k (dropOverdue k (fun _ => true) s))
    else if bitOf new 3 && l.on && !closing l then
      commandOff k (undoAhead k (laneTrace 4 k 2 l.at (modLane k (fun l => { l with vetoes := l.vetoes + 1 }) s)))
    else s
  let s := if bitOf new 3 then dropOverdue k (fun o => decide (o.kind ≠ 2)) s else s
  let s := if strongHold old ≠ 0 && strongHold new = 0 then undoAhead k s else s
  let realign := (lane s k).realign && edgesSettled (lane s k)
  let s := if realign then undoEdges k s else s
  let l := lane s k
  let s := setLane k { l with reassert := false } s
  let at' := max (offsDone l) (if old ≠ 0 then reassertTime s l else tk s + freezeOf s l.binding)
  let aligned := !realign || l.events.any (fun e => e.kind = 2 && e.executed && e.pos.isSome)
  let refused := l.reassert && l.on && !l.events.any (fun e => e.kind = 2 && !e.executed && decide (e.tExec ≤ at'))
  if new = 0 && (((old ≠ 0 || l.reassert || !aligned) && calledOn l ok) || refused) then reassertOn k at' s else s

/-! ### Untimed rates (R209, R278) -/

/-- The rate in force at the binding: that of the latest executed on or rate event whose position lies ahead, else the lane's own. DESIGN CHOICE (log 43). -/
def rateInForce (l : Lane) : Nat :=
  match (l.events.filter (fun e => e.kind ≠ 2 && e.executed && e.pos.isSome)).getLast? with
  | some e => e.value
  | none => l.rate

/-- Pass a change of the effective rate to the binding at the visit in which it arises (R209, R278). DESIGN CHOICE (log 43). -/
def visitRate (k : Nat) (s : State) : State :=
  let l := lane s k
  let (d, _) := dutyOf l (effRate s l (rateInForce l))
  let moved := decide (0x20 ≤ ((d : Int) - l.dSent).natAbs) || (d ≠ l.dSent && (d = 0 || d = 0x8000))
  if l.type ≠ 3 && l.on && l.hold = 0 && l.binding ≠ .unbound && moved then
    let s := modLane k (fun l => { l with dSent := d }) s
    commitEvent k { id := 0, kind := 3, tExec := if l.binding.isRemote then tk s else 0, d := d, value := rateInForce l } s
  else s

/-! ### Timing (R195, R196, R201) -/

/-- When an event at position `p` crosses and executes: T_cross and T_exec, which may lie before time zero (R196). -/
def timing (s : State) (l : Lane) (kind : Nat) (p : Int) : Option (Int × Int) :=
  match crossing s l p with
  | none => none
  | some c => some (c, c - modelDelay s l kind - transportOf s l.type)

/-- When an event executes: the instant it did, or its time, which is not before the sweep (R200). -/
def LaneEv.due (e : LaneEv) (s : State) : Time := if e.executed then e.at' else max e.tExec (tk s)

/-- The events of a lane that come before a position: what it was sent without a position and has not executed, then those with an earlier one (R201). -/
def precedes (l : Lane) (p : Int) : List LaneEv :=
  l.events.filter (fun e => e.pos.isNone && !e.executed && e.kind ≠ 3) ++ eventsBefore l p

/-- An execution time raised by the order of a lane's events and by the opening still in progress (R201). -/
def raiseTime (s : State) (l : Lane) (before : List LaneEv) (kind : Nat) (t : Int) : Int :=
  let t := before.foldl (fun (t : Int) e => max t e.tExec) t
  if kind = 2 then
    match (before.filter (fun e => e.kind = 1)).getLast? with
    | some e => max t ((e.due s : Int) + l.onDelay - l.offDelay)
    | none => if l.on then max t ((l.onAt : Int) + l.onDelay - l.offDelay) else t
  else t

/-- Re-time, withdraw and freeze the committed events of a lane in order; once one is withdrawn, so is every later one that is not frozen (R202 to R204). -/
def visitRetime (k : Nat) (s : State) : State :=
  let s := modLane k (fun l => { l with events := l.events.map (fun e =>
    if e.pos.isNone then { e with frozen := e.frozen || decide (e.tExec ≤ tk s + freezeOf s l.binding) } else e) }) s
  let ids := ((lane s k).events.filter (fun e => !e.executed && e.pos.isSome)).map (·.id)
  (ids.foldl (fun (acc : Bool × State) id =>
    let (gone, s) := acc
    let l := lane s k
    match l.events.find? (fun e => e.id = id) with
    | none => acc
    | some e =>
      let p := e.pos.getD 0
      if e.frozen || !ahead p l.at then
        (gone, modEvent k id (fun y => { y with frozen := y.frozen || decide (y.tExec ≤ tk s + freezeOf s l.binding) }) s)
      else
        let H := horizonOf s l.binding
        match if gone then none else timing s l e.kind p with
        | none => (true, withdrawEvent k l.binding e s)
        | some (c, t) =>
          let t := raiseTime s l (precedes l p) e.kind t
          if (tk s + H + H / 4 : Nat) < t then (true, withdrawEvent k l.binding e s)
          else
            let tn := t.toNat
            let diff := ((tn : Int) - e.tExec).natAbs
            let s := if diff ≠ 0 && retimeMin s ≤ diff then
                retimeEvent k e tn c l.v (modelDelay s l e.kind) (transportOf s l.type) s
              else s
            (gone, modEvent k id (fun y => { y with frozen := decide (y.tExec ≤ tk s + freezeOf s l.binding) }) s))
    (false, s)).2

/-! ### Output transitions ahead (R182, R209, R225) -/

/-- A transition or RATE milestone ahead of a lane. -/
structure Trans where
  kind : Nat
  pos : Int
  /-- The lane rate that holds from here on. -/
  rate : Nat
  causes : List Nat
  onEdge : Bool
  /-- The kind of the milestone that causes it (R537). -/
  mkind : Nat := 0
  deriving DecidableEq, Repr

/-- Insert a position in ascending order, once. -/
def posInsert (p : Int) : List Int → List Int
  | [] => [p]
  | q :: rest => if p = q then q :: rest else if ahead q p then p :: q :: rest else q :: posInsert p rest

/-- Positions ahead of a lane at which milestones or coverage edges stand, ascending. -/
def stops (l : Lane) : List Int :=
  ((l.queue.map (·.pos)) ++ (if l.guarded then l.knownEdges.map (·.1) else [])).foldl
    (fun acc p => if ahead p l.at then posInsert p acc else acc) []

/-- The walk over the positions ahead. -/
structure WalkAt where
  wanted : Wanted
  /-- The combined state of R225 just before the position. -/
  on : Bool
  rate : Nat
  /-- The latest off transition found. -/
  offAt : Option Int := none
  /-- An event at a position here can no longer be committed. -/
  past : Bool := false
  found : List Trans := []
  vetoes : List Int := []
  /-- The positions walked. -/
  seen : List Int := []

/-- No event at a position can be committed in this visit (R198). -/
def beyond (s : State) (l : Lane) (p : Int) : Bool :=
  let d := max (max l.onDelay l.offDelay) (rateDelayOf s l.type) + transportOf s l.type
  match crossing s l p with
  | none => true
  | some c => decide ((tk s + horizonOf s l.binding + d : Nat) < c)

/-- The minimum gap G (R206). -/
def minGap (l : Lane) : Int := speedTimes (l.v.natAbs : Int) (l.minOff * usUnits)

/-- Walk the positions ahead of lane `k` and collect its transitions, as far as an event could be committed or an off transition bridged (R206, R225). -/
def walkStops (k : Nat) : List Int → WalkAt → State → WalkAt × State
  | [], w, s => (w, s)
  | p :: rest, w, s =>
    let l := lane s k
    let past := w.past || beyond s l p
    let inGap := match w.offAt with
      | some q => decide (wrapS 48 (p - q) < minGap l)
      | none => false
    if past && !inGap then (w, s)
    else
      let ms := l.queue.filter (fun m => m.pos = p)
      let want := w.wanted.applyAll ms
      let rate := rateAfter w.rate ms
      let (ok, s) := if want.on then allowedAt k p s else (true, s)
      let on := want.on && ok
      let rates := ms.filter (fun m => m.kind = 3)
      let others := ms.filter (fun m => m.kind ≠ 3)
      let t1 : List Trans := if rates.isEmpty || l.type = 3 || past then [] else
        [{ kind := 3, pos := p, rate := rate, causes := rates.map (·.seq), onEdge := false, mkind := 3 }]
      let t2 : List Trans := if on = w.on then [] else
        [{ kind := if on then 1 else 2, pos := p, rate := rate, causes := others.map (·.seq),
           onEdge := l.guarded && l.knownEdges.any (fun e => e.1 = p), mkind := milestoneKind (if on then 1 else 2) ms }]
      let w := { w with
        wanted := want
        on := on
        rate := rate
        past := past
        offAt := if w.on && !on then some p else if on then none else w.offAt
        found := w.found ++ t1 ++ t2
        seen := w.seen ++ [p]
        vetoes := if want.on && !w.wanted.on && !ok && !past then w.vetoes ++ [p] else w.vetoes }
      walkStops k rest w s

/-- Off transitions of a lane at positions that it has reached, which can still be bridged: overdue, or committed, not frozen and not executed (R206, R207). -/
def offsBehind (l : Lane) : List LaneEv :=
  l.events.filter (fun e => e.kind = 2 && !e.frozen && !e.executed && (match e.pos with
    | some p => !ahead p l.at
    | none => false))

/-- The latest position at or behind the lane whose off transition can still be bridged. -/
def offBehind (l : Lane) : Option Int :=
  (((offsBehind l).filterMap (·.pos)) ++ ((l.overdue.filter (fun o => o.kind = 2)).map (·.pos))).getLast?

/-- The walk over what lies ahead of lane `k`. DESIGN CHOICE (log 44). -/
def transitionsAhead (k : Nat) (s : State) : WalkAt × State :=
  let l := lane s k
  let (ok, s) := if l.wanted.on then allowedAt k l.at s else (true, s)
  walkStops k (stops l) { wanted := l.wanted, on := l.wanted.on && ok, rate := l.rate, offAt := offBehind l } s

/-! ### Commit (R198 to R200, R206, R207) -/

/-- Cancel an off, caused by a milestone of `kind`, and the next on transition together (R206). -/
def bridgePair (k kind : Nat) (off on : Int) (s : State) : State :=
  let l := lane s k
  laneTrace 3 k kind off (setLane k { l with bridged := l.bridged ++ [(off, on)], bridgedCount := l.bridgedCount + 1 } s)

/-- The next on transition after an off transition, if it lies within the minimum gap (R206). -/
def gapOn (l : Lane) (off : Int) (after : List Trans) : Option Int :=
  match after.find? (fun t => t.kind = 1) with
  | some t => if wrapS 48 (t.pos - off) < minGap l then some t.pos else none
  | none => none

/-- The event of a transition of lane `k` at its times. -/
def eventOf (s : State) (l : Lane) (t : Trans) (cross exec : Int) : LaneEv :=
  let rate := if t.kind = 2 then l.rate else t.rate
  { id := 0, kind := t.kind, pos := some t.pos, causes := t.causes, tExec := exec.toNat, tCross := cross, v := l.v
    delay := modelDelay s l t.kind, transport := transportOf s l.type
    d := (dutyOf l (effRate s l rate)).1, value := rate, onEdge := t.onEdge, mkind := t.mkind
    frozen := decide (exec ≤ (tk s : Int) + freezeOf s l.binding) }

/-- Commit a transition that is due, counting it late where it is (R200). -/
def commitTrans (k : Nat) (t : Trans) (cross exec : Int) (entries : Nat) (s : State) : State :=
  let l := lane s k
  let late := decide (exec ≤ tk s) && !t.causes.isEmpty
  let s := if late then countLate k ((tk s : Int) - exec) s else s
  commitEvent k { eventOf s l t cross exec with late := late, entries := entries } s

/-- The dispatcher has a toll for an event of the lane (R29). -/
def dispatcherReady (s : State) (l : Lane) : Bool := l.binding = .unbound || decide (heapTolls s < 1024)

/-- Commit overdue transitions at once: they run late (R188). An off transition is first checked for the minimum gap against the transitions `after` (R206). -/
def commitOverdue : Nat → Nat → List Trans → State → State
  | 0, _, _, s => s
  | fuel + 1, k, after, s =>
    let l := lane s k
    match l.overdue with
    | [] => s
    | o :: rest =>
      match if o.kind = 2 then gapOn l o.pos after else none with
      | some on =>
        commitOverdue fuel k after (bridgePair k (if o.mkind = 0 then 2 else o.mkind) o.pos on (poolReturn o.entries (setLane k { l with overdue := rest } s)))
      | none =>
      if 4 ≤ l.commits || !dispatcherReady s l then s
      else
        let cross : Int := tk s
        let exec := raiseTime s l (l.events.filter (fun e => match e.pos with
            | none => !e.executed && decide (e.kind ≠ 3)
            | some p => !ahead p l.at)) o.kind
          (cross - modelDelay s l o.kind - transportOf s l.type)
        let s := setLane k { l with overdue := rest } s
        commitOverdue fuel k after (commitTrans k
          { kind := o.kind, pos := o.pos, rate := o.value, causes := o.causes, onEdge := false, mkind := o.mkind } cross exec o.entries s)

/-- Off transitions committed and not frozen whose positions the lane has reached are bridged where a milestone inserted since makes an on transition within the gap (R207). -/
def bridgeBehind (k : Nat) (after : List Trans) (s : State) : State :=
  (offsBehind (lane s k)).foldl (fun s e =>
    let l := lane s k
    match gapOn l (e.pos.getD 0) after with
    | some on => bridgePair k e.traceKind (e.pos.getD 0) on (withdrawEvent k l.binding e s)
    | none => s) s

/-- Commit the transitions ahead that are due, in order, at most four in a visit (R198, R199). `inserted`: milestones have been placed since the visit before, so an off transition committed and not frozen may still be bridged (R207). -/
def commitAhead (k : Nat) (inserted : Bool) : List Trans → State → State
  | [], s => s
  | t :: rest, s =>
    let l := lane s k
    let ev := l.events.find? (fun e => e.kind = t.kind && decide (e.pos = some t.pos))
    match ev with
    | some e =>
      if t.kind = 2 && inserted && !e.frozen && !e.executed then
        match gapOn l t.pos rest with
        | some on => commitAhead k inserted rest (bridgePair k t.mkind t.pos on (withdrawEvent k l.binding e s))
        | none => commitAhead k inserted rest s
      else commitAhead k inserted rest s
    | none =>
      if covered l t.kind t.pos then commitAhead k inserted rest s
      else if l.hold ≠ 0 && !(l.hold = 8 && t.kind = 1 && decide (nextAllowEdge l = some t.pos)) then
        commitAhead k inserted rest s
      else if t.kind = 3 && !plannedOn l t.pos then commitAhead k inserted rest s
      else
        match timing s l t.kind t.pos with
        | none => s
        | some (c, x) =>
          let x := raiseTime s l (precedes l t.pos) t.kind x
          if (tk s + horizonOf s l.binding : Nat) < x then s
          else
            match if t.kind = 2 then gapOn l t.pos rest else none with
            | some on => commitAhead k inserted rest (bridgePair k t.mkind t.pos on s)
            | none =>
              if 4 ≤ l.commits || !dispatcherReady s l then s
              else
                let s := commitTrans k t c x 0 s
                let s := if (lane s k).hold = 8 && edgeOnCommitted (lane s k) then modLane k (fun l => { l with hold := 0 }) s else s
                commitAhead k inserted rest s

/-- Withdraw events that belong to no transition ahead any more and are not frozen; a bridged pair of which a transition is gone is forgotten, and if the lane stands inside the gap its off is due (R189, R207, R225). -/
def dropStale (k : Nat) (w : WalkAt) (s : State) : State :=
  let l := lane s k
  let here := stops l
  let has (kind : Nat) (p : Int) : Bool :=
    if here.contains p && !w.seen.contains p then true else w.found.any (fun t => t.kind = kind && t.pos = p)
  let s := withdrawAll k l.binding (fun e => !e.frozen && (match e.pos with
    | some p => ahead p l.at && !has e.kind p
    | none => false)) s
  let l := lane s k
  let gone := l.bridged.filter (fun b => ahead b.2 l.at && (!has 1 b.2 || (ahead b.1 l.at && !has 2 b.1)))
  let inside := gone.filter (fun b => !ahead b.1 l.at)
  setLane k { l with
    bridged := l.bridged.filter (fun b => !gone.contains b)
    overdue := l.overdue ++ inside.map (fun b => { kind := 2, pos := b.1, value := l.rate }) } s

/-- Form the transitions ahead and commit those that are due. DESIGN CHOICE (log 44). -/
def planLane (k : Nat) (inserted : Bool) (s : State) : State :=
  let (w, s) := transitionsAhead k s
  let s := dropStale k w s
  let s := if inserted then bridgeBehind k w.found s else s
  let s := commitOverdue 8 k w.found s
  let s := if strongHold (lane s k).hold = 0 then w.vetoes.foldl (fun s p => countVeto k p (milestoneKind 1 ((lane s k).queue.filter (fun m => m.pos = p))) s) s else s
  commitAhead k inserted w.found s

/-! ### The visit (R22, R24 step 4) -/

/-- The inherited mode or miss policy of a lane changes: its edges go, with the unfrozen events that rest on them (R227). -/
def visitPolicy (k : Nat) (s : State) : State :=
  let l := lane s k
  let sh := (caravan s l.parent).eff
  let mode := if sh.mode = 0 then 1 else sh.mode
  if mode = l.mode && sh.miss = l.miss then s
  else
    let s := withdrawAll k l.binding (fun e => e.onEdge && !e.frozen) s
    modLane k (fun l => { dropEdges l with mode := mode, miss := sh.miss, realign := l.realign || l.events.any (·.onEdge) }) s

/-- One visit of lane `k` at a sweep close. -/
def visitLane (k : Nat) (s : State) : State :=
  let s := settleRefs k (modLane k (fun l => { laneMotion s l with commits := 0 }) s)
  let s := visitPolicy k s
  let s := crossEdges k s
  let inserted := (lane s k).queue.any (fun m => !(lane s k).seen m)
  let s := crossInserted k (crossAll (lane s k).queue.length k s)
  let s := pruneEvents k s
  let s := scanLane k s
  let s := prefetchLane k s
  let s := modLane k (fun l => { l with eff := effRate s l l.rate }) s
  let s := visitHolds k s
  let s := visitRate k s
  let s := visitRetime k s
  let s := planLane k inserted s
  let s := forgetPassed k (modLane k (fun l => { l with freshFrom := s.engine.nextSeq }) s)
  modLane k (fun l => { l with applying := stillApplies (tk s) l.applying }) (markLane k s)

end Sys2Proof.Machine
end

