-- ==== Sys2Proof/Machine/Waybills.lean ====
section
/-! DEFINITION. The waybills: lanes and caravans configured, attached, released, inhibited and queried, rates, delays and faults, milestones marked and cancelled, and what is forwarded to subordinates (R149 to R175, R184 to R190, R425, R426). -/
namespace Sys2Proof.Machine

/-- What carrying out a waybill gives: a state, a status, a result, a QUERY record, and the parts to forward: proxy caravan and bytes 8 to 63. -/
structure WbResult where
  state : State
  status : Nat := 0
  result : Nat := 0
  record : List Byte := []
  parts : List (Nat × List Byte) := []
  /-- A MARK that is judged at its insertion visit (R187). -/
  due : Option MarkDue := none

/-- The lowest non-zero status (R162). -/
def joinStatus (a b : Nat) : Nat := if a = 0 then b else if b = 0 then a else min a b

/-! ### Targets (R161, R169) -/

structure Target where
  kind : Nat
  convoy : Nat
  index : Nat
  deriving DecidableEq, Repr

def targetOf (bytes : List Byte) : Target :=
  let w := u32 bytes 8
  { kind := bits w 31 30, convoy := bits w 27 16, index := bits w 11 0 }

/-- The proxy whose range holds a convoy address (R169). -/
def proxyFor (s : State) (addr : Nat) : Option Nat :=
  (caravansOf s).find? (fun k => let c := caravan s k
    c.proxy && decide (c.base ≤ addr) && decide (addr < c.base + c.span))

/-- Bytes 8 to 63 of a waybill retargeted to caravan 0 of a subordinate (R425). -/
def toCaravan0 (s : State) (p : Nat) (bytes : List Byte) : List Byte :=
  leBytes 4 (2 ^ 30 + (caravan s p).base * 2 ^ 16) ++ (bytes.drop 12).take 52

/-! ### Lanes -/

/-- Take a lane out of service: its milestones are discarded, its events withdrawn and its binding commanded off (R150). Answers the number of milestones discarded. -/
def clearLane (k : Nat) (s : State) : Nat × State :=
  let l := lane s k
  let n := l.queue.length
  let s := withdrawAll k l.binding (fun _ => true) s
  let s := poolReturn (lane s k).entries s
  (n, if l.on then bindingOff k l.binding s else s)

/-- The owner of a binding's resource under the charter (R149, R466). -/
def bindingOwner (s : State) : Binding → Option Nat
  | .unbound => none
  | .direct c => some (drvOwner s c)
  | .pwm c => some (pwmOwner s c)
  | .remote p _ _ => some (busOwner s p)

/-- The binding that a LANE_CONFIG names (R163). -/
def bindingOf (bytes : List Byte) : Binding :=
  let w := u32 bytes 16
  match bits (u8 bytes 12) 5 4 with
  | 0 => .unbound
  | 1 => .direct (bits w 5 0)
  | 2 => .pwm (bits w 5 0)
  | _ => .remote (bits w 4 0) (bits w 15 8) (bits w 21 16)

/-- LANE_CONFIG (R150, R163). DESIGN CHOICE (log 38). -/
def laneConfig (owner : Option Nat) (k : Nat) (bytes : List Byte) (s : State) : WbResult :=
  let old := lane s k
  let b := bindingOf bytes
  let parent := bits (u16 bytes 14) 10 0
  let granted : Bool := match owner, bindingOwner s b with
    | some o, some r => o = r
    | _, _ => true
  let badPwm : Bool := match b with
    | .pwm c => 48 ≤ c
    | _ => false
  let taken := b ≠ .unbound && (lanesOf s).any (fun j => j ≠ k && decide ((lane s j).binding = b))
  if badPwm then { state := s, status := 3 }
  else if !granted then { state := s, status := 4 }
  else if !(caravan s parent).configured then { state := s, status := 0x0101 }
  else if taken then { state := s, status := 0x0102 }
  else if !old.configured && 8192 ≤ memberCount s then { state := s, status := 0x0103 }
  else if (caravan s parent).proxy then { state := s, status := 0x0108 }
  else
    let (n, s) := if old.configured then clearLane k s else (0, s)
    let l : Lane := {
      configured := true
      type := bits (u8 bytes 12) 1 0
      implement := bitOf (u8 bytes 12) 2
      binding := b
      parent := parent
      x := i32 bytes 20
      y := i32 bytes 24
      g := i32 bytes 28
      halfWidth := u16 bytes 32
      minOff := u16 bytes 34
      onDelay := u32 bytes 36
      offDelay := u32 bytes 40
      rate := u32 bytes 44
      ownEnable := bitOf (u8 bytes 48) 0
      faults := old.faults
      openings := old.openings
      bridgedCount := old.bridgedCount
      lateCount := old.lateCount
      deferred := old.deferred
      refused := old.refused
      vetoes := old.vetoes
      rateSat := old.rateSat
      applying := if old.on then
          closeApplying old { id := 0, kind := 2, tExec := s.now, transport := transportOf s old.type } s.now
        else old.applying
      record := old.record }
    { state := setLane k l s, result := n }

/-- RELEASE of a lane (R150). -/
def laneRelease (k : Nat) (s : State) : WbResult :=
  if !(lane s k).configured then { state := s, status := 0x0101 }
  else
    let (n, s) := clearLane k s
    { state := setLane k {} s, result := n }

/-! ### Caravans (R164, R167, R170) -/

/-- Ranges of addresses meet. -/
def rangesMeet (a n b m : Nat) : Bool := decide (a < b + m) && decide (b < a + n)

/-- The status of a proxy's range and port, 0 if they are in order (R167, R170). -/
def proxyStatus (owner : Option Nat) (k port base span : Nat) (s : State) : Nat :=
  let c := s.engine.convoy
  let others := (caravansOf s).filter (fun j => j ≠ k && (caravan s j).proxy)
  if span = 0 || 4096 < span then 3
  else if owner.isSome && owner ≠ some (busOwner s port) then 4
  else if rangesMeet base span c.addr 1 || base < c.addr || c.addr + c.span < base + span
      || others.any (fun j => rangesMeet base span (caravan s j).base (caravan s j).span) then 0x0104
  else if 8 ≤ (others.filter (fun j => (caravan s j).port = port)).length then 0x0106
  else 0

/-- Whether a caravan has members. -/
def hasMembers (s : State) (k : Nat) : Bool :=
  (lanesOf s).any (fun j => (lane s j).parent = k)
    || (caravansOf s).any (fun j => j ≠ 0 && (caravan s j).parent = k)

/-- CARAVAN_CONFIG (R164, R170). DESIGN CHOICE (log 38). -/
def caravanConfig (owner : Option Nat) (k : Nat) (bytes : List Byte) (s : State) : WbResult :=
  let old := caravan s k
  let parent := bits (u16 bytes 12) 10 0
  let tcMin := i16 bytes 16
  let tcMax := i16 bytes 18
  let flags := u8 bytes 20
  let policy := u8 bytes 21
  let proxy := bitOf flags 2
  let port := bits (u8 bytes 24) 4 0
  let base := bits (u16 bytes 26) 11 0
  let span := bits (u16 bytes 28) 12 0
  let st := if proxy then proxyStatus owner k port base span s else 0
  if tcMax < tcMin || tcMin < 0 || bits policy 3 2 = 3 then { state := s, status := 3 }
  else if k = 0 && proxy then { state := s, status := 0x0107 }
  else if k ≠ 0 && !(caravan s parent).configured then { state := s, status := 0x0101 }
  else if k ≠ 0 && !old.configured && 8192 ≤ memberCount s then { state := s, status := 0x0103 }
  else if k ≠ 0 && (caravan s parent).proxy then { state := s, status := 0x0108 }
  else if proxy && hasMembers s k then { state := s, status := 3 }
  else if st ≠ 0 then { state := s, status := st }
  else
    let same := old.proxy && proxy && old.port = port && old.node = u8 bytes 25 && old.base = base && old.span = span
    { state := setCaravan k { old with
        configured := true
        parent := if k = 0 then 0 else parent
        ownEnable := bitOf flags 4
        factor := u16 bytes 14
        tcEn := bitOf flags 0
        tcMin := tcMin
        tcMax := tcMax
        reverse := bitOf flags 1
        notifyFault := bitOf flags 3
        mode := bits policy 1 0
        miss := bits policy 3 2
        proxy := proxy
        port := if proxy then port else 0
        node := if proxy then u8 bytes 25 else 0
        base := if proxy then base else 0
        span := if proxy then span else 0
        timeout := if proxy then u16 bytes 30 else 0
        report := if same then old.report else {}
        reportAt := if same then old.reportAt else s.now
        silent := same && old.silent
        joined := same && old.joined } s }

/-- RELEASE of a caravan (R167). -/
def caravanRelease (k : Nat) (s : State) : WbResult :=
  if k = 0 then { state := s, status := 0x0107 }
  else if !(caravan s k).configured then { state := s, status := 0x0101 }
  else if hasMembers s k then { state := s, status := 0x0100 }
  else { state := setCaravan k {} s }

/-- ATTACH (R154, R165). -/
def attach (t : Target) (bytes : List Byte) (s : State) : WbResult :=
  let parent := bits (u16 bytes 12) 10 0
  let isCaravan := t.kind = 1
  if isCaravan && t.index = 0 then { state := s, status := 0x0107 }
  else if (if isCaravan then !(caravan s t.index).configured else !(lane s t.index).configured)
      || !(caravan s parent).configured then { state := s, status := 0x0101 }
  else if (caravan s parent).proxy then { state := s, status := 0x0108 }
  else if isCaravan then { state := modCaravan t.index (fun c => { c with parent := parent }) s }
  else { state := modLane t.index (fun l => { l with parent := parent }) s }

/-- INHIBIT (R162, R165). -/
def inhibit (t : Target) (bytes : List Byte) (s : State) : WbResult :=
  let en := !bitOf (u8 bytes 12) 0
  if t.kind = 1 then { state := modCaravan t.index (fun c => { c with ownEnable := en }) s }
  else { state := modLane t.index (fun l => { l with ownEnable := en }) s }

/-- SET_RATE (R165). -/
def setRate (t : Target) (bytes : List Byte) (s : State) : WbResult :=
  let v := u32 bytes 12
  if t.kind = 1 then
    { state := modCaravan t.index (fun c => { c with factor := capNat 0xFFFF (roundDivNat v 16) }) s }
  else { state := modLane t.index (fun l => { l with rate := v }) s }

/-! ### Acts on lanes below -/

/-- SET_DELAY on one lane (R165, R211). DESIGN CHOICE (log 38). -/
def setDelayLane (bytes : List Byte) (k : Nat) (s : State) : State :=
  let which := u8 bytes 13
  let on := u32 bytes 16
  let off := u32 bytes 20
  if u8 bytes 12 = 0 then
    modLane k (fun l => { l with
      onDelay := if bitOf which 0 then on else l.onDelay
      offDelay := if bitOf which 1 then off else l.offDelay
      learned := false
      confidence := u8 bytes 14 }) s
  else
    let s := if bitOf which 0 then learn k false on s else s
    if bitOf which 1 then learn k true off s else s

/-- CLEAR_FAULT on one lane: a direct lane's channel gets a CLEAR frame, and its bank too where the ring's owner owns it (R325). -/
def clearFaultLane (owner : Option Nat) (k : Nat) (s : State) : State :=
  let l := lane s k
  let s := setLane k { l with faults := 0 } s
  match l.binding with
  | .direct ch =>
    let s := pushDown (.clear ch 0x7F) (wr R.DRV_FAULT ch 0 s)
    if bitOf l.faults 2 && (owner.isNone || owner = some (drvOwner s (ch / 8 * 8))) then
      pushDown (.clear (64 + ch / 8) 1) (wr R.DRV_HS_STAT (ch / 8) 0 s)
    else s
  | _ => s

/-! ### MARK and CANCEL (R185 to R189) -/

/-- One used entry of a MARK. -/
structure MarkEntry where
  pos : Int
  kind : Nat
  ref : Nat
  value : Nat
  deriving DecidableEq, Repr

/-- Entry `i` of a MARK; `shift` is the course offset of a forwarded waybill (R185, R426). -/
def markEntry (bytes : List Byte) (shift : Int) (i : Nat) : MarkEntry :=
  let o := 12 + 16 * i
  let ref := bits (u8 bytes (o + 9)) 1 0
  let p := signed 48 (u64 bytes o % 2 ^ 48)
  { pos := if ref = 2 then p else wrapS 48 (p + shift), kind := u8 bytes (o + 8), ref := ref, value := u32 bytes (o + 12) }

/-- Each SPOT_ON is directly followed by a SPOT_OFF (R187). -/
def spotsPaired : List MarkEntry → Bool
  | [] => true
  | [e] => e.kind ≠ 4
  | e :: f :: rest => (e.kind ≠ 4 || f.kind = 5) && spotsPaired (f :: rest)

/-- The status of a MARK's entries on their own, 0 if in order (R187). -/
def markStatus (es : List MarkEntry) : Nat :=
  let used := es.filter (fun e => e.kind ≠ 0)
  if used.any (fun e => 6 ≤ e.kind || e.ref = 3) then 3
  else if used.isEmpty || !spotsPaired es then 0x0109
  else 0

/-- The references and positions of the SPOT pairs of a MARK (R187). -/
def spotPairsOf : List MarkEntry → List ((Nat × Int) × (Nat × Int))
  | e :: f :: rest => (if e.kind = 4 && f.kind = 5 then [((e.ref, e.pos), (f.ref, f.pos))] else []) ++ spotPairsOf (f :: rest)
  | _ => []

/-- In a lane, each SPOT_OFF lies at or ahead of its SPOT_ON (R187). -/
def spotsOrdered (s : State) (l : Lane) (pairs : List ((Nat × Int) × (Nat × Int))) : Bool :=
  pairs.all (fun x => !ahead (convert s l x.1.1 x.1.2) (convert s l x.2.1 x.2.2))

/-- Put one milestone into lane `k`, taking a pool entry (R192). -/
def placeOne (k : Nat) (pos : Int) (kind value ref : Nat) (given : Int) (s : State) : State :=
  let m : Milestone := { pos := pos, kind := kind, value := value, seq := s.engine.nextSeq, ref := ref, given := given }
  let s := { s with engine := { s.engine with nextSeq := s.engine.nextSeq + 1, poolFree := s.engine.poolFree - 1 } }
  laneTrace 0 k kind pos (modLane k (fun l => { l with queue := queueInsert m l.queue }) s)

/-- Place the used entries of a MARK in lane `k`; those given relative to the machine or the lane are converted again at the insertion visit (R186). -/
def placeEntries (k : Nat) (es : List MarkEntry) (s : State) : State :=
  (es.filter (fun e => e.kind ≠ 0)).foldl (fun s e =>
    placeOne k (convert s (lane s k) e.ref e.pos) e.kind e.value e.ref e.pos s) s

/-- MARK on the lanes that it reaches on this device: all its milestones, or none. Where a SPOT pair carries two references, its order shows at the insertion visit alone, and the MARK stays open until then (R31, R187). -/
def markLanes (es : List MarkEntry) (ks : List Nat) (s : State) : WbResult :=
  let used := (es.filter (fun e => e.kind ≠ 0)).length
  let pairs := spotPairsOf es
  let mixed := pairs.any (fun x => x.1.1 != x.2.1)
  if !mixed && ks.any (fun k => !spotsOrdered s (lane s k) pairs) then { state := s, status := 0x0109 }
  else
    let excess := ks.find? (fun k => laneCap s < (lane s k).entries + used)
    let short := decide (s.engine.poolFree < used * ks.length)
    if excess.isSome || short then
      { state := notify 0x12 (excess.getD (ks.headD 0)) s.engine.poolFree s, status := 1 }
    else
      let t := ks.foldl (fun s k => placeEntries k es s) s
      if mixed then
        { state := t, due := some { tag := s.engine.nextSeq, lanes := ks, pairs := pairs, seqFrom := s.engine.nextSeq
                                    seqTo := t.engine.nextSeq, placed := used * ks.length } }
      else { state := t, result := used * ks.length }

/-- The milestones of a lane that a CANCEL removes (R189). -/
def cancels (l : Lane) (lo hi : Int) (kinds : Nat) (m : Milestone) : Bool :=
  bitOf kinds m.kind && !ahead lo m.pos && !ahead m.pos hi
    && !l.events.any (fun e => (e.frozen || e.executed) && e.causes.contains m.seq)

/-- After a CANCEL has withdrawn events `out`: a transition whose position the lane has passed is overdue again, and a re-assertion is due again (R188, R189). -/
def formAgain (out : List LaneEv) (l : Lane) : Lane :=
  let passed := out.filter (fun e => match e.pos with
    | some p => !ahead p l.at
    | none => false)
  { l with
    overdue := l.overdue ++ passed.map (fun e =>
      { kind := e.kind, pos := e.pos.getD l.at, value := e.value, causes := e.causes, mkind := e.mkind })
    reassert := l.reassert || out.any (fun e => e.kind = 1 && e.pos.isNone) }

/-- CANCEL on one lane; answers the number removed (R189). -/
def cancelLane (lo hi : Int) (kinds k : Nat) (s : State) : Nat × State :=
  let l := lane s k
  let gone := l.queue.filter (cancels l lo hi kinds)
  if gone.isEmpty then (0, s)
  else
    let s := poolReturn (gone.filter (·.entry)).length
      (setLane k { l with queue := l.queue.filter (fun m => !cancels l lo hi kinds m) } s)
    let out := (lane s k).events.filter (fun e => !e.executed && !e.frozen)
    let s := withdrawAll k l.binding (fun e => !e.frozen) s
    (gone.length, setLane k (formAgain out (lane s k)) s)

/-- CANCEL on lanes (R189). -/
def cancelLanes (bytes : List Byte) (shift : Int) (ks : List Nat) (s : State) : WbResult :=
  let lo := wrapS 48 (signed 48 (u64 bytes 12 % 2 ^ 48) + shift)
  let hi := wrapS 48 (signed 48 (u64 bytes 20 % 2 ^ 48) + shift)
  if ahead lo hi then { state := s }
  else
    let (n, s) := ks.foldl (fun (acc : Nat × State) k =>
      let (m, s) := cancelLane lo hi (u8 bytes 28 % 64) k acc.2
      (acc.1 + m, s)) (0, s)
    { state := s, result := n }

/-! ### QUERY (R166) -/

/-- Saturate to 32 bits as bytes. -/
def sat32 (n : Nat) : List Byte := leBytes 4 (capNat 0xFFFFFFFF n)

/-- Bytes 4 to 67 of a lane's status record. DESIGN CHOICE (log 39). -/
def laneRecord (s : State) (l : Lane) : List Byte :=
  let eff := (caravan s l.parent).eff
  let any := l.faults % 2 ^ 11 ≠ 0
  leBytes 1 (b2n l.configured + 2 * b2n (l.ownEnable && eff.enable) + 4 * b2n l.ownEnable + 8 * b2n l.on
      + 16 * b2n l.on + 32 * b2n any)
    ++ leBytes 1 (l.type + l.hold * 4) ++ leBytes 2 l.faults
    ++ leBytes 4 1 ++ leBytes 4 (b2n l.on) ++ leBytes 4 (b2n any) ++ sat32 l.rate ++ sat32 l.eff
    ++ sat32 l.entries ++ leBytes 8 (tk s)
    ++ leBytes 4 l.openings.toNat ++ leBytes 4 l.bridgedCount.toNat ++ leBytes 4 l.lateCount.toNat
    ++ leBytes 4 l.deferred.toNat ++ leBytes 4 l.refused.toNat ++ leBytes 4 l.vetoes.toNat ++ leBytes 4 l.rateSat.toNat

/-- The sum of a tally over lanes. -/
def sumOver (s : State) (ks : List Nat) (f : Lane → Nat) : Nat := (ks.map (fun k => f (lane s k))).foldl (· + ·) 0

/-- Bytes 4 to 67 of a caravan's status record. DESIGN CHOICE (log 39). -/
def caravanRecord (s : State) (k : Nat) (c : Caravan) : List Byte :=
  let t := c.totals
  let ks := lanesBelow s k
  let up := if k = 0 then (rootShare s).enable else (caravan s c.parent).eff.enable
  leBytes 1 (b2n c.configured + 2 * b2n c.eff.enable + 4 * b2n c.ownEnable + 8 * b2n (0 < t.on)
      + 16 * b2n (0 < t.total && t.on = t.total) + 32 * b2n (0 < t.faulted || t.silent) + 64 * b2n c.proxy)
    ++ leBytes 1 (4 * b2n (!c.ownEnable) + 8 * b2n (!up)) ++ leBytes 2 t.faults
    ++ sat32 t.total ++ sat32 t.on ++ sat32 t.faulted ++ leBytes 4 (c.factor * 16)
    ++ sat32 (roundDivNat c.eff.p 256) ++ sat32 (sumOver s ks Lane.entries) ++ leBytes 8 (tk s)
    ++ sat32 (sumOver s ks (·.openings.toNat)) ++ sat32 (sumOver s ks (·.bridgedCount.toNat))
    ++ sat32 (sumOver s ks (·.lateCount.toNat)) ++ sat32 (sumOver s ks (·.deferred.toNat))
    ++ sat32 (sumOver s ks (·.refused.toNat)) ++ sat32 (sumOver s ks (·.vetoes.toNat))
    ++ sat32 (sumOver s ks (·.rateSat.toNat))

/-- The 128-byte status record of a target, as of the last completed sweep; a lane or caravan that has not been in one shows its present values (R166). -/
def statusRecord (s : State) (t : Target) (bytes : List Byte) : List Byte :=
  let body :=
    if t.kind = 1 then
      let c := caravan s t.index
      if c.record.isEmpty then caravanRecord s t.index c else c.record
    else
      let l := lane s t.index
      if l.record.isEmpty then laneRecord s l else l.record
  fitBytes 128 ((bytes.drop 8).take 4 ++ body)

/-! ### Carrying out a waybill -/

/-- The kinds of target that an opcode takes: lane, caravan (R162, R184). -/
def takesTarget (op kind : Nat) : Bool :=
  match op with
  | 0x10 => kind = 0
  | 0x11 => kind = 1
  | _ => true

/-- A waybill that fans out (R162, R184). -/
def fansOut (op : Nat) : Bool := op = 0x16 || op = 0x17 || op = 0x20 || op = 0x21

/-- The lanes of this device that a fanning waybill reaches. -/
def reached (s : State) (t : Target) : List Nat := if t.kind = 1 then lanesBelow s t.index else [t.index]

/-- The target of a waybill is configured. -/
def targetThere (s : State) (t : Target) : Bool :=
  if t.kind = 1 then (caravan s t.index).configured else (lane s t.index).configured

/-- The own part of a waybill whose target lies on this device. `shift` is none for a forwarded waybill without a course relation (R426). -/
def localPart (op : Nat) (owner : Option Nat) (shift : Option Int) (t : Target) (bytes : List Byte) (s : State) : WbResult :=
  match op with
  | 0x10 => laneConfig owner t.index bytes s
  | 0x11 => caravanConfig owner t.index bytes s
  | 0x12 => attach t bytes s
  | 0x13 => if t.kind = 1 then caravanRelease t.index s else laneRelease t.index s
  | _ =>
    if !targetThere s t then { state := s, status := 0x0101 }
    else match op with
      | 0x14 => inhibit t bytes s
      | 0x15 => setRate t bytes s
      | 0x16 =>
        if 1 < u8 bytes 12 then { state := s, status := 3 }
        else { state := (reached s t).foldl (fun s k => setDelayLane bytes k s) s }
      | 0x17 => { state := (reached s t).foldl (fun s k => clearFaultLane owner k s) s }
      | 0x18 => { state := s, record := statusRecord s t bytes }
      | 0x20 => markLanes ((List.range 3).map (markEntry bytes (shift.getD 0))) (reached s t) s
      | _ => cancelLanes bytes (shift.getD 0) (reached s t) s

/-- A MARK or CANCEL whose course positions need a translation that does not exist (R426). -/
def needsCourse (op : Nat) (bytes : List Byte) : Bool :=
  (op = 0x20 && ((List.range 3).map (markEntry bytes 0)).any (fun e => e.kind ≠ 0 && e.ref ≠ 2)) || op = 0x21

/-- The bytes of a waybill with its course positions in this device's course, for forwarding on (R426). -/
def translated (op : Nat) (shift : Int) (bytes : List Byte) : List Byte :=
  let bump48 (o : Nat) (b : List Byte) : List Byte :=
    patchBytes b o (leBytes 6 (wrapU 48 (signed 48 (u64 b o % 2 ^ 48) + shift)))
  match op with
  | 0x20 => (List.range 3).foldl (fun b i =>
      let e := markEntry b 0 i
      if e.kind ≠ 0 && e.ref ≠ 2 then bump48 (12 + 16 * i) b else b) bytes
  | 0x21 => bump48 20 (bump48 12 bytes)
  | _ => bytes

/-- Why a waybill is refused before its target is looked at, 0 if it is not (R161, R162, R187, R426). -/
def wbStatus (op : Nat) (shift : Option Int) (bytes : List Byte) (s : State) : Nat :=
  let t := targetOf bytes
  let entries := (List.range 3).map (markEntry bytes 0)
  if 2 ≤ t.kind || (t.kind = 1 && 2048 ≤ t.index) || !takesTarget op t.kind then 3
  else if shift.isNone && needsCourse op bytes then 0x010A
  else if t.convoy ≠ s.engine.convoy.addr then (if (proxyFor s t.convoy).isNone then 0x0104 else 0)
  else if op = 0x20 then markStatus entries
  else if op = 0x18 && u64 bytes 16 % 64 ≠ 0 then 3
  else 0

/-- The parts of a waybill that go to subordinates (R162, R169). -/
def partsOf (op : Nat) (shift : Option Int) (bytes : List Byte) (s : State) : List (Nat × List Byte) :=
  let t := targetOf bytes
  let out := translated op (shift.getD 0) bytes
  if wbStatus op shift bytes s ≠ 0 then []
  else if t.convoy ≠ s.engine.convoy.addr then
    (proxyFor s t.convoy).toList.map (fun p => (p, (out.drop 8).take 56))
  else if fansOut op && t.kind = 1 && targetThere s t then
    (proxiesBelow s t.index).map (fun p => (p, toCaravan0 s p out))
  else []

/-- Carry out a waybill: its own part here, and the parts to forward (R161, R162, R169, R187). -/
def waybill (op : Nat) (owner : Option Nat) (shift : Option Int) (bytes : List Byte) (s : State) : WbResult :=
  let t := targetOf bytes
  let st := wbStatus op shift bytes s
  if st ≠ 0 then { state := s, status := st }
  else if t.convoy ≠ s.engine.convoy.addr then { state := s, parts := partsOf op shift bytes s }
  else { localPart op owner shift t bytes s with parts := partsOf op shift bytes s }

/-! ### Forwarding (R173, R423, R425) -/

/-- The forwarding slots of a proxy that are free, ascending (R173). -/
def freeTags (s : State) (p : Nat) : List Nat :=
  (List.range 64).filter (fun t => !s.engine.convoy.parts.any (fun x => x.proxy = p && x.tag = t))

/-- Put a convoy frame in the outbox of a port, over crossing 12 (R448, R449). -/
def sendConvoy (port node : Nat) (bytes : List Byte) (s : State) : State :=
  cross 12 (fun s => { s with engine := { s.engine with convoy := { s.engine.convoy with
      outbox := s.engine.convoy.outbox ++ [(port, node, bytes)] } } }) s

/-- The 8-byte header of a convoy frame (R423). -/
def convoyHeader (type slot code value : Nat) : List Byte :=
  leBytes 1 type ++ leBytes 1 slot ++ leBytes 2 code ++ leBytes 4 value

/-- Forward one part to a proxy's subordinate. -/
def forwardPart (ring : Nat) (index : W32) (part : Nat × List Byte) (s : State) : State :=
  let (p, body) := part
  match freeTags s p with
  | [] => s
  | tag :: _ =>
    let c := caravan s p
    let s := sendConvoy c.port c.node (convoyHeader 5 tag 0 0 ++ body) s
    { s with engine := { s.engine with convoy := { s.engine.convoy with
        parts := s.engine.convoy.parts ++ [{ proxy := p, tag := tag, sentAt := s.now, ring := ring, index := index }] } } }

/-- A waybill's parts all find a forwarding slot (R173). -/
def canForward (s : State) (parts : List (Nat × List Byte)) : Bool := parts.all (fun x => !(freeTags s x.1).isEmpty)

/-- Keep a waybill open until its forwarded parts are done (R162). -/
def openForward (f : Forwarded) (s : State) : State :=
  { s with engine := { s.engine with convoy := { s.engine.convoy with forwarded := s.engine.convoy.forwarded ++ [f] } } }

/-- The place of a MARK that is judged later among the open parts: no proxy has it. -/
def markPart : Nat := 2048

/-- Keep a waybill open for what is outstanding of it: its forwarded parts, and a MARK's own part that is judged at its insertion visit (R162, R187). -/
def keepOpen (f : Forwarded) (w : WbResult) : State :=
  let s := openForward f w.state
  let s := match w.due with
    | none => s
    | some d => { s with engine := { s.engine with
        marksDue := s.engine.marksDue ++ [d]
        convoy := { s.engine.convoy with
          parts := s.engine.convoy.parts ++ [{ proxy := markPart, tag := d.tag, sentAt := s.now, ring := f.ring, index := f.index }] } } }
  w.parts.foldl (fun s p => forwardPart f.ring f.index p s) s

/-- A waybill on ring `n` (R25, R43, R162): carried out on this device at once; complete unless parts of it are outstanding. -/
def waybillDesc (n op : Nat) (x : Desc) (s : State) : DescResult :=
  let r := ring s n
  let w := waybill op (some (ringOwner s n)) (some 0) x.bytes s
  let buffer := u64 x.bytes 16
  if w.parts.isEmpty && w.due.isNone then
    let s := if op = 0x18 && w.status = 0 then dmaWrite r.onChip buffer w.record w.state else w.state
    { state := s, status := w.status, result := BitVec.ofNat 32 (capNat 0xFFFFFFFF w.result) }
  else
    { state := keepOpen { ring := n, index := x.index, opcode := op, buffer := buffer, onChip := r.onChip,
                          status := w.status, result := w.result } w
      finished := false }

/-- The lanes and caravans of this device that a waybill reaches: a lane by its index, a caravan by 4096 more. -/
def reachKeys (s : State) (bytes : List Byte) : List Nat :=
  let t := targetOf bytes
  if t.convoy ≠ s.engine.convoy.addr then []
  else if t.kind = 1 then (4096 + t.index) :: lanesBelow s t.index
  else [t.index]

/-- Nothing that this sweep's order puts behind source `n` has reached any of the keys (R25, R168, R262). DESIGN CHOICE (log 35). -/
def turnOk (s : State) (n : Nat) (keys : List Nat) : Bool := keys.all (fun k => tabGet 0 s.engine.ringTurn k ≤ n)

/-- Carry out the oldest waiting waybill of ring `n` if its opcode is `op`. Rings that reach one lane or caravan in one sweep take their turn in ascending index (R25), and a waybill that finds no forwarding slot waits (R173). DESIGN CHOICE (log 35). -/
def waybillCmd (n op : Nat) (s : State) : State :=
  match nextDesc s n with
  | none => s
  | some x =>
    let keys := reachKeys s x.bytes
    if (ring s n).kind = 1 && u16 x.bytes 0 = op && turnOk s n keys && canForward s (partsOf op (some 0) x.bytes s) then
      runDesc n op (fun x s =>
        let r := waybillDesc n op x s
        { r with state := setTurn n keys r.state }) s
    else s

/-- The next waybill of a ring needs a proxy whose forwarding slots are all in use: nothing further is fetched from the ring (R173). DEDUCED (log 118). -/
def proxyFull (s : State) (n : Nat) : Bool :=
  (ring s n).kind = 1 && (match nextDesc s n with
    | some x => !canForward s (partsOf (u16 x.bytes 0) (some 0) x.bytes s)
    | none => false)

/-- DESCRIPTOR_FETCH (R43): the next entry is read; software handed it over with S (R41). Undefined where R76 says so. -/
def execDescriptorFetch (t : Time) (n : Fin 128) (s : State) : Host.Outcome State Fault Refusal :=
  let s := begin' t s
  if mayFetch s n && !proxyFull s n then orUndefined 76 (fetchMisuse s n) (fetchNext n s) else .next s

/-- A caravan lies below itself: ascent from it does not end at caravan 0 (R180). -/
def treeBroken (s : State) : Bool :=
  let n := (caravansOf s).length
  (caravansOf s).any (fun k => !below s 0 n k)

/-- A lane that is on has its place or body changed (R180). -/
def movedWhileOn (old new : Lane) : Bool :=
  old.configured && new.configured && old.on && !(old.x = new.x && old.y = new.y && old.g = new.g
    && old.halfWidth = new.halfWidth && old.implement = new.implement)

/-- The undefined use of R180 that leads from one state to the next. DESIGN CHOICE (log 10). -/
def misuse180 (s t : State) : Bool :=
  treeBroken t || (lanesOf t).any (fun k => movedWhileOn (lane s k) (lane t k))

/-- LANE_CONFIG (R150, R163, R180). -/
def execLaneConfig (t : Time) (n : Fin 128) (s : State) : Host.Outcome State Fault Refusal :=
  let r := waybillCmd n 0x10 (begin' t s)
  if misuse180 s r then .fault (.undefinedUse 180) else .next r
/-- CARAVAN_CONFIG (R164, R170, R180). -/
def execCaravanConfig (t : Time) (n : Fin 128) (s : State) : Host.Outcome State Fault Refusal :=
  let r := waybillCmd n 0x11 (begin' t s)
  if misuse180 s r then .fault (.undefinedUse 180) else .next r
/-- ATTACH (R154, R165, R180). -/
def execAttach (t : Time) (n : Fin 128) (s : State) : Host.Outcome State Fault Refusal :=
  let r := waybillCmd n 0x12 (begin' t s)
  if misuse180 s r then .fault (.undefinedUse 180) else .next r
/-- RELEASE (R150, R167). -/
def execRelease (t : Time) (n : Fin 128) (s : State) : Host.Outcome State Fault Refusal :=
  .next (waybillCmd n 0x13 (begin' t s))
/-- INHIBIT (R162, R165). -/
def execInhibit (t : Time) (n : Fin 128) (s : State) : Host.Outcome State Fault Refusal :=
  .next (waybillCmd n 0x14 (begin' t s))
/-- SET_RATE (R165). -/
def execSetRate (t : Time) (n : Fin 128) (s : State) : Host.Outcome State Fault Refusal :=
  .next (waybillCmd n 0x15 (begin' t s))
/-- SET_DELAY (R165, R211). -/
def execSetDelay (t : Time) (n : Fin 128) (s : State) : Host.Outcome State Fault Refusal :=
  .next (waybillCmd n 0x16 (begin' t s))
/-- CLEAR_FAULT (R152, R325). -/
def execClearFault (t : Time) (n : Fin 128) (s : State) : Host.Outcome State Fault Refusal :=
  .next (waybillCmd n 0x17 (begin' t s))
/-- QUERY (R166). -/
def execQuery (t : Time) (n : Fin 128) (s : State) : Host.Outcome State Fault Refusal :=
  .next (waybillCmd n 0x18 (begin' t s))
/-- MARK (R185 to R188). -/
def execMark (t : Time) (n : Fin 128) (s : State) : Host.Outcome State Fault Refusal :=
  .next (waybillCmd n 0x20 (begin' t s))
/-- CANCEL (R189). -/
def execCancel (t : Time) (n : Fin 128) (s : State) : Host.Outcome State Fault Refusal :=
  .next (waybillCmd n 0x21 (begin' t s))

end Sys2Proof.Machine
end

