-- ==== Sys2Proof/Machine/Convoy.lean ====
section
/-! DEFINITION. The convoy frames that a parent and its subordinates exchange, and what happens when one falls silent (R169 to R176, R423 to R426). A received convoy frame reaches the receive ring as CAN_FRAME_RECEIVED says; the commands here are what the bus unit does with it besides. -/
namespace Sys2Proof.Machine

def modConvoy (f : Convoy → Convoy) (s : State) : State :=
  { s with engine := { s.engine with convoy := f s.engine.convoy } }

/-- The port takes part in Imwald traffic (R415). -/
def imwaldOn (s : State) (p : Nat) : Bool := rb s R.CAN_PORT_CFG p 31 && rb s R.CAN_IMW_CFG p 31
/-- The device's own node address on a port (R415). -/
def ownNode (s : State) (p : Nat) : Nat := rf s R.CAN_IMW_ID p 31 24

/-- An Imwald frame under identifier `id` reaches port `p` and has its meaning `k` there; under a known reference identifier it is an undefined use (R415, R431). DESIGN CHOICE (log 10). -/
def imwaldHeard (p id : Nat) (k : State → Host.Outcome State Fault Refusal) (s : State) : Host.Outcome State Fault Refusal :=
  if !(imwaldOn s p && hears s p) then .next s
  else if isReference s p id then .fault (.undefinedUse 431)
  else k s

/-- Identifiers of convoy frames: down to a subordinate, and up from one (R415). -/
def downId (node : Nat) : Nat := 0x300 + node
def upId (node : Nat) : Nat := 0x400 + node

/-- A frame from the parent reaches this device (R415, R424). -/
def fromParent (s : State) (p node : Nat) : Bool :=
  s.engine.convoy.joined && s.engine.convoy.parentPort = p && node = ownNode s p

/-- The proxy whose subordinate has a node address on a port. -/
def proxyAt (s : State) (p node : Nat) : Option Nat :=
  (caravansOf s).find? (fun k => (caravan s k).proxy && (caravan s k).port = p && (caravan s k).node = node)

/-! ### Joining (R424) -/

/-- Own proxies fit into a span (R424). -/
def proxiesFit (s : State) (base span : Nat) : Bool :=
  (caravansOf s).all (fun k => let c := caravan s k
    !c.proxy || (decide (base < c.base) && decide (c.base + c.span ≤ base + span)))

/-- A device that joins is not master on its parent port: it listens for the parent's reference messages (R407, R411). DESIGN CHOICE (log 71). -/
def yieldMaster (p : Nat) (s : State) : State :=
  if (busPort s p).tt = 3 then
    setMaster p 15 (modBus p (fun b => { b with
      tt := 1, listenAt := s.now, misses := 0, ownRef := none, stamp := none, window := none, formed := [] }) s)
  else s

/-- ADMIT: a frame from a parent to node `node` on port `p` is accepted or refused; one for another node is not this device's (R424). The parent's silence is timed from the joining, and then from its shares alone (R175). DESIGN CHOICE (log 63). -/
def execAdmitFrame (t : Time) (p : Fin 32) (node : BitVec 8) (frame : List Byte) (s : State) : Host.Outcome State Fault Refusal :=
  imwaldHeard p (downId node.toNat) (fun s =>
    let base := bits (u16 frame 8) 11 0
    let span := bits (u16 frame 10) 12 0
    if node.toNat ≠ ownNode s p then .next s
    else if rb s R.CONVOY_CFG 0 31 && rf s R.CONVOY_CFG 0 20 16 = p.val && proxiesFit s base span then
      .next (sendConvoy p (ownNode s p) (convoyHeader 2 0 0 0 ++ [0])
        (modConvoy (fun c => { c with
          joined := true, addr := base, span := span, depth := u8 frame 12, parentPort := p, parentNode := node.toNat
          shareAt := if c.joined then c.shareAt else s.now
          parentSilent := c.joined && c.parentSilent }) (yieldMaster p s)))
    else .next (sendConvoy p (ownNode s p) (convoyHeader 2 0 0 0 ++ [1]) s)) (begin' t s)

/-- Return to root addressing when CONVOY_CFG.join_en is cleared (R424). -/
def leaveConvoy (s : State) : State :=
  modConvoy (fun c => { c with
    joined := false, addr := 0, span := 4096, depth := 0, parentPort := 0, parentNode := 0
    share := none, shareDue := none, parentSilent := false, courseOffset := none }) s

/-- JOINED: a subordinate's answer to ADMIT (R424). -/
def execJoined (t : Time) (p : Fin 32) (node : BitVec 8) (frame : List Byte) (s : State) : Host.Outcome State Fault Refusal :=
  imwaldHeard p (upId node.toNat) (fun s =>
    match proxyAt s p node.toNat with
    | none => .next s
    | some k =>
      .next (if u8 frame 8 = 0 then modCaravan k (fun c => { c with joined := true }) s else notify 0x32 k p s)) (begin' t s)

/-! ### Shares and reports (R171, R172, R175) -/

/-- The parent share that a SHARE frame carries (R423). -/
def shareOfFrame (frame : List Byte) : Share where
  enable := bitOf (u8 frame 8) 0
  reverse := bitOf (u8 frame 8) 1
  window := if bitOf (u8 frame 8) 2 then some (i16 frame 16, i16 frame 18) else none
  mode := bits (u8 frame 9) 1 0
  miss := bits (u8 frame 9) 3 2
  p := u32 frame 12

/-- The body of a SHARE frame (R423). -/
def shareBody (sh : Share) : List Byte :=
  let (lo, hi) := sh.window.getD (0, 0)
  leBytes 1 (b2n sh.enable + 2 * b2n sh.reverse + 4 * b2n sh.window.isSome) ++ leBytes 1 (sh.mode + 4 * sh.miss) ++ [0, 0]
    ++ leBytes 4 sh.p ++ leBytes 2 (wrapU 16 lo) ++ leBytes 2 (wrapU 16 hi) ++ leBytes 4 0

/-- SHARE: the share takes effect at step 2 of the next sweep; parent_silent clears (R171, R175). -/
def execShare (t : Time) (p : Fin 32) (node : BitVec 8) (frame : List Byte) (s : State) : Host.Outcome State Fault Refusal :=
  imwaldHeard p (downId node.toNat) (fun s =>
    if fromParent s p node.toNat then
      .next (modConvoy (fun c => { c with shareDue := some (shareOfFrame frame), shareAt := s.now, parentSilent := false }) s)
    else .next s) (begin' t s)

/-- The body of a REPORT frame (R423). -/
def reportBody (t : Totals) : List Byte :=
  leBytes 4 t.total ++ leBytes 4 t.on ++ leBytes 4 t.faulted ++ leBytes 2 t.faults ++ leBytes 1 (b2n t.silent) ++ [0]

/-- CONVOY_REPORT: a subordinate's caravan 0 aggregates, used at the next aggregation (R170, R172). -/
def execConvoyReport (t : Time) (p : Fin 32) (node : BitVec 8) (frame : List Byte) (s : State) :
    Host.Outcome State Fault Refusal :=
  imwaldHeard p (upId node.toNat) (fun s =>
    match proxyAt s p node.toNat with
    | none => .next s
    | some k =>
      let r : Totals := { total := u32 frame 8, on := u32 frame 12, faulted := u32 frame 16, faults := u16 frame 20,
                          silent := bitOf (u8 frame 22) 0 }
      .next (modCaravan k (fun c => { c with report := r, reportAt := s.now, silent := false }) s)) (begin' t s)

/-- PROXY_SILENT (R175). -/
def execProxySilent (t : Time) (k : Fin 2048) (s : State) : Host.Outcome State Fault Refusal :=
  let s := begin' t s
  let c := caravan s k
  if c.configured && c.proxy && !c.silent && c.reportAt + max 5 c.timeout * msUnits ≤ s.now then
    .next (notify 0x11 k c.port (modCaravan k (fun c => { c with silent := true }) s))
  else .next s

/-- PARENT_SILENT (R175): every lane is held off from its next visit. -/
def execParentSilent (t : Time) (s : State) : Host.Outcome State Fault Refusal :=
  let s := begin' t s
  let c := s.engine.convoy
  if c.joined && !c.parentSilent && c.shareAt + max 5 (rf s R.CONVOY_CFG 0 15 0) * msUnits ≤ s.now then
    .next (notify 0x11 0xFFFF c.parentPort (modConvoy (fun c => { c with parentSilent := true }) s))
  else .next s

/-! ### Forwarded waybills (R162, R173, R425) -/

/-- Send a forwarded waybill's completion to the parent: the pieces of a QUERY's record, then DONE (R423, R425). -/
def sendDone (slot status result : Nat) (record : List Byte) (s : State) : State :=
  let c := s.engine.convoy
  let node := ownNode s c.parentPort
  let s := if record.isEmpty then s else (List.range 4).foldl (fun s i =>
    sendConvoy c.parentPort node (convoyHeader 7 slot i 0 ++ (record.drop (32 * i)).take 32) s) s
  sendConvoy c.parentPort node (convoyHeader 6 slot status (capNat 0xFFFFFFFF result)) s

/-- Waybills from the parent are kept among the forwarded ones under ring 256 + slot. -/
def parentRing (slot : Nat) : Nat := 256 + slot

/-- Apply a waybill from the parent, after the local rings of the sweep (R168, R173, R426). No local ring carries it, so a LANE_CONFIG or CARAVAN_CONFIG among them meets no check of an owner. DESIGN CHOICE (log 63). -/
def applyForwarded (slot op : Nat) (bytes : List Byte) (s : State) : State :=
  let keys := reachKeys s bytes
  let w := waybill op none s.engine.convoy.courseOffset bytes s
  let s := setTurn afterRings keys w.state
  if w.parts.isEmpty && w.due.isNone then sendDone slot w.status w.result w.record s
  else keepOpen { ring := parentRing slot, index := 0, opcode := op, status := w.status, result := w.result } { w with state := s }

/-- A waybill from the parent can be applied: its parts find forwarding slots, and no target has been placed in a lane it reaches since the sweep before (R173, R262). -/
def canApply (op : Nat) (bytes : List Byte) (s : State) : Bool :=
  turnOk s afterRings (reachKeys s bytes) && canForward s (partsOf op s.engine.convoy.courseOffset bytes s)

/-- Apply what waits, in arrival order, as far as it can be (R173); answers whether that was an undefined use of R180. -/
def drainForwarded : Nat → Bool × State → Bool × State
  | 0, x => x
  | fuel + 1, (bad, s) =>
    match s.engine.convoy.waiting with
    | [] => (bad, s)
    | (slot, op, bytes) :: rest =>
      if canApply op bytes s then
        let r := applyForwarded slot op bytes (modConvoy (fun c => { c with waiting := rest }) s)
        drainForwarded fuel (bad || misuse180 s r, r)
      else (bad, s)

/-- Apply the waybills from the parent that can be; undefined where R180 says so. DESIGN CHOICE (log 10). -/
def forwardOutcome (s : State) : Host.Outcome State Fault Refusal :=
  let (bad, s) := drainForwarded 128 (false, s)
  if bad then .fault (.undefinedUse 180) else .next s

/-- WAYBILL: a forwarded waybill arrives from the parent. The frame carries bytes 8 to 63; `op` is the waybill's opcode, which the frame's layout has no place for. DESIGN CHOICE (log 63). -/
def execWaybill (t : Time) (p : Fin 32) (node : BitVec 8) (op : Nat) (frame : List Byte) (s : State) :
    Host.Outcome State Fault Refusal :=
  imwaldHeard p (downId node.toNat) (fun s =>
    if fromParent s p node.toNat then
      let item := (u8 frame 1 % 64, op, leBytes 2 op ++ leBytes 6 0 ++ (frame.drop 8).take 56)
      forwardOutcome (modConvoy (fun c => { c with waiting := c.waiting ++ [item] }) s)
    else .next s) (begin' t s)

/-- The outstanding part of a proxy with a tag. DESIGN CHOICE (log 63). -/
def partOf (s : State) (k tag : Nat) : Option Part := s.engine.convoy.parts.find? (fun x => x.proxy = k && x.tag = tag)

/-- Every part of a waybill is done: it completes where it came from (R162, R173). DESIGN CHOICE (log 63). -/
def finishForward (f : Forwarded) (record : List Byte) (s : State) : State :=
  let s := modConvoy (fun c => { c with forwarded := c.forwarded.filter (fun g => !(g.ring = f.ring && g.index = f.index)) }) s
  if 256 ≤ f.ring then sendDone (f.ring - 256) f.status f.result record s
  else
    let s := if f.opcode = 0x18 && f.status = 0 then dmaWrite f.onChip f.buffer (fitBytes 128 record) s else s
    completeAt f.ring f.index f.status (BitVec.ofNat 32 (capNat 0xFFFFFFFF f.result)) s

/-- One part of a waybill is done with a status and a result. -/
def partDone (x : Part) (status result : Nat) (s : State) : State :=
  let s := modConvoy (fun c => { c with
    parts := c.parts.filter (fun y => !(y.proxy = x.proxy && y.tag = x.tag))
    forwarded := c.forwarded.map (fun f => if f.ring = x.ring && f.index = x.index then
      { f with status := joinStatus f.status status, result := f.result + result } else f) }) s
  match s.engine.convoy.forwarded.find? (fun f => f.ring = x.ring && f.index = x.index) with
  | some f =>
    if s.engine.convoy.parts.any (fun y => y.ring = x.ring && y.index = x.index) then s else finishForward f x.record s
  | none => s

/-- A MARK judged at its insertion visit takes back what it placed (R187). -/
def unplace (d : MarkDue) (s : State) : State :=
  d.lanes.foldl (fun s k =>
    let mine (m : Milestone) : Bool := decide (d.seqFrom ≤ m.seq) && decide (m.seq < d.seqTo)
    let l := lane s k
    poolReturn ((l.queue.filter (fun m => mine m && m.entry)).length)
      (setLane k { l with queue := l.queue.filter (fun m => !mine m) } s)) s

/-- Judge a MARK at its insertion visit: in every lane that it reaches, each SPOT_OFF must lie at or ahead of its SPOT_ON, or the MARK places nothing on this device (R187). -/
def judgeMark (d : MarkDue) (s : State) : State :=
  let bad := d.lanes.any (fun k => (lane s k).configured && !spotsOrdered s (laneMotion s (lane s k)) d.pairs)
  let s := if bad then unplace d s else s
  match partOf s markPart d.tag with
  | none => s
  | some x => partDone x (if bad then 0x0109 else 0) (if bad then 0 else d.placed) s

/-- Judge every MARK whose insertion visit comes now, in the order in which they were placed (R187). -/
def judgeMarks (s : State) : State :=
  s.engine.marksDue.foldl (fun s d => judgeMark d s) { s with engine := { s.engine with marksDue := [] } }

/-- DONE: a subordinate has completed a forwarded waybill (R173). -/
def execDone (t : Time) (p : Fin 32) (node : BitVec 8) (frame : List Byte) (s : State) : Host.Outcome State Fault Refusal :=
  imwaldHeard p (upId node.toNat) (fun s =>
    match proxyAt s p node.toNat with
    | none => .next s
    | some k =>
      match partOf s k (u8 frame 1 % 64) with
      | none => .next s
      | some x => forwardOutcome (partDone x (u16 frame 2) (u32 frame 4) s)) (begin' t s)

/-- RECORD: a piece of a forwarded QUERY's record (R425). -/
def execRecord (t : Time) (p : Fin 32) (node : BitVec 8) (frame : List Byte) (s : State) : Host.Outcome State Fault Refusal :=
  imwaldHeard p (upId node.toNat) (fun s =>
    match proxyAt s p node.toNat with
    | none => .next s
    | some k =>
      let tag := u8 frame 1 % 64
      let i := u16 frame 2 % 4
      .next (modConvoy (fun c => { c with parts := c.parts.map (fun x =>
        if x.proxy = k && x.tag = tag then
          { x with record := patchBytes (fitBytes 128 x.record) (32 * i) (fitBytes 32 (frame.drop 8)) } else x) }) s)) (begin' t s)

/-- FORWARD_TIMEOUT: a part outstanding for 250 ms completes with status 0x0105 (R167). -/
def execForwardTimeout (t : Time) (k : Fin 2048) (tag : Fin 64) (s : State) : Host.Outcome State Fault Refusal :=
  let s := begin' t s
  match partOf s k tag with
  | none => .next s
  | some x => if x.sentAt + 250 * msUnits ≤ s.now then forwardOutcome (partDone x 0x0105 0 s) else .next s

/-! ### At a sweep close (R171) -/

/-- Step 2 of R24: the parent share that has arrived takes effect. -/
def takeShare (s : State) : State :=
  match s.engine.convoy.shareDue with
  | none => s
  | some sh => modConvoy (fun c => { c with share := some sh, shareDue := none }) s

end Sys2Proof.Machine
end

