-- ==== Sys2Proof/Machine/PwmUnit.lean ====
section
/-! DEFINITION. The PWM generator (R331 to R352). -/
namespace Sys2Proof.Machine

def pwmCh (s : State) (n : Nat) : PwmCh := tabGet {} s.pwm.ch n
def setPwmCh (n : Nat) (c : PwmCh) (s : State) : State := { s with pwm := { s.pwm with ch := tabSet {} s.pwm.ch n c } }
def modPwmCh (n : Nat) (f : PwmCh → PwmCh) (s : State) : State := setPwmCh n (f (pwmCh s n)) s

/-- The present instant in twelfths of a unit. -/
def now12 (s : State) : Nat := 12 * s.now

/-- Channel `n` is the odd one of a pair (R339). -/
def pwmOdd (s : State) (n : Nat) : Bool := n % 2 = 1 && rb s R.PWM_CFG (n - 1) 28
/-- The channel whose counter drives channel `n` (R339). -/
def pwmDriver (s : State) (n : Nat) : Nat := if pwmOdd s n then n - 1 else n
/-- The channels that the counter of channel `n` drives. -/
def pwmDriven (s : State) (n : Nat) : List Nat := if n % 2 = 0 && rb s R.PWM_CFG n 28 then [n, n + 1] else [n]
/-- The other channel of a pair. -/
def pwmPartner (s : State) (n : Nat) : Option Nat :=
  if pwmOdd s n then some (n - 1) else if n % 2 = 0 && rb s R.PWM_CFG n 28 then some (n + 1) else none

/-! ### The counter and its signal (R331, R339) -/

/-- Ticks in a period (R331). -/
def PwmCh.len (c : PwmCh) : Nat := if c.centre then 2 * c.per else c.per

/-- The signal A is active in tick `k` (R331). -/
def PwmCh.active (c : PwmCh) (k : Nat) : Bool :=
  if c.centre then
    let x := if k < c.per then k else 2 * c.per - 1 - k
    decide (c.per - c.c ≤ x)
  else decide (k < c.c)

/-- The transitions of A in the running stretch, in order, up to an instant. -/
def PwmCh.edgesHere (c : PwmCh) (until' : Nat) : List (Nat × Bool) :=
  let ticks := if c.centre then [c.tick, c.per - c.c, c.per + c.c] else [c.tick, c.c]
  (ticks.foldl (fun (acc : Bool × List (Nat × Bool)) k =>
    let w := c.at' + (k - c.tick) * c.tickLen
    if c.tick ≤ k && k < c.len && w ≤ until' && c.active k != acc.1 then (c.active k, acc.2 ++ [(w, c.active k)]) else acc)
    (c.before, [])).2

/-- The transitions of A up to an instant, newest first. -/
def PwmCh.edges (c : PwmCh) (until' : Nat) : List (Nat × Bool) := ((c.edgesHere until').reverse ++ c.past).take 4

/-- The level of A at an instant. -/
def PwmCh.level (c : PwmCh) (t : Nat) : Bool :=
  match (c.edgesHere t).getLast? with
  | some e => e.2
  | none => c.before

/-- The edges of an output after dead time (R339): a transition to active is delayed, and falls away if the signal turns back within the delay. `flip` makes it the complement. -/
def deadEdges (dead : Nat) (flip : Bool) (now : Nat) : List (Nat × Bool) → List Nat
  | [] => []
  | [(w, l)] => if (l != flip) then (if w + dead ≤ now then [w + dead] else []) else [w]
  | (w, l) :: (w0, l0) :: rest =>
    if l != flip then (if w + dead ≤ now then [w + dead] else []) ++ deadEdges dead flip now ((w0, l0) :: rest)
    else if w < w0 + dead then deadEdges dead flip now rest
    else w :: deadEdges dead flip now ((w0, l0) :: rest)

/-- PWM clocks since the end of the blanking that the latest edge of output `n` opened; none inside it (R345). DESIGN CHOICE (log 58). -/
def unblanked (s : State) (n : Nat) : Option Nat :=
  let d := pwmDriver s n
  let dead := fld (pwmCh s d).timing 9 0 * 5
  let blank := fld (pwmCh s n).timing 31 16 * 5
  match (deadEdges dead (d != n) (now12 s) ((pwmCh s d).edges (now12 s))).head? with
  | none => some (2 ^ 32)
  | some w => if now12 s < w + blank then none else some ((now12 s - w - blank) / 5)

/-! ### Forming the compare (R332 to R334) -/

/-- Reversal of a 4-bit index (R332). -/
def rev4 (j : Nat) : Nat := j % 2 * 8 + j / 2 % 2 * 4 + j / 4 % 2 * 2 + j / 8 % 2

/-- The minimum pulse filter on a compare, and whether a test has changed it (R334). DESIGN CHOICE (log 106). -/
def minPulse (stretch centre : Bool) (per M c : Nat) : Nat × Bool :=
  let k := if centre then 2 else 1
  let least := (M + k - 1) / k
  let short := 0 < k * c && k * c < M
  let c1 := if short then (if stretch then least else 0) else c
  let off := k * (per - c1)
  let gap := 0 < off && off < M
  (if gap then (if stretch then per - least else per) else c1, short || gap)

/-- PER as the period shadow gives it (R331). -/
def pwmPer (s : State) (n : Nat) : Nat := max 2 (rf s R.PWM_PER n 23 0)

/-- A shadow as it stood at the start of the PWM clock that begins at `w` (R336). -/
def shadowAt (w : Nat) (value : W32) (was : List (Nat × W32)) : W32 :=
  ((was.filter (fun x => decide (w ≤ x.1))).getLast?.map (·.2)).getD value

/-- A reload has fallen in the PWM clock of instant `w`: a further one in that clock makes no second (R341, R344). -/
def PwmCh.justReloaded (c : PwmCh) (w : Nat) : Bool := c.started && c.at' ≤ w && w < c.at' + 5

/-- PWM_STAT.clipped and filtered before a reload at instant `w`. -/
def PwmCh.flagsBefore (c : PwmCh) (w : Nat) : Bool × Bool := if c.justReloaded w then c.flagsWas else (c.clipped, c.filtered)

/-- A channel after a reload at instant `w`, with its counter at the tick that `tickOf` gives for the new period, and dither index `j` (R333, R335). -/
def pwmReloaded (s : State) (n w j : Nat) (tickOf : PwmCh → Nat) : PwmCh :=
  let old := pwmCh s n
  let cfg := rd s R.PWM_CFG n
  let cmp := shadowAt w (rd s R.PWM_CMP n) old.cmpWas
  let per := max 2 (fld (shadowAt w (rd s R.PWM_PER n) old.perWas) 23 0)
  let centre := fld cfg 30 29 = 1
  let limit := rd s R.PWM_LIMIT n
  let I := fld cmp 27 4
  let c1 := if flag cfg 22 && rev4 j < fld cmp 3 0 then I + 1 else I
  let (c2, changed) := minPulse (flag cfg 24) centre per (fld limit 9 0) c1
  let lim := min (fld limit 31 16) 0x8000 * per / 0x8000
  let base : PwmCh := { old with
    started := true
    before := old.level w
    past := old.edges w
    at' := w
    per := per
    centre := centre
    tickLen := 5 * (fld cfg 15 8 + 1)
    c := min c2 lim
    dither := j
    limit := limit
    timing := rd s R.PWM_TIMING n
    phase := rd s R.PWM_PHASE n
    clipped := (old.flagsBefore w).1 || decide (lim < c2)
    filtered := (old.flagsBefore w).2 || changed
    flagsWas := old.flagsBefore w
    cmpWas := old.cmpWas.filter (fun x => decide (w ≤ x.1))
    perWas := old.perWas.filter (fun x => decide (w ≤ x.1)) }
  { base with tick := tickOf base % base.len }

/-! ### Safe states (R346) -/

/-- A PWM trace packet (R537). DESIGN CHOICE (log 24). -/
def pwmTrace (sub n cause : Nat) (s : State) : State :=
  traceEvent 10 sub [BitVec.ofNat 8 n, BitVec.ofNat 8 cause, 0, 0] s

/-- Asserted trip inputs: enabled, and at the level that asserts (R345). DESIGN CHOICE (log 25). -/
def tripAsserted (s : State) : Nat :=
  ((List.range 12).map (fun t =>
    if rb s R.PWM_TRIP_IN_CFG t 31 && (bitOf s.pwm.pins t != rb s R.PWM_TRIP_IN_CFG t 30) then 2 ^ t else 0)).foldl (· + ·) 0

/-- The asserted inputs that channel `n` masks in. -/
def tripMasked (s : State) (n : Nat) : Nat := rf s R.PWM_TRIP n 31 20 &&& tripAsserted s

/-- Put channel `n` at its safe level for a cause (a bit of PWM_STAT). -/
def enterSafe (n cause : Nat) (s : State) : State :=
  let c := pwmCh s n
  let s := setPwmCh n { c with safe := true, cause := cause } s
  if c.safe then s else pwmTrace 0 n cause s

/-- Trips of channel `n` and its partner allow the safe state to be left at a reload (R346). -/
def tripOver (s : State) (n : Nat) : Bool :=
  let both := n :: (pwmPartner s n).toList
  both.all (fun m => tripMasked s m = 0) &&
  both.all (fun m => !((pwmCh s m).trip && (pwmCh s m).tripHold && rb s R.PWM_TRIP m 19))

/-- A cause other than its disable holds the channel at its safe level (R346). -/
def PwmCh.held (c : PwmCh) : Bool := c.tripHold || c.clockHold || c.haltHold

/-- At a reload, channel `n` leaves its safe state if no cause remains (R346). -/
def leaveSafe (n : Nat) (s : State) : State :=
  let c := pwmCh s n
  let c := { c with
    tripHold := c.tripHold && !tripOver s n
    clockHold := c.clockHold && (c.clock || s.pwm.clockBad)
    haltHold := c.haltHold && c.halt }
  let free := rb s R.PWM_CFG n 31 && !c.held
  if c.safe && free then pwmTrace 1 n c.cause (setPwmCh n { c with safe := false } s) else setPwmCh n c s

/-! ### Status over crossing 11 (R446, R448) -/

/-- What crossing 11 carries of a channel: its trip, its safe state, clipped and filtered. -/
def PwmCh.status (c : PwmCh) : Bool × Bool × Bool × Bool := (c.trip, c.safe, c.clipped, c.filtered)

/-- What happens in one PWM clock, with a status pulse on crossing 11 for each channel whose status changes, or that `also` names (R446). DESIGN CHOICE (log 18). -/
def withStatus (also : Nat → Bool) (f : State → State) (s : State) : State :=
  let s' := f s
  eventPulses 11 pwmLine ((List.range 48).filter (fun n => also n || (pwmCh s n).status != (pwmCh s' n).status)).length s'

/-! ### Reloads, syncs and the sync chain (R335, R343, R344) -/

/-- Lane on events armed for this reload execute (R341). DESIGN CHOICE (log 59). -/
def pwmArmed (n : Nat) (s : State) : State :=
  let evs := (pwmCh s n).armed
  let s := modPwmCh n (fun c => { c with armed := [] }) s
  match laneOfPwm s n with
  | none => s
  | some k => evs.foldl (fun s e => executesAt k e.id e.kind e.d false s) s

/-- A reload of channel `n` at instant `w` (R335). A reload in the clock of another makes one. -/
def pwmReload (n w j : Nat) (tickOf : PwmCh → Nat) (s : State) : State :=
  let s := setPwmCh n (pwmReloaded s n w j tickOf) s
  let s := (pwmDriven s n).foldl (fun s m => leaveSafe m (modPwmCh m (fun c => { c with timing := rd s R.PWM_TIMING m }) s)) s
  pwmArmed n s

/-- The dither index of a further reload (R332). -/
def nextDither (c : PwmCh) (w : Nat) : Nat := if c.justReloaded w && c.tick = 0 then c.dither else (c.dither + 1) % 16

/-- A sync output of module `m` at instant `w`: PWM_SYNC_OUT, and the module that chains on (R343). -/
def syncOutput (sync : Nat → Nat → State → State) (m w : Nat) (s : State) : State :=
  let out := min (rf s R.PWM_GLOBAL 0 2 0) 5
  let s := if rb s R.PWM_GLOBAL 0 31 && out = m then emit .syncOut s else s
  if m < 5 && rf s R.PWM_MOD_CFG (m + 1) 31 30 = 0 then sync (m + 1) (w + 10) s else s

/-- The reference channel of module `m` (R343). -/
def refCh (s : State) (m : Nat) : Nat := pwmDriver s (8 * m + rf s R.PWM_MOD_CFG m 2 0)

/-- A sync input of module `m` at instant `w` (R344). -/
def syncModule : Nat → Nat → Nat → State → State
  | 0, _, _, s => s
  | fuel + 1, m, w, s =>
    let chans := (List.range 8).map (fun i => 8 * m + i)
    let synced := chans.filter (fun n => rb s R.PWM_CFG n 23 && !pwmOdd s n && (pwmCh s n).started && !s.pwm.clockBad)
    let r := refCh s m
    let sent := (pwmCh s r).justReloaded w && (pwmCh s r).tick = 0
    let s := synced.foldl (fun s n => pwmReload n w 0 (fun c => c.phase.toNat) s) s
    if synced.contains r && (pwmCh s r).tick = 0 && !sent then syncOutput (syncModule fuel) m w s else s

/-- A reload at tick 0 of channel `n` gives its module's sync output if it is the reference channel (R343). -/
def tickZero (n w : Nat) (s : State) : State :=
  let m := n / 8
  if refCh s m = n && (pwmCh s n).tick = 0 then syncOutput (syncModule 6) m w s else s

/-- The instant of the next natural reload of a channel, and its tick (R335). -/
def nextReload (s : State) (n : Nat) : Nat × Bool :=
  let c := pwmCh s n
  if c.centre && rb s R.PWM_CFG n 21 && c.tick < c.per then (c.at' + (c.per - c.tick) * c.tickLen, true)
  else (c.at' + (c.len - c.tick) * c.tickLen, false)

/-- PWM_RELOAD (R335): the natural reload of channel `n`, once the PWM clock in which it falls is over: a sync or a forced reload of that clock has then taken its place (R341, R344). DESIGN CHOICE (log 59). -/
def execPwmReload (t : Time) (n : Fin 48) (s : State) : Host.Outcome State Fault Refusal :=
  let s := begin' t s
  let c := pwmCh s n
  let (w, half) := nextReload s n
  if c.started && !s.pwm.clockBad && !pwmOdd s n && w + 5 ≤ now12 s then
    .next (withStatus (fun _ => false) (fun s =>
      let s := pwmReload n w ((c.dither + 1) % 16) (fun c => if half then c.per else 0) s
      if half then s else tickZero n w s) s)
  else .next s

/-- A write of PWM_CFG with enable 1: from 0 it loads the other fields and reloads at tick 0 with the dither index at 0 (R348). -/
def pwmCfgEnable (n : Nat) (v : W32) (s : State) : State :=
  if rb s R.PWM_CFG n 31 then s
  else withStatus (fun _ => false) (fun s =>
    let s := wr R.PWM_CFG n (regMerge R.PWM_CFG 0 v) s
    if pwmOdd s n then (if (pwmCh s n).held then s else leaveSafe n s)
    else if s.pwm.clockBad then setPwmCh n (pwmReloaded s n (now12 s) 0 (fun _ => 0)) s
    else tickZero n (now12 s) (pwmReload n (now12 s) 0 (fun _ => 0) s)) s

/-- PWM_ENABLE (R348); writes cross from SYS to PWM (R448). -/
def execPwmEnable (t : Time) (a : Actor) (n : Fin 48) (v : W32) (s : State) : Host.Outcome State Fault Refusal :=
  let s := begin' t s
  if flag v 31 then .next (gatedEnable a (regOff R.PWM_CFG n 0) 4 (cross 10 (pwmCfgEnable n v)) s) else .next s

/-- A write of PWM_CFG with enable 0: a running channel goes to its safe level and keeps its other fields; a stopped one takes them (R346, R348). DESIGN CHOICE (log 58). -/
def pwmCfgDisable (n : Nat) (v : W32) (s : State) : State :=
  if rb s R.PWM_CFG n 31 then
    withStatus (fun _ => false) (fun s => enterSafe n 31 (wr R.PWM_CFG n (setFlag (rd s R.PWM_CFG n) 31 false) s)) s
  else wr R.PWM_CFG n (regMerge R.PWM_CFG 0 v) s

/-- PWM_DISABLE (R346, R348). -/
def execPwmDisable (t : Time) (a : Actor) (n : Fin 48) (v : W32) (s : State) : Host.Outcome State Fault Refusal :=
  let s := begin' t s
  if flag v 31 then .next s else .next (gated a (regOff R.PWM_CFG n 0) 4 (cross 10 (pwmCfgDisable n v)) s)

/-! ### Shadows (R337, R338, R342) -/

/-- The compare shadow is updated now: a reload in this PWM clock still takes what it held before (R336). -/
def pwmSetCmp (n : Nat) (v : W32) (s : State) : State :=
  wr R.PWM_CMP n (regMerge R.PWM_CMP 0 v)
    (modPwmCh n (fun c => { c with cmpWas := (now12 s, rd s R.PWM_CMP n) :: c.cmpWas }) s)

/-- A compare that a forced reload, or the end of a pulse, puts into force itself (R341). -/
def pwmForceCmp (n : Nat) (v : W32) (s : State) : State :=
  wr R.PWM_CMP n v (modPwmCh n (fun c => { c with cmpWas := [] }) s)

/-- Software's write of the compare shadow: ignored and counted while a lane binds the channel (R342). -/
def pwmWriteCmp (a : Actor) (n : Nat) (v : W32) (s : State) : State :=
  if (laneOfPwm s n).isSome then badAccess a true 6 false (regOff R.PWM_CMP n 0) s
  else pwmSetCmp n v s

/-- A write of the period shadow. -/
def pwmWritePer (n : Nat) (v : W32) (s : State) : State :=
  wr R.PWM_PER n (regMerge R.PWM_PER 0 v)
    (modPwmCh n (fun c => { c with perWas := (now12 s, rd s R.PWM_PER n) :: c.perWas }) s)

/-- PWM_CMP_PER_WRITE (R337): an 8-byte write at PWM_CMP. -/
def execPwmCmpPerWrite (t : Time) (a : Actor) (n : Fin 48) (v : W64) (s : State) : Host.Outcome State Fault Refusal :=
  .next (gated a (regOff R.PWM_CMP n 0) 8 (cross 10 (fun s =>
    pwmWriteCmp a n (v.setWidth 32) (pwmWritePer n ((v >>> 32).setWidth 32) s))) (begin' t s))

/-- PWM_SHADOW_WRITE (R337): a 4-byte write of one shadow, the period's if `per`. -/
def execPwmShadowWrite (t : Time) (a : Actor) (n : Fin 48) (per : Bool) (v : W32) (s : State) :
    Host.Outcome State Fault Refusal :=
  .next (gated a (regOff (if per then R.PWM_PER else R.PWM_CMP) n 0) 4 (cross 10 (fun s =>
    if per then pwmWritePer n v s else pwmWriteCmp a n v s)) (begin' t s))

/-- A loop's write of a compare, and of a period with it (R338); ignored while a lane binds the channel (R342). -/
def pwmLoopWrite (n : Nat) (cmp : Option W32) (per : Option W32) (s : State) : State :=
  let s := match per with
    | some p => pwmWritePer n p s
    | none => s
  match cmp with
  | some c => if (laneOfPwm s n).isSome then s else pwmSetCmp n c s
  | none => s

/-! ### Lanes (R341) -/

/-- The compare for a duty d: round(d × PER × 16 / 0x8000) (R341). -/
def pwmCompare (s : State) (n d : Nat) : W32 := BitVec.ofNat 32 (roundDivNat (d * pwmPer s n * 16) 0x8000)

/-- The lane engine writes the compare shadow. -/
def pwmLaneCmp (n d : Nat) (s : State) : State := pwmSetCmp n (pwmCompare s n d) s

/-- An event of PWM channel `n` that the dispatcher holds in its heap (R341). -/
def DispItem.pwmEvent (x : DispItem) (n : Nat) : Option LaneEv :=
  match x.binding, x.body with
  | .pwm m, .event e => if m = n && !x.kept then some e else none
  | _, _ => none

/-- Remove an event from the heap; the toll that returns may let in another (R28, R29). -/
def heapTake (id : Nat) (s : State) : State :=
  let heap := s.engine.heap.filter (fun x => match x.body with
    | .event e => e.id != id
    | _ => true)
  admitOwed heap.length { s with engine := { s.engine with heap := heap } }

/-- Take the earliest event that the heap holds for channel `n`, if it is of a kind and its instant has come; one that the lane engine still kept at that instant, for want of a toll of the dispatcher, is late (R30, R341). -/
def pwmTake (s : State) (n kind : Nat) : Option (LaneEv × State) :=
  match s.engine.heap.find? (fun x => (x.pwmEvent n).isSome) with
  | none => none
  | some x =>
    match x.pwmEvent n with
    | some e =>
      if e.kind = kind && e.tExec ≤ s.now then
        some (e, heapTake e.id (if x.lateAt s.now then missed x.lane x.binding e s else s))
      else none
    | none => none

/-- PWM_LANE_ON (R341). -/
def execPwmLaneOn (t : Time) (n : Fin 48) (s : State) : Host.Outcome State Fault Refusal :=
  let s := begin' t s
  match pwmTake s n 1, laneOfPwm s n with
  | some (e, s), some k =>
    .next (cross 10 (fun s =>
      if rb s R.PWM_CFG n 23 then
        modPwmCh n (fun c => { c with armed := c.armed ++ [e] }) (modEvent k e.id (fun y => { y with sent := true }) (pwmLaneCmp n e.d s))
      else
        let s := executesAt k e.id 1 e.d false (pwmForceCmp n (pwmCompare s n e.d) s)
        let w := now12 s
        let c := pwmCh s n
        if s.pwm.clockBad || !c.started || pwmOdd s n then s
        else withStatus (fun _ => false) (fun s =>
          let s := pwmReload n w (nextDither c w) (fun _ => 0) s
          if c.justReloaded w && c.tick = 0 then s else tickZero n w s) s) s)
  | some (_, s), none => .next s
  | none, _ => .next s

/-- The output of channel `n` turns inactive at once; the compare becomes 0 (R341). -/
def pwmCut (n : Nat) (s : State) : State :=
  let c := pwmCh s n
  let w := now12 s
  let s := pwmForceCmp n 0 s
  let past := if c.level w then ((w, false) :: c.edges w).take 4 else c.edges w
  if c.at' ≤ w then
    let k := (w - c.at') / c.tickLen
    setPwmCh n { c with before := false, past := past, at' := c.at' + k * c.tickLen, tick := c.tick + k, c := 0, cmpWas := [] } s
  else setPwmCh n { c with before := false, past := past, c := 0, cmpWas := [] } s

/-- PWM_LANE_OFF (R341). -/
def execPwmLaneOff (t : Time) (n : Fin 48) (s : State) : Host.Outcome State Fault Refusal :=
  let s := begin' t s
  match pwmTake s n 2 with
  | none => .next s
  | some (e, s) =>
    .next (cross 10 (fun s =>
      let s := pwmCut n (pwmArmed n s)
      match laneOfPwm s n with
      | some k => executesAt k e.id 2 0 false s
      | none => s) s)

/-- A rate change of the lane of channel `n` reaches the compare shadow. -/
def pwmRate (n : Nat) (e : LaneEv) (s : State) : State :=
  cross 10 (fun s =>
    let s := pwmLaneCmp n e.d s
    match laneOfPwm s n with
    | some k => executesAt k e.id 3 e.d false s
    | none => s) s

/-- PWM_RATE_WRITE (R341). -/
def execPwmRateWrite (t : Time) (n : Fin 48) (s : State) : Host.Outcome State Fault Refusal :=
  let s := begin' t s
  match pwmTake s n 3 with
  | none => .next s
  | some (e, s) => .next (pwmRate n e s)

/-- Untimed rate changes are written at the lane's visit (R341). DESIGN CHOICE (log 59). -/
def pwmUntimed (s : State) : State :=
  let due := s.engine.heap.filterMap (fun x => match x.binding with
    | .pwm n => (x.pwmEvent n).bind (fun e => if e.untimed then some (n, e) else none)
    | _ => none)
  due.foldl (fun s x => pwmRate x.1 x.2 (heapTake x.2.id s)) s

/-! ### Outputs (R339, R340, R346) -/

/-- The level of a ball PWM_OUTn. -/
inductive PwmBall where
  | low
  | high
  | highZ
  deriving DecidableEq, Repr

/-- Output `n` is active now, after dead time: the signal of its driver, or its complement, has been active for the dead time (R339). -/
def pwmActive (s : State) (n : Nat) : Bool :=
  let d := pwmDriver s n
  let dead := fld (pwmCh s d).timing 9 0 * 5
  let c := pwmCh s d
  match (c.edges (now12 s)).head? with
  | some (w, l) => l != (d != n) && decide (w + dead ≤ now12 s)
  | none => c.level (now12 s) != (d != n)

/-- The level of PWM_OUTn: the safe level as it is stated, else the signal through its polarity (R340, R346). -/
def pwmBall (s : State) (n : Nat) : PwmBall :=
  if (pwmCh s n).safe then
    match rf s R.PWM_CFG n 26 25 with
    | 0 => .low
    | 1 => .high
    | _ => .highZ
  else if pwmActive s n != rb s R.PWM_CFG n 27 then .high else .low

/-! ### Sync inputs (R343) -/

/-- PWM_SYNC: a rising edge at PWM_SYNC_IN reaches the modules that select it 3 PWM clocks later, or 4 if `late`. -/
def execPwmSync (t : Time) (late : Bool) (s : State) : Host.Outcome State Fault Refusal :=
  let s := begin' t s
  let w := now12 s + 15 + 5 * b2n late
  .next (withStatus (fun _ => false) (fun s => (List.range 6).foldl (fun s m =>
    let src := rf s R.PWM_MOD_CFG m 31 30
    if src = 1 || (src = 0 && m = 0) then syncModule 6 m w s else s) s) s)

/-- A write of PWM_MOD_SYNC: go acts as a sync input of the module (R343). -/
def pwmModSync (m : Nat) (v : W32) (s : State) : State :=
  if flag v 0 then withStatus (fun _ => false) (syncModule 6 m (now12 s)) s else s

/-- PWM_MOD_SYNC_GO (R343). -/
def execPwmModSyncGo (t : Time) (a : Actor) (m : Fin 6) (v : W32) (s : State) : Host.Outcome State Fault Refusal :=
  .next (gated a (regOff R.PWM_MOD_SYNC m 0) 4 (cross 10 (pwmModSync m v)) (begin' t s))

/-! ### Trips, clock faults and halts (R345, R346) -/

/-- Channel `n` trips on the inputs that it masks in. DESIGN CHOICE (log 58). -/
def pwmTripCh (n : Nat) (s : State) : State :=
  let c := pwmCh s n
  let m := tripMasked s n
  let s := setPwmCh n { c with trip := true, tripHold := true } s
  let s := enterSafe n 30 s
  let s := match pwmPartner s n with
    | some p => enterSafe p 30 (modPwmCh p (fun c => { c with tripHold := true }) s)
    | none => s
  if c.trip && c.tripHold then s
  else
    let s := notify 0x24 n m s
    if rb s R.PWM_TRIP n 19 then ledgerReport streamFault 0x0624 n m s else s

/-- The trip inputs that something has made asserted count, and are asserted since instant `since` (R345). -/
def tripsAsserted (was since : Nat) (s : State) : State :=
  (List.range 12).foldl (fun s i =>
    if bitOf (tripAsserted s) i && !bitOf was i then
      bump (T.tripIn i) { s with pwm := { s.pwm with tripSince := tabSet 0 s.pwm.tripSince i since } }
    else s) s

/-- A trip input that channel `n` masks in has been asserted for its filter's clocks, outside blanking (R345). -/
def tripsNow (s : State) (n : Nat) : Bool :=
  (List.range 12).any (fun i => bitOf (tripMasked s n) i &&
    (match unblanked s n with
      | some u => decide (rf s R.PWM_TRIP n 7 0 + 1 ≤ min ((now12 s - tabGet 0 s.pwm.tripSince i) / 5) u)
      | none => false))

/-- PWM_TRIP (R345): the balls TRIP_IN stand at `pins`; those that have changed since the latest such command did so `held` PWM clocks ago. `merged` further status pulses of the stretch between two commands have joined a pending one in crossing 11 (R446). DESIGN CHOICE (log 25). -/
def execPwmTrip (t : Time) (pins : BitVec 12) (held merged : Nat) (s : State) : Host.Outcome State Fault Refusal :=
  let s := begin' t s
  let was := tripAsserted s
  let s := tripsAsserted was (now12 s - 5 * held) { s with pwm := { s.pwm with pins := pins.toNat } }
  let trips := (List.range 48).filter (tripsNow s)
  .next (bumpBy (T.xingMerge 11) merged
    (withStatus (fun n => trips.contains n) (fun s => trips.foldl (fun s n => pwmTripCh n s) s) s))

/-- Counters that have run restart at tick 0; the reference channels of modules give their sync outputs, the last module's first, so that no channel is synced back in time (R343, R346). -/
def pwmRestart (s : State) : State :=
  let w := now12 s
  let started := (List.range 48).filter (fun n => (pwmCh s n).started)
  let s := started.foldl (fun s n => pwmReload n w (((pwmCh s n).dither + 1) % 16) (fun _ => 0) s) s
  let outs := ([5, 4, 3, 2, 1, 0] : List Nat).filter (fun m => started.contains (refCh s m))
  outs.foldl (fun s m => syncOutput (syncModule 6) m w s) s

/-- The PWM clock is faulty: every channel goes to its safe level, and it is reported (R346, R437). -/
def pwmClockLost (s : State) : State :=
  let s := { s with pwm := { s.pwm with clockBad := true } }
  let s := withStatus (fun _ => false) (fun s => (List.range 48).foldl (fun s n =>
    enterSafe n 29 (modPwmCh n (fun c => { c with clock := true, clockHold := true }) s)) s) s
  let s := { s with clocks := { s.clocks with
    faults := if bitOf s.clocks.faults 1 then s.clocks.faults else s.clocks.faults + 2 } }
  let s := notify 0x25 0 48 s
  ledgerReport streamSafety 0x0934 1 s.clocks.faults (notify 0x34 1 s.clocks.faults s)

/-- PWM_CLOCK_FAULT (R346, R436, R437): the clock monitor has counted `edges` of the PWM clock in 1 us: more than 1 off 480 is a fault, and once it is healthy again counters restart at tick 0. DESIGN CHOICE (log 58). -/
def execPwmClockFault (t : Time) (edges : Nat) (s : State) : Host.Outcome State Fault Refusal :=
  let s := begin' t s
  match edgesOff edges 480 1, s.pwm.clockBad with
  | true, false => .next (pwmClockLost s)
  | false, true => .next (withStatus (fun _ => false) pwmRestart { s with pwm := { s.pwm with clockBad := false } })
  | _, _ => .next s

/-- The monitor halts core `k`: its channels go to their safe levels (R346). -/
def pwmHalt (k : Nat) (s : State) : State :=
  let mine := (List.range 48).filter (fun n => pwmOwner s n = k + 1)
  if mine.isEmpty then s
  else
    let s := withStatus (fun _ => false) (fun s => mine.foldl (fun s n =>
      enterSafe n 28 (modPwmCh n (fun c => { c with halt := true, haltHold := true }) s)) s) s
    notify 0x25 (k + 1) mine.length s

/-- A write to PWM_STAT by the owner: W1C; a trip is cleared only while no masked trip is asserted, a halt after the core has been restarted (R346, R350). DESIGN CHOICE (log 58). -/
def pwmStatWrite (n : Nat) (v : W32) (s : State) : State :=
  let own := pwmOwner s n
  let running := own = 0 || (tabGet {} s.cores (own - 1)).run = 1
  modPwmCh n (fun c => { c with
    trip := c.trip && !(flag v 30 && tripMasked s n = 0)
    clock := c.clock && !flag v 29
    halt := c.halt && !(flag v 28 && running)
    clipped := c.clipped && !flag v 27
    filtered := c.filtered && !flag v 26
    flagsWas := (c.flagsWas.1 && !flag v 27, c.flagsWas.2 && !flag v 26) }) s

/-- PWM_STAT_CLEAR (R346). -/
def execPwmStatClear (t : Time) (a : Actor) (n : Fin 48) (v : W32) (s : State) : Host.Outcome State Fault Refusal :=
  .next (gated a (regOff R.PWM_STAT n 0) 4 (cross 10 (pwmStatWrite n v)) (begin' t s))

/-- PWM_STAT as it reads (R350). -/
def pwmStatWord (s : State) (n : Nat) : W32 :=
  let c := pwmCh s n
  BitVec.ofNat 32 (b2n c.safe * 2 ^ 31 + b2n c.trip * 2 ^ 30 + b2n c.clock * 2 ^ 29 + b2n c.halt * 2 ^ 28
    + b2n c.clipped * 2 ^ 27 + b2n c.filtered * 2 ^ 26 + c.c)

end Sys2Proof.Machine
end

