-- ==== Sys2Proof/Machine/Security.lean ====
section
/-! DEFINITION. The monitor: images and slots, violations and alarms, the cores it guards, its requests and its services (R456 to R484, R504, R505). -/
namespace Sys2Proof.Machine

def modSec (f : Security → Security) (s : State) : State := { s with security := f s.security }
/-- A number with bit `i` set to `v`. -/
def putBit (x i : Nat) (v : Bool) : Nat := if bitOf x i = v then x else if v then x + 2 ^ i else x - 2 ^ i

/-! ### Images (R462 to R465) -/

/-- Image types: 1 monitor, 2 charter, 3 field firmware (R463); their bit in the directory's fields is the type less 1 (R462). -/
def typeMonitor : Nat := 1
def typeCharter : Nat := 2
def typeFirmware : Nat := 3

/-- The size of a slot (R462). -/
def slotSize (k : Nat) : Nat := if k = 1 then 0x40000 else if k = 2 then 0x10000 else 0x400000
/-- Whether a body length lies within the limit of its type (R463). -/
def bodyLenOk (k n : Nat) : Bool := if k = 1 then n ≤ 196608 else if k = 2 then n = 880 else n ≤ 3145728
/-- The version floor of a type (R465, R467). -/
def floorOf (s : State) (k : Nat) : Nat :=
  if k = 1 then s.security.floorMon else if k = 2 then s.security.floorCharter else s.security.floorFw

/-- The image in a slot: 0 for slot A, 1 for slot B. -/
def slotImage (s : State) (k b : Nat) : Image := tabGet [] s.security.slots (2 * k + b)
/-- The slot that the directory names as active for a type, and the other one. -/
def activeSlot (s : State) (k : Nat) : Nat := b2n (bitOf s.security.active (k - 1))
def inactiveSlot (s : State) (k : Nat) : Nat := 1 - activeSlot s k
/-- A slot's valid bit in the directory (R462). -/
def slotValid (s : State) (k b : Nat) : Bool := bitOf (if b = 0 then s.security.validA else s.security.validB) (k - 1)
/-- The record of a directory (R462). -/
def dirRecord (x : Security) : List Byte :=
  let body := leBytes 4 0x52494459 ++ leBytes 4 x.seq.toNat ++ leBytes 1 x.active ++ leBytes 1 x.trial ++ leBytes 1 x.validA
    ++ leBytes 1 x.validB ++ List.replicate 16 0
  body ++ leBytes 4 (crc32 body).toNat

/-- A copy with a correct magic and CRC (R462). -/
def dirOk (copy : List Byte) : Bool :=
  decide (32 ≤ copy.length) && u32 copy 0 = 0x52494459 && u32 copy 28 = (crc32 (copy.take 28)).toNat

/-- The copy that is used: of two correct ones the one whose seq is ahead, compared under R78 at 32 bits; none where neither is correct (R462). -/
def dirPick (a b : List Byte) : Option Nat :=
  if dirOk a && dirOk b then some (if 0 < wrapS 32 ((u32 b 4 : Int) - u32 a 4) then 1 else 0)
  else if dirOk a then some 0 else if dirOk b then some 1 else none

/-- The ROM reads the directory; without a correct copy nothing is active, on trial or valid (R462). DESIGN CHOICE (log 82). -/
def dirLoad (s : State) : State :=
  let copy (i : Nat) : List Byte := tabGet [] s.security.dirCopies i
  match dirPick (copy 0) (copy 1) with
  | some i =>
    let c := copy i
    modSec (fun x => { x with
      dirCopy := i, seq := BitVec.ofNat 32 (u32 c 4), active := u8 c 8 % 8, trial := u8 c 9 % 8
      validA := u8 c 10 % 8, validB := u8 c 11 % 8 }) s
  | none => modSec (fun x => { x with dirCopy := 0, seq := 0, active := 0, trial := 0, validA := 0, validB := 0 }) s

/-- A changed directory is written under the next sequence number into the other copy only (R462). -/
def dirWrite (f : Security → Security) (s : State) : State := modSec (fun x =>
  if dirRecord (f x) = dirRecord x then f x
  else
    let y := { f x with seq := x.seq + 1, dirCopy := 1 - x.dirCopy }
    { y with dirCopies := tabSet [] y.dirCopies y.dirCopy (dirRecord y) }) s
/-- Write a slot's valid bit. -/
def setSlotValid (k b : Nat) (v : Bool) (s : State) : State :=
  if slotValid s k b = v then s
  else dirWrite (fun x => if b = 0 then { x with validA := putBit x.validA (k - 1) v }
    else { x with validB := putBit x.validB (k - 1) v }) s

/-- The version, body and public key of an image (R463). -/
def imageVersion (img : Image) : Nat := u32 img 8
def imageBody (img : Image) : List Byte := (img.drop 192).take (u32 img 12)
def imageKey (img : Image) : List Byte := fitBytes 64 (img.drop 64)

/-- The verdict on an image: its status under R464 and R472, and whether a signature check was made and passed (R464, R477). -/
structure Verdict where
  status : Nat
  checked : Bool := false
  passed : Bool := false
  deriving DecidableEq, Repr

/-- Verify an image of a type (R464): conditions 1 and 2, then the signature checks 3 to 5, then the floor. PRESUMED (log 90). -/
def verdict (s : State) (k : Nat) (img : Image) : Verdict :=
  let form := u32 img 0 = 0x4D494759 && u8 img 4 = k && u8 img 5 = 1 && bodyLenOk k (u32 img 12)
    && 192 + u32 img 12 ≤ img.length
  let mine := u64 img 24 = 0 || u64 img 24 = s.security.deviceId.toNat
  if !(form && mine) then { status := 0x0110 }
  else
    let hash := Config.sha256 (imageKey img)
    let known := if k = 1 then (List.range 4).any (fun i => Config.espeluKeyHash i = hash && !bitOf s.security.revoked i)
      else s.security.oemHash ≠ 0 && hash = s.security.oemHash
    let signed := Config.ecdsaVerify (imageKey img) (Config.sha256 (img.take 128)) (fitBytes 64 (img.drop 128))
    let whole := Config.sha256 (imageBody img) = beNat (fitBytes 32 (img.drop 32))
    if !(known && signed && whole) then { status := 0x0110, checked := true }
    else { status := if floorOf s k ≤ imageVersion img then 0 else 0x0111, checked := true, passed := true }

/-- Count a signature check in the always-on domain (R477). -/
def countCheck (checked passed : Bool) (s : State) : State :=
  if !checked then s
  else { s with aon := { s.aon with sigFails := if passed then 0 else capNat 255 (s.aon.sigFails + 1), sigRaised := s.aon.sigRaised && !passed } }

/-- Verify a slot at a start: one that fails is marked not valid and raises kind 0x3A (R465, R484). `fits` is what the image's type asks of its body. -/
def verifySlot (k b : Nat) (fits : Image → Bool) (s : State) : Bool × State :=
  let img := slotImage s k b
  let v := verdict s k img
  let s := countCheck v.checked v.passed s
  if v.status = 0 && fits img then (true, s)
  else (false, notify 0x3A k (if v.status = 0x0111 then 2 else 1) (setSlotValid k b false s))

/-- A slot of trial status that has run and is unconfirmed gives way to the other slot (R465). DESIGN CHOICE (log 85). -/
def revertTrial (k : Nat) (s : State) : State :=
  if bitOf s.security.trial (k - 1) && bitOf s.security.trialRan (k - 1) then
    let s := dirWrite (fun x => { x with
      active := putBit x.active (k - 1) (!bitOf x.active (k - 1))
      trial := putBit x.trial (k - 1) false
      trialRan := putBit x.trialRan (k - 1) false }) s
    notify 0x3A k 3 (ledgerReport streamSecurity 0x0A3A k 3 s)
  else s

/-- The slot that a start takes for a type: the active one, else the other (R465). DESIGN CHOICE (log 85). -/
def chooseSlot (k : Nat) (fits : Image → Bool) (s : State) : Option Nat × State :=
  let s := revertTrial k s
  let a := activeSlot s k
  let (ok, s) := verifySlot k a fits s
  if ok then
    (some a, modSec (fun x => { x with trialRan := putBit x.trialRan (k - 1) (bitOf x.trial (k - 1)) }) s)
  else
    let (ok, s) := verifySlot k (1 - a) fits s
    if ok then (some (1 - a), { s with startup := { s.startup with slotFallback := true } }) else (none, s)

/-! ### The charter's settings (R466, R468) -/

/-- Fields of core `k`'s block in the charter (R468). -/
def coreWdogMs (s : State) (k : Nat) : Nat := u16 s.security.charter (coreField k 4)
def coreOnHalt (s : State) (k : Nat) : Nat := u8 s.security.charter (coreField k 6) % 128
def coreHaltOnFault (s : State) (k : Nat) : Bool := bitOf (u8 s.security.charter (coreField k 6)) 7
def coreRestartMax (s : State) (k : Nat) : Nat := u8 s.security.charter (coreField k 7)
def coreRestartDelay (s : State) (k : Nat) : Nat := u16 s.security.charter (coreField k 8)

/-- The alarm levels after reset (R477), and the one in force for a source. -/
def levelReset (src : Nat) : Nat := if src = 0 || src = 1 || src = 5 then 1 else 0
def alarmLevel (s : State) (src : Nat) : Nat :=
  if src = 4 then 3
  else if s.security.charter.isEmpty then levelReset src
  else u8 s.security.charter (292 + src) % 4

/-- SEC_STAT (R483). -/
def secStat (s : State) : W32 :=
  let mode := if s.startup.phase = 7 then 1 else if s.startup.phase = 8 then 2 else 0
  let x := s.security
  BitVec.ofNat 32 (mode * 2 ^ 30 + b2n (x.oemHash ≠ 0) * 2 ^ 29 + b2n s.startup.defaultCharter * 2 ^ 28
    + b2n x.keyLock * 2 ^ 27 + b2n x.auditErased * 2 ^ 26 + b2n x.keysDead * 2 ^ 25 + x.level * 2 ^ 23)

/-! ### Violations (R476 to R479) -/

/-- REVOKE goes out before every warm reset that the monitor makes (R481). -/
def revokeAndReset (s : State) : State := warmReset (pushDown .revoke s)

/-- A violation of a source: recorded, and answered at its level; at level 3 its record enters the ledger before the keys die (R477, R478, R479, R500). DESIGN CHOICE (log 85). -/
def violation (src : Nat) (s : State) : State :=
  let lv := alarmLevel s src
  let s := ledgerReport streamSecurity 0x0A38 src lv (notify 0x38 src lv s)
  let s := if lv = 3 then enterAll streamSecurity s else s
  let s := { s with aon := { s.aon with alarmLatch := withBit s.aon.alarmLatch src } }
  let s := modSec (fun x => { x with
    alarms := withBit x.alarms src
    level := max x.level lv
    keyLock := x.keyLock || decide (1 ≤ lv)
    auditErased := x.auditErased || decide (2 ≤ lv) }) s
  if lv = 3 then
    let s := { s with aon := { s.aon with killLatch := true } }
    revokeAndReset (modSec (fun x => { x with keysPresent := false, deadBits := 0xFF }) s)
  else s

/-- VOLTAGE_GLITCH: source 0: VCORE or VIO18, in mV, has stood outside its window for `ns` nanoseconds, after the reset release (R477, R552). -/
def execVoltageGlitch (x : VoltageSeen) (s : State) : Host.Outcome State Fault Refusal :=
  let s := begin' x.t s
  let out := x.vcore < 720 || 880 < x.vcore || x.vio18 < 1620 || 1980 < x.vio18
  .next (if s.startup.released && out && 2 ≤ x.ns then violation 0 s else s)
/-- CLOCK_GLITCH: source 1: a SYS clock phase of `ps` picoseconds (R477). -/
def execClockGlitch (x : PhaseSeen) (s : State) : Host.Outcome State Fault Refusal :=
  let s := begin' x.t s
  .next (if x.ps < 600 then violation 1 s else s)
/-- TEMPERATURE_VIOLATION: source 3: the control die's junction, in tenths of a degree, has been at `deci` or further out for `held` device-time units (R477). -/
def execTemperatureViolation (x : TemperatureSeen) (s : State) : Host.Outcome State Fault Refusal :=
  let s := begin' x.t s
  .next (if (1400 < x.deci || x.deci < -550) && msUnits ≤ x.held then violation 3 s else s)
/-- MESH_VIOLATION: source 4, whose level is 3 whatever the charter says (R477). -/
def execMeshViolation (t : Time) (s : State) : Host.Outcome State Fault Refusal := .next (violation 4 (begin' t s))

/-- SIGNATURE_VIOLATION: source 5, after 8 consecutive failed signature checks (R477). -/
def execSignatureViolation (t : Time) (s : State) : Host.Outcome State Fault Refusal :=
  let s := begin' t s
  .next (if 8 ≤ s.aon.sigFails && !s.aon.sigRaised then violation 5 { s with aon := { s.aon with sigRaised := true } } else s)

/-- Region faults that a second may hold (R468, R477). -/
def regionThreshold (s : State) : Nat := max 1 (u16 s.security.charter 300)

/-- REGION_FAULT_VIOLATION: source 6, more than region_threshold region faults in the present whole second (R477). -/
def execRegionFaultViolation (t : Time) (s : State) : Host.Outcome State Fault Refusal :=
  let s := begin' t s
  .next (if s.security.faultSecond = s.now / secUnits && regionThreshold s < s.security.faultsInSecond && !s.security.faultsRaised then
    violation 6 (modSec (fun x => { x with faultsRaised := true }) s) else s)

/-- The monitor runs: it has been started and the device is not in recovery (R514). -/
def monitorRuns (s : State) : Bool := 1 ≤ s.startup.phase && s.startup.phase ≤ 7

/-- LOCKSTEP_MISMATCH: REVOKE and a warm reset (R481). -/
def execLockstepMismatch (t : Time) (s : State) : Host.Outcome State Fault Refusal :=
  let s := begin' t s
  .next (if monitorRuns s then revokeAndReset s else s)

/-- MONITOR_WATCHDOG_EXPIRY: REVOKE and a warm reset (R481). -/
def execMonitorWatchdogExpiry (t : Time) (s : State) : Host.Outcome State Fault Refusal :=
  let s := begin' t s
  .next (if monitorRuns s then revokeAndReset s else s)

/-! ### The cores (R459 to R461) -/

def core' (s : State) (k : Nat) : CoreState := tabGet {} s.cores k
def setCore (k : Nat) (c : CoreState) (s : State) : State := { s with cores := tabSet {} s.cores k c }

/-- CORE_WDOG_KICK: a write by core `k` restarts its watchdog (R461). -/
def execCoreWdogKick (t : Time) (k : Fin 4) (s : State) : Host.Outcome State Fault Refusal :=
  let s := begin' t s
  let c := core' s k
  .next (if c.run = 1 then setCore k { c with kickedAt := s.now } s else s)

/-- The monitor halts core `k`: cause 1 watchdog, 2 region fault, 3 exception in its handler (R461, R484). -/
def haltCore (k cause : Nat) (s : State) : State :=
  let c := core' s k
  let s := setCore k { c with run := if c.restarts < coreRestartMax s k then 2 else 3, haltedAt := s.now, serving := none } s
  let s := pwmHalt k s
  let s := if coreOnHalt s k = 1 then rootInhibit s else if coreOnHalt s k = 2 then pushDown .revoke s else s
  ledgerReport streamSafety 0x0A39 k cause (notify 0x39 k cause s)

/-- CORE_WATCHDOG_EXPIRY: no kick for watchdog_ms, where it is not zero (R461). -/
def execCoreWatchdogExpiry (t : Time) (k : Fin 4) (s : State) : Host.Outcome State Fault Refusal :=
  let s := begin' t s
  let c := core' s k
  let ms := coreWdogMs s k
  .next (if c.run = 1 && ms ≠ 0 && c.kickedAt + ms * msUnits ≤ s.now then haltCore k 1 s else s)

/-- HANDLER_EXCEPTION: core `k` takes an exception while its handler still runs (R461). -/
def execHandlerException (t : Time) (k : Fin 4) (s : State) : Host.Outcome State Fault Refusal :=
  let s := begin' t s
  .next (if (core' s k).run = 1 then haltCore k 3 s else s)

/-- Count a region fault in SEC_REGION_FAULTS and in its whole second (R459, R477). -/
def countRegionFault (s : State) : State :=
  let sec := s.now / secUnits
  modSec (fun x => { x with
    faultSecond := sec
    faultsRaised := x.faultsRaised && x.faultSecond = sec
    faultsInSecond := if x.faultSecond = sec then x.faultsInSecond + 1 else 1 }) (bump T.regionFaults s)

/-- Whether an access of core `k` is blocked (R458, R459, R460): `perm` is 0 for a read, 1 for a write, 2 for an instruction fetch. -/
def accessBlocked (s : State) (k addr perm : Nat) : Bool :=
  if addr < 0x300000 || (0x40000000 ≤ addr && addr < 0x40100000) then !inRegions s k addr perm
  else if 0x50000000 ≤ addr && addr < 0x50110000 then false
  else if 0x50200000 ≤ addr && addr < 0x50200100 then decide ((addr - 0x50200000) / 0x40 ≠ k)
  else !(0x60000000 ≤ addr && addr < 0x60001000)

/-- A blocked access of core `k`: it counts, the core takes its fault, and is halted where the charter says so (R459, R461). -/
def regionFault (k : Nat) (s : State) : State :=
  let s := emit (.regionFault k) (countRegionFault s)
  if coreHaltOnFault s k then haltCore k 2 s else s

/-- REGION_FAULT: an access of core `k` at `addr` (`perm` 0 read, 1 write, 2 fetch) is blocked: a write is dropped, a read returns zero, the fault counts, and the core is halted where the charter says so (R459, R461). -/
def execRegionFault (t : Time) (k : Fin 4) (addr : W32) (perm : Fin 3) (s : State) : Host.Outcome State Fault Refusal :=
  let s := begin' t s
  if (core' s k).run = 1 && accessBlocked s k addr.toNat perm then
    .next (regionFault k (if perm = 0 then { s with readData := 0 } else s))
  else .next s

/-- CORE_RESTART: restart_delay_ms after its halt, up to restart_max times (R461). -/
def execCoreRestart (t : Time) (k : Fin 4) (s : State) : Host.Outcome State Fault Refusal :=
  let s := begin' t s
  let c := core' s k
  .next (if c.run = 2 && c.haltedAt + coreRestartDelay s k * msUnits ≤ s.now then
    setCore k { c with run := 1, restarts := c.restarts + 1, kickedAt := s.now } s else s)

/-! ### Monitor requests (R471 to R473, R504, R505) -/

/-- The monitor's keys may be used (R478): no level 1 response is in force and they are not erased. -/
def keysUsable (s : State) : Bool := !s.security.keyLock && s.security.keysPresent

/-- Whether the charter lets the owner of ring `n` post update requests (R468, R471); under the default charter host software may. DESIGN CHOICE (log 84). -/
def updateAllowed (s : State) (n : Nat) : Bool :=
  if s.security.charter.isEmpty then true
  else bitOf (u8 s.security.charter 302) (if ringOwner s n = 0 then 0 else 1)

/-- A request of one of these types is in progress. -/
def typeBusy (s : State) (types : Nat) : Bool := s.security.requests.any (fun q => q.types &&& types ≠ 0)

/-- Hand the oldest waiting waybill of ring `n` to the monitor if it is the request `op`; the ring goes on behind it, a fifth request waits (R471), and so does one whose buffer in host memory cannot be reached (R67). DESIGN CHOICE (log 83). -/
def monitorCmd (n op : Nat) (f : Desc → State → MonRequest × State) (s : State) : State :=
  match nextDesc s n with
  | none => s
  | some x =>
    if (ring s n).kind = 1 && u16 x.bytes 0 = op && canExecute s n x && s.security.requests.length < 4 then
      let (q, s) := f x s
      let s := markRunning n x.index (modSec (fun y => { y with requests := y.requests ++ [q] }) s)
      skipUnknown (ring s n).fetched.length n s
    else s

/-- STAGE's effect up to its completion, the slot not yet valid (R471, R472); `ok` says whether the flash took the image. DESIGN CHOICE (log 83). -/
def stage (n : Nat) (ok : Bool) (x : Desc) (s : State) : MonRequest × State :=
  let k := u8 x.bytes 8
  let len := u32 x.bytes 12
  let types := if 1 ≤ k && k ≤ 3 then 2 ^ (k - 1) else 0
  let answer (status : Nat) (result : W32) (s : State) : MonRequest × State :=
    ({ ring := n, index := x.index, opcode := 0x40, status := status, result := result, types := types }, s)
  if !updateAllowed s n then answer 0x0116 0 s
  else if !keysUsable s then answer 0x0114 0 s
  else if types = 0 then answer 3 0 s
  else if typeBusy s types || bitOf s.security.trial (k - 1) then answer 0x0113 0 s
  else if slotSize k < len then answer 0x0110 0 s
  else
    let img := dmaRead s (ring s n).onChip (u64 x.bytes 16) len
    let v := verdict s k img
    let s := countCheck v.checked v.passed s
    if v.status ≠ 0 then answer v.status 0 s
    else if !ok then answer 0x0117 0 s
    else
      let b := inactiveSlot s k
      let s := modSec (fun y => { y with slots := tabSet [] y.slots (2 * k + b) img }) s
      answer 0 (BitVec.ofNat 32 (imageVersion img)) (setSlotValid k b false s)

/-- STAGE on ring `n`: an image goes into its type's inactive slot; `ok` says whether the flash took it (R471). -/
def execStage (t : Time) (n : Fin 128) (ok : Bool) (s : State) : Host.Outcome State Fault Refusal :=
  .next (monitorCmd n 0x40 (stage n ok) (begin' t s))

/-- The types of a mask, 1 to 3. -/
def typesIn (mask : Nat) : List Nat := [1, 2, 3].filter (fun k => bitOf mask (k - 1))

/-- ACTIVATE's effect (R471, R472). DESIGN CHOICE (log 84). -/
def activate (n : Nat) (x : Desc) (s : State) : MonRequest × State :=
  let mask := u8 x.bytes 8 % 8
  let answer (status : Nat) (s : State) : MonRequest × State :=
    ({ ring := n, index := x.index, opcode := 0x41, status := status, types := mask
       restart := decide (status = 0) && bitOf (u8 x.bytes 9) 0 }, s)
  if !updateAllowed s n then answer 0x0116 s
  else if typeBusy s mask then answer 0x0113 s
  else if (typesIn mask).any (fun k => !slotValid s k (inactiveSlot s k)) then answer 0x0112 s
  else if mask = 0 then answer 0 s
  else answer 0 (dirWrite (fun y => (typesIn mask).foldl (fun y k => { y with
    active := putBit y.active (k - 1) (!bitOf y.active (k - 1))
    trial := putBit y.trial (k - 1) true
    trialRan := putBit y.trialRan (k - 1) false }) y) s)

/-- ACTIVATE on ring `n`: the inactive slots of a mask of types become active, in trial (R471). -/
def execActivate (t : Time) (n : Fin 128) (s : State) : Host.Outcome State Fault Refusal :=
  .next (monitorCmd n 0x41 (activate n) (begin' t s))

/-- Raise the floor of a type to its active version (R465, R467, R471); for the monitor, every Espelu key below the one that signed it is revoked. -/
def raiseFloor (k : Nat) (s : State) : State :=
  let img := slotImage s k (activeSlot s k)
  let v := imageVersion img
  let hash := Config.sha256 (imageKey img)
  modSec (fun x =>
    if k = 1 then { x with
      floorMon := max x.floorMon (capNat 128 v)
      revoked := match (List.range 4).find? (fun i => Config.espeluKeyHash i = hash) with
        | some i => x.revoked ||| (2 ^ i - 1)
        | none => x.revoked }
    else if k = 2 then { x with floorCharter := max x.floorCharter (capNat 64 v) }
    else { x with floorFw := max x.floorFw (capNat 128 v) }) s

/-- CONFIRM's effect (R471, R472). DESIGN CHOICE (log 84). -/
def confirm (n : Nat) (x : Desc) (s : State) : MonRequest × State :=
  let mask := u8 x.bytes 8 % 8
  let answer (status : Nat) (s : State) : MonRequest × State :=
    ({ ring := n, index := x.index, opcode := 0x42, status := status, types := mask }, s)
  if !updateAllowed s n then answer 0x0116 s
  else if typeBusy s mask then answer 0x0113 s
  else
    let s := dirWrite (fun y => (typesIn mask).foldl (fun y k => { y with
      trial := putBit y.trial (k - 1) false, trialRan := putBit y.trialRan (k - 1) false }) y) s
    answer 0 (if bitOf (u8 x.bytes 9) 0 then (typesIn mask).foldl (fun s k => raiseFloor k s) s else s)

/-- CONFIRM on ring `n`: trials end, and floors may rise (R471). -/
def execConfirm (t : Time) (n : Fin 128) (s : State) : Host.Outcome State Fault Refusal :=
  .next (monitorCmd n 0x42 (confirm n) (begin' t s))

/-- The attestation record for a challenge (R473). PRESUMED (log 90). -/
def attestation (s : State) (challenge : List Byte) : List Byte :=
  let x := s.security
  let body := leBytes 8 x.deviceId.toNat ++ fitBytes 32 challenge ++ leBytes 4 x.verMon.toNat
    ++ leBytes 4 x.verCharter.toNat ++ leBytes 4 x.verFw.toNat ++ leBytes 4 (secStat s).toNat ++ leBytes 8 s.now
    ++ fitBytes 64 Config.identityKey
  body ++ fitBytes 64 (Config.identitySign (Config.sha256 body))

/-- ATTEST's effect (R471, R473). -/
def attest (n : Nat) (x : Desc) (s : State) : MonRequest × State :=
  let answer (status : Nat) (s : State) : MonRequest × State :=
    ({ ring := n, index := x.index, opcode := 0x43, status := status }, s)
  let buffer := u64 x.bytes 8
  if !keysUsable s then answer 0x0114 s
  else if buffer % 64 ≠ 0 then answer 3 s
  else answer 0 (dmaWrite (ring s n).onChip buffer (attestation s (x.bytes.drop 16)) s)

/-- ATTEST on ring `n`: the signed record goes to a buffer (R473). -/
def execAttest (t : Time) (n : Fin 128) (s : State) : Host.Outcome State Fault Refusal :=
  .next (monitorCmd n 0x43 (attest n) (begin' t s))

/-- PROVISION's effect (R467, R471). -/
def provision (n : Nat) (x : Desc) (s : State) : MonRequest × State :=
  let answer (status : Nat) (s : State) : MonRequest × State :=
    ({ ring := n, index := x.index, opcode := 0x44, status := status }, s)
  if !keysUsable s then answer 0x0114 s
  else if s.security.oemHash ≠ 0 then answer 0x0115 s
  else answer 0 (modSec (fun y => { y with oemHash := beNat (fitBytes 32 (x.bytes.drop 8)) }) s)

/-- PROVISION on ring `n`: oem_key_hash is programmed, once (R471). -/
def execProvision (t : Time) (n : Fin 128) (s : State) : Host.Outcome State Fault Refusal :=
  .next (monitorCmd n 0x44 (provision n) (begin' t s))

/-- The first position behind a token's up_to in a stream, if that lies before the next index; one before the first record clears nothing (R486, R504). -/
def clearPosition (s : State) (k : Nat) (i : W32) : Option Nat :=
  let next := nextPos s k
  let back := (BitVec.ofNat 32 next - i).toNat
  if 0 < back && back < 2 ^ 31 && (k != streamAudit || (back ≤ next && (next - back) % 70 = 69)) then some (next + 1 - back) else none

/-- Clear a stream up to before a position: its first index and its export mark rise, and a CLEAR record is written (R505, R489). -/
def clearStream (k p : Nat) (s : State) : State :=
  let l := lstream s k
  let s := setLStream k { l with
    first := max l.first p, exported := max l.exported p, exportNext := max l.exportNext p } s
  let s := if k = streamAudit || k = streamSecurity then resumeStream k s else s
  ledgerQueue (mkRecord s streamSecurity 0x0003
    (k + (lstream s k).first % 2 ^ 32 * 2 ^ 32 + l.first % 2 ^ 32 * 2 ^ 64)) s

/-- CLEAR's effect (R504, R505). -/
def ledgerClear (n : Nat) (x : Desc) (s : State) : MonRequest × State :=
  let answer (status : Nat) (s : State) : MonRequest × State :=
    ({ ring := n, index := x.index, opcode := 0x45, status := status }, s)
  let buffer := u64 x.bytes 8
  if s.security.keysDead then answer 0x0114 s
  else if buffer % 64 ≠ 0 then answer 3 s
  else
    let tok := dmaRead s (ring s n).onChip buffer 160
    let mask := u8 tok 4 % 16
    let form := u32 tok 0 = 0x52434C59 && u64 tok 8 ≠ 0 && u64 tok 8 = s.security.deviceId.toNat
    if !form then answer 0x0110 s
    else
      let key := fitBytes 64 (tok.drop 32)
      let signed := s.security.oemHash ≠ 0 && Config.sha256 key = s.security.oemHash
        && Config.ecdsaVerify key (Config.sha256 (tok.take 96)) (fitBytes 64 (tok.drop 96))
      let s := countCheck true signed s
      if !signed then answer 0x0110 s
      else
        let ks := (List.range 4).filter (fun k => bitOf mask k)
        let at' (k : Nat) : Option Nat := clearPosition s k (BitVec.ofNat 32 (u32 tok (16 + 4 * k)))
        if ks.any (fun k => (at' k).isNone) then answer 0x0118 s
        else answer 0 ((ks.map (fun k => (k, (at' k).getD 0))).foldl (fun s e => clearStream e.1 e.2 s) s)

/-- LEDGER_CLEAR: a CLEAR request on ring `n` (R504, R505). -/
def execLedgerClear (t : Time) (n : Fin 128) (s : State) : Host.Outcome State Fault Refusal :=
  .next (monitorCmd n 0x45 (ledgerClear n) (begin' t s))

/-- MONITOR_REQUEST_COMPLETION: the monitor finishes its request in place `i`: a staged slot becomes valid (R471), and a restart follows the completion (R471, R481). DESIGN CHOICE (log 83). -/
def execMonitorRequestCompletion (t : Time) (i : Fin 4) (s : State) : Host.Outcome State Fault Refusal :=
  let s := begin' t s
  match s.security.requests[i.val]? with
  | none => .next s
  | some q =>
    let s := modSec (fun x => { x with requests := x.requests.eraseIdx i }) s
    let s := if q.opcode = 0x40 && q.status = 0 then
        (typesIn q.types).foldl (fun s k => setSlotValid k (inactiveSlot s k) true s) s else s
    let s := completeAt q.ring q.index q.status q.result s
    .next (if q.restart then revokeAndReset s else s)

/-! ### Services (R475) -/

/-- Read and write a core's memory by the core's addresses (R458). -/
def coreRead (s : State) (addr n : Nat) : List Byte :=
  if addr < 0x40000000 then memRead s.appSram addr n else memRead s.messageStore (addr - 0x40000000) n
def coreWrite (addr : Nat) (bs : List Byte) (s : State) : State :=
  if addr < 0x40000000 then { s with appSram := memWrite s.appSram addr bs }
  else { s with messageStore := memWrite s.messageStore (addr - 0x40000000) bs }

/-- Bytes of a list replaced from an offset. -/
def patch (off : Nat) (bs l : List Byte) : List Byte := l.take off ++ bs ++ l.drop (off + bs.length)

/-- A service request of core `k` with operation `op` begins as its block is written with 1 in the start byte; a running request ignores it. `act` gives the status and the result bytes. DESIGN CHOICE (log 88). -/
def service (k op : Nat) (block : List Byte) (inputs outputs : List (Nat × Nat)) (act : State → Nat × List Byte × State) (s : State) : State :=
  let c := core' s k
  let b := fitBytes 64 block
  if c.run ≠ 1 || c.serving.isSome || u8 b 60 ≠ 1 || u16 b 0 ≠ op then s
  else
    let s := setCore k { c with service := patch 2 [0, 0] b } s
    let bad := inputs.any (fun e => !bufferIn s k e.1 e.2 0) || outputs.any (fun e => !bufferIn s k e.1 e.2 1)
    let (status, result, s) :=
      if !keysUsable s then (0x0114, [], s)
      else if 1048576 < u32 b 4 then (3, [], s)
      else if bad then (4, [], countRegionFault s)
      else act s
    let c := core' s k
    setCore k { c with service := patch 24 result c.service, serving := some status } s

/-- HASH: SHA-256 of the input of core `k`'s block (R475). -/
def execHash (t : Time) (k : Fin 4) (block : List Byte) (s : State) : Host.Outcome State Fault Refusal :=
  .next (service k 1 block [(u32 block 8, u32 block 4)] [] (fun s =>
    (0, beBytes 32 (Config.sha256 (coreRead s (u32 block 8) (u32 block 4))), s)) (begin' t s))

/-- SEAL: AES-256-GCM of the input of core `k`'s block under a derived key, behind a fresh initialisation vector (R475). -/
def execSeal (t : Time) (k : Fin 4) (block : List Byte) (s : State) : Host.Outcome State Fault Refusal :=
  let len := u32 block 4
  .next (service k 2 block [(u32 block 8, len)] [(u32 block 12, len + 28)] (fun s =>
    let iv := leBytes 8 s.now ++ leBytes 4 s.security.sealCount
    let text := Config.sealText s.security.oemHash (u32 block 20) iv (coreRead s (u32 block 8) len)
    (0, [], coreWrite (u32 block 12) (iv ++ fitBytes (len + 16) text)
      (modSec (fun x => { x with sealCount := (x.sealCount + 1) % 2 ^ 32 }) s))) (begin' t s))

/-- UNSEAL: the inverse; status 0x0120 when the tag fails (R475). An input shorter than 28 bytes holds no tag. -/
def execUnseal (t : Time) (k : Fin 4) (block : List Byte) (s : State) : Host.Outcome State Fault Refusal :=
  let len := u32 block 4
  .next (service k 3 block [(u32 block 8, len)] [(u32 block 12, len - 28)] (fun s =>
    let input := coreRead s (u32 block 8) len
    if len < 28 then (0x0120, [], s)
    else match Config.openText s.security.oemHash (u32 block 20) (input.take 12) (input.drop 12) with
      | none => (0x0120, [], s)
      | some text => (0, [], coreWrite (u32 block 12) (fitBytes (len - 28) text) s)) (begin' t s))

/-- VERIFY: ECDSA P-256 over SHA-256 of the input of core `k`'s block, the key and signature at aux (R475). -/
def execVerify (t : Time) (k : Fin 4) (block : List Byte) (s : State) : Host.Outcome State Fault Refusal :=
  let len := u32 block 4
  .next (service k 4 block [(u32 block 8, len), (u32 block 16, 128)] [] (fun s =>
    let aux := coreRead s (u32 block 16) 128
    let good := Config.ecdsaVerify (aux.take 64) (Config.sha256 (coreRead s (u32 block 8) len)) (aux.drop 64)
    (0, BitVec.ofNat 8 (b2n good) :: List.replicate 31 0, s)) (begin' t s))

/-- SERVICE_ATTEST: the record of R473 for the 32-byte challenge at src of core `k`'s block (R475). -/
def execServiceAttest (t : Time) (k : Fin 4) (block : List Byte) (s : State) : Host.Outcome State Fault Refusal :=
  .next (service k 5 block [(u32 block 8, 32)] [(u32 block 12, 192)] (fun s =>
    (0, [], coreWrite (u32 block 12) (attestation s (coreRead s (u32 block 8) 32)) s)) (begin' t s))

/-- SERVICE_DONE: the status of core `k`'s request is written with the done bit, and its line is raised (R475). DESIGN CHOICE (log 88). -/
def execServiceDone (t : Time) (k : Fin 4) (s : State) : Host.Outcome State Fault Refusal :=
  let s := begin' t s
  let c := core' s k
  match c.serving with
  | none => .next s
  | some status =>
    .next (emit (.serviceDone k) (setCore k { c with service := patch 2 (leBytes 2 (status + 2 ^ 15)) c.service, serving := none } s))

end Sys2Proof.Machine
end

