-- ==== Sys2Proof/Machine/Doorbell.lean ====
section
/-! DEFINITION. The doorbell command: software's stores, as far as its regions let them through, and then the doorbell (R44, R56 to R58, R70, R459, R460, R515, R579). -/
namespace Sys2Proof.Machine

/-- A store of an actor: blocked outside the memory that the actor reaches, and then, for a core, a region fault (R459, R460). -/
def actorStore (a : Actor) (s : State) (st : Store) : State :=
  if storeAllowed s a st then applyStore st s
  else match a with
    | .host => s
    | .core k => regionFault k s

/-- An actor runs: a core may be halted (R461). -/
def actorRuns (s : State) (a : Actor) : Bool := decide (a = .host) || reaches s a

/-- Software's stores in order, up to the one whose fault halts its core (R459, R461). -/
def actorStores (a : Actor) (stores : List Store) (s : State) : State :=
  stores.foldl (fun s st => if actorRuns s a then actorStore a s st else s) s

/-- DOORBELL: a write at an offset of BAR2 or its alias, after the stores that it makes visible (R44, R56, R579). Undefined where R76 or R244 says so. DESIGN CHOICE (log 12). DESIGN CHOICE (log 17). -/
def execDoorbell (t : Time) (a : Actor) (off size : Nat) (v : W64) (stores : List Store) (s : State) :
    Host.Outcome State Fault Refusal :=
  let s := begin' t s
  let bad := storesMisuse s (stores.filter (storeAllowed s a))
  let s' := actorStores a stores s
  let n := off / 8
  let own := ringOwner s' n
  let r : State :=
    if !reaches s' a then s'
    else if 0x400 ≤ off then badAccess a true 1 true off s'
    else if !((size = 4 && off % 4 = 0) || (size = 8 && off % 8 = 0)) then badAccess a true 2 true off s'
    else if !setupOpen s' then badAccess a true 4 true off s'
    else if off % 8 ≠ 0 then s'
    else if own = actorCode a then ringDoorbell n (v.setWidth 32) s'
    else if a = .host && givenToCore s' n then bump T.doorbellReject s'
    else badAccess a true 3 true off s'
  if bad then .fault (.undefinedUse 76)
  else if tilesMisuse r && !tilesMisuse s then .fault (.undefinedUse 244)
  else .next r

end Sys2Proof.Machine
end

