-- ==== Sys2Proof/Machine/DriveSense.lean ====
section
/-! DEFINITION. What the drive die senses and how it regulates: registers, profiles, the bank rail, currents, chopping, and the detectors of armature motion (R268 to R277, R283, R284, R290, R291). -/
namespace Sys2Proof.Machine

/-! ### Registers and tallies on the drive die (R298, R299) -/

def drd2 (s : State) (r : Reg) (i j : Nat) : W32 := tabGet r.reset s.drive.regs (regOff r i j)
def drd (s : State) (r : Reg) (i : Nat) : W32 := drd2 s r i 0
def df (s : State) (r : Reg) (i hi lo : Nat) : Nat := fld (drd s r i) hi lo
def db (s : State) (r : Reg) (i b : Nat) : Bool := flag (drd s r i) b
def dset (r : Reg) (i : Nat) (v : W32) (s : State) : State :=
  { s with drive := { s.drive with regs := tabSet r.reset s.drive.regs (regOff r i 0) v } }
def dTally (s : State) (k : Nat) : W32 := tabGet 0 s.drive.tallies k
def dBump (k : Nat) (s : State) : State :=
  { s with drive := { s.drive with tallies := tabMod 0 s.drive.tallies k (fun v => v + 1) } }
def modDrv (n : Nat) (f : DrvCh → DrvCh) (s : State) : State := setDrvCh n (f (drvCh s n)) s

/-- A lease is held (R310). -/
def leased (s : State) : Bool := s.drive.lease.e ≠ 0
/-- Device time as the drive die reckons it (R443). DESIGN CHOICE (log 57). -/
def driveNow (s : State) : Int := (s.now : Int) + roundShift s.drive.skew 24
/-- Units of 0.1 ms, and of 1 us. -/
def tenthMs : Nat := 20000

def chEnabled (s : State) (n : Nat) : Bool := db s R.DRV_CH_CFG n 31
def DrvCh.pulsing (c : DrvCh) : Bool := flag c.cfg 30
def DrvCh.slot (c : DrvCh) : Nat := fld c.cfg 28 24
/-- In a shot: its gate has gone on (R274). -/
def DrvCh.shooting (c : DrvCh) : Bool := c.st = 2 || c.st = 3
/-- A shot is due and its gate has not gone on: it waits for its bank or the backstop delays it (R286, R289). -/
def DrvCh.awaiting (c : DrvCh) : Bool :=
  match c.shot with
  | some sh => sh.gateOn.isNone
  | none => false

/-- Bits of DRV_FAULT that latch a channel (R325). -/
def latchBits : Nat := 0x1A
def chLatched (s : State) (n : Nat) : Bool := (drd s R.DRV_FAULT n &&& BitVec.ofNat 32 latchBits) ≠ 0
def bankLatched (s : State) (k : Nat) : Bool := db s R.DRV_HS_STAT k 0

/-! ### Profiles (R273, R283, R284) -/

def phSource (s : State) (p q : Nat) : Nat := fld (drd2 s R.DRV_PH_CTRL p q) 31 30
def phDecay (s : State) (p q : Nat) : Bool := flag (drd2 s R.DRV_PH_CTRL p q) 28
def phEnd (s : State) (p q : Nat) : Nat := fld (drd2 s R.DRV_PH_CTRL p q) 27 26
def phEndUs (s : State) (p q : Nat) : Nat := fld (drd2 s R.DRV_PH_END p q) 23 0
def slotMinOff (s : State) (c : DrvCh) : Nat := df s R.DRV_PROF_HDR c.slot 15 0 * usUnits

/-- The number of the first condition of R273 that slot `p` fails with header `hdr`, or 0. -/
def profileErr (s : State) (p : Nat) (hdr : W32) : Nat :=
  let n := fld hdr 18 16 + 1
  let qs := List.range n
  let m := (qs.takeWhile (fun q => phSource s p q = 2)).length
  if qs.any (fun q => phSource s p q = 3) then 2
  else if (qs.drop m).any (fun q => phSource s p q = 2) then 3
  else if qs.any (fun q => decide (phEnd s p q = 3) != decide (q + 1 = n)) then 4
  else if (qs.take m).any (fun q => 2 ≤ phEnd s p q || phEndUs s p q < 1 || 10000 < phEndUs s p q) then 5
  else 0

/-- The pulse period of a bank (R283, R299). -/
def bankPeriod (s : State) (n : Nat) : Nat :=
  let hz := df s R.DRV_BANK_CFG (n / 8) 6 0
  roundDivNat secUnits (if hz = 0 then 1 else capNat 100 hz)

/-- The on-length of a pulse (R283). -/
def onLen (s : State) (c : DrvCh) (per : Nat) : Nat :=
  if c.d = 0 then 0
  else
    let on := max (roundDivNat (c.d * per) 0x8000) (fld c.cfg 23 16 * tenthMs)
    if (per : Int) - on < slotMinOff s c then per else on

/-- The first stagger instant of bank position `pos` at or after `x` (R284). -/
def stagger (per pos x : Nat) : Nat := x + (pos * per / 8 % per + per - x % per) % per

/-! ### The bank rail (R270) -/

def bankOf (n : Nat) : Nat := n / 8
def members (k : Nat) : List Nat := (List.range 8).map (fun i => 8 * k + i)
/-- The member whose peak runs (R286). -/
def peakIn (s : State) (k : Nat) : Option Nat := (members k).find? (fun n => (drvCh s n).st = 2)

/-- An open interval of a member's shot has asked for freewheel (R270, R274). -/
def freewheels (s : State) (n : Nat) : Bool := (drvCh s n).shooting && !(drvCh s n).low && (drvCh s n).freewheel

/-- The rail of bank `k` stands at boost (R270, R314, R324). -/
def railBoost (s : State) (k : Nat) : Bool :=
  if !leased s || bankLatched s k then false
  else if s.drive.ov then true
  else if (members k).any (fun n => (drvCh s n).st = 4) then false
  else (members k).any (fun n => (drvCh s n).st = 2 || freewheels s n)

/-- Where the rail stands at boost no window of R320 runs on. -/
def settleRail (k : Nat) (s : State) : State :=
  if railBoost s k then
    (members k).foldl (fun s n =>
      if (drvCh s n).closings.isEmpty then s else modDrv n (fun c => { c with closings := [] }) s) s
  else s

/-! ### Measuring current (R271, R272) -/

/-- R_s in units of 0.1 mΩ (R271, R299). -/
def DrvCh.shunt (c : DrvCh) : Nat := if fld c.cfg 15 0 = 0 then 1 else fld c.cfg 15 0

/-- The voltage of a current in mA across the shunt, in units of 0.1 uV / 2^15: exact for every threshold of R274 to R277. -/
def DrvCh.volts (c : DrvCh) (ma : Nat) : Nat := ma * c.shunt * 0x8000

/-- Full scale min(200 mV / R_s, 20 A) in the same unit (R271). -/
def DrvCh.fullScale (c : DrvCh) : Nat := min (2000000 * 0x8000) (c.volts 20000)

/-- A target or an end current acts at most as full scale (R271). -/
def DrvCh.limited (c : DrvCh) (v : Nat) : Nat := capNat c.fullScale v

/-- The current has reached a level, limited to full scale (R271). -/
def DrvCh.reaches (c : DrvCh) (ma level : Nat) : Bool := c.limited (c.volts level) ≤ c.volts ma

/-- The current lies below 2 % of full scale (R272, R276). -/
def DrvCh.nearZero (c : DrvCh) (ma : Int) : Bool := decide (50 * (ma * (c.shunt * 0x8000)) < c.fullScale)

/-- A code of the 12-bit converter less the channel's sense offset (R271, R272). -/
def senseCode (s : State) (n : Nat) (code : BitVec 16) : Int := satS 12 code.toInt - signed 16 (df s R.DRV_CH_OFS n 15 0)

/-- The current in mA that a corrected code stands for: 200 mV / 2048 to a code (R271). -/
def DrvCh.codeMa (c : DrvCh) (code : Int) : Int := roundDiv (code * 9765625) (c.shunt * 10000)

/-! ### Regulation (R275, R277) -/

/-- The target of a phase, in the unit of `DrvCh.volts`: a scaled one lies between hold_min and full scale, and is hold_min while the thermal model derates the channel (R277, R323). -/
def phTarget (s : State) (n q : Nat) : Nat :=
  let c := drvCh s n
  let target := fld (drd2 s R.DRV_PH_CURRENT c.slot q) 15 0
  let hold := c.volts (df s R.DRV_PROF_HOLD c.slot 15 0)
  c.limited (
    if !flag (drd2 s R.DRV_PH_CTRL c.slot q) 25 then c.volts target
    else if 2 ≤ c.level then hold
    else max hold (target * df s R.DRV_HOLD_SCALE n 15 0 * c.shunt))

/-- Hysteretic phases chop no faster than their f_max: 1 / f_max has passed since the low side last closed (R275). -/
def mayClose (s : State) (c : DrvCh) (q : Nat) : Bool :=
  let f := fld (drd2 s R.DRV_PH_CTRL c.slot q) 23 16
  match c.closedAt with
  | none => true
  | some x => 200000 ≤ (s.now - x) * (if f = 0 then 1 else f)

/-- The low side opens in phase `q`, whose decay the open interval takes (R269, R274). -/
def openLow (n q : Nat) (s : State) : State :=
  settleRail (bankOf n) (modDrv n (fun c => { c with low := false, freewheel := phDecay s c.slot q }) s)

/-- A phase in which R320 measures: hysteretic, from battery. -/
def measures (s : State) (p q : Nat) : Bool := phSource s p q = 1 && flag (drd2 s R.DRV_PH_CTRL p q) 29

/-- The low side closes in phase `q`; where R320 measures, the closing may start or end a window. -/
def closeLow (n q : Nat) (s : State) : State :=
  let s := modDrv n (fun c => { c with low := true, closedAt := some s.now }) s
  if measures s (drvCh s n).slot q && !railBoost s (bankOf n) then
    modDrv n (fun c => { c with closings := c.closings ++ [s.now] }) s
  else s

/-- Regulation decides on a current of `ma` (R275). -/
def regulate (n ma : Nat) (s : State) : State :=
  let c := drvCh s n
  match c.shot with
  | none => s
  | some sh =>
    let ctrl := drd2 s R.DRV_PH_CTRL c.slot sh.phase
    let hyst := c.volts (fld (drd2 s R.DRV_PH_CURRENT c.slot sh.phase) 31 16)
    if !c.shooting || fld ctrl 31 30 = 0 || !flag ctrl 29 then s
    else if c.low then (if phTarget s n sh.phase + hyst ≤ c.volts ma then openLow n sh.phase s else s)
    else if c.volts ma + hyst ≤ phTarget s n sh.phase && mayClose s c sh.phase then closeLow n sh.phase s
    else s

/-- The low side as phase `q` begins: open without source, closed at full on, and otherwise as it stands (R274, R275). -/
def beginPhase (n q : Nat) (s : State) : State :=
  let s := modDrv n (fun c => { c with closings := [] }) s
  let c := drvCh s n
  if phSource s c.slot q = 0 then (if c.low then openLow n q s else s)
  else if !c.low && !flag (drd2 s R.DRV_PH_CTRL c.slot q) 29 then closeLow n q s
  else s

/-! ### Armature detectors (R290, R291) -/

/-- What the opening detector holds: the greatest slope so far as a fraction, the samples of the running run and its first, and the opening. -/
structure Detector where
  ref : Option (Int × Nat) := none
  run : Nat := 0
  first : Nat := 0
  opening : Option Nat := none
  deriving DecidableEq, Repr

/-- One sample of the opening detector: `x` against the one 16 before it (R290). -/
def detectStep (from' till ratio hold : Nat) (d : Detector) (old x : OpenSample) : Detector :=
  let t := x.step * 100
  let rise := x.ma - old.ma
  let ref := if t < from' then d.ref
    else match d.ref with
      | none => some (rise, x.rail)
      | some (a, b) => if a * x.rail < rise * b then some (rise, x.rail) else some (a, b)
  let below := match ref with
    | none => false
    | some (a, b) => decide (rise * b * 256 < a * ratio * x.rail)
  if from' ≤ t && t ≤ till && below then
    let first := if d.run = 0 then x.step else d.first
    { ref := ref, run := d.run + 1, first := first, opening := if d.run + 1 = hold then some first else d.opening }
  else { d with ref := ref, run := 0 }

/-- The opening, in steps of 0.5 us after gate-on: only samples with the low side conducting for at least 2 us since its last closing take part (R290). DESIGN CHOICE (log 51). -/
def detectOpening (from' till ratio hold : Nat) (xs : List OpenSample) : Option Nat :=
  let xs := xs.filter (fun x => x.rail ≠ 0 && x.conducting.any (fun c => decide (2 * usUnits ≤ c)))
  ((xs.zip (xs.drop 16)).foldl (fun d p => detectStep from' till ratio hold d p.1 p.2) {}).opening

/-- The greatest of some numbered samples, the first of equals. -/
def peakSample : List (Nat × Nat) → Option (Nat × Nat)
  | [] => none
  | x :: rest => some (rest.foldl (fun best y => if best.2 < y.2 then y else best) x)

/-- The closing, in steps of 0.5 us after gate-off: the greatest excess over the mean of the first 20 samples, if it is large enough and none of the 20 us after it exceeds it; the samples start `start` steps after gate-off (R291). -/
def detectClosing (start from' till minMv : Nat) (drain : List Nat) : Option Nat :=
  let xs := ((List.range drain.length).zip drain).filter (fun x => decide ((start + x.1) * 100 ≤ till))
  if xs.length < 20 then none
  else
    let sum := ((xs.take 20).map (·.2)).foldl (· + ·) 0
    match peakSample (xs.filter (fun x => decide (from' ≤ (start + x.1) * 100))) with
    | none => none
    | some (j, v) =>
      if sum + 20 * minMv ≤ 20 * v && ((xs.drop (j + 1)).take 40).all (fun y => decide (y.2 ≤ v)) then some (start + j) else none

end Sys2Proof.Machine
end

