-- ==== Sys2Proof/Machine/Drive.lean ====
section
/-! DEFINITION. Drive channels on the drive die: shots, closings, bank peaks, rate pulsing, the minimum off-time, the execution of events, reports and the boost converter (R274 to R295). -/
namespace Sys2Proof.Machine

/-! ### Reports (R292, R305) -/

def sendReport (r : Report) (s : State) : State := pushUp (.report r) s

/-- Flags a shot carries into its reports (R292). -/
def Shot.flags (sh : Shot) (late : Bool) : Nat :=
  b2n late + 16 * b2n (decide (sh.due < sh.ready)) + 128 * b2n sh.timedOut + 256 * b2n sh.later

/-- The time by which a shot's gate-on lies after its ready instant (R287). -/
def Shot.deferral (sh : Shot) : Nat := sh.gateOn.getD 0 - sh.ready

/-- A report of a shot that ran, its delay to come: both of its reports say how it was deferred and held back (R292). -/
def Shot.report (sh : Shot) (n : Nat) (closing late : Bool) (gate : Time) (ev : Nat) : Report :=
  { channel := n, closing := closing, gate := gate, ev := ev
    flags := sh.flags late + 2 * b2n (decide (0 < sh.deferral))
    deferral := capNat 0xFFFF (roundDivNat sh.deferral usUnits)
    backstop := capNat 0xFFFF (roundDivNat (sh.ready - sh.due) usUnits) }

/-- A report of a shot that ran no gate, sent at once with the instant `at'` of its refusal or cancellation (R292). -/
def noGateReport (n : Nat) (sh : Shot) (bit : Nat) (at' : Time) (s : State) : State :=
  sendReport { channel := n, closing := false, flags := sh.flags sh.late + bit, gate := at'
               backstop := capNat 0xFFFF (roundDivNat (sh.ready - sh.due) usUnits)
               ev := if sh.pulse then 0 else sh.ev } s

/-! ### Shots (R274, R280, R286 to R289) -/

/-- Where a channel rests with no shot: between pulses, or off (R299). -/
def DrvCh.rest (c : DrvCh) : Nat := if c.st = 4 then 4 else if c.on && c.pulsing then 5 else 0

/-- The next pulse's due instant from now on, for a channel that pulses (R284, R288). -/
def pulseNext (s : State) (n : Nat) (c : DrvCh) (x : Nat) : Option Time :=
  if c.on && c.pulsing then some (stagger (if c.per = 0 then bankPeriod s n else c.per) (n % 8) x) else none

/-- The gate goes on now (R274, R287). DEDUCED (log 50). -/
def startShot (n : Nat) (s : State) : State :=
  let c := drvCh s n
  match c.shot with
  | none => s
  | some sh =>
    let sh := { sh with gateOn := some s.now, phase := 0, phaseAt := s.now }
    let per := bankPeriod s n
    let on := onLen s c per
    let source := phSource s c.slot 0
    let w : Window := { ends := s.now + df s R.DRV_PROF_DET0 c.slot 31 16 * tenthMs, det := flag c.cfg 29
                        set := drd s R.DRV_PROF_DET0 c.slot, set2 := drd s R.DRV_PROF_DET2 c.slot
                        rep := sh.report n false sh.late s.now (if sh.pulse then 0 else sh.ev) }
    let s := if 0 < sh.deferral then dBump (T.drvDefer n) s else s
    settleRail (bankOf n) (setDrvCh n { c with
      st := if source = 2 then 2 else 3
      shot := some sh
      per := per
      pulseEnd := if c.pulsing && on ≠ per then some (s.now + on) else none
      nextPulse := none
      opening := c.opening ++ [w]
      low := source ≠ 0
      freewheel := phDecay s c.slot 0
      closedAt := if source ≠ 0 then some s.now else c.closedAt
      closings := if measures s c.slot 0 && !railBoost s (bankOf n) then [s.now] else []
      coolBefore := s.now - c.gateOff.getD s.drive.resetAt
      shotAt := s.now } s)

/-- A shot that has become due runs no gate: the channel goes on pulsing if a pulse instant began it, and stays off otherwise (R273, R287, R288, R292). -/
def noShot (n : Nat) (sh : Shot) (bit : Nat) (at' : Time) (s : State) : State :=
  let c := drvCh s n
  let c := { c with shot := none, on := c.on && sh.pulse }
  noGateReport n sh bit at' (setDrvCh n { c with st := c.rest, nextPulse := pulseNext s n c (s.now + 1) } s)

/-- The shot waits for its bank (R286). -/
def waitsForBank (s : State) (n : Nat) : Bool := (drvCh s n).awaiting && !(drvCh s n).shot.any (·.delayed)

/-- The channel's settings in force from a ready instant on (R299); without a valid profile there is no shot (R273); else the shot starts, or waits while a peak runs in its bank (R286). -/
def readyShot (n : Nat) (s : State) : State :=
  let c := { drvCh s n with cfg := drd s R.DRV_CH_CFG n }
  match c.shot with
  | none => s
  | some sh =>
    if !db s R.DRV_PROF_HDR c.slot 31 then noShot n sh 512 s.now (setDrvCh n c s)
    else
      let sh := { sh with delayed := false, tol := df s R.DRV_BANK_CFG (bankOf n) 31 16 * usUnits }
      let s := setDrvCh n { c with shot := some sh, st := if c.st = 4 then 4 else 1 } s
      if phSource s c.slot 0 = 2 && (peakIn s (bankOf n)).isSome then s else startShot n s

/-- A waiting shot may still start: a lease is held and its channel is not latched (R315, R325). -/
def shotMayStart (s : State) (n : Nat) : Bool := leased s && !chLatched s n && !bankLatched s (bankOf n)

/-- The waiting shot of a bank that starts next: the earliest ready instant, then the lower channel (R286). -/
def nextWaiting (s : State) (k : Nat) : Option Nat :=
  let ready (n : Nat) : Time := ((drvCh s n).shot.map (·.ready)).getD 0
  ((members k).filter (fun n => waitsForBank s n && shotMayStart s n)).foldl (fun best n =>
    match best with
    | none => some n
    | some b => if ready n < ready b then some n else best) none

/-- A shot that has waited beyond its tolerance is refused, as of the instant at which the tolerance ran out (R287). -/
def refuseShot (n : Nat) (s : State) : State :=
  match (drvCh s n).shot with
  | some sh => dBump (T.bankRefused (bankOf n)) (noShot n sh 4 (sh.ready + sh.tol) s)
  | none => s

/-- The tolerance of a waiting shot ran out before now (R287). -/
def overdueShot (s : State) (n : Nat) : Bool :=
  waitsForBank s n && (drvCh s n).shot.any (fun sh => decide (sh.ready + sh.tol < s.now))

/-- A peak has ended: shots that waited too long are refused, and the next waiting shot of the bank starts (R286, R287). -/
def peakEnded (k : Nat) (s : State) : State :=
  if (peakIn s k).isSome then s
  else
    let s := ((members k).filter (overdueShot s)).foldl (fun s n => refuseShot n s) s
    match nextWaiting s k with
    | some n => startShot n s
    | none => s

/-- A channel that runs no shot: latched, or locked out by its temperature (R323, R325). -/
def barred (s : State) (n : Nat) : Bool := chLatched s n || (drvCh s n).level = 3

/-- An on event or a pulse becomes due: the shot is cancelled, reported without a profile, delayed by the backstop, or ready (R273, R286, R289, R323, R325). -/
def dueShot (n ev : Nat) (pulse late : Bool) (s : State) : State :=
  let c := drvCh s n
  let sh : Shot := { ev := ev, pulse := pulse, later := c.begun, due := s.now, ready := s.now, late := late }
  let c := { c with cfg := drd s R.DRV_CH_CFG n, begun := true, shot := some sh }
  let s := setDrvCh n c s
  if barred s n then noShot n sh 8 s.now s
  else if !db s R.DRV_PROF_HDR c.slot 31 then noShot n sh 512 s.now s
  else
    let clear := c.gateOff.getD 0 + slotMinOff s c
    if c.gateOff.isSome && s.now < clear then
      dBump (T.drvMinoff n)
        (setDrvCh n { c with shot := some { sh with ready := clear, delayed := true }, st := if c.st = 4 then 4 else 1 } s)
    else readyShot n s

/-- Mark the opening report of the running peak's shot: a closing quench began in its bank (R270, R292). -/
def markConflict (m : Nat) (s : State) : State :=
  modDrv m (fun c => { c with opening := c.opening.map (fun w =>
    if some w.rep.gate = (c.shot.bind (·.gateOn)) && !bitOf w.rep.flags 10
      then { w with rep := { w.rep with flags := w.rep.flags + 1024 } } else w) }) s

/-- The low side opens and the channel enters closing quench; `ev` is the event that closed it, 0 for the end of a pulse, and `late` says that it was a late off event (R276, R279). -/
def closeCh (n ev : Nat) (late : Bool) (s : State) : State :=
  let c := drvCh s n
  match c.shot with
  | none => s
  | some sh =>
    let w : Window := { ends := s.now + df s R.DRV_PROF_DET1 c.slot 31 16 * tenthMs, det := flag c.cfg 29
                        set := drd s R.DRV_PROF_DET1 c.slot, set2 := drd s R.DRV_PROF_DET2 c.slot
                        rep := sh.report n true late s.now ev }
    let other := peakIn s (bankOf n)
    let c' := { c with
      st := 4
      shot := none
      low := false
      closings := []
      gateOff := some s.now
      pulseEnd := none
      nextPulse := pulseNext s n c (s.now + (if sh.pulse then 0 else slotMinOff s c))
      closing := c.closing ++ [w] }
    let s := setDrvCh n c' s
    match other with
    | some m =>
      if m = n then peakEnded (bankOf n) s
      else dBump (T.bankConflict (bankOf n)) (markConflict m s)
    | none => s

/-- Cancel a shot that has not started; a channel that is still on and pulses goes on pulsing (R280, R323). -/
def cancelShot (n : Nat) (s : State) : State :=
  let c := drvCh s n
  match c.shot with
  | none => s
  | some sh =>
    let c := { c with shot := none }
    noGateReport n sh 8 s.now (setDrvCh n { c with st := c.rest, nextPulse := pulseNext s n c (s.now + 1) } s)

/-- The channel leaves its on state: a running shot closes, a waiting one is cancelled (R280, R282, R314). -/
def stopCh (n ev : Nat) (late : Bool) (s : State) : State :=
  let s := modDrv n (fun c => { c with on := false, pulseEnd := none, nextPulse := none }) s
  let c := drvCh s n
  if c.shooting then closeCh n ev late s
  else if c.awaiting then cancelShot n s
  else setDrvCh n { c with st := c.rest } s

/-- A closing report whose off event fell in the clock of a protection action carries cancelled and no delay (R326). -/
def Window.cancelled (w : Window) (now : Time) : Window :=
  if w.rep.gate = now && w.rep.ev ≠ 0 && !bitOf w.rep.flags 3 then
    { w with det := false, rep := { w.rep with flags := w.rep.flags + 8 } }
  else w

/-- A protection action ends what a channel does as `stop` says: it prevails over an event or a pulse of the same clock, whose shot never conducts (R324 to R326). `keep` leaves the channel on. DESIGN CHOICE (log 52). -/
def protectBy (keep : Bool) (n : Nat) (stop : State → State) (s : State) : State :=
  let s := modDrv n (fun c => { c with closing := c.closing.map (fun w => w.cancelled s.now) }) s
  let c := drvCh s n
  match c.shot with
  | some sh =>
    if c.shooting && sh.gateOn = some s.now && sh.due = s.now then
      let c := { c with
        st := 0, shot := none, on := c.on && keep, low := false, pulseEnd := none, nextPulse := none, closings := []
        opening := c.opening.filter (fun w => w.rep.gate ≠ s.now) }
      let s := setDrvCh n { c with st := c.rest, nextPulse := pulseNext s n c (s.now + 1) } s
      peakEnded (bankOf n) (noGateReport n sh 8 s.now s)
    else stop s
  | none => stop s

/-- A protection action takes a channel out of its on state (R324 to R326). -/
def protectCh (n : Nat) (s : State) : State := protectBy false n (fun s => stopCh n (drvCh s n).onEv false s) s

/-- A protection action ends the shot of a channel that pulses on (R323, R326). -/
def protectShot (n : Nat) (s : State) : State :=
  protectBy true n (fun s =>
    let c := drvCh s n
    if c.shooting then closeCh n 0 false s else if c.awaiting then cancelShot n s else s) s

/-- A new d: it moves the end of a pulse in progress and governs later ones (R285). -/
def setDuty (n d : Nat) (s : State) : State :=
  let c := { drvCh s n with d := d }
  match c.shot with
  | some { gateOn := some g, .. } =>
    let on := onLen s c c.per
    setDrvCh n { c with pulseEnd := if c.pulsing && on ≠ c.per then some (max s.now (g + on)) else none } s
  | _ => setDrvCh n c s

/-! ### Events (R278 to R285) -/

/-- The lane of a channel learns that an event has executed; `report` says that a report of its shot follows. An on event that no lane holds any more was withdrawn too late: the channel is commanded off (R205). -/
def laneExec (n : Nat) (e : DrvEv) (report : Bool) (s : State) : State :=
  match laneOfDirect s n with
  | some k => executesAt k e.id e.kind e.d report s
  | none => if e.kind = 1 then bindingOff 0 (.direct n) s else s

/-- The drive die discards an event, or cancels it at a latched channel (R282, R313, R325). -/
def discardEv (n : Nat) (e : DrvEv) (s : State) : State :=
  match laneOfDirect s n with
  | none => s
  | some k => spendEvent k e.id s

/-- Put an event into a store in ascending execution time, those with an equal time in order of arrival (R279). -/
def storePut (e : DrvEv) : List DrvEv → List DrvEv
  | [] => [e]
  | y :: rest =>
    if e.time < y.time || (e.time = y.time && e.arrival < y.arrival) then e :: y :: rest else y :: storePut e rest

/-- The event at the head of a channel's store, once its execution time has come (R279). DESIGN CHOICE (log 57). -/
def dueEvent (s : State) (n kind : Nat) : Option DrvEv :=
  match (drvCh s n).pending with
  | e :: _ => if e.kind = kind && (e.time : Int) ≤ driveNow s then some e else none
  | [] => none

def dropHead (n : Nat) (s : State) : State := modDrv n (fun c => { c with pending := c.pending.drop 1 }) s

/-- An on event executes (R280, R283). -/
def runOn (n : Nat) (e : DrvEv) (s : State) : State :=
  let c := drvCh s n
  if c.on then setDuty n e.d (laneExec n e false s)
  else
    let cfg := drd s R.DRV_CH_CFG n
    let per := bankPeriod s n
    let c := { c with on := true, d := e.d, onEv := e.id, cfg := cfg, per := per, begun := false }
    if c.pulsing && e.d = 0 && !barred s n then
      setDrvCh n { c with st := c.rest, nextPulse := pulseNext s n c (s.now + 1) } (laneExec n e false s)
    else
      let s := if barred s n then discardEv n e s else laneExec n e true s
      dueShot n e.id false e.late (setDrvCh n c s)

/-- ON_EVENT_EXECUTE: the on event at the head of a channel's store executes (R280). -/
def execOnEventExecute (t : Time) (ch : Fin 64) (s : State) : Host.Outcome State Fault Refusal :=
  let s := begin' t s
  match dueEvent s ch 1 with
  | some e => .next (runOn ch e (dropHead ch s))
  | none => .next s

/-- OFF_EVENT_EXECUTE: the off event at the head of a channel's store executes (R276, R280). -/
def execOffEventExecute (t : Time) (ch : Fin 64) (s : State) : Host.Outcome State Fault Refusal :=
  let s := begin' t s
  match dueEvent s ch 2 with
  | some e => .next (stopCh ch e.id e.late (laneExec ch e (drvCh s ch).shooting (dropHead ch s)))
  | none => .next s

/-- RATE_EVENT_EXECUTE: the rate event at the head of a channel's store executes (R285). -/
def execRateEventExecute (t : Time) (ch : Fin 64) (s : State) : Host.Outcome State Fault Refusal :=
  let s := begin' t s
  match dueEvent s ch 3 with
  | some e => .next (setDuty ch e.d (laneExec ch e false (dropHead ch s)))
  | none => .next s

/-- The running phase ends: the next one begins at once, with a timeout noted if `late`, and a peak that ends lets a waiting shot start (R274, R286). -/
def nextPhase (n : Nat) (late : Bool) (s : State) : State :=
  let c := drvCh s n
  match c.shot with
  | none => s
  | some sh =>
    let sh' := { sh with phase := sh.phase + 1, phaseAt := s.now, timedOut := sh.timedOut || late }
    let opening := c.opening.map (fun w =>
      if late && some w.rep.gate = sh.gateOn && !bitOf w.rep.flags 7 then
        { w with rep := { w.rep with flags := w.rep.flags + 128 } } else w)
    let boost := phSource s c.slot sh'.phase = 2
    let s := beginPhase n sh'.phase (setDrvCh n { c with shot := some sh', opening := opening, st := if boost then 2 else 3 } s)
    if c.st = 2 && !boost then peakEnded (bankOf n) s else s

/-- PHASE_END: the channel's comparator reads `ma` mA: the running phase ends if its current or its time says so, and regulation decides on the current (R274, R275). DESIGN CHOICE (log 51). -/
def execPhaseEnd (t : Time) (ch : Fin 64) (ma : Nat) (s : State) : Host.Outcome State Fault Refusal :=
  let s := begin' t s
  let c := drvCh s ch
  match c.shot with
  | none => .next s
  | some sh =>
    let et := phEnd s c.slot sh.phase
    let level := fld (drd2 s R.DRV_PH_CTRL c.slot sh.phase) 15 0
    let byCurrent := (et = 1 && c.reaches ma level) || (et = 2 && decide (c.volts ma ≤ c.limited (c.volts level)))
    let timed := et ≠ 3 && decide (sh.phaseAt + phEndUs s c.slot sh.phase * usUnits ≤ s.now)
    if !c.shooting then .next s
    else .next (regulate ch ma (if byCurrent || timed then nextPhase ch (decide (et ≠ 0) && !byCurrent) s else s))

/-- QUENCH_END: the current reads `ma` mA: closing quench ends below 2 % of full scale, or 5 ms after it began (R276). DESIGN CHOICE (log 51). -/
def execQuenchEnd (t : Time) (ch : Fin 64) (ma : Nat) (s : State) : Host.Outcome State Fault Refusal :=
  let s := begin' t s
  let c := drvCh s ch
  if c.st = 4 && (c.nearZero ma || c.gateOff.getD 0 + 5 * msUnits ≤ s.now) then
    let c := { c with
      st := 0
      quietAt := s.now
      closing := c.closing.map (fun w : Window => if some w.rep.gate = c.gateOff then { w with quiet := some s.now } else w) }
    .next (settleRail (bankOf ch) (setDrvCh ch { c with st := if c.awaiting then 1 else c.rest } s))
  else .next s

/-- PULSE_START: a pulse is due at its stagger instant (R284); with d at 0 there is none. DESIGN CHOICE (log 52). -/
def execPulseStart (t : Time) (ch : Fin 64) (s : State) : Host.Outcome State Fault Refusal :=
  let s := begin' t s
  let c := drvCh s ch
  match c.nextPulse with
  | none => .next s
  | some p =>
    if !c.on || c.shot.isSome || driveNow s < p then .next s
    else
      let c := { c with per := bankPeriod s ch, nextPulse := none }
      if c.d = 0 then .next (setDrvCh ch { c with nextPulse := pulseNext s ch c (s.now + 1) } s)
      else .next (dueShot ch c.onEv true false (setDrvCh ch c s))

/-- PULSE_END: the pulse's on-length has run (R283, R276). -/
def execPulseEnd (t : Time) (ch : Fin 64) (s : State) : Host.Outcome State Fault Refusal :=
  let s := begin' t s
  let c := drvCh s ch
  match c.pulseEnd with
  | some e => if c.shooting && (e : Int) ≤ driveNow s then .next (closeCh ch 0 false s) else .next s
  | none => .next s

/-- SHOT_REFUSED: a shot has waited defer_tol for its bank (R287, R288). -/
def execShotRefused (t : Time) (ch : Fin 64) (s : State) : Host.Outcome State Fault Refusal :=
  let s := begin' t s
  let c := drvCh s ch
  match c.shot with
  | none => .next s
  | some sh =>
    .next (if sh.gateOn.isSome || sh.delayed || s.now < sh.ready + sh.tol then s else refuseShot ch s)

/-- BACKSTOP_EXPIRY: the profile's min_off has elapsed and the delayed shot becomes ready (R289). -/
def execBackstopExpiry (t : Time) (ch : Fin 64) (s : State) : Host.Outcome State Fault Refusal :=
  let s := begin' t s
  match (drvCh s ch).shot with
  | some sh =>
    if sh.delayed && sh.ready ≤ s.now then
      .next (readyShot ch (modDrv ch (fun c => { c with shot := some { sh with ready := s.now } }) s))
    else .next s
  | none => .next s

/-! ### Armature reports (R290 to R292) -/

/-- The first window whose end has passed, and the rest. -/
def windowDue (now : Time) : List Window → Option (Window × List Window)
  | [] => none
  | w :: rest => if w.ends ≤ now then some (w, rest) else none

/-- Set newly found fault bits of a channel and send a FAULT frame for them (R324). -/
def setFaultBits (n bits : Nat) (s : State) : State :=
  let old := drd s R.DRV_FAULT n
  let new := BitVec.ofNat 32 bits &&& ~~~ old
  if new = 0 then s else pushUp (.fault n new) (dset R.DRV_FAULT n (old ||| new) s)

/-- A latest delay as DRV_LAST_OPEN and DRV_LAST_CLOSE show it (R298). -/
def delayWord (d : Option Nat) : W32 :=
  match d with
  | some d => BitVec.ofNat 32 d
  | none => 0xFFFFFFFF#32

/-- OPENING_REPORT: the opening window has ended; `samples` are the current samples since gate-on (R290, R292, R324). DESIGN CHOICE (log 51). -/
def execOpeningReport (t : Time) (ch : Fin 64) (samples : List OpenSample) (s : State) : Host.Outcome State Fault Refusal :=
  let s := begin' t s
  let c := drvCh s ch
  match windowDue s.now c.opening with
  | none => .next s
  | some (w, rest) =>
    let found := detectOpening (fld w.set 15 0 * tenthMs) (fld w.set 31 16 * tenthMs) (fld w.set2 31 24) (fld w.set2 23 16) samples
    let delay := if w.det then found.map (· * 100) else none
    let still := w.det && found.isNone
    let s := dset R.DRV_LAST_OPEN ch (delayWord delay) (setDrvCh ch { c with opening := rest } s)
    let s := if still then setFaultBits ch 4 (dBump (T.drvNomotion ch) s) else s
    .next (sendReport { w.rep with delay := delay, flags := w.rep.flags + 32 * b2n still } s)

/-- CLOSING_REPORT: the closing window has ended; `drain` are the samples of DRV_DRNn in mV, at 2 MS/s from the end of closing quench (R291, R292). DESIGN CHOICE (log 51). -/
def execClosingReport (t : Time) (ch : Fin 64) (drain : List Nat) (s : State) : Host.Outcome State Fault Refusal :=
  let s := begin' t s
  let c := drvCh s ch
  match windowDue s.now c.closing with
  | none => .next s
  | some (w, rest) =>
    let found := match w.quiet with
      | none => none
      | some q => detectClosing ((q - w.rep.gate + 99) / 100) (fld w.set 15 0 * tenthMs) (fld w.set 31 16 * tenthMs)
          (fld w.set2 15 0) drain
    let delay := if w.det then found.map (· * 100) else none
    let s := dset R.DRV_LAST_CLOSE ch (delayWord delay) (setDrvCh ch { c with closing := rest } s)
    .next (sendReport { w.rep with delay := delay, flags := w.rep.flags + 64 * b2n (w.det && found.isNone) } s)

/-! ### Offset calibration (R272) and the boost converter (R293 to R295) -/

/-- OFFSET_CAL_GAP: an off gap that began at `start` ends; `samples` are its converter codes, at 2 MS/s (R272). DESIGN CHOICE (log 51). -/
def execOffsetCalGap (t : Time) (ch : Fin 64) (start : Time) (samples : List (BitVec 16)) (s : State) : Host.Outcome State Fault Refusal :=
  let s := begin' t s
  let c := drvCh s ch
  let quiet := !c.shooting && c.st ≠ 4 && c.quietAt ≤ start && samples.all (fun x => c.nearZero (c.codeMa (senseCode s ch x)))
  let settled := (samples.drop 20).map (fun x => satS 12 x.toInt)
  if !db s R.DRV_CAL 0 31 || !chEnabled s ch || !quiet || s.now < start + 20 * usUnits || settled.isEmpty then .next s
  else
    let old := signed 16 (df s R.DRV_CH_OFS ch 15 0)
    let goal := roundDiv (settled.foldl (· + ·) 0) settled.length
    let new := if c.calibrated then clampInt (old - 2) (old + 2) goal else goal
    .next (setDrvCh ch { c with calibrated := true, gapAt := s.now, starved := false }
      (dset R.DRV_CH_OFS ch (BitVec.ofNat 32 (wrapU 16 new)) s))

/-- CAL_STARVATION: no usable gap within DRV_CAL.timeout (R272, R300). -/
def execCalStarvation (t : Time) (ch : Fin 64) (s : State) : Host.Outcome State Fault Refusal :=
  let s := begin' t s
  let c := drvCh s ch
  let limit := df s R.DRV_CAL 0 15 0
  if db s R.DRV_CAL 0 31 && chEnabled s ch && limit ≠ 0 && !c.starved && c.gapAt + limit * msUnits ≤ s.now then
    .next (notify 0x1E ch limit (setDrvCh ch { c with starved := true } s))
  else .next s

/-- V_set, V_ov and the undervoltage level in units of 10 mV (R293, R294, R299). -/
def vSet (s : State) : Nat := 2400 + 25 * capNat 164 (df s R.BOOST_CFG 0 23 16)
def vOver (s : State) : Nat := capNat 6500 (vSet s + 25 * df s R.BOOST_CFG 0 7 0)
def vUnder (s : State) : Nat := vSet s - 25 * df s R.BOOST_LIMIT 0 15 8
def vBand (s : State) : Nat := 10 * (if df s R.BOOST_CFG 0 15 8 = 0 then 1 else df s R.BOOST_CFG 0 15 8)

/-- The inductor current has reached ilim, for a voltage in uV across the boost shunt (R293). -/
def coilFull (s : State) (shunt : Nat) : Bool := df s R.BOOST_LIMIT 0 31 16 * df s R.BOOST_SHUNT 0 15 0 ≤ shunt * 10

/-- Cycles start no more often than f_max allows (R293, R299). -/
def mayCycle (s : State) : Bool :=
  let f := df s R.BOOST_LIMIT 0 7 0
  match s.drive.cycleAt with
  | none => true
  | some x => 20000 ≤ (s.now - x) * (if f = 0 then 1 else capNat 50 f)

/-- The converter's MOSFET: a cycle ends at ilim, and the next starts no sooner than f_max allows (R293). -/
def boostCycle (shunt : Nat) (s : State) : State :=
  let d := s.drive
  if !d.boostRun then { s with drive := { d with boostGate := false } }
  else if d.boostGate then { s with drive := { d with boostGate := !coilFull s shunt } }
  else if !coilFull s shunt && mayCycle s then { s with drive := { d with boostGate := true, cycleAt := some s.now } }
  else s

/-- A flag of BOOST_STAT after a reading, with notification 0x1D on its rising edge (R294, R300). -/
def boostFlag (subject v : Nat) (was is : Bool) (s : State) : State := if is && !was then notify 0x1D subject v s else s

/-- A reading of VBOOST in units of 10 mV: its limits, and the converter, which starts below V_set − band and stops at V_set (R293, R294). -/
def boostSense (v : Nat) (s : State) : State :=
  let ov := decide (vOver s < v)
  let uv := decide (v < vUnder s)
  let may := db s R.BOOST_CFG 0 31 && leased s && !ov
  let run := may && (decide (v < vSet s - vBand s) || (s.drive.boostRun && decide (v < vSet s)))
  let s := boostFlag 1 v s.drive.uv uv (boostFlag 0 v s.drive.ov ov s)
  let s := { s with drive := { s.drive with
    vboost := v, ov := ov, uv := uv, boostRun := run, boostGate := s.drive.boostGate && run } }
  (List.range 8).foldl (fun s k => settleRail k s) s

/-- BOOST_OVERVOLTAGE: VBOOST, in units of 10 mV, has risen above its limit (R294, R300). -/
def execBoostOvervoltage (t : Time) (v : BitVec 16) (s : State) : Host.Outcome State Fault Refusal :=
  let s := begin' t s
  .next (if vOver s < v.toNat && !s.drive.ov && !s.drive.inReset then boostSense v.toNat s else s)

/-- BOOST_UNDERVOLTAGE: VBOOST has fallen below its undervoltage level (R294, R300). -/
def execBoostUndervoltage (t : Time) (v : BitVec 16) (s : State) : Host.Outcome State Fault Refusal :=
  let s := begin' t s
  .next (if v.toNat < vUnder s && !s.drive.uv && !s.drive.inReset then boostSense v.toNat s else s)

/-- BOOST_VOLTAGE_RECOVERY: VBOOST no longer exceeds its limit, or no longer lies below its undervoltage level (R294). -/
def execBoostVoltageRecovery (t : Time) (v : BitVec 16) (s : State) : Host.Outcome State Fault Refusal :=
  let s := begin' t s
  .next (if s.drive.inReset then s else boostSense v.toNat s)

end Sys2Proof.Machine
end

