-- ==== Sys2Proof/Machine/DriveGuard.lean ====
section
/-! DEFINITION. Protection on the drive die: the lease and its lapses, coil temperature, diagnostics and trips, register writes as they arrive, and what software's writes to the drive pages send (R273, R282, R298, R301, R310 to R330). -/
namespace Sys2Proof.Machine

/-! ### The lease on the drive die (R310 to R315) -/

def modDrvLease (f : DriveLease → DriveLease) (s : State) : State :=
  { s with drive := { s.drive with lease := f s.drive.lease } }

/-- Send a LEASE frame (R304, R312, R314). -/
def sendLease (s : State) : State :=
  pushUp (.lease (leased s) s.drive.lease.e s.drive.lease.last s.drive.lease.cause) s

/-- The boost converter stops (R293, R314). -/
def boostStop (s : State) : State := { s with drive := { s.drive with boostRun := false, boostGate := false } }

/-- The lease lapses: the drive die takes charge, with no gate on and no shot to follow (R314). DEDUCED (log 50). -/
def lapse (cause : Nat) (s : State) : State :=
  if !leased s then s
  else
    let s := boostStop (modDrvLease (fun l => { l with last := l.e, e := 0, cause := cause, leaseAt := s.now }) s)
    let ns := s.drive.ch.map (·.1)
    let s := ns.foldl (fun s n =>
      let s := modDrv n (fun c => { c with pending := [] }) s
      if (drvCh s n).awaiting then stopCh n (drvCh s n).onEv false s else s) s
    let s := ns.foldl (fun s n => protectCh n s) s
    bump T.leaseLapses (sendLease s)

/-- A GRANT with epoch `g` arrives (R311, R312). -/
def takeGrant (g : Nat) (s : State) : State :=
  if leased s then (if g = s.drive.lease.e then modDrvLease (fun l => { l with timerAt := s.now }) s else s)
  else if g ≠ 0 && g ≠ s.drive.lease.last then
    sendLease (modDrvLease (fun l => { l with e := g, last := g, timerAt := s.now }) s)
  else sendLease s

/-- The drive die accepts a down frame: its acknowledgement, and its lease epoch, which restarts the lease timer or disagrees (R306, R313). -/
def acceptDown (f : Frame) (s : State) : State :=
  let s := takeDown f s
  if f.leaseEpoch = s.drive.lease.e then modDrvLease (fun l => { l with timerAt := s.now }) s
  else if f.leaseEpoch ≠ 0 && leased s then lapse 2 s
  else s

/-- The down frame at the head, if it is one that `want` takes, is accepted and acted on. -/
def withDown (t : Time) (want : FrameBody → Bool) (act : FrameBody → State → State) (s : State) : State :=
  let s := begin' t s
  match headDown s with
  | some f => if want f.body then act f.body (acceptDown f s) else s
  | none => s

/-- While no lease is held an EVENT, RETIME or WITHDRAW frame is discarded, counted and answered (R313). -/
def ifLeased (act : State → State) (s : State) : State :=
  if leased s then act s else sendLease (bump T.relayLost s)

/-- EVENT: an event enters its channel's store; a disabled channel discards it (R278, R279, R282). -/
def execEvent (t : Time) (s : State) : Host.Outcome State Fault Refusal :=
  .next (withDown t (fun b => match b with
    | .event _ _ => true
    | _ => false) (fun b s => match b with
      | .event n e =>
        if !leased s then ifLeased id (discardEv n e s)
        else if !chEnabled s n then discardEv n e (modDrv n (fun c => { c with discards := c.discards + 1 }) s)
        else
          let late := decide ((e.time : Int) < driveNow s)
          modDrv n (fun c => { c with
            pending := storePut { e with late := late, arrival := c.arrivals } c.pending
            arrivals := c.arrivals + 1 }) s
      | _ => s) s)

/-- RETIME: a pending event's execution time is replaced (R281). -/
def execRetime (t : Time) (s : State) : Host.Outcome State Fault Refusal :=
  .next (withDown t (fun b => match b with
    | .retime _ _ _ => true
    | _ => false) (fun b s => match b with
      | .retime n id time => ifLeased (modDrv n (fun c =>
          match c.pending.find? (fun e => e.id = id) with
          | some e => { c with pending := storePut { e with time := time } (c.pending.filter (fun y => y.id != id)) }
          | none => c)) s
      | _ => s) s)

/-- WITHDRAW: a pending event is removed, or the waiting shot of an on event is cancelled (R281). -/
def execWithdraw (t : Time) (s : State) : Host.Outcome State Fault Refusal :=
  .next (withDown t (fun b => match b with
    | .withdraw _ _ => true
    | _ => false) (fun b s => match b with
      | .withdraw n id => ifLeased (fun s =>
          let c := drvCh s n
          if c.pending.any (fun e => e.id = id) then
            setDrvCh n { c with pending := c.pending.filter (fun e => e.id != id) } s
          else if c.awaiting && c.shot.any (fun sh => sh.ev = id && !sh.pulse) then stopCh n id false s
          else s) s
      | _ => s) s)

/-- GRANT (R311). -/
def execGrant (t : Time) (s : State) : Host.Outcome State Fault Refusal :=
  .next (withDown t (fun b => match b with
    | .grant _ => true
    | _ => false) (fun b s => match b with
      | .grant g => takeGrant g s
      | _ => s) s)

/-- REVOKE lapses the lease (R314). -/
def execRevoke (t : Time) (s : State) : Host.Outcome State Fault Refusal :=
  .next (withDown t (fun b => match b with
    | .revoke => true
    | _ => false) (fun _ s => lapse 5 s) s)

/-- CLEAR: fault bits of a channel, or the latch of a bank at 64 + k, are cleared (R325, R327). -/
def execClear (t : Time) (s : State) : Host.Outcome State Fault Refusal :=
  .next (withDown t (fun b => match b with
    | .clear _ _ => true
    | _ => false) (fun b s => match b with
      | .clear n bits =>
        if n < 64 then dset R.DRV_FAULT n (drd s R.DRV_FAULT n &&& ~~~ bits) s
        else dset R.DRV_HS_STAT (n - 64) (drd s R.DRV_HS_STAT (n - 64) &&& ~~~ bits) s
      | _ => s) s)

/-- TIME: the drive die corrects its reckoning by at most 2 units, and its rate by 1/64 of the difference; the first frame after training sets it. `drift` is what its oscillator has gained since the frame before, in 2^-24 units, its rate correction left out (R443, R313). DESIGN CHOICE (log 57). -/
def execTime (t : Time) (drift : Int) (s : State) : Host.Outcome State Fault Refusal :=
  .next (withDown t (fun b => match b with
    | .time _ => true
    | _ => false) (fun _ s =>
      let d := s.drive
      if !d.synced then { s with drive := { d with skew := 0, synced := true } }
      else
        let x := d.skew + drift + d.rate
        { s with drive := { d with
            skew := x - clampInt (-(2 ^ 25)) (2 ^ 25) x
            rate := d.rate - roundShift x 6 } }) s)

/-- LEASE_TIMEOUT: the lease timer has run out (R310, R314). -/
def execLeaseTimeout (t : Time) (s : State) : Host.Outcome State Fault Refusal :=
  let s := begin' t s
  let p := df s R.LEASE_CFG 0 5 0
  let period := (if p = 0 then 1 else capNat 32 p) * 250 * usUnits
  .next (if leased s && s.drive.lease.timerAt + period ≤ s.now then lapse 1 s else s)

/-- LEASE_REPEAT: a leaseless drive die repeats its LEASE frame every 10 us (R314). -/
def execLeaseRepeat (t : Time) (s : State) : Host.Outcome State Fault Refusal :=
  let s := begin' t s
  if !leased s && s.relay.trained && !s.drive.inReset && s.drive.lease.leaseAt + 10 * usUnits ≤ s.now then
    .next (sendLease (modDrvLease (fun l => { l with leaseAt := s.now }) s))
  else .next s

/-! ### Coil temperature (R320 to R323) -/

/-- DRV_TH_AMB in 2^-24 °C (R327). -/
def ambient (s : State) : Int := signed 16 (df s R.DRV_TH_AMB 0 15 0) * 2 ^ 20
def chTemp (s : State) (n : Nat) : Int := (drvCh s n).temp.getD (ambient s)
def thLearned (s : State) (n : Nat) : Bool := db s R.DRV_TH_RREF n 31

/-- R_ref learned from R_hot at the present ambient temperature, in mΩ (R321): round(R_hot / (1 + 0.00393 × (T_amb − 20))). DESIGN CHOICE (log 56). -/
def learnedRef (s : State) (rHot : Nat) : Option Nat :=
  let den : Int := 1600000 + 393 * (signed 16 (df s R.DRV_TH_AMB 0 15 0) - 320)
  if den ≤ 0 then none else some (satU 16 (roundDiv (rHot * 1600000) den.toNat))

/-- THERMAL_WINDOW: a window from `start` of one hysteretic battery phase ends, with its mean voltage in mV and mean current in mA: it starts and ends at low-side closings, the bank rail at battery throughout (R320, R321). -/
def execThermalWindow (t : Time) (ch : Fin 64) (start : Time) (mv ma : Nat) (s : State) : Host.Outcome State Fault Refusal :=
  let s := begin' t s
  let c := drvCh s ch
  let stop := c.closings.getLast?.getD 0
  if !c.closings.contains start || stop < start + 2 * msUnits || ma = 0 then .next s
  else
    let r := roundDivNat (mv * 1000) ma
    let s := setDrvCh ch { c with rHot := some r, windowAt := some s.now, closings := [stop] } s
    let cool := df s R.DRV_TH_LEARN 0 7 0 * 60 * secUnits
    if db s R.DRV_TH_CFG ch 30 && !thLearned s ch && start ≤ c.shotAt + secUnits && cool ≤ c.coolBefore then
      match learnedRef s r with
      | some 0 => .next s
      | some x => .next (dset R.DRV_TH_RREF ch (BitVec.ofNat 32 (2 ^ 31 + x)) s)
      | none => .next (drawFree (dset R.DRV_TH_RREF ch (BitVec.ofNat 32 (2 ^ 31 + (freeWord s).toNat % 2 ^ 16)) s))
    else .next s

/-- The level of a temperature, with the hysteresis of the levels entered so far (R323). -/
def thLevel (s : State) (old : Nat) (temp : Int) : Nat :=
  let w := drd s R.DRV_TH_LIMITS 0
  let hyst : Int := fld w 7 0
  let inLevel (l : Nat) (thr : Int) : Bool :=
    thr * 2 ^ 24 ≤ temp || (decide (l ≤ old) && (thr - hyst) * 2 ^ 24 ≤ temp)
  if inLevel 3 (fld w 15 8) then 3 else if inLevel 2 (fld w 23 16) then 2 else if inLevel 1 (fld w 31 24) then 1 else 0

/-- A temperature as DRV_TH_STAT shows it: Q12.4 °C (R328). -/
def tempQ4 (x : Int) : Nat := wrapU 16 (satS 16 (roundShift x 20))

/-- Lockout: the channel closes and runs no shot (R323). A channel that pulses stays on, and its pulses report cancelled. DESIGN CHOICE (log 52). -/
def enterLockout (n : Nat) (s : State) : State :=
  let s := dset R.DRV_FAULT n (drd s R.DRV_FAULT n ||| 1) s
  let c := drvCh s n
  if c.on && c.pulsing then protectShot n s else protectCh n s

/-- A new level of a channel (R323): the control die sees it in the register copy. -/
def setLevel (n new : Nat) (s : State) : State :=
  let old := (drvCh s n).level
  let s := modDrv n (fun c => { c with level := new }) s
  if old < 3 && new = 3 then enterLockout n s else s

/-- A window has completed in the millisecond that ends now (R322). -/
def DrvCh.windowNow (c : DrvCh) (now : Time) : Bool := c.windowAt.any (fun x => decide (now ≤ x + msUnits))

/-- The temperature after a millisecond with the mean squared current `i2` in mA², in 2^-24 °C (R322). DESIGN CHOICE (log 56). -/
def thStep (s : State) (n i2 : Nat) : Int :=
  let c := drvCh s n
  let w := drd s R.DRV_TH_CFG n
  let tau := if fld w 29 16 = 0 then 1 else fld w 29 16
  let T := chTemp s n
  let ref := df s R.DRV_TH_RREF n 15 0
  -- resistance in mΩ × 2^24 × 10^5
  let r : Int := if thLearned s n then ref * (100000 * 2 ^ 24 + 393 * (T - 20 * 2 ^ 24)) else (c.rHot.getD 0) * (100000 * 2 ^ 24)
  let step := roundDiv ((ambient s - T) * 10 ^ 16 + i2 * (fld w 15 0) * r) (10 ^ 18 * tau)
  if c.windowNow s.now && thLearned s n && ref ≠ 0 then
    20 * 2 ^ 24 + roundDiv (((c.rHot.getD 0 : Int) - ref) * 2 ^ 24 * 100000) (ref * 393)
  else T + step

/-- THERMAL_UPDATE: the millisecond update of an enabled channel; `i2` is the mean squared current of the last millisecond in mA² (R322, R323). DESIGN CHOICE (log 56). -/
def execThermalUpdate (t : Time) (ch : Fin 64) (i2 : Nat) (s : State) : Host.Outcome State Fault Refusal :=
  let s := begin' t s
  if !chEnabled s ch || !db s R.DRV_TH_CFG ch 31 then .next s
  else
    let c := drvCh s ch
    let T := thStep s ch i2
    let s := setDrvCh ch { c with temp := some T, measured := c.windowNow s.now && thLearned s ch, windowAt := none } s
    .next (setLevel ch (thLevel s c.level T) s)

/-! ### Diagnostics and trips (R324 to R326) -/

/-- A protection latches a channel: its low side opens and it leaves its on state (R324, R325). -/
def latchCh (n bits : Nat) (s : State) : State := protectCh n (setFaultBits n bits s)

/-- OFF_STATE_OPEN_LOAD: the channel is off, its bank switch open, and for `held` its drain has read `drain` mV with VBAT at `vbat` mV (R324). -/
def execOffStateOpenLoad (t : Time) (x : DrainSeen) (s : State) : Host.Outcome State Fault Refusal :=
  let s := begin' t s
  let c := drvCh s x.ch
  let low := decide (2 * x.drain < x.vbat) && decide (msUnits ≤ x.held)
  .next (if db s R.DRV_DIAG_CFG x.ch 31 && c.st = 0 && !railBoost s (bankOf x.ch) && !s.drive.inReset && low then setFaultBits x.ch 64 s else s)

/-- The channel is in a phase that conducts: one with a source (R274, R324). -/
def conducting (s : State) (n : Nat) : Bool :=
  let c := drvCh s n
  match c.shot with
  | some sh => c.shooting && phSource s c.slot sh.phase ≠ 0
  | none => false

/-- ON_STATE_OPEN_LOAD: in a conducting phase the current, at most `ma` since gate-on, stays below open_ma for open_t after gate-on (R324). -/
def execOnStateOpenLoad (t : Time) (ch : Fin 64) (ma : Nat) (s : State) : Host.Outcome State Fault Refusal :=
  let s := begin' t s
  let c := drvCh s ch
  match c.shot with
  | some { gateOn := some g, .. } =>
    let w := drd s R.DRV_DIAG_CFG ch
    if flag w 30 && conducting s ch && ma < fld w 15 8 * 10 && g + fld w 7 0 * tenUs ≤ s.now then .next (setFaultBits ch 32 s)
    else .next s
  | _ => .next s

/-- SHORT_TO_BATTERY: the current reaches short_ma within short_us of gate-on (R324). -/
def execShortToBattery (t : Time) (ch : Fin 64) (ma : Nat) (s : State) : Host.Outcome State Fault Refusal :=
  let s := begin' t s
  let c := drvCh s ch
  match c.shot with
  | some { gateOn := some g, .. } =>
    if c.shooting && df s R.DRV_TRIP ch 15 0 ≤ ma && s.now ≤ g + df s R.DRV_DIAG_CFG ch 23 16 * usUnits then
      .next (latchCh ch 16 s)
    else .next s
  | _ => .next s

/-- TRIP_COMPARATOR: the current reaches min(trip_ma, full scale) while the low side conducts (R324). -/
def execTripComparator (t : Time) (ch : Fin 64) (ma : Nat) (s : State) : Host.Outcome State Fault Refusal :=
  let s := begin' t s
  let c := drvCh s ch
  .next (if c.shooting && c.low && c.reaches ma (df s R.DRV_TRIP ch 31 16) then latchCh ch 8 s else s)

/-- HIGH_SIDE_DESATURATION: the bank switch has been on for `on` and V(VBOOST) − V(BANK_HSRCk) has stood at `dv` tenths of a volt for `held`: past blank, above desat for 500 ns, the bank and its members latch before any low side opens (R324). -/
def execHighSideDesaturation (t : Time) (bank : Fin 8) (dv : Nat) (x : SwitchSeen) (s : State) : Host.Outcome State Fault Refusal :=
  let s := begin' t s
  let blank := df s R.DRV_HS_CFG bank 7 0 * 20
  if !railBoost s bank || dv ≤ df s R.DRV_HS_CFG bank 15 8 || x.held < 100 || x.on < blank + x.held then .next s
  else
    let s := dset R.DRV_HS_STAT bank (drd s R.DRV_HS_STAT bank ||| 1) s
    let s := pushUp (.fault (64 + bank) 1) s
    let s := (members bank).foldl (fun s n => dset R.DRV_FAULT n (drd s R.DRV_FAULT n ||| 2) s) s
    .next ((members bank).foldl (fun s n => protectCh n s) s)

/-! ### Register writes on the drive die (R273, R282, R298, R321) -/

/-- A channel's enable changes (R272, R282). -/
def enableChange (n : Nat) (was now' : Bool) (s : State) : State :=
  if was && !now' then
    let c := drvCh s n
    let s := c.pending.foldl (fun s e => discardEv n e s) (setDrvCh n { c with pending := [] } s)
    stopCh n c.onEv false s
  else if !was && now' then
    modDrv n (fun c => { c with calibrated := false, starved := false, gapAt := s.now, quietAt := max c.quietAt s.now }) s
  else s

/-- A register write takes effect on the drive die: WRITE (R298). LEASE_CFG arrives from the monitor alone. -/
def drvApply (off : Nat) (v : W32) (s : State) : State :=
  match regAt off with
  | none => s
  | some r =>
    let i := regIdx r off
    let old := tabGet r.reset s.drive.regs off
    let merged := regMerge r old v &&& ~~~ (v &&& r.w1c)
    let store (x : W32) (s : State) : State :=
      { s with drive := { s.drive with regs := tabSet r.reset s.drive.regs off x } }
    if off = R.LEASE_CFG.base then store v s
    else if regHas R.DRV_CH_CFG off then enableChange i (flag old 31) (flag merged 31) (store merged s)
    else if regHas R.DRV_PROF_HDR off then
      let err := if flag merged 31 then profileErr s i merged else 0
      store (setFld (setFlag merged 31 (flag merged 31 && err = 0)) 30 28 err) s
    else if off = R.BOOST_CFG.base then (if flag merged 31 then store merged s else boostStop (store merged s))
    else if regHas R.DRV_TH_RREF off then store (setFlag merged 31 (fld merged 15 0 ≠ 0)) s
    else store merged s

/-- WRITE: a register write reaches the drive die (R298). -/
def execWrite (t : Time) (s : State) : Host.Outcome State Fault Refusal :=
  .next (withDown t (fun b => match b with
    | .write _ _ => true
    | _ => false) (fun b s => match b with
      | .write off v => drvApply off v s
      | _ => s) s)

/-! ### Software's writes to the drive, profile and protection pages (R298, R301) -/

/-- A slot that an enabled channel names while it is in a shot, waits for its bank, or stands between pulses (R301). -/
def slotInUse (s : State) (p : Nat) : Bool :=
  s.drive.ch.any (fun e => chEnabled s e.1 && df s R.DRV_CH_CFG e.1 28 24 = p
    && (e.2.shooting || waitsForBank s e.1 || e.2.st = 5))

/-- A write that the gate lets through goes to the drive die with the next frame; reads show it once the register copy has been refreshed (R298, R570). -/
def drvSoft (off : Nat) (v : W32) (s : State) : State :=
  match regAt off with
  | none => s
  | some _ => pushDown (.write off v) s

/-- The case of R301 that a write of `size` bytes by an actor would bring about. DESIGN CHOICE (log 10). -/
def undefined301 (s : State) (a : Actor) (off size : Nat) : Bool :=
  decide (gateWrite s a off size = .allow) && decide (pageOf off = 0x11) && slotInUse s ((off - 0x11000) / 0x80)

/-- DRV_CHANNEL_DISABLE: software clears DRV_CH_CFG.enable of a channel (R282); the WRITE frame it sends does the rest. -/
def execDrvChannelDisable (t : Time) (a : Actor) (ch : Fin 64) (s : State) : Host.Outcome State Fault Refusal :=
  let s := begin' t s
  let off := regOff R.DRV_CH_CFG ch 0
  .next (gated a off 4 (fun s => drvSoft off (setFlag (rd s R.DRV_CH_CFG ch) 31 false) s) s)

/-- PROFILE_VALIDATE: software writes DRV_PROF_HDR with valid at 1 (R273); undefined where R301 says so. -/
def execProfileValidate (t : Time) (a : Actor) (slot : Fin 32) (v : W32) (s : State) : Host.Outcome State Fault Refusal :=
  let s := begin' t s
  let off := regOff R.DRV_PROF_HDR slot 0
  if undefined301 s a off 4 then .fault (.undefinedUse 301)
  else .next (gated a off 4 (drvSoft off (setFlag v 31 true)) s)

/-- DRV_TH_RREF_WRITE: software writes r_ref: non-zero sets learned, 0 clears it (R321). -/
def execDrvThRrefWrite (t : Time) (a : Actor) (ch : Fin 64) (v : W32) (s : State) : Host.Outcome State Fault Refusal :=
  let s := begin' t s
  let off := regOff R.DRV_TH_RREF ch 0
  .next (gated a off 4 (drvSoft off v) s)

/-- DRV_FAULT_CLEAR: the owner writes 1 to bits of DRV_FAULT (R325). -/
def execDrvFaultClear (t : Time) (a : Actor) (ch : Fin 64) (v : W32) (s : State) : Host.Outcome State Fault Refusal :=
  let s := begin' t s
  let off := regOff R.DRV_FAULT ch 0
  .next (gated a off 4 (drvSoft off v) s)

/-- DRV_HS_STAT_CLEAR: the owner writes 1 to DRV_HS_STAT.desat (R325). -/
def execDrvHsStatClear (t : Time) (a : Actor) (bank : Fin 8) (v : W32) (s : State) : Host.Outcome State Fault Refusal :=
  let s := begin' t s
  let off := regOff R.DRV_HS_STAT bank 0
  .next (gated a off 4 (drvSoft off v) s)

end Sys2Proof.Machine
end

