-- ==== Sys2Proof/Machine/DriveLink.lean ====
section
/-! DEFINITION. The relay link at work, and the control die's side of the drive die: discards, retransmission, training, resets seen, reports, the register copy, faults, and the monitor's grants (R302 to R309, R316 to R319, R439). -/
namespace Sys2Proof.Machine

/-! ### Up frames (R304 to R307, R316, R324) -/

/-- The up frame at the head, if it is one that `want` takes, is accepted and acted on. -/
def withUp (t : Time) (want : FrameBody → Bool) (act : FrameBody → State → State) (s : State) : State :=
  let s := begin' t s
  match headUp s with
  | some f => if want f.body then act f.body (takeUp f s) else s
  | none => s

/-- The trace packet of a report, whose event is its gate instant (R537, R539). -/
def reportTrace (r : Report) (s : State) : State :=
  traceAt 5 (b2n r.closing) r.gate (leBytes 1 r.channel ++ leBytes 2 (r.flags % 2 ^ 11) ++ [0]
    ++ leBytes 4 (r.delay.getD 0xFFFFFFFF)) s

/-- REPORT: a report waits for step 3 of the next sweep (R305). -/
def execReport (t : Time) (s : State) : Host.Outcome State Fault Refusal :=
  .next (withUp t (fun b => match b with
    | .report _ => true
    | _ => false) (fun b s => match b with
      | .report r => reportTrace r { s with drive := { s.drive with reports := s.drive.reports ++ [r] } }
      | _ => s) s)

/-- The lane faults that bits of DRV_FAULT stand for (R152, R324). -/
def faultLaneBits (bits : Nat) : Nat :=
  b2n (bitOf bits 6 || bitOf bits 5) + 2 * b2n (bitOf bits 4 || bitOf bits 3) + 8 * b2n (bitOf bits 2)
    + 4 * b2n (bitOf bits 1)

/-- Set fault bits on the lane of a direct channel, if one is bound. -/
def chLaneFault (n bits : Nat) (s : State) : State :=
  match laneOfDirect s n with
  | some k => laneFault k bits s
  | none => s

/-- Set bits in the control die's copy of a register (R298, R324). -/
def copyOr (r : Reg) (i bits : Nat) (s : State) : State := wr r i (rd s r i ||| BitVec.ofNat 32 bits) s

/-- FAULT: newly set drive faults reach the control die, its register copy among it (R298, R324, R329). -/
def execFault (t : Time) (s : State) : Host.Outcome State Fault Refusal :=
  .next (withUp t (fun b => match b with
    | .fault _ _ => true
    | _ => false) (fun b s => match b with
      | .fault n w =>
        let bits := w.toNat
        let s := if n < 64 then copyOr R.DRV_FAULT n bits (chLaneFault n (faultLaneBits bits) s)
          else (members (n - 64)).foldl (fun s m => copyOr R.DRV_FAULT m 2 (chLaneFault m 4 s))
            (copyOr R.DRV_HS_STAT (n - 64) bits s)
        let safety := 64 ≤ n || bitOf bits 4 || bitOf bits 3
        notify 0x1F n bits (ledgerReport (if safety then streamSafety else streamFault) 0x051F n bits s)
      | _ => s) s)

/-- The control die learns of a lapse (R316, R317). DESIGN CHOICE (log 47). -/
def learnLapse (cause : Nat) (s : State) : State :=
  let s := traceEvent 6 1 (leBytes 2 s.lease.epoch ++ leBytes 1 cause ++ [0]) s
  { s with
    lease := { s.lease with held := false, cause := cause, lapseAt := s.now, lapsed := true, lapseEpoch := s.lease.epoch }
    engine := { s.engine with lapseDue := true } }

/-- LEASE: the lease state and the last epoch held (R304, R316, R318). -/
def execLease (t : Time) (s : State) : Host.Outcome State Fault Refusal :=
  .next (withUp t (fun b => match b with
    | .lease _ _ _ _ => true
    | _ => false) (fun b s => match b with
      | .lease held e last cause =>
        if held then
          let s := if s.lease.held then s else { s with engine := { s.engine with grantDue := true } }
          { s with lease := { s.lease with held := true, epoch := e, granting := none, lapsed := false, known := true } }
        else
          let s := if s.lease.held then learnLapse cause s else s
          { s with lease := { s.lease with
              epoch := last, granting := none, known := true
              cause := if cause = 0 then s.lease.cause else cause } }
      | _ => s) s)

/-! ### The register copy (R298, R307) -/

/-- What the drive die shows at a register (R299, R328). -/
def drvShows (s : State) (off : Nat) : W32 :=
  let stored (r : Reg) : W32 := tabGet r.reset s.drive.regs off
  if regHas R.DRV_CH_STAT off then
    let n := regIdx R.DRV_CH_STAT off
    let c := drvCh s n
    BitVec.ofNat 32 (c.st * 2 ^ 29 + b2n (railBoost s (bankOf n)) * 2 ^ 28 + capNat 0xFFFF c.current)
  else if regHas R.DRV_BANK_STAT off then
    let k := regIdx R.DRV_BANK_STAT off
    BitVec.ofNat 32 (b2n (railBoost s k) * 2 ^ 31 + b2n (peakIn s k).isSome * 2 ^ 30
      + ((peakIn s k).getD 0 % 8) * 2 ^ 27 + ((members k).filter (waitsForBank s)).length)
  else if off = R.BOOST_STAT.base then
    BitVec.ofNat 32 (b2n (db s R.BOOST_CFG 0 31 && leased s && !s.drive.ov) * 2 ^ 31 + b2n s.drive.ov * 2 ^ 30
      + b2n s.drive.uv * 2 ^ 29 + b2n (!leased s) * 2 ^ 28 + capNat 0xFFFF s.drive.vboost)
  else if regHas R.DRV_TH_STAT off then
    let n := regIdx R.DRV_TH_STAT off
    let c := drvCh s n
    BitVec.ofNat 32 (tempQ4 (chTemp s n) * 2 ^ 16 + c.level * 2 ^ 14 + b2n c.measured * 2 ^ 13)
  else if regHas R.DRV_TH_RHOT off then
    BitVec.ofNat 32 (capNat 0xFFFF ((drvCh s (regIdx R.DRV_TH_RHOT off)).rHot.getD 0xFFFF))
  else if regHas R.DRV_FAULT off then
    setFlag (stored R.DRV_FAULT) 31 (chLatched s (regIdx R.DRV_FAULT off))
  else if regHas R.DRV_HS_STAT off then
    setFlag (stored R.DRV_HS_STAT) 31 (bankLatched s (regIdx R.DRV_HS_STAT off))
  else match regAt off with
    | some r => stored r
    | none => 0

/-- Register offsets in a row. -/
def offsetsFrom (base n : Nat) : List Nat := (List.range n).map (fun i => base + 4 * i)

/-- The register offsets and tallies of a segment of the copy, each at most what a frame carries: 0 to 63 a channel's drive registers, 64 to 127 its protection registers, 128 to 135 a bank, 136 the boost and common registers, 137 to 232 a third of a profile slot. DESIGN CHOICE (log 53). -/
def segOffsets (seg : Nat) : List Nat × List Nat :=
  if seg < 64 then (offsetsFrom (0x10000 + seg * 0x20) 6, [T.drvDefer seg, T.drvMinoff seg])
  else if seg < 128 then (offsetsFrom (0x12000 + (seg - 64) * 0x20) 7, [T.drvNomotion (seg - 64)])
  else if seg < 136 then
    let k := seg - 128
    (offsetsFrom (0x10800 + k * 0x10) 2 ++ offsetsFrom (0x12800 + k * 0x10) 2, [T.bankRefused k, T.bankConflict k])
  else if seg = 136 then
    (offsetsFrom 0x10C00 4 ++ [0x10C18] ++ offsetsFrom 0x12C00 4, [T.boostRecovered, T.boostSupplied])
  else
    let b := 0x11000 + (seg - 137) / 3 * 0x80
    (match (seg - 137) % 3 with
      | 0 => offsetsFrom b 5 ++ offsetsFrom (b + 0x20) 6
      | 1 => offsetsFrom (b + 0x38) 9
      | _ => offsetsFrom (b + 0x5C) 9, [])

/-- The words of a segment as the drive die sends them. -/
def segWords (s : State) (seg : Nat) : List W32 :=
  (segOffsets seg).1.map (drvShows s) ++ (segOffsets seg).2.map (dTally s)

/-- A CLEAR for a channel or a bank (64 + k) is still on its way. -/
def clearOwed (s : State) (target : Nat) : Bool :=
  (notAccepted s.relay.down).any (fun b => match b with
    | .clear x _ => x = target
    | _ => false)

/-- The fault bits of a channel or a bank that the control die has sent a CLEAR for, which no older STATUS brings back (R325). -/
def clearCovers (s : State) (off : Nat) : Bool :=
  (regHas R.DRV_FAULT off && clearOwed s (regIdx R.DRV_FAULT off))
    || (regHas R.DRV_HS_STAT off && clearOwed s (64 + regIdx R.DRV_HS_STAT off))

/-- A level is entered: its lane fault, its ledger record and notification kind 0x20 (R323, R329). DESIGN CHOICE (log 52). -/
def enterLevel (n temp l : Nat) (s : State) : State :=
  let s := match laneOfDirect s n with
    | some k => laneFault k (if l = 2 then 16 else if l = 3 then 32 else 2 ^ 11) s
    | none => s
  notify 0x20 n temp (ledgerReport (if l = 3 then streamSafety else streamFault) 0x0520 n temp s)

/-- The control die sees a channel's temperature level change from `old`: every level passed upward is entered, and where lockout has ended its lane is re-asserted (R323). -/
def seeLevel (n old : Nat) (s : State) : State :=
  let w := rd s R.DRV_TH_STAT n
  let new := fld w 15 14
  let s := ((List.range 4).filter (fun l => old < l && l ≤ new)).foldl (fun s l => enterLevel n (fld w 31 16) l s) s
  if old = 3 && new < 3 then
    match laneOfDirect s n with
    | some k => modLane k (fun l => { l with reassert := true }) s
    | none => s
  else s

/-- The control die's copy takes a segment (R298, R307). -/
def takeSegment (seg : Nat) (words : List W32) (s : State) : State :=
  let (offs, ts) := segOffsets seg
  let s := (offs.zip words).foldl (fun s x =>
    if clearCovers s x.1 then s
    else match regAt x.1 with
      | some r => { s with regs := tabSet r.reset s.regs x.1 x.2 }
      | none => s) s
  (ts.zip (words.drop offs.length)).foldl (fun s x => setTally x.1 x.2 s) s

/-- A STATUS frame arrives: the copy takes its segment, and the control die acts on a temperature level that has changed (R298, R307, R323). -/
def refresh (seg : Nat) (words : List W32) (s : State) : State :=
  let n := seg - 64
  let old := fld (rd s R.DRV_TH_STAT n) 15 14
  let s := takeSegment seg words s
  if 64 ≤ seg && seg < 128 then seeLevel n old s else s

/-- The up or down direction is idle, so that a frame sent now is the next accepted. -/
def Link.quiet (l : Link) : Bool := l.flight.isEmpty && l.waiting.isEmpty && l.expect = l.next && l.open'

/-- After a warm start the relay state ends with one full refresh (R514). -/
def refreshDone (s : State) : State :=
  if s.startup.phase = 4 && s.startup.warm && 233 ≤ s.relay.refreshed.length then
    { s with startup := { s.startup with phase := 5, phaseAt := s.now } }
  else s

/-- Energy in units of 62.5 fJ added to a counter of mJ, with what is left below 1 mJ (R295). -/
def addEnergy (k rem e : Nat) (s : State) : Nat × State :=
  ((rem + e) % (16 * 10 ^ 9), { s with drive := { s.drive with
    tallies := tabMod 0 s.drive.tallies k (fun v => v + BitVec.ofNat 32 ((rem + e) / (16 * 10 ^ 9))) } })

/-- Converter samples of a channel, the latest last: the latest is its current, and each taken during quench with the rail at battery recovers energy at its VBOOST, over 80 drive-die clocks (R271, R295). -/
def sampleCh (n : Nat) (samples : List DriveSample) (s : State) : State :=
  let c := drvCh s n
  let ma (x : DriveSample) : Nat := (c.codeMa (senseCode s n x.code)).toNat
  match samples.getLast? with
  | none => s
  | some last =>
    let s' := setDrvCh n { c with current := capNat 0xFFFF (ma last) } s
    let e := ((samples.filter (·.quench)).map (fun x => x.vboost * ma x * 80)).foldl (· + ·) 0
    let (r, s') := addEnergy T.boostRecovered s'.drive.recoveredRem e s'
    { s' with drive := { s'.drive with recoveredRem := r } }

/-- The energy that the converter's diode has passed, in units of 62.5 fJ: the inductor current is the shunt voltage over BOOST_SHUNT, and over no resistance the spec gives none (R295, R298). DESIGN CHOICE (log 51). -/
def diodeEnergy (s : State) (diode : List DiodeSpan) : Nat :=
  let r := df s R.BOOST_SHUNT 0 15 0
  let x := (diode.map (fun d => d.vboost * d.shunt * 10 * d.clocks)).foldl (· + ·) 0
  if r = 0 then (freeWord s).toNat else roundDivNat x r

/-- What the converter senses: VBOOST, the latest reading last, its switching cycle, and the energy its diode has passed (R293 to R295). -/
def sampleBoost (vboost : List (BitVec 16)) (shunt : Nat) (diode : List DiodeSpan) (s : State) : State :=
  let s := vboost.foldl (fun s v => boostSense v.toNat s) s
  let e := diodeEnergy s diode
  let s := if df s R.BOOST_SHUNT 0 15 0 = 0 && !diode.isEmpty then drawFree s else s
  let (r, s) := if diode.isEmpty then (s.drive.suppliedRem, s) else addEnergy T.boostSupplied s.drive.suppliedRem e s
  boostCycle shunt { s with drive := { s.drive with suppliedRem := r } }

/-- STATUS: the drive die sends a segment of its registers and the control die's copy takes it (R307). `samples` are those that the converter of channel `seg` has taken since its latest STATUS, the latest last; for segment 136 `vboost` are the readings of VBOOST in 10 mV, the latest last, `shunt` is the voltage across the boost shunt in uV, and `diode` lists the stretches in which the converter's diode conducted (R271, R293, R295). -/
def execStatus (t : Time) (seg : Fin 233) (samples : List DriveSample) (vboost : List (BitVec 16)) (shunt : Nat) (diode : List DiodeSpan) (s : State) : Host.Outcome State Fault Refusal :=
  let s := begin' t s
  if !s.relay.trained || !s.relay.up.quiet then .next s
  else
    let s := if seg.val < 64 then sampleCh seg samples s else s
    let s := if seg.val = 136 then sampleBoost vboost shunt diode s else s
    .next (withUp t (fun _ => true) (fun b s => match b with
      | .status seg words =>
        let s := refresh seg words s
        refreshDone { s with relay := { s.relay with
          refreshed := if s.relay.refreshed.contains seg then s.relay.refreshed else s.relay.refreshed ++ [seg] } }
      | _ => s)
      (pushUp (.status seg (segWords s seg)) s))

/-- IDLE: an IDLE frame is sent and accepted in one direction (R303, R306, R313). -/
def execIdle (t : Time) (down : Bool) (s : State) : Host.Outcome State Fault Refusal :=
  let s := begin' t s
  if !s.relay.trained || !(if down then s.relay.down.quiet else s.relay.up.quiet) then .next s
  else if down then .next (withDown t (fun _ => true) (fun _ s => s) (pushDown .idle s))
  else .next (withUp t (fun _ => true) (fun _ s => s) (pushUp .idle s))

/-! ### Discards, retransmission and training (R306 to R309) -/

/-- RELAY_FRAME_DISCARD: the next frame of a direction arrives with the bits of `flips` inverted, or `flips` arrive where no frame is on its way, and it is discarded; a bad CRC or a wrong link epoch counts (R306). DESIGN CHOICE (log 53). -/
def execRelayFrameDiscard (t : Time) (down : Bool) (flips : List Byte) (s : State) : Host.Outcome State Fault Refusal :=
  let s := begin' t s
  let l := if down then s.relay.down else s.relay.up
  let put (l : Link) (s : State) : State :=
    { s with relay := if down then { s.relay with down := l } else { s.relay with up := l } }
  if !s.relay.trained then .next s
  else match l.flight with
    | [] => .next (if wireOk flips then s else bump T.relayCrc (put { l with discards := l.discards + 1 } s))
    | f :: rest =>
      let crc := !wireOk (flipBits f.wire flips)
      if !crc && takes s l f then .next s
      else
        let s := put { l with flight := rest, discards := l.discards + 1 } s
        .next (if crc || f.epoch ≠ s.relay.epoch then bump T.relayCrc s else s)

/-- A link whose sender sends again from its oldest unacknowledged frame (R306). -/
def Link.resend (l : Link) (now : Time) : Link :=
  let fs := l.unacked.map (fun f => { f with sentAt := now })
  { l with unacked := fs, flight := fs }

/-- The oldest unacknowledged frame was sent 2 us ago (R306). -/
def Link.resendDue (l : Link) (now : Time) : Bool := l.unacked.head?.any (fun f => decide (f.sentAt + 2 * usUnits ≤ now))

/-- RELAY_RETRANSMIT: 2 us have passed without an acknowledgement (R306). -/
def execRelayRetransmit (t : Time) (down : Bool) (s : State) : Host.Outcome State Fault Refusal :=
  let s := begin' t s
  let l := if down then s.relay.down else s.relay.up
  if s.relay.trained && l.resendDue s.now then
    let l := l.resend s.now
    .next { s with relay := if down then { s.relay with down := l } else { s.relay with up := l } }
  else .next s

/-- RELAY_LINK_DOWN: the receiver of a direction has discarded 8 frames in a row, or accepted none for 20 us (R308). -/
def execRelayLinkDown (t : Time) (down : Bool) (s : State) : Host.Outcome State Fault Refusal :=
  let s := begin' t s
  let l := if down then s.relay.down else s.relay.up
  if s.relay.trained && (8 ≤ l.discards || l.acceptedAt + 20 * usUnits ≤ s.now) then
    .next { s with relay := { s.relay with
      trained := false
      down := { s.relay.down with flight := [] }
      up := { s.relay.up with flight := [] } } }
  else .next s

/-- A direction after training: unacknowledged frames are sent again under the link epoch (R308, R309). -/
def Link.trained (l : Link) (epoch : Nat) (now : Time) : Link :=
  let fs := l.unacked.map (fun f => { f with epoch := epoch, sentAt := now })
  { l with unacked := fs, flight := fs, discards := 0, acceptedAt := now }

/-- Every register that software writes in the drive, profile and protection pages, the profile headers after the phases they name (R439). DESIGN CHOICE (log 53). -/
def rewriteList : List Nat :=
  let regs := regMap.filter (fun r => 0x10000 ≤ r.base && r.base < 0x13000 && (r.rw ≠ 0 || r.base = R.LEASE_CFG.base))
  let offs (r : Reg) : List Nat :=
    (List.range r.count).flatMap (fun i => (List.range r.count2).map (fun j => regOff r i j))
  (regs.filter (fun r => r.base ≠ R.DRV_PROF_HDR.base)).flatMap offs ++ offs R.DRV_PROF_HDR

/-- The register rewrite after a drive die reset (R439). -/
def rewriteAll (s : State) : State :=
  let s := rewriteList.foldl (fun s off =>
    match regAt off with
    | some r => pushDown (.write off (tabGet r.reset s.regs off)) s
    | none => s) s
  { s with relay := { s.relay with rewriteDue := false, rewriting := true } }

/-- RELAY_TRAINED: training completes (R308, R309, R439); in the relay state start-up goes on (R514). `revision` is the drive die's revision, which it reports at the first training (R576). DEDUCED (log 54). -/
def execRelayTrained (t : Time) (revision : BitVec 8) (s : State) : Host.Outcome State Fault Refusal :=
  let s := begin' t s
  let r := s.relay
  let ready := 4 ≤ s.startup.phase && s.startup.phase ≤ 7 && !r.driveReset && !r.controlReset && r.driveSeen && r.controlSeen
  if r.trained || !ready then .next s
  else
    let epoch := if r.renew then (r.epoch + 1) % 16 else r.epoch
    let s := { s with
      relay := { r with
        trained := true
        epoch := epoch
        renew := false
        refreshed := []
        down := r.down.trained epoch s.now
        up := r.up.trained epoch s.now }
      drive := { s.drive with synced := false }
      startup := { s.startup with trained := true }
      security := if s.startup.trained then s.security else { s.security with driveRevision := revision.toNat } }
    let s := bump T.relayRetrain s
    let s := if leased s then s else sendLease s
    let s := if r.rewriteDue then rewriteAll s else s
    .next (if s.startup.phase = 4 && !s.startup.warm then
      { s with startup := { s.startup with phase := 5, phaseAt := s.now } } else s)

/-- Frames in flight at a reset: those the receivers have not accepted (R309). -/
def inFlight (s : State) : Nat :=
  let open' (l : Link) : Nat := (l.next + 256 - l.expect) % 256
  open' s.relay.down + open' s.relay.up + s.relay.down.waiting.length + s.relay.up.waiting.length

/-- The surviving die discards frames in flight, and the sequence numbers restart at zero (R309). -/
def cutLink (s : State) : State :=
  let n := inFlight s
  bumpBy T.relayLost n { s with relay := { s.relay with trained := false, down := {}, up := {}, renew := true } }

/-- The dispatcher's items for direct channels are discarded, and events count; what the lane engine still keeps is none of them (R28, R309). -/
def discardDirect (s : State) : State :=
  let held (x : DispItem) : Bool := x.binding.isDirect && !x.kept
  let gone := s.engine.heap.filter held
  let evs := (gone.filter (fun x => match x.body with
    | .event _ => true
    | _ => false)).length
  bumpBy T.relayLost evs { s with engine := { s.engine with heap := s.engine.heap.filter (fun x => !held x) } }

/-- FAR_RESET_SEEN: a die sees the far die's reset-state line: the control die the drive die's (`control`), or the drive die the control die's (R309, R316, R319). DESIGN CHOICE (log 77). -/
def execFarResetSeen (t : Time) (control : Bool) (s : State) : Host.Outcome State Fault Refusal :=
  let s := begin' t s
  if control then
    if s.relay.driveSeen then .next s
    else
      let lost := s.relay.lostStore
      let s := bumpBy T.relayLost lost (discardDirect (cutLink s))
      let s := { s with relay := { s.relay with driveSeen := true, lostStore := 0, rewriteDue := true, rewriting := true } }
      let s := if s.lease.held then bump T.leaseLapses (learnLapse 4 s) else s
      .next { s with lease := { s.lease with granting := none, known := false } }
  else
    if s.relay.controlSeen then .next s
    else
      let s := cutLink s
      let s := { s with relay := { s.relay with controlSeen := true } }
      let s := if leased s then { s with lease := { s.lease with lapseAt := s.now } } else s
      .next (lapse 3 s)

/-- TIME_SEND: the control die sends a TIME frame every 10 us (R307). -/
def execTimeSend (t : Time) (s : State) : Host.Outcome State Fault Refusal :=
  let s := begin' t s
  if s.relay.trained && s.relay.timeAt + 10 * usUnits ≤ s.now then
    .next (pushDown (.time s.now) { s with relay := { s.relay with timeAt := s.now } })
  else .next s

/-! ### Grants (R317, R330) -/

/-- The epoch of the next grant (R317, R519). -/
def nextEpoch (s : State) : Nat :=
  let g := (s.lease.epoch + 1) % 65536
  if g = 0 then 1 else g

/-- What every grant needs: the link trained, a LEASE frame that shows no lease held, and the rewrite of R439 acknowledged (R317, R439, R519). -/
def grantable (s : State) : Bool :=
  s.relay.trained && s.lease.known && !s.lease.held && s.lease.granting.isNone
    && !s.relay.rewriting && !s.relay.rewriteDue

/-- The holddown since the latest lapse has run (R317, R519). -/
def heldDown (s : State) : Bool := s.lease.lapseAt + rf s R.LEASE_CFG 0 23 8 * msUnits ≤ s.now

/-- The monitor sends a GRANT (R311, R329). DESIGN CHOICE (log 55). -/
def sendGrant (s : State) : State :=
  let g := nextEpoch s
  let s := traceEvent 6 0 (leBytes 2 g ++ [0, 0]) s
  notify 0x22 0 g (pushDown (.grant g) { s with lease := { s.lease with granting := some g } })

/-- The regrant limit has been reached (R317). -/
def limitReached (s : State) : Bool :=
  let m := rf s R.LEASE_CFG 0 31 24
  m ≠ 255 && m ≤ s.lease.regrants

/-- LEASE_REGRANT: the monitor grants a fresh lease after a lapse (R317). DESIGN CHOICE (log 55). -/
def execLeaseRegrant (t : Time) (s : State) : Host.Outcome State Fault Refusal :=
  let s := begin' t s
  if !grantable s || !s.lease.startupDone || !heldDown s then .next s
  else if limitReached s then
    if s.lease.requests = 0 then .next s
    else .next (sendGrant (ledgerReport streamSafety 0x0A22 0 (nextEpoch s)
      { s with lease := { s.lease with requests := s.lease.requests - 1, regrants := s.lease.regrants + 1 } }))
  else .next (sendGrant { s with lease := { s.lease with regrants := s.lease.regrants + 1 } })

/-- A write of LEASE_REQ: request 1 asks for a further grant once the limit is reached (R317, R330). DESIGN CHOICE (log 55). -/
def leaseRequest (a : Actor) (v : W32) (s : State) : State :=
  let host := decide (a = .host)
  if flag v 0 && limitReached s && s.lease.reqFrom ≠ some (s.now, !host) then
    { s with lease := { s.lease with requests := s.lease.requests + 1, reqFrom := some (s.now, host) } }
  else s

/-- LEASE_REQ: software writes LEASE_REQ (R317, R330). -/
def execLeaseReq (t : Time) (a : Actor) (v : W32) (s : State) : Host.Outcome State Fault Refusal :=
  .next (gated a R.LEASE_REQ.base 4 (leaseRequest a v) (begin' t s))

end Sys2Proof.Machine
end

