-- ==== Sys2Proof/Machine/Emulation.lean ====
section
/-! DEFINITION. Encoder emulation: what an output takes from its source each microsecond (R139, R140, R142). -/
namespace Sys2Proof.Machine

/-- The value of an output's source; none where it adds nothing (R139, R142, R145). -/
def emuSource (s : State) (n : Nat) : Option Int :=
  let idx := rf s R.EMU_CFG n 27 16
  let src := rf s R.EMU_CFG n 30 28
  if rb s R.EMU_CFG n 15 then some (mcSteps s)
  else if src = 1 then
    let l := lane s idx
    if l.configured && l.anchored then some l.at else none
  else if src = 2 then some (fb s (idx % 16)).pos
  else some (mcSteps s)

/-- The part of an owed number of edges beyond ±65,535 (R140). -/
def emuExcess (owed : Int) : Int := if 65535 < owed then owed - 65535 else if owed < -65535 then owed + 65535 else 0

/-- The output takes a new source value: the wrapped change goes into I, and what is owed beyond the limit is dropped (R139, R140). DESIGN CHOICE (log 27). -/
def emuTake (n : Nat) (x : Int) (s : State) : State :=
  let c := emu s n
  let d := match c.source with
    | none => 0
    | some y => wrapS 48 (x - y)
  let c1 := { c with
    source := some x
    total := wrapS 64 (c.total + d)
    forward := if d = 0 then c.forward else decide (0 < d) }
  let excess := emuExcess (emuOwedTotal s n c1 - c1.emitted)
  if excess = 0 then setEmu n { c1 with dropped := 0 } s
  else
    let c2 := { c1 with eBase := c1.eBase - excess, overrun := true, dropped := c1.dropped + excess.natAbs }
    notify 0x0E n c2.dropped (bumpBy (T.emuOverrun n) excess.natAbs (setEmu n c2 s))

/-- Take the source as it stands (R139). -/
def emuSample (n : Nat) (s : State) : State :=
  match emuSource s n with
  | none => setEmu n { emu s n with source := none } s
  | some x => emuTake n x s

/-- A write to EMU_CFG: a started output begins from A and B low with I at zero and its source as it stands; one that runs on takes what its old source has added, goes on from its new one, and a ratio that ISO 11786 mode changes applies to what follows (R139 to R142). DESIGN CHOICE (log 27). -/
def emuCfgWrite (n : Nat) (v : W32) (s : State) : State :=
  let was := rb s R.EMU_CFG n 31
  let s := if was then emuSample n s else s
  let old := emu s n
  let ratio := emuRatio s n old
  let owed := emuOwedTotal s n old
  let s := wr R.EMU_CFG n (regMerge R.EMU_CFG 0 v) s
  let kept : EmuCh := { num := old.num, den := old.den, heldNum := old.heldNum, overrun := old.overrun }
  if !flag v 31 then setEmu n kept s
  else if !was then setEmu n { kept with source := emuSource s n } s
  else
    -- EMU_An keeps its level as ISO 11786 mode comes on
    let phase := if rb s R.EMU_CFG n 15 then b2n (old.phase = 1 || old.phase = 2) else old.phase
    let c := { old with source := emuSource s n, phase := phase }
    setEmu n (if emuRatio s n c = ratio then c else { c with eBase := owed, iBase := c.total }) s

/-- EMU_UPDATE (R139, R140, R142). DESIGN CHOICE (log 27). -/
def execEmuUpdate (t : Time) (n : Fin 4) (s : State) : Host.Outcome State Fault Refusal :=
  let s := begin' t s
  if rb s R.EMU_CFG n 31 then .next (emuSample n s) else .next s

end Sys2Proof.Machine
end

