-- ==== Sys2Proof/Machine/LoopUnit.lean ====
section
/-! DEFINITION. The closed-loop control engine (R353 to R378). -/
namespace Sys2Proof.Machine

def loop (s : State) (n : Nat) : LoopCh := tabGet {} s.loops.ch n
def setLoop (n : Nat) (c : LoopCh) (s : State) : State := { s with loops := { s.loops with ch := tabSet {} s.loops.ch n c } }
def modLoop (n : Nat) (f : LoopCh → LoopCh) (s : State) : State := setLoop n (f (loop s n)) s

/-- The ring of loop parameters. -/
def loopRing : Nat := 88

/-! ### The context image (R357) -/

def LoopCh.template (c : LoopCh) : Nat := u8 c.image 0
def LoopCh.trigger (c : LoopCh) : Nat := u8 c.image 1 % 4
def LoopCh.flag (c : LoopCh) (i : Nat) : Bool := bitOf (u8 c.image 2) i
/-- g, the signal unit of the fallback path (R368). -/
def LoopCh.g (c : LoopCh) : Nat := capNat 16 (u8 c.image 3)
def LoopCh.period (c : LoopCh) : Nat := capNat 1000000 (max 50 (u32 c.image 4))
def LoopCh.courseN (c : LoopCh) : Nat := capNat (2 ^ 20) (max 1 (u32 c.image 12))
def LoopCh.trigIndex (c : LoopCh) : Nat := u16 c.image 16
def LoopCh.idleMs (c : LoopCh) : Nat := u16 c.image 18
/-- A binding: kind and index (R358, R359). -/
def LoopCh.input (c : LoopCh) (i : Nat) : Nat × Nat := (bits (u32 c.image (20 + 4 * i)) 31 28, bits (u32 c.image (20 + 4 * i)) 27 16)
def LoopCh.out (c : LoopCh) : Nat × Nat := (bits (u32 c.image 36) 31 28, bits (u32 c.image 36) 27 16)
def LoopCh.uIdle (c : LoopCh) : Int := i32 c.image 68
def LoopCh.outShift (c : LoopCh) : Nat := u8 c.image 72 % 32
def LoopCh.outRing (c : LoopCh) : Nat := u8 c.image 73
def LoopCh.ringDiv (c : LoopCh) : Nat := max 1 (u16 c.image 74)

/-! ### Loop-parameter descriptors (R354 to R357) -/

/-- Highest index of an input or output binding's kind. -/
def inputTop (kind : Nat) : Nat :=
  match kind with
  | 1 => 15 | 2 => 15 | 3 => 15 | 4 => 255 | 5 => 255 | 6 => 4095 | 8 => 4095 | 9 => 2047 | 0xA => 2047 | _ => 4095
def outputTop (kind : Nat) : Nat :=
  match kind with
  | 1 => 47 | 2 => 47 | 3 => 63 | 4 => 2047 | _ => 4095

/-- The output resource belongs to the owner of ring 88 (R353, R356). -/
def outGranted (s : State) (o : Nat × Nat) : Bool :=
  match o.1 with
  | 1 => pwmOwner s o.2 = ringOwner s loopRing
  | 2 => pwmOwner s o.2 = ringOwner s loopRing
  | 3 => drvOwner s o.2 = ringOwner s loopRing
  | _ => true

/-- The image reads a feedback channel, an analogue input or a trigger latch. -/
def readsFeedback (c : LoopCh) : Bool :=
  c.trigger = 2 || (List.range 4).any (fun i => 1 ≤ (c.input i).1 && (c.input i).1 ≤ 3)

/-- Every resource that the image reads or writes belongs to the owner of ring 88 (R353, R356); feedback channels, analogue inputs and latches are the owner's of ring 87 (R571). DESIGN CHOICE (log 62): lanes and caravans have no owner. DESIGN CHOICE (log 62). -/
def loopGranted (s : State) (c : LoopCh) : Bool :=
  outGranted s c.out && (!readsFeedback c || ringOwner s 87 = ringOwner s loopRing)

/-- The status of a context image, 0 if in order (R356 to R359). DESIGN CHOICE (log 62). -/
def imageStatus (s : State) (c : LoopCh) : Nat :=
  let ring' := c.outRing
  let o := c.out
  if 2 ≤ c.template || c.trigger = 3 then 3
  else if (c.trigger = 1 && 4096 ≤ c.trigIndex) || (c.trigger = 2 && 8 ≤ c.trigIndex) then 3
  else if (List.range 4).any (fun i => 0xB ≤ (c.input i).1 || inputTop (c.input i).1 < (c.input i).2) then 3
  else if 5 ≤ o.1 || outputTop o.1 < o.2 || (o.1 = 2 && c.template = 0) then 3
  else if ring' ≠ 0 && !(91 ≤ ring' && ring' ≤ 127 && (ring s ring').kind = 0xE
      && ringOwner s ring' = ringOwner s loopRing) then 3
  else if !loopGranted s c then 4
  else 0

/-- The loop that a descriptor names. -/
def descLoop (x : Desc) : Nat := u8 x.bytes 8

/-- A buffer of a loop-parameter descriptor; none if it is not aligned (R355). -/
def descBuffer (x : Desc) : Option Nat := if u64 x.bytes 16 % 64 = 0 then some (u64 x.bytes 16) else none

/-- CONFIG (R354, R357). DESIGN CHOICE (log 62). -/
def loopConfig (x : Desc) (s : State) : DescResult :=
  let n := descLoop x
  if (loop s n).enabled then { state := s, status := 0x0100 }
  else match descBuffer x with
    | none => { state := s, status := 3 }
    | some b =>
      let c := { loop s n with image := dmaRead s (ring s loopRing).onChip b 128 }
      let st := imageStatus s c
      if st ≠ 0 then { state := s, status := st } else { state := setLoop n c s }

/-- A term from its 12 bytes (R366). -/
def termOf (b : List Byte) : Term where
  coef := i32 b 0
  operand := u8 b 4 % 64
  r := u8 b 5 % 32
  l := u8 b 5 / 32
  dest := u8 b 6 % 32
  last := bitOf (u8 b 6) 7
  ends := bitOf (u8 b 7) 0
  fcoef := i16 b 8
  fl := u8 b 10 % 8

/-- PROGRAM (R354, R355). -/
def loopProgram (x : Desc) (s : State) : DescResult :=
  let first := u8 x.bytes 10
  let count := u8 x.bytes 11
  if count = 0 || 64 < first + count then { state := s, status := 3 }
  else match descBuffer x with
    | none => { state := s, status := 3 }
    | some b =>
      let bytes := dmaRead s (ring s loopRing).onChip b (12 * count)
      { state := modLoop (descLoop x) (fun c => { c with
          terms := (List.range count).foldl (fun t i => tabSet {} t (first + i) (termOf (bytes.drop (12 * i)))) c.terms }) s }

/-- A program without an end term is undefined use (R378). -/
def noEnd (c : LoopCh) : Bool := c.template = 1 && !(List.range 64).any (fun i => (tabGet {} c.terms i).ends)

/-- A lane or caravan that a loop names is not configured (R356). -/
def loopDangling (s : State) (c : LoopCh) : Bool :=
  let bad (p : Nat × Nat) : Bool :=
    ((p.1 = 6 || p.1 = 8) && !(lane s p.2).configured) || ((p.1 = 9 || p.1 = 0xA) && !(caravan s p.2).configured)
  (List.range 4).any (fun i => bad (c.input i)) || (c.trigger = 1 && !(lane s c.trigIndex).configured)
    || (c.out.1 = 4 && !(caravan s c.out.2).configured)

/-- Two output bindings have one target. -/
def sameTarget (a b : Nat × Nat) : Bool :=
  let k (x : Nat) : Nat := if x = 2 then 1 else x
  a.1 ≠ 0 && k a.1 = k b.1 && a.2 = b.2

/-- Enabled loops, ascending. -/
def enabledLoops (s : State) : List Nat := (s.loops.ch.filter (fun e => e.2.enabled)).map (·.1)

/-- ENABLE (R356, R363). -/
def loopEnable (x : Desc) (s : State) : DescResult :=
  let n := descLoop x
  let c := loop s n
  if c.enabled then { state := s }
  else if c.image.isEmpty || loopDangling s c then { state := s, status := 0x0101 }
  else if !loopGranted s c then { state := s, status := 4 }
  else if (enabledLoops s).any (fun m => sameTarget c.out (loop s m).out) then { state := s, status := 0x0102 }
  else { state := setLoop n { c with enabled := true, enabledAt := s.now, primed := none, due := [],
                                     waiting := none, sinceRecord := 0 } s }

/-! ### Outputs (R359) -/

/-- Write `y` to a loop's output target; `s15` is the period of kind 0x2. -/
def loopWrite (n : Nat) (y s15 : Int) (s : State) : State :=
  let c := loop s n
  let v := roundShift y c.outShift
  let d := (clampInt 0 0x8000 v).toNat
  let cmp (per : Nat) : W32 := BitVec.ofNat 32 (roundDivNat (d * per * 16) 0x8000)
  let s := setLoop n { c with y := y } s
  let pwm (i : Nat) (per : Option W32) (p : Nat) (s : State) : State :=
    let s := if (laneOfPwm s i).isSome then bump T.loopSkip s else s
    cross 10 (pwmLoopWrite i (some (cmp p)) per) s
  match c.out with
  | (1, i) => pwm i none (pwmPer s i) s
  | (2, i) =>
    let per := (clampInt 2 16777215 s15).toNat
    pwm i (some (BitVec.ofNat 32 per)) per s
  | (3, i) => pushDown (.write (regOff R.DRV_HOLD_SCALE i 0) (BitVec.ofNat 32 d)) s
  | (4, k) => { s with loops := { s.loops with factors := s.loops.factors ++ [(k, (clampInt 0 0xFFFF v).toNat)] } }
  | _ => s

/-- The output record of a sample (R359). -/
def loopRecord (n : Nat) (at' : Time) (in0 in1 : Int) (s : State) : State :=
  let c := loop s n
  if c.outRing = 0 then s
  else
    let k := c.sinceRecord + 1
    if k < c.ringDiv then setLoop n { c with sinceRecord := k } s
    else
      let flags := b2n c.lastFallback + 2 * b2n c.limited + 4 * b2n c.skipNoted
      deliver c.outRing 1 (leBytes 2 n ++ leBytes 1 flags ++ [0] ++ leBytes 8 at' ++ leBytes 4 (wrapU 32 c.y)
          ++ leBytes 4 (wrapU 32 in0) ++ leBytes 4 (wrapU 32 in1))
        (setLoop n { c with sinceRecord := 0, skipNoted := false } s)

/-- DISABLE (R354). -/
def loopDisable (x : Desc) (s : State) : DescResult :=
  let n := descLoop x
  let c := loop s n
  if !c.enabled then { state := s }
  else
    let s := setLoop n { c with enabled := false, primed := none, due := [], waiting := none } s
    { state := if c.flag 4 then loopWrite n c.uIdle (tabGet 0 c.st 15) s else s }

/-- RESET_STATE (R354). -/
def loopResetState (x : Desc) (s : State) : DescResult :=
  let v := i32 x.bytes 12
  { state := modLoop (descLoop x) (fun c => { c with st := tabSet 0 (tabSet 0 [] 2 v) 3 v }) s }

/-- POST (R354, R355). -/
def loopPost (x : Desc) (s : State) : DescResult :=
  let first := u8 x.bytes 10
  let count := u8 x.bytes 11
  if count = 0 || 8 < count || 256 < first + count then { state := s, status := 3 }
  else
    { state := { s with loops := { s.loops with
        post := (List.range count).foldl (fun t i => tabSet 0 t (first + i) (i32 x.bytes (24 + 4 * i))) s.loops.post } } }

/-- The 128-byte record of READ (R359). -/
def loopState (c : LoopCh) : List Byte :=
  leBytes 8 (c.lastAt.getD 0) ++ leBytes 4 (wrapU 32 c.y)
    ++ leBytes 4 (b2n c.enabled + 2 * b2n c.lastFallback + 4 * b2n c.limited + 8 * b2n c.idle)
    ++ leBytes 4 c.skips.toNat ++ leBytes 4 c.samples.toNat ++ leBytes 8 0
    ++ (List.range 16).flatMap (fun i => leBytes 4 (wrapU 32 (tabGet 0 c.st i))) ++ leBytes 32 0

/-- READ (R354, R359). -/
def loopRead (x : Desc) (s : State) : DescResult :=
  match descBuffer x with
  | none => { state := s, status := 3 }
  | some b => { state := dmaWrite (ring s loopRing).onChip b (loopState (loop s (descLoop x))) s }

/-- CONFIG. -/
def execConfig (t : Time) (s : State) : Host.Outcome State Fault Refusal :=
  .next (runDesc loopRing 1 loopConfig (begin' t s))
/-- PROGRAM. -/
def execProgram (t : Time) (s : State) : Host.Outcome State Fault Refusal :=
  .next (runDesc loopRing 2 loopProgram (begin' t s))
/-- ENABLE. -/
def execEnable (t : Time) (s : State) : Host.Outcome State Fault Refusal :=
  .next (runDesc loopRing 3 loopEnable (begin' t s))
/-- DISABLE. -/
def execDisable (t : Time) (s : State) : Host.Outcome State Fault Refusal :=
  .next (runDesc loopRing 4 loopDisable (begin' t s))
/-- RESET_STATE. -/
def execResetState (t : Time) (s : State) : Host.Outcome State Fault Refusal :=
  .next (runDesc loopRing 5 loopResetState (begin' t s))
/-- POST. -/
def execPost (t : Time) (s : State) : Host.Outcome State Fault Refusal :=
  .next (runDesc loopRing 6 loopPost (begin' t s))
/-- READ. -/
def execRead (t : Time) (s : State) : Host.Outcome State Fault Refusal :=
  .next (runDesc loopRing 7 loopRead (begin' t s))

/-! ### Inputs (R358, R361) -/

/-- A lane's course at an instant, in cs, extrapolated from its latest visit (R361). -/
def courseAt (s : State) (l : Lane) (t : Time) : Int :=
  let dt : Int := (t : Int) - tk s
  wrapS 48 (roundDiv (l.course * (2 * secUnits * secUnits) + l.v * dt * (2 * secUnits) * 2 ^ 8 + l.a * dt * dt * 2 ^ 8)
    (2 * secUnits * secUnits * 2 ^ 16))

/-- The value of input `i` at an instant; `mult` is the multiple of a course trigger (R358). DESIGN CHOICE (log 60). -/
def loopInput (s : State) (c : LoopCh) (t : Time) (mult : Option Int) (i : Nat) : Int :=
  let (kind, x) := c.input i
  let ref := (c.refs.drop i).headD 0
  match kind with
  | 1 => wrapS 32 (roundDiv (fbPosition s x - ref) (2 ^ 8))
  | 2 => satS 32 (roundDiv (fbSpeed s x) (2 ^ 12))
  | 3 => (ain s x).result
  | 4 => tabGet 0 s.loops.post x
  | 5 => (loop s x).y
  | 6 =>
    let at' := match mult with
      | some m => if x = c.trigIndex then m else courseAt s (lane s x) t
      | none => courseAt s (lane s x) t
    wrapS 32 (roundDiv (wrapS 48 (at' - ref) * i32 c.image 40) (2 ^ 16) + i32 c.image 44)
  | 7 => s.course.speed
  | 8 => (lane s x).v
  | 9 => (capNat (2 ^ 31 - 1) (caravan s x).totals.demand : Nat)
  | 0xA => (caravan s x).totals.on
  | _ => 0

/-! ### Arithmetic of the main path (R365 to R367) -/

/-- The result of a sample's computation: the states, the output to apply if any, whether it was limited, and the cost in terms. -/
structure Computed where
  st : Tab Int
  y : Option Int
  limited : Bool
  terms : Nat

/-- One term added to a 64-bit sum (R365). -/
def mainAdd (acc : Int) (tm : Term) (x : Int) : Int :=
  satS 64 (acc + roundShift (satS 64 (tm.coef * x * 2 ^ tm.l)) tm.r)

/-- One term added to a 40-bit sum of the fallback path (R368). -/
def fallAdd (acc : Int) (tm : Term) (x : Int) : Int := satS 40 (acc + tm.fcoef * x * 2 ^ tm.fl)

/-- The arithmetic of a path: adding a term, closing a sum, and saturating a signal. -/
structure Path where
  add : Int → Term → Int → Int
  close : Int → Int
  sat : Int → Int

def mainPath : Path := { add := mainAdd, close := satS 32, sat := satS 32 }
def fallPath : Path := { add := fallAdd, close := fun acc => satS 16 (roundShift acc 15), sat := satS 16 }

/-- A sum of terms. -/
def Path.sum (p : Path) (l : List (Term × Int)) : Int := p.close (l.foldl (fun acc e => p.add acc e.1 e.2) 0)

/-- Main to fallback, the value in units of 2^g (R368). DESIGN CHOICE (log 60). -/
def toFall (g : Nat) (x : Int) : Int := satS 16 (roundShift x g)

/-- What a template computes with: the path, the inputs, the limits umin, umax, rate, imin and imax, and the chain's error before limits. -/
structure LoopIn where
  path : Path
  ins : List Int
  e : Int
  umin : Int
  umax : Int
  rate : Int
  imin : Int
  imax : Int

def LoopIn.x (a : LoopIn) (i : Nat) : Int := (a.ins.drop i).headD 0

/-- Apply the output limits (R366, R367). DESIGN CHOICE (log 60). -/
def LoopIn.limit (a : LoopIn) (u from' : Int) : Int :=
  let u := clampInt a.umin a.umax u
  if a.rate ≠ 0 then clampInt (from' - a.rate) (from' + a.rate) u else u

/-- The chain template (R367). -/
def chain (c : LoopCh) (a : LoopIn) (st : Tab Int) : Computed :=
  let p := a.path
  let T (i : Nat) : Term := tabGet {} c.terms i
  let g (i : Nat) : Int := tabGet 0 st i
  let e := a.e
  let b1 := c.flag 0
  let b2 := c.flag 1
  let ef := if b1 then p.sum [(T 0, e), (T 1, g 5), (T 2, g 6), (T 3, g 7), (T 4, g 8)] else e
  let pr := p.sum [(T 5, ef)]
  let d := p.sum [(T 8, g 1), (T 7, p.sat (ef - g 0))]
  let di :=
    if !c.flag 2 then
      (if (0 < g 14 && 0 < ef) || (g 14 < 0 && ef < 0) then 0 else p.sum [(T 6, ef)])
    else p.sum [(T 6, ef), (T 10, g 4)]
  let i := clampInt a.imin a.imax (p.sat (g 2 + di))
  let u1 := p.sat (pr + i + d + p.sum [(T 9, a.x 2)])
  let u2 := if b2 then p.sum [(T 11, u1), (T 12, g 9), (T 13, g 10), (T 14, g 11), (T 15, g 12)] else u1
  let u := a.limit u2 (g 3)
  let put (k : Nat) (v : Int) (t : Tab Int) : Tab Int := tabSet 0 t k v
  let st := if b1 then put 6 (g 5) (put 5 e (put 8 (g 7) (put 7 ef st))) else st
  let st := if b2 then put 10 (g 9) (put 9 u1 (put 12 (g 11) (put 11 u2 st))) else st
  let side : Int := if u < u2 then 1 else if u2 < u then -1 else 0
  { st := put 14 side (put 4 (p.sat (u - u2)) (put 0 ef (put 1 d (put 2 i (put 3 u st)))))
    y := some u, limited := u ≠ u2
    terms := 5 + b2n (c.flag 2) + 5 * b2n b1 + 5 * b2n b2 }

/-- A program in progress: states, the open sum, the output written in this sample, terms run. -/
structure Running where
  st : Tab Int
  acc : Int
  y : Option Int
  count : Nat
  done : Bool

/-- One term of a program (R366). `y0` is the output applied before this sample. -/
def runTerm (a : LoopIn) (y0 : Int) (w : Running) (tm : Term) : Running :=
  if w.done then w
  else
    let x : Int :=
      if tm.operand < 4 then a.x tm.operand
      else if tm.operand < 20 then tabGet 0 w.st (tm.operand - 4)
      else if tm.operand = 20 then 1
      else if tm.operand = 21 then w.y.getD y0
      else 0
    let acc := a.path.add w.acc tm x
    if tm.last || tm.ends then
      let v := a.path.close acc
      { st := if tm.dest < 16 then tabSet 0 w.st tm.dest v else w.st
        acc := 0
        y := if tm.dest = 16 then some v else w.y
        count := w.count + 1
        done := tm.ends }
    else { w with acc := acc, count := w.count + 1 }

/-- The program template (R366). -/
def program (c : LoopCh) (a : LoopIn) (y0 : Int) (st : Tab Int) : Computed :=
  let w := (List.range 64).foldl (fun w i => runTerm a y0 w (tabGet {} c.terms i))
    { st := st, acc := 0, y := none, count := 0, done := false }
  match w.y with
  | none => { st := w.st, y := none, limited := false, terms := w.count }
  | some y => { st := w.st, y := some (a.limit y y0), limited := a.limit y y0 ≠ y, terms := w.count }

/-- The chain's error, formed in 32 bits (R367, R368). -/
def chainError (c : LoopCh) (in0 in1 : Int) : Int := if c.flag 3 then wrapS 32 (in0 - in1) else satS 32 (in0 - in1)

/-- Compute a sample of a loop on a path. -/
def computeLoop (c : LoopCh) (fallback : Bool) (ins : List Int) : Computed :=
  let e := chainError c ((ins.drop 0).headD 0) ((ins.drop 1).headD 0)
  let g := c.g
  let f (x : Int) : Int := if fallback then toFall g x else x
  let a : LoopIn := {
    path := if fallback then fallPath else mainPath
    ins := ins.map f, e := f e
    umin := f (i32 c.image 48), umax := f (i32 c.image 52), rate := f (i32 c.image 56)
    imin := f (i32 c.image 60), imax := f (i32 c.image 64) }
  let st := if fallback then (List.range 16).foldl (fun t i => tabSet 0 t i (f (tabGet 0 c.st i))) [] else c.st
  let r := if c.template = 0 then chain c a st else program c a (f c.y) st
  if fallback then
    { r with
      st := (List.range 16).foldl (fun t i => tabSet 0 t i (tabGet 0 r.st i * 2 ^ g)) []
      y := r.y.map (· * 2 ^ g) }
  else r

/-! ### Samples (R360 to R364, R369, R370) -/

/-- A sample on the first free MAC lane: the lanes after it and its end (R369). -/
def onMacLane (start : Nat) (w : List Nat × Nat) (cost : Nat) : List Nat × Nat :=
  let k := (List.range 4).foldl (fun b i => if (w.1.drop i).headD 0 < (w.1.drop b).headD 0 then i else b) 0
  let fin := max start ((w.1.drop k).headD 0) + cost
  (w.1.set k fin, max w.2 fin)

/-- Account a sample's cost in the coincident load, and on the main path its latency: the samples of one instant take the MAC lanes by ascending loop index (R369). DEDUCED (log 61). -/
def accountLoad (n cost : Nat) (s : State) : State :=
  let l := s.loops
  let w := (s.now, cost) :: l.window.filter (fun e => decide (s.now < e.1 + usUnits))
  let load := roundDivNat ((w.map (·.2)).foldl (· + ·) 0 * 100) 2400
  let ms := s.now / msUnits
  let start := 3 * s.now
  let (base, group) := if l.macAt = s.now then (l.macBase, l.macGroup) else (l.macFree, [])
  let group := tabSet 0 group n cost
  let (free, fin) := (group.map (·.2)).foldl (onMacLane start) (base, start)
  { s with loops := { l with
      window := w
      peak := capNat 0xFFFF (max l.peak load)
      recent := if ms = l.ms then l.recent else if ms = l.ms + 1 then l.msPeak else 0
      ms := ms
      msPeak := if ms = l.ms then max l.msPeak load else load
      macFree := if s.loops.fallback then l.macFree else free
      macBase := if s.loops.fallback then l.macBase else base
      macGroup := if s.loops.fallback then l.macGroup else group
      macAt := if s.loops.fallback then l.macAt else s.now
      latency := if s.loops.fallback then l.latency else max l.latency (fin - start) } }

/-- Run a sample of loop `n` now; `mult` is the multiple of a course trigger. -/
def runSample (n : Nat) (mult : Option Int) (s : State) : State :=
  let c := loop s n
  let fallback := s.loops.fallback
  let s := match c.waiting with
    | some (y, s15) => if fallback then loopWrite n y s15 s else s
    | none => s
  let c := loop s n
  let ins := (List.range 4).map (fun i => loopInput s c s.now mult i)
  let r := computeLoop c fallback ins
  let s := setLoop n { c with
    st := r.st
    limited := r.limited
    lastFallback := fallback
    lastAt := some s.now
    samples := c.samples + 1
    skipping := false
    idle := false
    waiting := if fallback then r.y.map (fun y => (y, tabGet 0 r.st 15)) else none } s
  let s := if r.limited then bump T.loopLimited s else s
  let s := accountLoad n (r.terms + 16) s
  let s := match r.y with
    | some y => if fallback then s else loopWrite n y (tabGet 0 r.st 15) s
    | none => s
  let s := traceEvent 9 (b2n fallback)
    ([BitVec.ofNat 8 n, BitVec.ofNat 8 (b2n fallback + 2 * b2n r.limited + 4 * b2n c.skipNoted), 0, 0]
      ++ leBytes 4 (wrapU 32 (loop s n).y)) s
  loopRecord n s.now ((ins.drop 0).headD 0) ((ins.drop 1).headD 0) s

/-- A trigger of loop `n` now: run, or skip within 50 us of the previous sample (R363). -/
def triggerLoop (n : Nat) (mult : Option Int) (s : State) : State :=
  let c := loop s n
  let close := match c.lastAt with
    | some t => decide (s.now < t + 50 * usUnits)
    | none => false
  if close then
    let s := bump T.loopSkip (setLoop n { c with skips := c.skips + 1, skipping := true, skipNoted := true } s)
    if c.skipping then s else notify 0x28 n (loop s n).skips.toNat s
  else runSample n mult s

/-- A latch edge that this loop has not yet answered (R362). -/
def latchDue (s : State) (c : LoopCh) (primed : Time) : Option Time :=
  match tabGet none s.feedback.latchEdge c.trigIndex with
  | some e => if c.latchSeen = some e || e ≤ primed then none else some e
  | none => none

/-- LOOP_SAMPLE: the trigger of loop `n` fires now: a periodic instant, a predicted crossing, or an accepted latch edge (R360 to R364). DESIGN CHOICE (log 10). -/
def execLoopSample (t : Time) (n : Fin 256) (s : State) : Host.Outcome State Fault Refusal :=
  let s := begin' t s
  let c := loop s n
  if c.enabled && noEnd c then .fault (.undefinedUse 378)
  else match c.enabled, c.primed with
  | true, some p =>
    match c.trigger with
    | 0 =>
      let per : Int := 200 * c.period
      .next (if p < s.now && ((s.now : Int) - 200 * (u32 c.image 8)) % per = 0 && c.lastAt ≠ some s.now then
        triggerLoop n none s else s)
    | 1 =>
      match c.due with
      | (w, m) :: rest => .next (if w ≤ s.now then triggerLoop n (some m) (setLoop n { c with due := rest } s) else s)
      | [] => .next s
    | _ =>
      match latchDue s c p with
      | some e => .next (triggerLoop n none (setLoop n { c with latchSeen := some e } s))
      | none => .next s
  | _, _ => .next s

/-- IDLE_TIMEOUT (R363). -/
def execIdleTimeout (t : Time) (n : Fin 256) (s : State) : Host.Outcome State Fault Refusal :=
  let s := begin' t s
  let c := loop s n
  if c.enabled && !c.idle && c.idleMs ≠ 0 && max (c.lastAt.getD 0) c.enabledAt + c.idleMs * msUnits ≤ s.now then
    .next (notify 0x2A n c.idleMs (loopWrite n c.uIdle (tabGet 0 c.st 15) (setLoop n { c with idle := true } s)))
  else .next s

/-! ### At a sweep close (R359, R361, R363) -/

/-- Caravan factors that loops have written take effect (R359). -/
def loopFactors (s : State) : State :=
  let l := s.loops.factors
  l.foldl (fun s e => if (caravan s e.1).configured then modCaravan e.1 (fun c => { c with factor := e.2 }) s else s)
    { s with loops := { s.loops with factors := [] } }

/-- The crossings of multiples that a lane will make in the coming sweep, from the `k`-th multiple on (R361). -/
def crossingsAhead (s : State) (l : Lane) (c0 N : Int) : Nat → Int → List (Time × Int)
  | 0, _ => []
  | fuel + 1, k =>
    let m := wrapS 48 (c0 + k * N)
    match crossing s l m with
    | none => []
    | some t => if (tk s : Int) + s.course.set.period < t then [] else (t.toNat, m) :: crossingsAhead s l c0 N fuel (k + 1)

/-- Record a loop's references at the first close after its ENABLE, and schedule its course samples (R361, R363). DESIGN CHOICE (log 62). -/
def loopClose (n : Nat) (s : State) : State :=
  let c := loop s n
  let c := if c.primed.isSome then c else { c with
    primed := some (tk s)
    refs := (List.range 4).map (fun i => match c.input i with
      | (1, x) => fbPosition s x
      | (6, x) => (lane s x).at
      | _ => 0)
    c0 := (lane s c.trigIndex).at }
  let l := lane s c.trigIndex
  let due := if c.trigger = 1 && l.configured && l.anchored then
      let N : Int := c.courseN
      let k := wrapS 48 (l.at - c.c0) / N + 1
      crossingsAhead s l c.c0 N 65536 (if k < 1 then 1 else k)
    else []
  setLoop n { c with due := due } s

/-- Every enabled loop at a sweep close. -/
def loopsClose (s : State) : State := (enabledLoops s).foldl (fun s n => loopClose n s) s

/-! ### The two paths and the self-test (R371 to R374) -/

/-- All enabled loops move to the fallback path: their states are converted to it and back to main format (R371). -/
def toFallback (s : State) : State :=
  { s with loops := { s.loops with
      fallback := true
      ch := tabMap {} (fun c => if !c.enabled then c else { c with
        st := (List.range 16).foldl (fun t i => tabSet 0 t i (toFall c.g (tabGet 0 c.st i) * 2 ^ c.g)) []
        waiting := none }) s.loops.ch } }

/-- All loops move back to the main path; outputs not yet applied are discarded (R372). -/
def toMain (s : State) : State :=
  { s with loops := { s.loops with
      fallback := false
      stay := 0
      ch := tabMap {} (fun c => { c with waiting := none }) s.loops.ch } }

/-- A self-test is due: at start-up, on request, or after the interval (R373, R520). -/
def bistDue (s : State) : Bool :=
  let iv := rf s R.LOOP_BIST_CFG 0 15 0
  (s.startup.phase = 6 && !s.startup.bistStarted) || s.loops.bistReq
    || (operational s && iv ≠ 0 && decide (s.loops.bistAt + iv * secUnits ≤ s.now))

/-- LOOP_BIST (R373). -/
def execLoopBist (t : Time) (s : State) : Host.Outcome State Fault Refusal :=
  let s := begin' t s
  if s.loops.bistActive || !bistDue s then .next s
  else
    let s := bump T.loopBistRuns (if s.loops.fallback then s else toFallback s)
    .next { s with
      loops := { s.loops with bistActive := true, bistReq := false, bistAt := s.now }
      startup := { s.startup with bistStarted := s.startup.bistStarted || s.startup.phase = 6 } }

/-- A write of LOOP_BIST_REQ: a request during a test is merged into it (R373). -/
def bistRequest (v : W32) (s : State) : State :=
  if flag v 0 && !s.loops.bistActive then { s with loops := { s.loops with bistReq := true } } else s

/-- LOOP_BIST_REQ: any actor may write it (R373, R571). -/
def execLoopBistReq (t : Time) (a : Actor) (v : W32) (s : State) : Host.Outcome State Fault Refusal :=
  .next (gated a R.LOOP_BIST_REQ.base 4 (bistRequest v) (begin' t s))

/-- The self-test ends (R374). -/
def bistEnds (pass : Bool) (s : State) : State :=
  let stay := s.loops.stay
  let s := { s with loops := { s.loops with bistActive := false } }
  if pass then
    let s := toMain s
    if stay = 0 then s else notify 0x29 1 (if stay = 1 then 1 else 2) s
  else
    let s := { s with loops := { s.loops with bistFail := true, stay := 3 } }
    ledgerReport streamSafety 0x0729 0 3 (notify 0x29 0 3 s)

end Sys2Proof.Machine
end

