-- ==== Sys2Proof/Machine/Observe.lean ====
section
/-! DEFINITION. The trace port's own packets and the tally capture (R535 to R544). -/
namespace Sys2Proof.Machine

/-- The port is enabled (R540). -/
def traceEnabled (s : State) : Bool := rb s R.TRACE_CFG 0 31

/-- Put a SYNC at the first packet boundary of the FIFO, or drop it for want of room (R538, R539). DESIGN CHOICE (log 24). -/
def traceSyncAt (t : Time) (tr : Trace) : Trace :=
  let tr := traceRecover t tr
  if tr.lastSync = t then tr
  else if tr.lost = 0 && traceLevel tr + 13 ≤ 4096 then
    { tr with
      fifo := (if tr.sent = 0 then [] else tr.fifo.take 1) ++ [traceSyncPacket t]
        ++ (if tr.sent = 0 then tr.fifo else tr.fifo.drop 1)
      lastSync := t }
  else { tr with dropped := tr.dropped + 1, lost := tr.lost + 1, lastSync := t }

/-- TRACE_SYNC: 20,000 device-time units have passed since the previous SYNC (R538). -/
def execTraceSync (t : Time) (s : State) : Host.Outcome State Fault Refusal :=
  let s := begin' t s
  if traceEnabled s && 20000 ≤ s.now - s.trace.lastSync then .next { s with trace := traceSyncAt s.now s.trace }
  else .next s

/-- OVERFLOW: room has returned after a loss (R539). -/
def execOverflow (t : Time) (s : State) : Host.Outcome State Fault Refusal :=
  let s := begin' t s
  if traceEnabled s then .next { s with trace := traceRecover s.now s.trace } else .next s

/-- A write of TRACE_CFG: enabling sends a SYNC; disabling stops the port, and its FIFO is cleared (R538, R544). DESIGN CHOICE (log 24). -/
def traceCfgWrite (v : W32) (s : State) : State :=
  let was := traceEnabled s
  let s := wr R.TRACE_CFG 0 (regMerge R.TRACE_CFG 0 v) s
  if flag v 31 && !was then
    { s with trace := { s.trace with fifo := [traceSyncPacket s.now], sent := 0, lost := 0, lastSync := s.now, half := 0 } }
  else if flag v 31 then s
  else { s with trace := { s.trace with fifo := [], sent := 0, lost := 0 } }

/-- A write of TALLY_SNAP: go captures the 512 tallies at one instant (R541, R542). -/
def tallySnapWrite (v : W32) (s : State) : State :=
  if flag v 0 then { s with tallySnap := s.tallies.filter (fun e => decide (e.1 < 512)), tallySnapTime := s.now } else s

/-- TALLY_SNAP (R542). -/
def execTallySnap (t : Time) (a : Actor) (v : W32) (s : State) : Host.Outcome State Fault Refusal :=
  .next (gated a R.TALLY_SNAP.base 4 (tallySnapWrite v) (begin' t s))

end Sys2Proof.Machine
end

