-- ==== Sys2Proof/Machine/StartUp.lean ====
section
/-! DEFINITION. Power-up and start-up: the states from the reset release to operational, and recovery (R480, R510 to R524, R465, R466, R470). -/
namespace Sys2Proof.Machine

/-- Start-up goes to a state (R514). -/
def enterPhase (p : Nat) (s : State) : State := { s with startup := { s.startup with phase := p, phaseAt := s.now } }

/-- START_STAT (R524). -/
def startStat (s : State) : W32 :=
  let u := s.startup
  BitVec.ofNat 32 (u.phase * 2 ^ 28 + b2n u.slotFallback * 64 + b2n u.noDrive * 32 + b2n u.leased * 16 + b2n u.trained * 8
    + b2n u.fwStarted * 4 + b2n u.charterApplied * 2 + b2n u.defaultCharter)
def startBits (s : State) : Nat := (startStat s).toNat % 2 ^ 16

/-- RST_CAUSE (R453). -/
def rstCause (s : State) : W32 :=
  let c := s.clocks
  BitVec.ofNat 32 (b2n c.causeCold * 2 ^ 31 + b2n c.causeWarm * 2 ^ 30 + b2n c.causeRef * 2 ^ 29 + b2n c.causePll * 2 ^ 28)

/-- The OTP and flash as production and earlier programming left them: a bit of the OTP programs from 0 to 1 only (R467). DESIGN CHOICE (log 82). -/
def fitted (f : Fitting) (s : State) : State :=
  modSec (fun x => { x with
    deviceId := x.deviceId ||| f.deviceId, oemHash := x.oemHash ||| f.oemHash
    floorMon := max x.floorMon f.floorMon, floorCharter := max x.floorCharter f.floorCharter, floorFw := max x.floorFw f.floorFw
    revoked := x.revoked ||| f.revoked, deadBits := x.deadBits ||| f.deadBits, testFused := x.testFused || f.testFused
    pufCode := (fitBytes 512 x.pufCode).zipWith (· ||| ·) (fitBytes 512 f.pufCode)
    dirCopies := tabSet [] (tabSet [] [] 0 f.copy0) 1 f.copy1, trialRan := f.trialRan
    slots := f.slots.foldl (fun t e => tabSet [] t (2 * e.kind + e.slot) e.bytes) [] }) s

/-- The rails of the control die, in mV, lie in their operating ranges, which lie above the release thresholds of their monitors (R511, R551, R552). -/
def railsGood (vcore vio18 vio33 : Nat) : Bool :=
  decide (760 ≤ vcore) && decide (vcore ≤ 840) && decide (1710 ≤ vio18) && decide (vio18 ≤ 1890)
    && decide (3135 ≤ vio33) && decide (vio33 ≤ 3465)
    && decide (750 < vcore) && decide (1680 < vio18) && decide (3050 < vio33)

/-- RESET_RELEASE: the control die leaves cold reset, in which the RTC has gone on by `held` ms, once its rails, in mV, and SYS_RESET_N have been good for 1 ms; `good` is for how many device-time units they have (R511, R552). `fit` is what its OTP and flash hold, where that differs from what the device last knew. DESIGN CHOICE (log 80). -/
def execResetRelease (t : Time) (x : ResetSeen) (fit : Option Fitting) (s : State) : Host.Outcome State Fault Refusal :=
  let s := begin' t s
  if s.startup.released || !railsGood x.vcore x.vio18 x.vio33 || x.good < msUnits then .next s
  else
    let s := match fit with
      | some f => fitted f s
      | none => s
    .next { s with
      startup := { s.startup with released := true, phase := 0, releaseAt := s.now, phaseAt := s.now }
      relay := { s.relay with driveReset := s.drive.inReset }
      aon := { s.aon with opAt := s.now, rtcMillis := if s.aon.rtcValid then s.aon.rtcMillis + x.held else s.aon.rtcMillis } }

/-- Recovery: the ROM runs alone (R480). -/
def enterRecovery (s : State) : State := enterPhase 8 s

/-- The monitor at work: keys are derived, the ledger takes stock and writes its START records and the KEY group, and what the reset left to record is recorded (R474, R478, R481, R496, R498). -/
def monitorBegins (b : Nat) (s : State) : State :=
  let cause := (rstCause s).toNat
  let s := modSec (fun x => { x with
    keysPresent := true
    monRuns := BitVec.ofNat 32 (imageVersion (slotImage s typeMonitor b)) }) (enterPhase 1 s)
  let s := ledgerKeys (ledgerStart cause s)
  let s := if s.security.auditRecordDue then
      ledgerReport streamSecurity 0x0A41 0 0 (modSec (fun x => { x with auditRecordDue := false }) s) else s
  if s.clocks.warmRecordDue then
    ledgerReport streamSafety 0x0A40 cause 0 { s with clocks := { s.clocks with warmRecordDue := false } }
  else s

/-- MONITOR_START: the ROM checks the kill latch, discovers the flash (of 2^`log2` bytes in `mode` at `mhz` MHz; none where `log2` is not 24 to 28), verifies the monitor slots and starts the monitor, or enters recovery (R465, R479, R514, R576). DESIGN CHOICE (log 86). -/
def execMonitorStart (t : Time) (log2 mode mhz : Nat) (s : State) : Host.Outcome State Fault Refusal :=
  let s := begin' t s
  if s.startup.phase ≠ 0 || !s.startup.released || !s.clocks.sysLock then .next s
  else
    let found := decide (24 ≤ log2) && decide (log2 ≤ 28)
    let s := if found then dirLoad (modSec (fun x => { x with flashLog2 := log2, flashMode := mode % 4, flashMhz := mhz % 256 }) s) else s
    if s.aon.killLatch || s.security.keysDead then
      .next (enterRecovery (modSec (fun x => { x with deadBits := 0xFF }) s))
    else if !found then .next (enterRecovery s)
    else match chooseSlot typeMonitor (fun _ => true) s with
      | (none, s) => .next (enterRecovery s)
      | (some b, s) => .next (monitorBegins b s)

/-! ### The charter (R466, R468 to R470) -/

/-- An owner code that exists (R468). DESIGN CHOICE (log 86). -/
def ownerOk (c : Nat) : Bool := c ≤ 4 || c = 0xF

/-- A region that meets R459 and R460. -/
def regionOk (r : Region) : Bool :=
  12 ≤ r.size && r.size ≤ 22 && r.base % 2 ^ r.size = 0
    && (r.base + 2 ^ r.size ≤ 0x300000 || (0x40000000 ≤ r.base && r.base + 2 ^ r.size ≤ 0x40100000))

/-- Two regions overlap. -/
def regionsMeet (a b : Region) : Bool := decide (a.base < b.base + 2 ^ b.size) && decide (b.base < a.base + 2 ^ a.size)

/-- The valid regions of a core in a charter body, with their numbers. -/
def coreRegions (body : List Byte) (k : Nat) : List (Nat × Region) :=
  ((List.range 16).map (fun i => (i, regionOf body k i))).filter (fun e => e.2.valid)

/-- The owner bytes of a charter body (R468). -/
def ownerBytes (body : List Byte) : List Nat :=
  (body.take 144 ++ (body.drop 272).take 5 ++ (body.drop 278).take 6).map (fun b => b.toNat)
    ++ ((body.drop 144).take 128).map (fun b => b.toNat % 16)

/-- The transmit and receive rings of each port have the port's owner (R400). -/
def portOwnersAgree (body : List Byte) : Bool :=
  (List.range 32).all (fun p =>
    u8 body (144 + 16 + p) % 16 = u8 body (112 + p) && u8 body (144 + 48 + p) % 16 = u8 body (112 + p))

/-- A charter body that R468 and R469 allow, and whose ports own their rings. DEDUCED (log 121). -/
def charterOk (body : List Byte) : Bool :=
  (ownerBytes body).all ownerOk
    && u8 body (144 + 88) % 16 ≠ 0xF
    && portOwnersAgree body
    && (List.range 128).all (fun n => u8 body (144 + n) % 16 ≠ 0 || !bitOf (u8 body (144 + n)) 7)
    && (List.range 4).all (fun k => (coreRegions body k).all (fun e => regionOk e.2
      && (e.2.perm / 2 ≠ 3 || (coreRegions body k).all (fun f =>
          e.1 = f.1 || !bitOf f.2.perm 2 || !regionsMeet e.2 f.2))))
    && u32 body 284 &&& 0xC0 = 0
    && u32 body 288 < 2 ^ 16

/-- Write the owners and locations of the rings from the charter (R70, R470, R578). -/
def applyRings (s : State) : State :=
  (List.range 128).foldl (fun s n =>
    let b := charterByte s (144 + n)
    modRing n (fun r => { r with
      cfg := setFlag r.cfg 30 (bitOf b 7)
      fwOwner := decide (1 ≤ b % 16) && decide (b % 16 ≤ 4) }) s) s

/-- Write LEASE_CFG and LOOP_BIST_CFG from the charter (R317, R376, R470); LEASE_CFG goes to the drive die with the next frame. -/
def applyConfigs (s : State) : State :=
  let lease := BitVec.ofNat 32 (u32 s.security.charter 284)
  let s := wr R.LOOP_BIST_CFG 0 (BitVec.ofNat 32 (u32 s.security.charter 288)) (wr R.LEASE_CFG 0 lease s)
  pushDown (.write R.LEASE_CFG.base lease) s

/-- A clock-fault reset is reported as violation source 2, and the monitor writes a SAFETY record (R437). DESIGN CHOICE (log 85). -/
def reportClockFault (s : State) : State :=
  if s.clocks.refFaultDue then
    let s := { s with clocks := { s.clocks with refFaultDue := false } }
    violation 2 (ledgerReport streamSafety 0x0A38 2 (alarmLevel s 2) s)
  else s

/-- The charter is in place: the monitor has written its versions, floors and TRACE_MASK, RWL fields are locked and the firmware state begins (R470, R516, R577, R578). -/
def charterInPlace (s : State) : State :=
  let s := { s with
    startup := { s.startup with charterApplied := true, defaultCharter := s.security.charter.isEmpty }
    trace := { s.trace with masked := true } }
  reportClockFault (enterPhase 3 (modSec (fun x => { x with
    locked := true, verMon := x.monRuns
    floorsShown := BitVec.ofNat 32 (x.floorMon % 256 * 2 ^ 16 + x.floorFw % 256 * 2 ^ 8 + x.floorCharter % 256) }) s))

/-- CHARTER_APPLY: the monitor verifies the charter slots, applies the charter or the default charter, and locks (R465, R466, R470). DESIGN CHOICE (log 86). -/
def execCharterApply (t : Time) (s : State) : Host.Outcome State Fault Refusal :=
  let s := begin' t s
  if s.startup.phase ≠ 1 && s.startup.phase ≠ 2 then .next s
  else match chooseSlot typeCharter (fun img => charterOk (fitBytes 880 (imageBody img))) s with
    | (none, s) => .next (charterInPlace s)
    | (some b, s) =>
      let img := slotImage s typeCharter b
      let s := modSec (fun x => { x with
        charter := fitBytes 880 (imageBody img), verCharter := BitVec.ofNat 32 (imageVersion img) }) s
      .next (charterInPlace (applyConfigs (applyRings s)))

/-! ### Firmware, relay, lease and calibration (R514, R518 to R522) -/

/-- The start address of core `k`, none where the charter leaves it stopped (R468). -/
def coreEntry (s : State) (k : Nat) (img : Image) : Option Nat :=
  let e := u32 s.security.charter (coreField k 0)
  if e = 0xFFFFFFFF then none else if e = 0 then some (u32 img 16) else some e

/-- Field firmware runs: its body is in the application SRAM, and the cores that the charter names are started (R514). DEDUCED (log 87). -/
def firmwareBegins (b : Nat) (s : State) : State :=
  let img := slotImage s typeFirmware b
  let s := modSec (fun x => { x with fwValid := true, verFw := BitVec.ofNat 32 (imageVersion img) }) s
  let s := { s with appSram := memWrite s.appSram 0 (imageBody img) }
  let ks := (List.range 4).filter (fun k => (coreEntry s k img).isSome)
  let s := ks.foldl (fun s k => setCore k { core' s k with run := 1, restarts := 0, kickedAt := s.now } s) s
  { s with startup := { s.startup with fwStarted := !ks.isEmpty } }

/-- FIRMWARE_START: the monitor verifies field firmware and starts the cores, none under the default charter; the relay state begins (R465, R466, R514). -/
def execFirmwareStart (t : Time) (s : State) : Host.Outcome State Fault Refusal :=
  let s := begin' t s
  if s.startup.phase ≠ 3 then .next s
  else match chooseSlot typeFirmware (fun _ => true) s with
    | (none, s) => .next (enterPhase 4 s)
    | (some b, s) => .next (enterPhase 4 (if s.startup.defaultCharter then s else firmwareBegins b s))

/-- ENDPOINT_READY: the endpoint, out of reset with its PLL locked, begins to answer configuration requests (R435, R515). -/
def execEndpointReady (t : Time) (s : State) : Host.Outcome State Fault Refusal :=
  let s := begin' t s
  .next (if s.cister.perstHigh && s.startup.released && s.clocks.pipeLock then { s with cister := { s.cister with endpointReady := true } } else s)

/-- RELAY_TIMEOUT: the link has not trained within 100 ms of the start of the relay state; the lease state ends at once (R518). -/
def execRelayTimeout (t : Time) (s : State) : Host.Outcome State Fault Refusal :=
  let s := begin' t s
  if s.startup.phase = 4 && !s.relay.trained && s.startup.phaseAt + 100 * msUnits ≤ s.now then
    let s := { s with startup := { s.startup with noDrive := true, phase := 5 } }
    let s := ledgerReport streamSafety 0x0A3B 1 (startBits s) (notify 0x3B 1 (startBits s) s)
    .next (enterPhase 6 s)
  else .next s

/-- STARTUP_GRANT: the first grant after a cold, warm or clock-fault reset (R518, R519). -/
def execStartupGrant (t : Time) (s : State) : Host.Outcome State Fault Refusal :=
  let s := begin' t s
  let u := s.startup
  if grantable s && !s.lease.startupDone && decide (5 ≤ u.phase) && decide (u.phase ≤ 7) && (!u.warm || heldDown s) then
    let s := { s with
      lease := { s.lease with startupDone := true }
      startup := { u with leased := true, noDrive := false } }
    let s := sendGrant s
    .next (if s.startup.phase = 5 then enterPhase 6 s else s)
  else .next s

/-- Entry to operational (R522). DESIGN CHOICE (log 89). -/
def enterOperational (s : State) : State :=
  let s := enterPhase 7 s
  let s := { s with startup := { s.startup with startTime := capNat 0xFFFFFFFF (roundDivNat (s.now - s.startup.releaseAt) msUnits) } }
  notify 0x3B 0 (startBits s) s

/-- BIST_RESULT: the self-test passes or fails; in the calibration state start-up goes on to operational in both cases (R374, R520). -/
def execBistResult (t : Time) (pass : Bool) (s : State) : Host.Outcome State Fault Refusal :=
  let s := begin' t s
  if !s.loops.bistActive then .next s
  else
    let s := bistEnds pass s
    .next (if s.startup.phase = 6 then enterOperational s else s)

/-! ### Recovery (R480) -/

/-- A write of SEC_RECOVERY_CTRL: with start at 1 the ROM of a device that is not dead verifies a monitor image in host memory, writes it into slot A, and restarts when it is valid (R480). DESIGN CHOICE (log 89). -/
def recoveryLoad (v : W32) (s : State) : State :=
  let s := modSec (fun x => { x with recoveryCtrl := regMerge R.SEC_RECOVERY_CTRL 0 v }) s
  if !flag v 31 || s.security.keysDead || !busOk s then s
  else
    let img := memRead s.hostMem (s.security.recoveryHi.toNat * 2 ^ 32 + s.security.recoveryLo.toNat) (fld v 17 0)
    let d := verdict s typeMonitor img
    let s := countCheck d.checked d.passed s
    let ok := decide (d.status = 0)
    let s := modSec (fun x => { x with slots := tabSet [] x.slots (2 * typeMonitor) img }) s
    let s := setSlotValid typeMonitor 0 ok s
    if ok then enterPhase 0 s else s

/-- RECOVERY_IMAGE_LOAD: host software writes SEC_RECOVERY_CTRL (R480). -/
def execRecoveryImageLoad (t : Time) (a : Actor) (v : W32) (s : State) : Host.Outcome State Fault Refusal :=
  .next (gated a R.SEC_RECOVERY_CTRL.base 4 (recoveryLoad v) (begin' t s))

end Sys2Proof.Machine
end

