-- ==== Sys2Proof/Machine/Target.lean ====
section
/-! DEFINITION. The Ethernet MACs, gPTP time maps, and the target stream from vision units to spot milestones (R245 to R267). -/
namespace Sys2Proof.Machine

def ethMac (s : State) (m : Nat) : EthMac := tabGet {} s.eth.mac m
def setEthMac (m : Nat) (x : EthMac) (s : State) : State := { s with eth := { s.eth with mac := tabSet {} s.eth.mac m x } }
def modEthMac (m : Nat) (f : EthMac → EthMac) (s : State) : State := setEthMac m (f (ethMac s m)) s

/-- The rings of a MAC: transmit and receive (R246, R248). -/
def ethTxRing (m : Nat) : Nat := 80 + m
def ethRxRing (m : Nat) : Nat := 82 + m

/-- The MAC runs: enabled and its domain out of reset. -/
def ethRuns (s : State) (m : Nat) : Bool := rb s R.ETH_CFG m 31 && !s.clocks.ethReset

/-! ### Reception (R246, R247) -/

/-- The big-endian 16-bit field of a frame in wire order. -/
def net16 (f : List Byte) (off : Nat) : Nat := u8 f off * 256 + u8 f (off + 1)

/-- The destination address is accepted (R246). -/
def addressOk (s : State) (m : Nat) (f : List Byte) : Bool :=
  let own := leBytes 4 (rd s R.ETH_ADDR_LO m).toNat ++ leBytes 2 (rd s R.ETH_ADDR_HI m).toNat
  f.take 6 = own || bitOf (u8 f 0) 0 || rb s R.ETH_CFG m 28

/-- The frame carries one IEEE 802.1Q tag. -/
def isTagged (f : List Byte) : Bool := net16 f 12 = 0x8100
/-- Where the EtherType stands, after any tag. -/
def typeAt (f : List Byte) : Nat := if isTagged f then 16 else 12

/-- A frame record to the receive ring (R247). -/
def deliverFrame (m : Nat) (at' : Time) (copied rejected : Bool) (f : List Byte) (s : State) : State :=
  deliver (ethRxRing m) 1 (leBytes 8 at' ++ leBytes 2 f.length
    ++ leBytes 1 (b2n (isTagged f) + 2 * b2n (net16 f (typeAt f) = 0x88F7) + 4 * b2n copied + 8 * b2n rejected)
    ++ leBytes 5 0 ++ f) s

/-! ### Classification (R252 to R256) -/

/-- Sum of big-endian 16-bit words, an odd last byte padded with zero. -/
def sum16 : List Byte → Nat
  | a :: b :: rest => a.toNat * 256 + b.toNat + sum16 rest
  | [a] => a.toNat * 256
  | [] => 0

/-- A sum folded to 16 bits with end-around carry is all ones: the checksum is correct. -/
def onesOk (x : Nat) : Bool := x ≠ 0 && x % 0xFFFF = 0

/-- The IPv4 header's offset. -/
def ipAt (f : List Byte) : Nat := typeAt f + 2

/-- A frame is a target message of the MAC's classifier (R252). -/
def isTarget (s : State) (m : Nat) (f : List Byte) : Bool :=
  let o := ipAt f
  let u := o + 20
  let ip := (rd s R.ETH_TGT_IP m).toNat
  let udpLen := net16 f (u + 4)
  rb s R.ETH_TGT_CFG m 31
    && net16 f (typeAt f) = 0x0800
    && u8 f o = 0x45
    && onesOk (sum16 ((f.drop o).take 20))
    && net16 f (o + 6) % 0x4000 = 0
    && (ip = 0 || beNat ((f.drop (o + 16)).take 4) = ip)
    && u8 f (o + 9) = 17
    && net16 f (u + 2) = rf s R.ETH_TGT_CFG m 15 0
    && (net16 f (u + 6) = 0
        || onesOk (sum16 ((f.drop (o + 12)).take 8) + 17 + udpLen + sum16 ((f.drop u).take udpLen)))

/-- The record at an offset of a target message (R254). -/
def targetRec (mac entry camera sequence exposure : Nat) (p : List Byte) : TargetRec where
  mac := mac
  entry := entry
  camera := camera
  sequence := sequence
  exposure := exposure
  alongMin := i16 p 0
  alongMax := i16 p 2
  latMin := i16 p 4
  latMax := i16 p 6
  dt := i32 p 8
  id := u16 p 12
  cls := u8 p 15

/-- Queue one record, count it for low confidence, or drop it; the queue is shared, so a record queued from either MAC ends the drop episode (R256). -/
def queueTarget (r : TargetRec) (conf : Nat) (s : State) : State :=
  if conf < rf s R.ETH_CAM_ID r.entry 23 16 then bump (T.eth r.mac 8) s
  else if s.eth.queue.length < 4096 then
    let s := { s with eth := { s.eth with queue := s.eth.queue ++ [r] } }
    [0, 1].foldl (fun s m => modEthMac m (fun x => { x with dropped := 0 }) s) s
  else
    let first := [0, 1].all (fun m => (ethMac s m).dropped = 0)
    let s := bump (T.eth r.mac 9) (modEthMac r.mac (fun x => { x with dropped := x.dropped + 1 }) s)
    if first then notify 0x18 r.mac 1 s else s

/-- Classify a target message: reject it as a whole, or queue its records (R253 to R256). -/
def classify (m : Nat) (at' : Time) (f : List Byte) (s : State) : State :=
  let u := ipAt f + 20
  let p := f.drop (u + 8)
  let count := u8 p 3
  let camera := u16 p 4
  let known := u16 p 0 = 0x5947 && u8 p 2 = 1
  let entry := (List.range 64).find? (fun k => rb s R.ETH_CAM_ID k 31 && decide (rf s R.ETH_CAM_ID k 15 0 = camera))
  let recs := (List.range count).map (fun i => p.drop (16 + 16 * i))
  let bad := !known || count = 0 || 64 < count || net16 f (u + 4) ≠ 24 + 16 * count || entry.isNone
    || p.length < 16 + 16 * count
    || recs.any (fun r => i16 r 2 < i16 r 0 || i16 r 6 < i16 r 4)
  if bad then
    notify 0x1A m (if known then camera else 0xFFFF) (deliverFrame m at' false true f (bump (T.eth m 4) s))
  else
    let s := bump (T.eth m 3) s
    let s := recs.foldl (fun s r =>
      queueTarget (targetRec m (entry.getD 0) camera (u16 p 6) (u64 p 8) r) (u8 r 14) s) s
    if rb s R.ETH_TGT_CFG m 30 then deliverFrame m at' true false f s else s

/-- ETH_RX_FRAME: MAC `m` receives a frame whose start-frame delimiter ended at `at'`, FCS excluded from `frame` and correct or not (R246, R252). DESIGN CHOICE (log 73). -/
def execEthRxFrame (t : Time) (m : Fin 2) (at' : Time) (fcs : Bool) (frame : List Byte) (s : State) :
    Host.Outcome State Fault Refusal :=
  let s := begin' t s
  if !ethRuns s m then .next s
  else
    let n := frame.length + 4
    let sized := decide (64 ≤ n) && decide (n ≤ 2048)
    if !fcs || !sized then .next (bump (T.eth m 1) s)
    else if !addressOk s m frame then .next s
    else
      .next (cross 15 (fun s =>
        let s := bump (T.eth m 0) s
        if isTarget s m frame then classify m at' frame s else deliverFrame m at' false false frame s) s)

/-! ### Transmission and time maps (R248, R250, R251) -/

/-- The ring's frame in transmission has not been completed. -/
def txBusy (s : State) (n : Nat) : Bool := (ring s n).fetched.any (fun x => x.phase = .running)

/-- SEND: the frame goes to the MAC, and the descriptor stays in execution until it has been sent (R248). -/
def sendDesc (x : Desc) (s : State) : DescResult :=
  let len := u16 x.bytes 16
  if len < 14 || 2044 < len then { state := s, status := 0x0100 }
  else { state := s, finished := false }

/-- Pass a transmit descriptor over crossing 14; one that is discarded completes with status 0x0007 (R448, R449). -/
def ethCross (f : Desc → State → DescResult) (x : Desc) (s : State) : DescResult :=
  if crossDown s 14 then { state := cross 14 id s, status := 7 } else f x s

/-- ETH_SEND (R248). -/
def execEthSend (t : Time) (m : Fin 2) (s : State) : Host.Outcome State Fault Refusal :=
  let s := begin' t s
  let n := ethTxRing m
  if txBusy s n || !(ethRuns s m || crossDown s 14) then .next s
  else .next (runDesc n 1 (ethCross sendDesc) s)

/-- ETH_TRANSMIT_COMPLETE: the frame has left, its start-frame delimiter at `at'`; tx_time is written when asked (R248). -/
def execEthTransmitComplete (t : Time) (m : Fin 2) (at' : Time) (s : State) : Host.Outcome State Fault Refusal :=
  let s := begin' t s
  let n := ethTxRing m
  match (ring s n).fetched.find? (fun x => x.phase = .running) with
  | none => .next s
  | some x =>
    let r := ring s n
    let bytes := dmaRead s r.onChip (u64 x.bytes 8) (u16 x.bytes 16)
    let s := emit (.ethFrame m (bytes ++ List.replicate (60 - bytes.length) 0)) (bump (T.eth m 2) s)
    let s := if bitOf (u8 x.bytes 18) 0 then dmaWrite r.onChip (r.entryAddr x.index + 24) (leBytes 8 at') s else s
    .next (complete n x 0 0 s)

/-- TIME_MAP's effect (R250). -/
def timeMapDesc (m : Nat) (x : Desc) (s : State) : DescResult :=
  let ratio := u32 x.bytes 24
  if ratio = 0 then { state := s, status := 3 }
  else { state := modEthMac m (fun e => { e with valid := true, gAnchor := u64 x.bytes 8, tAnchor := u64 x.bytes 16, ratio := ratio }) s }

/-- TIME_MAP (R250): the ring's descriptors execute in order. -/
def execTimeMap (t : Time) (m : Fin 2) (s : State) : Host.Outcome State Fault Refusal :=
  let s := begin' t s
  let n := ethTxRing m
  if txBusy s n then .next s else .next (runDesc n 2 (ethCross (timeMapDesc m)) s)

/-- A write of ETH_CFG; enable from 0 to 1 makes the map invalid (R251). -/
def ethCfgWrite (m : Nat) (v : W32) (s : State) : State :=
  let was := rb s R.ETH_CFG m 31
  let s := wr R.ETH_CFG m (regMerge R.ETH_CFG 0 v) s
  if flag v 31 && !was then modEthMac m (fun e => { e with valid := false }) s else s

/-- ETH_ENABLE: a write of ETH_CFG with enable 1; from 0 it makes the map invalid (R251, R516). -/
def execEthEnable (t : Time) (a : Actor) (m : Fin 2) (v : W32) (s : State) : Host.Outcome State Fault Refusal :=
  let s := begin' t s
  if flag v 31 then .next (gatedEnable a (regOff R.ETH_CFG m 0) 4 (cross 14 (ethCfgWrite m v)) s) else .next s

/-- The map of a MAC is stale (R251). -/
def mapStale (s : State) (m : Nat) : Bool :=
  let age := rf s R.ETH_TIME_CFG m 15 0
  age ≠ 0 && decide ((ethMac s m).tAnchor + age * msUnits < s.now)

/-- Device time of a gPTP time, if the map gives one (R251). -/
def mapTime (s : State) (m g : Nat) : Option Int :=
  let e := ethMac s m
  let d : Int := (g : Int) - e.gAnchor
  if !e.valid || mapStale s m || 2 ^ 32 ≤ d.natAbs then none
  else some (e.tAnchor + roundDiv (d * e.ratio) (5 * 2 ^ 30))

/-! ### MDIO (R265) -/

/-- A write of ETH_MDIO: while busy it is ignored, and go starts a frame (R265). -/
def mdioWrite (v : W32) (s : State) : State :=
  if s.eth.mdioBusy then s
  else
    let s := wr R.ETH_MDIO 0 (regMerge R.ETH_MDIO 0 v) s
    { s with eth := { s.eth with mdioBusy := flag v 31 } }

/-- MDIO_START: a write of ETH_MDIO (R265). -/
def execMdioStart (t : Time) (a : Actor) (v : W32) (s : State) : Host.Outcome State Fault Refusal :=
  .next (gated a R.ETH_MDIO.base 4 (cross 14 (mdioWrite v)) (begin' t s))

/-- MDIO_DONE: the frame ends; a read brings `data`. -/
def execMdioDone (t : Time) (data : W16) (s : State) : Host.Outcome State Fault Refusal :=
  let s := begin' t s
  if s.eth.mdioBusy then
    let s := { s with eth := { s.eth with mdioBusy := false } }
    .next (if rb s R.ETH_MDIO 0 30 then s else wr R.ETH_MDIO 0 (setFld (rd s R.ETH_MDIO 0) 15 0 data.toNat) s)
  else .next s

/-! ### The target stage (R257 to R262) -/

/-- Rotate by an angle of `2^k` units per turn and add an origin; all in units of 2^-17 mm or any other, rounding once (R106). -/
def rotAdd (ox oy : Int) (ang : Int) (k : Nat) (p q : Int) : Int × Int :=
  (ox + roundDiv (p * cosQ ang k - q * sinQ ang k) (2 ^ 30), oy + roundDiv (p * sinQ ang k + q * cosQ ang k) (2 ^ 30))

/-- The field position of a target's centre with 16 fraction bits, from the historical pose (R257). -/
def targetField (s : State) (r : TargetRec) (x y heading hitch : Int) : Int × Int :=
  let pos := rd s R.ETH_CAM_POS r.entry
  let p := signed 16 (fld pos 31 16) * 2 ^ 16 + (r.alongMin + r.alongMax) * 2 ^ 15
  let q := signed 16 (fld pos 15 0) * 2 ^ 16 + (r.latMin + r.latMax) * 2 ^ 15
  if rb s R.ETH_CAM_ID r.entry 30 then
    let (hx, hy) := rotAdd (x * 2 ^ 16) (y * 2 ^ 16) heading 32 (s.course.set.hitchX * 2 ^ 16) 0
    rotAdd hx hy (heading + hitch) 32 p q
  else rotAdd (x * 2 ^ 16) (y * 2 ^ 16) heading 32 p q

/-- A field point in the frame of a lane's body at the latest close, with 16 fraction bits (R258). -/
def bodyFrame (s : State) (l : Lane) (fx fy : Int) : Int × Int :=
  let c := s.course.pose
  let back (ox oy ang : Int) : Int × Int :=
    let ux := fx - ox
    let uy := fy - oy
    (roundDiv (ux * cosQ ang 48 + uy * sinQ ang 48) (2 ^ 30), roundDiv (uy * cosQ ang 48 - ux * sinQ ang 48) (2 ^ 30))
  if l.implement then
    let (hx, hy) := rotAdd c.x c.y c.heading 48 (s.course.set.hitchX * 2 ^ 16) 0
    back hx hy (c.heading + hitch16 s)
  else back c.x c.y c.heading

/-- SPOT_ON and SPOT_OFF positions of a target in a lane, if the lane is selected (R259). -/
def spotIn (s : State) (r : TargetRec) (fx fy : Int) (l : Lane) : Option (Int × Int) :=
  let m := rd s R.ETH_CAM_MARGIN r.entry
  let (p, q) := bodyFrame s l fx fy
  let d := p - l.foreAft * 2 ^ 16
  let w := if l.implement then s.course.yawT else s.course.yaw
  let bend : Int :=
    if 6400 * 2 ^ 8 ≤ l.v.natAbs then
      roundDiv (w * twoPi * d * d * (if 0 < l.v then 1 else -1)) (l.v.natAbs * 2 ^ 64)
    else 0
  let path := l.y * 2 ^ 16 + bend
  let hw : Int := l.halfWidth * 2 ^ 16
  let hl := (r.latMax - r.latMin) * 2 ^ 15
  let ha := (r.alongMax - r.alongMin) * 2 ^ 15
  let side : Int := fld m 7 0 * 2 ^ 16
  if path - hw < q + hl + side && q - hl - side < path + hw then
    let L := courseFor s l
    some (wrapS 48 (L + roundDiv (d - ha - fld m 23 16 * 2 ^ 16) (2 ^ 10)),
          wrapS 48 (L + roundDiv (d + ha + fld m 15 8 * 2 ^ 16) (2 ^ 10)))
  else none

/-- What has become of a target's lanes so far: the lowest selected, and how many were selected, passed and refused. -/
structure Spotted where
  first : Option Nat := none
  selected : Nat := 0
  passed : Nat := 0
  refused : Nat := 0
  deriving DecidableEq, Repr

/-- Place a spot pair in one candidate lane, or refuse it (R194, R259, R260). -/
def spotLane (r : TargetRec) (fx fy : Int) (k : Nat) (w : Spotted) (s : State) : Spotted × State :=
  let l := lane s k
  match spotIn s r fx fy l with
  | none => (w, s)
  | some (on, off) =>
    let w := { w with first := some (w.first.getD k), selected := w.selected + 1 }
    if !ahead off (courseFor s l) then ({ w with passed := w.passed + 1 }, s)
    else if laneCap s < l.entries + 2 || s.engine.poolFree < 2 then
      ({ w with refused := w.refused + 1 },
       notify 0x12 k s.engine.poolFree (bump T.spotRefused (bump (T.eth r.mac 10) s)))
    else (w, setTurn afterWaybills [k] (placeOne k off 5 0 0 off (placeOne k on 4 0 0 on s)))

/-- The candidate lanes of a camera entry, ascending (R258). -/
def candidates (s : State) (entry : Nat) : List Nat :=
  let c := rd s R.ETH_CAM_LANES entry
  let lo := fld c 27 16
  let n := min 256 (fld c 8 0)
  (lanesOf s).filter (fun k => lo ≤ k && k < lo + n && (lane s k).type ≠ 3)

/-- The outcome of a target (R260). DESIGN CHOICE (log 72). -/
def outcomeOf (w : Spotted) : Nat :=
  if w.selected = 0 then 3
  else if w.passed = w.selected then 4
  else if w.refused = w.selected then 2
  else if 0 < w.refused then 1
  else 0

/-- Count, notify and report a target's outcome (R260, R261). -/
def targetDone (r : TargetRec) (time : Nat) (outcome : Nat) (w : Spotted) (x y : Int) (s : State) : State :=
  let m := r.mac
  let s := bump (T.eth m (if outcome ≤ 1 then 5 else if outcome ≤ 4 then 6 else 7)) s
  let e := ethMac s m
  let s := setEthMac m { e with timeEpisode := if outcome ≤ 1 then false else e.timeEpisode || decide (5 ≤ outcome) } s
  let s := if 5 ≤ outcome && !e.timeEpisode then notify 0x19 m outcome s else s
  let s := traceEvent 8 0 ([BitVec.ofNat 8 m, BitVec.ofNat 8 outcome] ++ leBytes 2 (w.first.getD 0xFFFF)
    ++ leBytes 2 w.selected ++ leBytes 2 r.id) s
  let mode := rf s R.ETH_TGT_CFG m 29 28
  if mode = 2 || (mode ≠ 0 && outcome ≠ 0) then
    deliver (ethRxRing m) 2 (leBytes 8 time ++ leBytes 2 r.camera ++ leBytes 2 r.sequence ++ leBytes 2 r.id
      ++ leBytes 1 outcome ++ leBytes 1 r.cls ++ leBytes 2 (w.first.getD 0xFFFF) ++ leBytes 2 w.selected
      ++ leBytes 2 w.refused ++ leBytes 2 0 ++ leBytes 4 (wrapU 32 (satS 32 x)) ++ leBytes 4 (wrapU 32 (satS 32 y))) s
  else s

/-- Place one target (R257 to R260). DESIGN CHOICE (log 72). -/
def placeTarget (r : TargetRec) (s : State) : State :=
  match mapTime s r.mac r.exposure with
  | none => targetDone r 0 7 {} 0 0 s
  | some te =>
    let time := te + 200 * r.dt
    match if time < 0 then .expired else lookupAt s time.toNat with
    | .expired => targetDone r (wrapU 64 time) 5 {} 0 0 s
    | .future => targetDone r (wrapU 64 time) 6 {} 0 0 s
    | .found _ x y heading hitch =>
      let (fx, fy) := targetField s r x y heading hitch
      let (w, s) := (candidates s r.entry).foldl (fun (acc : Spotted × State) k => spotLane r fx fy k acc.1 acc.2) ({}, s)
      targetDone r (wrapU 64 time) (outcomeOf w) w (roundDiv fx (2 ^ 16)) (roundDiv fy (2 ^ 16)) s

/-- TARGET_PLACE: the target stage takes the oldest queued target from crossing 15 (R257, R262, R448). -/
def execTargetPlace (t : Time) (s : State) : Host.Outcome State Fault Refusal :=
  let s := begin' t s
  match s.eth.queue with
  | [] => .next s
  | r :: rest => .next (cross 15 (placeTarget r) { s with eth := { s.eth with queue := rest } })

end Sys2Proof.Machine
end

