-- ==== Sys2Proof/Machine/TimeTrig.lean ====
section
/-! DEFINITION. Time-triggered operation of a bus port: reference messages and the clock relation, time masters, windows, timed node commands, and node status (R405 to R422, R426, R176). -/
namespace Sys2Proof.Machine

/-! ### Set-up of a time-triggered port (R429) -/

def ttLength (s : State) (p : Nat) : Nat := rf s R.CAN_TT_CYCLE p 31 16
def ttMatrix (s : State) (p : Nat) : Nat := 2 ^ capNat 6 (rf s R.CAN_TT_CYCLE p 15 13)
def masterPrio (s : State) (p : Nat) : Nat := rf s R.CAN_TT_CFG p 29 26
/-- The device may be master on a port: not on its parent port once joined (R407). -/
def mayMaster (s : State) (p : Nat) : Bool :=
  masterPrio s p < 8 && !(s.engine.convoy.joined && s.engine.convoy.parentPort = p)
def onBus (s : State) (p : Nat) : Bool := (busPort s p).st = 2 || (busPort s p).st = 3
/-- The predicted start of the next cycle (R411). -/
def predicted (s : State) (p : Nat) : Time := (busPort s p).cycleAt + ntuUnits s p (ttLength s p)
def ttTol (s : State) (p : Nat) : Nat := rf s R.CAN_TT_SYNC p 31 24 * usUnits

/-- A basic cycle begins at `sof` with a cycle count (R409, R411). -/
def beginCycle (p : Nat) (sof : Time) (cycle : Nat) (s : State) : State :=
  modBus p (fun b => { b with cycleAt := sof, cycle := cycle % 64, window := none, convoyTurn := false, convoyFormed := none, candidate := false }) s

/-! ### Slaves (R410, R411, R426, R176) -/

/-- Bounds of the ratio: 0.9995 and 1.0005 with 30 fraction bits (R410). -/
def ratioLo : Nat := roundDivNat (9995 * 2 ^ 30) 10000
def ratioHi : Nat := roundDivNat (10005 * 2 ^ 30) 10000

/-- The stamp of the master's previous reference message, if the port holds it: a message that comes after a counted miss is either the missed one, late, or one after it, and then the stamp is older (R410, R411, R426). DESIGN CHOICE (log 71). -/
def previousStamp (s : State) (p cycle : Nat) (sof : Time) : Option Time :=
  let b := busPort s p
  let late := b.misses = 1 && cycle = b.cycle && decide (sof + ttTol s p < predicted s p)
  if b.misses = 0 || late then b.stamp else none

/-- The relation of a port after a reference message that carries prev_valid (R410). PRESUMED (log 69). DESIGN CHOICE (log 70). -/
def relate (p : Nat) (g : Int) (s : State) : State :=
  let b := busPort s p
  match b.stamp with
  | none => s
  | some st =>
    let t : Int := (st : Int) - rf s R.CAN_TT_SYNC p 23 16
    let dt := t - b.ta
    let e := g - (b.ga + roundShift (dt * b.ratio) 30)
    let b := { b with err := capNat 0xFFFF e.natAbs }
    if b.first || 200 * rf s R.CAN_TT_SYNC p 7 0 < e.natAbs then
      setBus p { b with ta := t, ga := g, good := 0, first := false } s
    else
      let free : Int := ratioLo + ((freeWord s).toNat % (ratioHi + 1 - ratioLo) : Nat)
      let ratio := if dt = 0 then free
        else clampInt ratioLo ratioHi (b.ratio + (if 0 < dt then roundDiv (e * 2 ^ 28) dt.toNat else roundDiv (-e * 2 ^ 28) dt.natAbs))
      let s := if dt = 0 then drawFree s else s
      setBus p { b with ratio := ratio.toNat, ga := g - roundDiv e 2, ta := t, good := b.good + 1 } s

/-- The course offset to the parent (R426). DESIGN CHOICE (log 11). DESIGN CHOICE (log 70). -/
def courseRelation (p : Nat) (data : List Byte) (s : State) : State :=
  let c := s.engine.convoy
  if c.joined && c.parentPort = p && bitOf (u8 data 5) 0 && bitOf (u8 data 5) 1 then
    match (busPort s p).stamp with
    | none => s
    | some st =>
      match lookupAt s (st - rf s R.CAN_TT_SYNC p 23 16) with
      | .found m _ _ _ _ => modConvoy (fun c => { c with courseOffset := some (wrapS 48 (m - u64 data 16 % 2 ^ 48)) }) s
      | _ => s
  else s

/-- The parent's motion acts as HOST_MOTION (R176). DESIGN CHOICE (log 70). -/
def courseFollow (p : Nat) (data : List Byte) (s : State) : State :=
  let c := s.engine.convoy
  if rb s R.CONVOY_CFG 0 30 && c.joined && c.parentPort = p && s.course.set.mode = 3 then
    let sup (v : Int) : HostValue := { value := v, at' := some s.now, stale := false }
    { s with course := { s.course with
        hostSpeed := sup (i32 data 24), hostYaw := sup (i32 data 28), hostHitch := sup (i32 data 32), hostLost := false } }
  else s

/-- REFERENCE_MESSAGE: a valid reference message with identifier `id` and data bytes is received, its SOF at `sof` (R408, R410, R411); one with this potential master's own identifier is an undefined use (R431). DESIGN CHOICE (log 10). -/
def execReferenceMessage (t : Time) (p : Fin 32) (id : BitVec 11) (data : List Byte) (sof : Time) (s : State) :
    Host.Outcome State Fault Refusal :=
  let s := begin' t s
  let b := busPort s p
  let refId := rf s R.CAN_TT_CFG p 21 11
  let prio := id.toNat - refId
  let level2 := rb s R.CAN_TT_CFG p 30
  let valid := ttOn s p && hears s p && refId ≤ id.toNat && prio < 8 && (if level2 then 48 ≤ data.length else 4 ≤ data.length)
  if valid && mayMaster s p && prio = masterPrio s p then .fault (.undefinedUse 431)
  else if !valid || b.tt = 0 || b.tt = 4 || (b.tt = 3 && masterPrio s p ≤ prio) then .next s
  else
    let new := b.tt ≠ 2 || b.master ≠ prio
    let stamp := previousStamp s p (u8 data 0 % 64) sof
    let s := modBus p (fun b => { b with
      tt := 2, misses := 0
      first := b.first || new
      good := if new then 0 else b.good
      stamp := if new then none else stamp
      ownRef := none, formed := if new then [] else b.formed }) s
    let s := setMaster p prio s
    let s := if level2 && bitOf (u8 data 5) 0 then courseRelation p data (relate p (u64 data 8) s) else s
    let s := if level2 then courseFollow p data s else s
    let s := modBus p (fun b => { b with stamp := some sof }) s
    .next (beginCycle p sof (u8 data 0 % 64) s)

/-! ### Masters (R408, R409, R411) -/

/-- The reference message of this device for cycle count `cycle`: of the reference fields of ISO 11898-4 the manual names the cycle count and Next_is_Gap, which is 0; what bytes 1 to 3 hold is free (R405, R408). PRESUMED (log 69). -/
def refMessage (s : State) (p cycle : Nat) : BusFrame :=
  let b := busPort s p
  let id := BitVec.ofNat 32 (rf s R.CAN_TT_CFG p 21 11 + masterPrio s p)
  let iso := leBytes 1 (cycle % 64) ++ leBytes 3 (freeWord (drawFree s)).toNat
  if !rb s R.CAN_TT_CFG p 30 then { id := id, ctrl := BitVec.ofNat 32 (4 * 2 ^ 16), data := iso }
  else
    let c := s.course
    let prev := b.ownRef
    let (g, m) : Int × Int := match prev with
      | some t => (portGlobal s p t, match lookupAt s t with
        | .found m _ _ _ _ => m
        | _ => (freeWord s).toNat)
      | none => (0, 0)
    let at' : Option HistEntry := c.history.find? (fun e => decide (e.time ≤ prev.getD 0))
    let flags := b2n prev.isSome + 2 * b2n c.running + 4 * b2n c.reverse
    { id := id, ctrl := BitVec.ofNat 32 (48 * 2 ^ 16 + 5)
      data := iso ++ leBytes 1 1 ++ leBytes 1 flags ++ [0, 0] ++ leBytes 8 (wrapU 64 g) ++ leBytes 8 (wrapU 48 m)
        ++ leBytes 4 (wrapU 32 ((at'.map (·.speed)).getD 0)) ++ leBytes 4 (wrapU 32 ((at'.map (·.yaw)).getD 0))
        ++ leBytes 4 (wrapU 32 ((at'.map (·.pose.hitch)).getD 0)) ++ List.replicate 12 0 }

/-- This device begins a cycle as master; `first` is its first scheduled start (R409, R411). -/
def masterCycle (p : Nat) (first sof : Time) (cycle : Nat) (s : State) : State :=
  let b := busPort s p
  let start := portGlobal { s with bus := tabSet {} s.bus p { b with tt := 3 } } p first
  let s := modBus p (fun b =>
    if b.tt = 3 then { b with k := b.k + 1, ownRef := some sof }
    else { b with tt := 3, c0 := start, k := 0, misses := 0, stamp := none, first := true, good := 0, ownRef := some sof }) s
  beginCycle p sof cycle (setMaster p (masterPrio s p) s)

/-- The intermission after a reference attempt begins `bits` nominal bits from now (R397). -/
def refOver (p bits : Nat) (s : State) : State :=
  modBus p (fun b => { b with txEnd := some (s.now + bitUnits s p bits) }) s

/-- A reference attempt ends in an error that is no missing acknowledgement alone: a master's cycle begins all the same (R409, R411). -/
def refFailed (p : Nat) (f : BusFrame) (type : Nat) (dataPhase : Bool) (position : Nat) (x : SentError) (master : Bool)
    (first sof : Time) (cycle : Nat) (s : State) : State :=
  let s := confine p (some f) (refOver p (flagBits x) (sendingError p type dataPhase position x f s))
  if master && onBus s p then masterCycle p first sof cycle s else s

/-- The reference attempt of this device, scheduled for `first` (R409, R411). An attempt of a master that loses to another frame is one that fails otherwise. DESIGN CHOICE (log 71). -/
def refAttempt (p cycle : Nat) (first sof : Time) (res : RefResult) (s : State) : State :=
  let f := (refMessage s p cycle).sent (busPort s p).passive
  let master := (busPort s p).tt = 3
  let s := latchRx p sof (modBus p (fun b => { b with candidate := false }) (sendFrameOut p f (drawFree (drawFree s))))
  match res with
  | .success x =>
    let s := tdcMeasure p f x.delay s
    if tdcBeyond s p f x.delay then
      refFailed p f 1 true (freeWord s).toNat (beyondError x) master first sof cycle (drawFree s)
    else masterCycle p first sof cycle (refOver p (14 * x.overload.frames) (txOk p f sof x.overload s))
  | .unacked position x =>
    let s := sendingError p 5 false position x f (bump (T.can R.CAN_TT_REF_UNACK p) (tdcMeasure p f x.delay s))
    let s := confine p (some f) (refOver p (flagBits x) s)
    if onBus s p then masterCycle p first sof cycle s else s
  | .lost other =>
    let s := modBus p (fun b => { b with ackErrs := 0, txEnd := none }) (bump (T.can R.CAN_ARB_LOST p) s)
    if master && other then masterCycle p first sof cycle s else s
  | .error type dataPhase position x =>
    refFailed p f type dataPhase position x master first sof cycle (tdcMeasure p f x.delay s)

/-- The port sees a reference attempt of its own end so (R380, R383, R384). -/
def seesResult (s : State) (p : Nat) (f : BusFrame) : RefResult → Bool
  | .success _ => true
  | .lost _ => !loopback s p
  | .unacked _ x => seesError s p f 5 false x
  | .error type dataPhase _ x => seesError s p f type dataPhase x

/-- A master's next scheduled start C_k in its global time (R409). -/
def nextRef (s : State) (p : Nat) : Int :=
  let b := busPort s p
  b.c0 + (b.k + 1) * (ttLength s p * usUnits)

/-- REFERENCE_ATTEMPT: a master at its scheduled start, or a potential master after a miss, sends its reference message; its SOF falls at `sof` and it ends as `res` says (R409, R411). DESIGN CHOICE (log 71). -/
def execReferenceAttempt (t : Time) (p : Fin 32) (sof : Time) (res : RefResult) (s : State) : Host.Outcome State Fault Refusal :=
  let s := begin' t s
  let b := busPort s p
  let due := (b.tt = 3 && nextRef s p ≤ portGlobal s p s.now) || (b.tt = 2 && b.candidate)
  let cycle := if b.tt = 3 then (b.cycle + 1) % ttMatrix s p else b.cycle
  if ttOn s p && mayStart s p && mayMaster s p && due && seesResult s p (refMessage s p cycle) res then
    .next (refAttempt p cycle (b.cycleAt + ttTol s p) sof res s)
  else .next s

/-- REFERENCE_MISS: no reference message by the predicted start plus tol (R411). A potential master's attempt, with the cycle count of the cycle that has begun, is then due. DESIGN CHOICE (log 71). -/
def execReferenceMiss (t : Time) (p : Fin 32) (s : State) : Host.Outcome State Fault Refusal :=
  let s := begin' t s
  let b := busPort s p
  if b.tt ≠ 2 || s.now < predicted s p + ttTol s p then .next s
  else
    let s := bump (T.can R.CAN_TT_REF_MISS p) s
    let last := b.cycle
    let s := beginCycle p (predicted s p) ((b.cycle + 1) % ttMatrix s p) s
    if 8 ≤ b.misses + 1 then
      let s := modBus p (fun b => { b with tt := 1, misses := 0, listenAt := s.now, stamp := none, formed := [] }) s
      .next (notify 0x31 p last (setMaster p 15 s))
    else .next (modBus p (fun b => { b with misses := b.misses + 1, candidate := mayMaster s p }) s)

/-- LISTEN_TIMEOUT: init_wait basic cycles have passed in listen without a reference message; a potential master makes its attempt with cycle count 0, whose scheduled start is the end of the wait (R409, R411). -/
def execListenTimeout (t : Time) (p : Fin 32) (sof : Time) (res : RefResult) (s : State) : Host.Outcome State Fault Refusal :=
  let s := begin' t s
  let b := busPort s p
  let wait := rf s R.CAN_TT_SYNC p 15 8 * (ttLength s p * usUnits)
  if b.tt = 1 && mayStart s p && mayMaster s p && b.listenAt + wait ≤ s.now && seesResult s p (refMessage s p 0) res then
    .next (refAttempt p 0 (b.listenAt + wait) sof res (modBus p (fun b => { b with listenAt := s.now }) s))
  else .next s

/-! ### Windows (R412 to R414, R423) -/

/-- A column's window in the present cycle: kind and source; a cycle count beyond the matrix cycle selects no bit (R412). DESIGN CHOICE (log 70). -/
def columnWindow (s : State) (p c : Nat) : Nat × Nat :=
  let w := rd2 s R.CAN_TT_COL p c
  let r := (busPort s p).cycle
  let row := decide (r < ttMatrix s p) && if r < 32 then flag (rd2 s R.CAN_TT_ROWS_LO p c) r else flag (rd2 s R.CAN_TT_ROWS_HI p c) (r - 32)
  if row && fld w 31 30 ≠ 3 then (fld w 31 30, fld w 29 28) else (0, 3)

/-- When a column begins, in NTU after the cycle start; past the last column, the cycle length. -/
def columnStart (s : State) (p c : Nat) : Nat :=
  if rf s R.CAN_TT_CYCLE p 6 0 ≤ c then ttLength s p
  else if c = 0 then 0 else fld (rd2 s R.CAN_TT_COL p c) 15 0

/-- The device time at which a column of the present cycle begins. -/
def columnAt (s : State) (p c : Nat) : Time := (busPort s p).cycleAt + ntuUnits s p (columnStart s p c)

/-- The convoy frames of a basic cycle: ADMIT and SHARE for the port's proxies, and REPORT to the parent (R171, R423, R424). DESIGN CHOICE (log 64). -/
def convoyFrames (p : Nat) (s : State) : State :=
  let mine := s.engine.convoy.outbox.filter (fun x => !(x.1 = p && (convoyRank x.2.2 ≤ 1 || convoyRank x.2.2 = 4)))
  let s := modConvoy (fun c => { c with outbox := mine }) s
  let proxies := (caravansOf s).filter (fun k => (caravan s k).proxy && (caravan s k).port = p)
  let s := proxies.foldl (fun s k =>
    let c := caravan s k
    if !c.joined || c.silent then
      sendConvoy p c.node (convoyHeader 1 0 0 0 ++ leBytes 2 c.base ++ leBytes 2 c.span
        ++ leBytes 1 (capNat 255 (s.engine.convoy.depth + 1)) ++ [0, 0, 0]) s
    else s) s
  let s := proxies.foldl (fun s k =>
    let c := caravan s k
    if c.joined then sendConvoy p c.node (convoyHeader 3 0 0 0 ++ shareBody c.eff) s else s) s
  if s.engine.convoy.joined && s.engine.convoy.parentPort = p then
    sendConvoy p (ownNode s p) (convoyHeader 4 0 0 0 ++ reportBody (caravan s 0).totals) s
  else s

/-- Form the convoy frames of the window at column `c`: those of the basic cycle in its first convoy window, with what waits (R414, R423). DESIGN CHOICE (log 64). -/
def formConvoy (p c : Nat) (s : State) : State :=
  let s := if (busPort s p).convoyTurn then s else convoyFrames p (modBus p (fun b => { b with convoyTurn := true }) s)
  modBus p (fun b => { b with convoyFormed := some (c, (s.engine.convoy.outbox.filter (fun x => x.1 = p)).map (·.2)) }) s

/-- TT_WINDOW_START: column `c` of the present cycle begins; on an idle bus the port starts the first frame that fits (R412, R413). -/
def execTtWindowStart (t : Time) (p : Fin 32) (c : Fin 64) (idle : Bool) (s : State) : Host.Outcome State Fault Refusal :=
  let s := begin' t s
  let b := busPort s p
  if !ttOn s p || !(b.tt = 2 || b.tt = 3) || c.val = 0 || rf s R.CAN_TT_CYCLE p 6 0 ≤ c.val || s.now < columnAt s p c then .next s
  else
    let (kind, source) := columnWindow s p c
    let s := modBus p (fun b => { b with
      window := some { kind := kind, source := source, ends := columnAt s p (c.val + 1) } }) s
    let unformed := kind ≠ 0 && source = 1 && imwaldOn s p && b.convoyFormed.map (·.1) ≠ some c.val
    let s := if unformed then formConvoy p c s else s
    startOutcome p idle s

/-! ### Timed node commands (R416 to R419) -/

/-- The 4-bit command code of an event kind (R418). -/
def cmdCode (kind : Nat) : Nat := kind

/-- Put a command into ascending execution time; ties keep the dispatcher's order (R416). -/
def byTime (c : SlotCmd) : List SlotCmd → List SlotCmd
  | [] => [c]
  | d :: rest => if c.ev.tExec < d.ev.tExec then c :: d :: rest else d :: byTime c rest

/-- A list in pieces of at most `n`. -/
def chunks {α : Type} (n : Nat) : Nat → List α → List (List α)
  | 0, _ => []
  | _, [] => []
  | fuel + 1, l => l.take n :: chunks n fuel (l.drop n)

/-- The entry of a command in a frame whose window starts at global time `base` (R417). -/
def slotEntry (s : State) (p : Nat) (base : Int) (c : SlotCmd) : SlotEntry :=
  { id := c.ev.id, node := c.node, sub := c.sub, code := cmdCode c.ev.kind, profile := rf s R.CAN_IMW_ID p 23 20
    at' := entryAt s p base c.ev.tExec, duty := c.ev.d }

/-- A command frame of some cancels and commands (R415, R417). The acceptance field of an XL frame, which the manual does not give, is free. -/
def commandFrame (s : State) (p : Nat) (base : Int) (items : List (SlotCancel ⊕ SlotEntry)) : SlotFrame :=
  { xl := rb s R.CAN_IMW_CFG p 30, accept := (freeWord s).toNat
    vcid := rf s R.CAN_IMW_ID p 15 8, sdt := rf s R.CAN_IMW_ID p 7 0, base := wrapU 64 base
    cmds := items.filterMap (fun i => match i with
      | .inr c => some c
      | .inl _ => none)
    cancels := items.filterMap (fun i => match i with
      | .inl c => some c
      | .inr _ => none) }

/-- The commands that go: while fewer than `room` transmitted ones still have their times ahead (R416). -/
def slotTake (now : Time) : Nat → List SlotCmd → List SlotCmd
  | 0, _ => []
  | _, [] => []
  | room + 1, c :: rest => c :: slotTake now (if now < c.ev.tExec then room else room + 1) rest

/-- The frames that together last no longer than `room` units. -/
def fitting (s : State) (p : Nat) : Nat → List SlotFrame → List SlotFrame
  | _, [] => []
  | room, f :: rest =>
    let d := worstUnits s p (f.frame 0 0)
    if d ≤ room then f :: fitting s p (room - d) rest else []

/-- The command frame that a port has in an attempt, or holds after bus-off. -/
def slotInHand (s : State) (p : Nat) : Option SlotFrame :=
  let b := busPort s p
  (b.attempt.bind (·.slot)).or (b.held.bind (·.slot))

/-- The frame that the port holds after bus-off is formed again for a window that starts at global time `base`: the same entries, in the clock of the present master (R398, R414, R416). DESIGN CHOICE (log 71). -/
def reformHeld (p : Nat) (base : Int) (s : State) : State :=
  let again (f : SlotFrame) : SlotFrame :=
    { f with base := wrapU 64 base
             cmds := f.cmds.map (fun x => match (slotQueue s p).find? (fun c => c.ev.id = x.id) with
               | some c => slotEntry s p base c
               | none => x) }
  modBus p (fun b => { b with held := b.held.map (fun a => { a with slot := a.slot.map again }) }) s

/-- Form the command frames of the slot window at column `c`, of what no frame in hand carries; a cancel whose command's time has passed is removed unsent (R416, R419). -/
def formSlots (p c : Nat) (s : State) : State :=
  let start := columnAt s p c
  let base := portGlobal s p start
  let inHand := slotInHand s p
  let s := setSlotCancels p ((slotCancels s p).filter (fun x => s.now < x.time)) s
  let s := setSlotQueue p ((slotQueue s p).filter (fun x => !(x.cancelled && decide (x.ev.tExec ≤ s.now)))) s
  let s := reformHeld p base s
  let carried (x : SlotCmd) : Bool := inHand.any (·.carries x.ev.id)
  let cancels := (slotCancels s p).filter (fun x => !inHand.any (fun f => f.cancels.contains x))
  let ahead' := ((slotQueue s p).filter (fun x => (x.sent || carried x) && s.now < x.ev.tExec)).length
  let waiting := ((slotQueue s p).filter (fun x => !x.sent && !carried x)).foldl (fun l x => byTime x l) []
  let items := cancels.map Sum.inl ++ (slotTake s.now (64 - ahead') waiting).map (fun x => Sum.inr (slotEntry s p base x))
  let per := if rb s R.CAN_IMW_CFG p 30 then 64 else 4
  let frames := (chunks per items.length items).map (commandFrame s p base)
  drawFree (modBus p (fun b => { b with formed := fitting s p (columnAt s p (c + 1) - start) frames }) s)

/-- SLOT_FRAME_FORM: 5 us before a slot or convoy window, its frames are formed (R414, R416, R419). -/
def execSlotFrameForm (t : Time) (p : Fin 32) (c : Fin 64) (s : State) : Host.Outcome State Fault Refusal :=
  let s := begin' t s
  let b := busPort s p
  let start := columnAt s p c
  let (kind, source) := columnWindow s p c
  let due := imwaldOn s p && (b.tt = 2 || b.tt = 3) && c.val ≠ 0 && c.val < rf s R.CAN_TT_CYCLE p 6 0
    && kind ≠ 0 && start ≤ s.now + 5 * usUnits && s.now ≤ start
  if !due then .next s
  else if source = 1 then .next (formConvoy p c s)
  else if source = 0 && (b.tt = 3 || lockedPort b) then
    .next (formSlots p c s)
  else .next s

/-! ### Node status (R422) -/

/-- Lanes bound to a node of a port, with their sub-index. -/
def nodeLanes (s : State) (p node : Nat) : List (Nat × Nat) :=
  (lanesOf s).filterMap (fun k => match (lane s k).binding with
    | .remote q n u => if q = p && n = node then some (k, u) else none
    | _ => none)

/-- NODE_STATUS: a node's fault mask arrives (R422). DESIGN CHOICE (log 10). -/
def execNodeStatus (t : Time) (p : Fin 32) (node : BitVec 8) (data : List Byte) (s : State) : Host.Outcome State Fault Refusal :=
  let n := node.toNat
  imwaldHeard p (0x600 + n) (fun s =>
    let lanes := nodeLanes s p n
    if lanes.isEmpty || data.length < 8 then .next s
    else
      let mask := u64 data 0
      let s := modBus p (fun b => { b with
        nodeSeen := tabSet 0 b.nodeSeen n s.now
        nodeMask := tabSet 0 b.nodeMask n mask
        silent := b.silent.filter (fun m => m != n) }) s
      .next (lanes.foldl (fun s x => if bitOf mask x.2 then laneFault x.1 0x100 s else s) s)) (begin' t s)

/-- NODE_SILENT: a bound node has sent no status for silent_ms (R422). -/
def execNodeSilent (t : Time) (p : Fin 32) (node : BitVec 8) (s : State) : Host.Outcome State Fault Refusal :=
  let s := begin' t s
  let b := busPort s p
  let n := node.toNat
  let lanes := nodeLanes s p n
  let limit := rf s R.CAN_IMW_CFG p 15 0
  let since := max b.enabledAt (tabGet 0 b.nodeSeen n)
  if imwaldOn s p && !lanes.isEmpty && limit ≠ 0 && !b.silent.contains n && since + limit * msUnits ≤ s.now then
    .next (lanes.foldl (fun s x => laneFault x.1 0x200 s) (setBus p { b with silent := b.silent ++ [n] } s))
  else .next s

end Sys2Proof.Machine
end

