-- ==== Sys2Proof/Machine/Views.lean ====
section
/-! DEFINITION. What every register reads as (R14, R567 to R569, R574): stored bits, and the words that the units form; and the reads that act: the latching pairs and COURSE_LATCH_DATA7 (R88, R109). -/
namespace Sys2Proof.Machine

/-- A word from a number. -/
def w32 (n : Nat) : W32 := BitVec.ofNat 32 n
/-- The low and high words of a 64-bit two's-complement number. -/
def loWord (x : Int) : W32 := BitVec.ofInt 32 x
def hiWord (x : Int) : W32 := BitVec.ofInt 32 (x / 2 ^ 32)

/-! ### The words that units form, page by page: none where the register shows its stored bits -/

/-- Identification (R575, R576). -/
def viewId (s : State) (r : Reg) : Option W32 :=
  let x := s.security
  if r.base = R.ID_REVISION.base then some (w32 (0x01000100 + x.driveRevision % 256 * 2 ^ 16))
  else if r.base = R.ID_FLASH.base then
    some (w32 (b2n (x.flashLog2 ≠ 0) * 2 ^ 31 + x.flashMode % 4 * 2 ^ 29 + x.flashLog2 % 32 * 2 ^ 24 + x.flashMhz % 256))
  else if r.base = R.ID_LOCK.base then some (w32 (b2n x.locked * 2 ^ 31))
  else if r.base = R.ID_BADACC.base then some x.badAcc
  else none

/-- CISTER_RING_STAT (R74). -/
def ringStatWord (s : State) (n : Nat) : W32 :=
  let r := ring s n
  w32 (b2n r.idle * 2 ^ 31 + b2n r.fault * 2 ^ 30 + r.cause % 8 * 2 ^ 27 + b2n r.fwOwner * 2 ^ 26
    + b2n (!r.isPost && r.running && r.fullNow) * 2 ^ 25)

/-- Ring contexts (R71, R72, R74). -/
def viewRing (s : State) (r : Reg) (n : Nat) : Option W32 :=
  let x := ring s n
  if r.base = R.CISTER_RING_BASE_LO.base then some x.baseLo
  else if r.base = R.CISTER_RING_BASE_HI.base then some x.baseHi
  else if r.base = R.CISTER_RING_CFG.base then some x.cfg
  else if r.base = R.CISTER_RING_STAT.base then some (ringStatWord s n)
  else if r.base = R.CISTER_RING_SWIDX.base then some x.s
  else if r.base = R.CISTER_RING_DEVIDX.base then some x.d
  else some (tally s n)

/-- Image types whose inactive slot is valid, as SEC_UPDATE.staged codes them (R483). -/
def stagedBits (s : State) : Nat :=
  [1, 2, 3].foldl (fun a k => a + b2n (slotValid s k (inactiveSlot s k)) * 2 ^ (k - 1)) 0

/-- Security and start-up (R482, R483, R522 to R524). -/
def viewSec (s : State) (r : Reg) : Option W32 :=
  let x := s.security
  if r.base = R.SEC_STAT.base then some (secStat s)
  else if r.base = R.SEC_ALARM.base then some (w32 x.alarms)
  else if r.base = R.SEC_VER_MON.base then some x.verMon
  else if r.base = R.SEC_VER_CHARTER.base then some x.verCharter
  else if r.base = R.SEC_VER_FW.base then some x.verFw
  else if r.base = R.SEC_FLOORS.base then some x.floorsShown
  else if r.base = R.SEC_DEVICE_ID_LO.base then some (x.deviceId.setWidth 32)
  else if r.base = R.SEC_DEVICE_ID_HI.base then some ((x.deviceId >>> 32).setWidth 32)
  else if r.base = R.SEC_CORE_STAT.base then
    some (w32 ((List.range 4).foldl (fun a k =>
      let c := tabGet {} s.cores k
      a + (c.run % 4 * 64 + capNat 63 c.restarts) * 2 ^ (8 * k)) 0))
  else if r.base = R.SEC_SIGFAIL.base then some (w32 s.aon.sigFails)
  else if r.base = R.SEC_REGION_FAULTS.base then some (tally s T.regionFaults)
  else if r.base = R.SEC_UPDATE.base then
    some (w32 (x.seq.toNat % 2 ^ 16 * 2 ^ 16 + x.trial % 8 * 2 ^ 8 + x.active % 8 * 16 + stagedBits s))
  else if r.base = R.SEC_RECOVERY_LO.base then some x.recoveryLo
  else if r.base = R.SEC_RECOVERY_HI.base then some x.recoveryHi
  else if r.base = R.SEC_RECOVERY_CTRL.base then some x.recoveryCtrl
  else if r.base = R.START_STAT.base then some (startStat s)
  else some (w32 s.startup.startTime)

/-- CLK_STAT (R453). -/
def clkStat (s : State) : W32 :=
  let c := s.clocks
  w32 (b2n c.sysLock * 2 ^ 31 + b2n c.ethLock * 2 ^ 30 + b2n c.pipeLock * 2 ^ 29 + b2n c.timeCoarse * 2 ^ 28 + c.faults % 64)

/-- Clocks and resets (R452, R453): a crossing index above 17 reads as 0. -/
def viewClk (s : State) (r : Reg) : Option W32 :=
  let k := rf s R.XING_SEL 0 4 0
  if r.base = R.CLK_STAT.base then some (clkStat s)
  else if r.base = R.RST_CAUSE.base then some (rstCause s)
  else if r.base = R.RST_WARM_CNT.base then some s.clocks.warmCount
  else if r.base = R.XING_MERGE.base then some (if k < 18 then tally s (T.xingMerge k) else 0)
  else if r.base = R.XING_LOST.base then some (if k < 18 then tally s (T.xingLost k) else 0)
  else none

/-- LEDGER_STAT (R507). -/
def ledgerStat (s : State) : W32 :=
  let stopped := (List.range 4).foldl (fun a k => a + b2n (lstream s k).stopped * 2 ^ k) 0
  let buffered := (List.range 4).foldl (fun a k => a + (lstream s k).buffer.length) 0
  w32 (stopped * 2 ^ 28 + capNat 255 s.ledger.blocksOpen.length * 2 ^ 16 + capNat 0xFFFF buffered)

/-- Ledger (R486, R491, R492, R501, R503, R506, R507). -/
def viewLedger (s : State) (r : Reg) (k : Nat) : Option W32 :=
  let l := lstream s k
  if r.base = R.LEDGER_STAT.base then some (ledgerStat s)
  else if r.base = R.LEDGER_CURSOR_LO.base then some s.ledger.cursorIndex
  else if r.base = R.LEDGER_CURSOR_HI.base then some (w32 s.ledger.cursorStream)
  else if r.base = R.LEDGER_WINDOW.base then some (windowWord s k)
  else if r.base = R.LEDGER_RTC_CTRL.base then some (setFlag (rd s R.LEDGER_RTC_CTRL 0) 29 s.ledger.rtcArmed)
  else if r.base = R.LEDGER_RTC.base then some (w32 (rtcNow s / 1000))
  else if r.base = R.LEDGER_RTC_MS.base then some s.ledger.rtcMs
  else if r.base = R.LEDGER_OPTIME.base then some (w32 s.aon.opSeconds)
  else if r.base = R.LEDGER_PWRCYC.base then some (w32 (s.aon.powerCycles % 2 ^ 24))
  else if r.base = R.LEDGER_FIRST.base then some (w32 l.first)
  else if r.base = R.LEDGER_NEXT.base then some (w32 (nextPos s k))
  else if r.base = R.LEDGER_LOST.base then some (tally s (T.ledgerLost k))
  else if r.base = R.LEDGER_EXPORTED.base then some (w32 l.exported)
  else none

/-- Trace and tallies (R539, R542 to R544). -/
def viewTrace (s : State) (r : Reg) : Option W32 :=
  let k := rf s R.TALLY_IDX 0 8 0
  if r.base = R.TRACE_STAT.base then
    some (w32 (b2n (rb s R.TRACE_CFG 0 31) * 2 ^ 31 + traceLevel s.trace % 2 ^ 13))
  else if r.base = R.TRACE_MASK.base then some (traceMask s)
  else if r.base = R.TRACE_DROP.base then some s.trace.dropped
  else if r.base = R.TALLY_DATA.base then
    some (if rb s R.TALLY_IDX 0 31 then tabGet 0 s.tallySnap k else tally s k)
  else if r.base = R.TALLY_SNAP_TIME_LO.base then some (loWord s.tallySnapTime)
  else if r.base = R.TALLY_SNAP_TIME_HI.base then some (hiWord s.tallySnapTime)
  else none

/-- COURSE_STAT (R113). -/
def courseStat (s : State) : W32 :=
  let c := s.course
  w32 (b2n c.running * 2 ^ 31 + b2n c.reverse * 2 ^ 30 + b2n c.slip * 2 ^ 29 + b2n c.lost * 2 ^ 28 + b2n c.coasting * 2 ^ 27
    + b2n c.jackknife * 2 ^ 26 + b2n c.poseRange * 2 ^ 25 + b2n c.imuStale * 2 ^ 24 + c.active % 4 * 2 ^ 22
    + b2n (c.set.yawHost && c.hostYaw.stale || decide (c.set.hitchSrc = 3) && c.hostHitch.stale) * 2 ^ 21)

/-- The bytes of a latch record (R109). -/
def latchBytes (x : LatchRec) : List Byte :=
  leBytes 8 x.time ++ leBytes 8 (wrapU 64 x.course) ++ leBytes 4 (wrapU 32 x.x) ++ leBytes 4 (wrapU 32 x.y)
    ++ leBytes 4 (wrapU 32 x.heading) ++ leBytes 4 x.position.toNat

/-- Word `i` of the oldest record of the selected latch; an empty FIFO reads as zero (R109). -/
def latchWord (s : State) (i : Nat) : W32 :=
  match latchFifo s (rf s R.COURSE_LATCH_SEL 0 2 0) with
  | [] => 0
  | x :: _ => w32 (u32 (latchBytes x) (4 * i))

/-- Course (R88, R89, R109, R112, R113). -/
def viewCourse (s : State) (r : Reg) (i : Nat) : Option W32 :=
  if r.base = R.COURSE_STAT.base then some (courseStat s)
  else if r.base = R.COURSE_TIME_LO.base then some (loWord s.now)
  else if r.base = R.COURSE_TIME_HI.base then some (hiWord s.now)
  else if r.base = R.COURSE_PPS_LO.base then some (loWord s.course.ppsTime)
  else if r.base = R.COURSE_PPS_HI.base then some (hiWord s.course.ppsTime)
  else if r.base = R.COURSE_PPS_CNT.base then some s.course.ppsCount
  else if r.base = R.COURSE_MC_LO.base then some (loWord (mcSteps s))
  else if r.base = R.COURSE_MC_HI.base then some (hiWord (mcSteps s))
  else if r.base = R.COURSE_LATCH_SEL.base then
    let sel := rf s R.COURSE_LATCH_SEL 0 2 0
    some (w32 (sel + (latchFifo s sel).length * 2 ^ 16))
  else if r.base = R.COURSE_LATCH_DATA.base then some (latchWord s i)
  else none

/-- Feedback (R119 to R145). -/
def viewFb (s : State) (r : Reg) (n : Nat) : Option W32 :=
  let c := fb s n
  let a := ain s n
  if r.base = R.FB_STAT.base then
    some (w32 (c.st % 4 * 2 ^ 30 + b2n c.negative * 2 ^ 29 + b2n c.overspeed * 2 ^ 28 + c.sticky % 256))
  else if r.base = R.FB_POS_LO.base then some (loWord c.pos)
  else if r.base = R.FB_POS_HI.base then some (hiWord c.pos)
  else if r.base = R.FB_SPEED.base then some (BitVec.ofInt 32 (satS 32 (roundShift (fbSpeed s n) 12)))
  else if r.base = R.FB_INDEX.base then some c.index
  else if r.base = R.FB_AMP.base then some (w32 (c.amp % 2 ^ 16))
  else if r.base = R.AIN_DATA.base then some (w32 (b2n a.valid * 2 ^ 31 + b2n a.out * 2 ^ 30 + a.result % 2 ^ 12))
  else if r.base = R.EMU_STAT.base then some (w32 (b2n (emu s n).overrun * 2 ^ 31 + capNat 0xFFFF (emuOwedTotal s n (emu s n) - (emu s n).emitted).natAbs))
  else none

/-- Slots of the coverage cache in one of some states. -/
def slotsIn (s : State) (l : List SlotState) : Nat := (s.engine.coverage.slots.filter (fun e => l.contains e.2.st)).length

/-- Lane engine (R177, R178, R192, R213, R214, R241, R242). -/
def viewEngine (s : State) (r : Reg) : Option W32 :=
  let f := s.engine.fid
  let v := s.engine.convoy
  if r.base = R.LOOKAHEAD_POOL.base then some (w32 s.engine.poolFree)
  else if r.base = R.LOOKAHEAD_FID_N.base then some (w32 f.n)
  else if r.base = R.LOOKAHEAD_FID_MAX.base then some (w32 f.max)
  else if r.base = R.LOOKAHEAD_FID_OUT.base then some (w32 f.out)
  else if r.base = R.LOOKAHEAD_FID_SUM_LO.base then some (loWord f.sum)
  else if r.base = R.LOOKAHEAD_FID_SUM_HI.base then some (hiWord f.sum)
  else if r.base = R.LOOKAHEAD_FID_SQ_LO.base then some (loWord f.sq)
  else if r.base = R.LOOKAHEAD_FID_SQ_HI.base then some (hiWord f.sq)
  else if r.base = R.LOOKAHEAD_JIT_SUM_LO.base then some (loWord f.jitSum)
  else if r.base = R.LOOKAHEAD_JIT_SUM_HI.base then some (hiWord f.jitSum)
  else if r.base = R.LOOKAHEAD_JIT_SQ_LO.base then some (loWord f.jitSq)
  else if r.base = R.LOOKAHEAD_JIT_SQ_HI.base then some (hiWord f.jitSq)
  else if r.base = R.CONVOY_STAT.base then
    some (w32 (b2n v.joined * 2 ^ 31 + b2n v.parentSilent * 2 ^ 30 + v.parentPort % 32 * 2 ^ 25 + v.addr % 2 ^ 12 * 2 ^ 12
      + capNat 255 v.depth))
  else if r.base = R.CONVOY_SPAN.base then some (w32 (v.span % 2 ^ 13))
  else if r.base = R.LANE_COUNT.base then some (w32 ((lanesOf s).length * 2 ^ 16 + (caravansOf s).length))
  else if r.base = R.MEMBER_COUNT.base then some (w32 (memberCount s))
  else if r.base = R.COVERAGE_STAT.base then
    some (w32 (slotsIn s [.dirty, .writing] * 2 ^ 18 + slotsIn s [.clean, .dirty, .writing] * 2 ^ 9 + slotsIn s [.requested]))
  else if r.base = R.COVERAGE_MISS.base then some (tally s T.covMiss)
  else if r.base = R.COVERAGE_REQ_MERGE.base then some (tally s T.covReqMerge)
  else if r.base = R.COVERAGE_MARK_LOST.base then some (tally s T.covMarkLost)
  else if r.base = R.COVERAGE_OVER_EXCL.base then some (tally s T.covOverExcl)
  else if r.base = R.COVERAGE_EDGE_OVF.base then some (tally s T.covEdgeOvf)
  else none

/-- Ethernet (R251, R264, R265): the tallies of a MAC stand in R264 order. -/
def viewEth (s : State) (r : Reg) (m : Nat) : Option W32 :=
  if r.base = R.ETH_TIME_STAT.base then
    some (w32 (b2n (ethMac s m).valid * 2 ^ 31 + b2n ((ethMac s m).valid && mapStale s m) * 2 ^ 30))
  else if R.ETH_RX_FRAMES.base ≤ r.base && r.base ≤ R.ETH_TGT_SPOTREF.base then
    some (tally s (T.eth m ((r.base - R.ETH_RX_FRAMES.base) / 4)))
  else if r.base = R.ETH_MDIO.base then
    some (w32 ((rd s R.ETH_MDIO 0).toNat % 2 ^ 31 + b2n s.eth.mdioBusy * 2 ^ 19))
  else if r.base = R.ETH_TGT_QUEUE.base then some (w32 (s.eth.queue.length % 2 ^ 13))
  else none

/-- LOOP_LOAD.recent at this instant (R369, R376): the highest load of the last completed millisecond. -/
def recentLoad (s : State) : Nat :=
  let ms := s.now / msUnits
  if s.loops.ms = ms then s.loops.recent else if s.loops.ms + 1 = ms then s.loops.msPeak else 0

/-- Control engine (R369, R375, R376). -/
def viewLoop (s : State) (r : Reg) (n : Nat) : Option W32 :=
  let l := s.loops
  if r.base = R.LOOP_STAT.base then
    some (w32 (b2n l.fallback * 2 ^ 31 + b2n l.bistActive * 2 ^ 30 + b2n l.bistFail * 2 ^ 29 + (enabledLoops s).length))
  else if r.base = R.LOOP_LOAD.base then some (w32 (capNat 0xFFFF l.peak * 2 ^ 16 + capNat 0xFFFF (recentLoad s)))
  else if r.base = R.LOOP_LATENCY.base then some (w32 (capNat 0xFFFFFFFF (roundDivNat l.latency 6)))
  else if r.base = R.LOOP_SKIP.base then some (tally s T.loopSkip)
  else if r.base = R.LOOP_LIMITED.base then some (tally s T.loopLimited)
  else if r.base = R.LOOP_BIST_RUNS.base then some (tally s T.loopBistRuns)
  else if r.base = R.LOOP_OUT.base then some (BitVec.ofInt 32 (loop s n).y)
  else none

/-- LEASE_STAT (R328). -/
def leaseStat (s : State) : W32 :=
  let l := s.lease
  w32 (b2n l.held * 2 ^ 31 + l.cause % 8 * 2 ^ 28 + capNat 255 l.regrants * 2 ^ 16 + l.epoch % 2 ^ 16)
/-- RELAY_STAT (R309, R328). -/
def relayStat (s : State) : W32 :=
  w32 (b2n s.relay.trained * 2 ^ 31 + b2n s.relay.driveReset * 2 ^ 30 + s.relay.epoch % 16 * 2 ^ 24)

/-- Drive, protection, lease and relay (R298, R307, R327, R328): the control die's copy, and its tallies. -/
def viewDrive (s : State) (r : Reg) (n : Nat) : Option W32 :=
  if r.base = R.DRV_DEFER.base then some (tally s (T.drvDefer n))
  else if r.base = R.DRV_MINOFF.base then some (tally s (T.drvMinoff n))
  else if r.base = R.DRV_NOMOTION.base then some (tally s (T.drvNomotion n))
  else if r.base = R.DRV_BANK_REFUSED.base then some (tally s (T.bankRefused n))
  else if r.base = R.DRV_BANK_CONFLICT.base then some (tally s (T.bankConflict n))
  else if r.base = R.BOOST_RECOVERED.base then some (tally s T.boostRecovered)
  else if r.base = R.BOOST_SUPPLIED.base then some (tally s T.boostSupplied)
  else if r.base = R.LEASE_STAT.base then some (leaseStat s)
  else if r.base = R.RELAY_STAT.base then some (relayStat s)
  else if r.base = R.RELAY_CRC_ERR.base then some (tally s T.relayCrc)
  else if r.base = R.RELAY_RETRAIN.base then some (tally s T.relayRetrain)
  else if r.base = R.RELAY_LOST.base then some (tally s T.relayLost)
  else if r.base = R.LEASE_LAPSES.base then some (tally s T.leaseLapses)
  else none

/-- PWM (R349, R350). -/
def viewPwm (s : State) (r : Reg) (n : Nat) : Option W32 :=
  if r.base = R.PWM_STAT.base then some (pwmStatWord s n)
  else if r.base = R.PWM_TRIP_IN_CNT.base then some (tally s (T.tripIn n))
  else none

/-- Bus ports (R401, R402, R428, R429): the tallies of a port stand at their own offsets. -/
def viewBus (s : State) (r : Reg) (p : Nat) : Option W32 :=
  if r.base = R.CAN_STAT.base then some (canStatWord s p)
  else if r.base = R.CAN_ERR.base then some (canErrWord s p)
  else if r.base = R.CAN_QSTAT.base then some (canQWord s p)
  else if r.base = R.CAN_TT_STAT.base then some (ttStatWord s p)
  else if R.CAN_TX_OK.base ≤ r.base && r.base ≤ R.CAN_IMW_CMDS.base then some (tally s (T.can r p))
  else none

/-- What a register shows of its unit, if it shows more than its stored bits. -/
def viewReg (s : State) (r : Reg) (off : Nat) : Option W32 :=
  let i := regIdx r off
  let p := pageOf off
  if p = 0x00 then viewId s r
  else if p = 0x01 then viewRing s r i
  else if p = 0x03 then viewSec s r
  else if p = 0x04 then viewClk s r
  else if p = 0x05 then viewLedger s r i
  else if p = 0x06 then viewTrace s r
  else if p = 0x08 then viewCourse s r i
  else if p = 0x09 then viewFb s r i
  else if p = 0x0A then viewEngine s r
  else if p = 0x0B then viewEth s r i
  else if p = 0x0C then viewLoop s r i
  else if p = 0x10 || p = 0x12 then viewDrive s r i
  else if p = 0x14 then viewPwm s r i
  else if p = 0x18 then viewBus s r i
  else none

/-- What an unlisted word of the MSI-X table reads as: a vector's control word has its mask bit set after reset (R37, R63). -/
def msixDefault (w : Nat) : W32 := if w % 4 = 3 then 1 else 0

/-- A word of the MSI-X table or of the pending bit array (R63, R567). -/
def msixWord (s : State) (off : Nat) : W32 :=
  if 0xFE000 ≤ off && off < 0xFE400 then tabGet (msixDefault ((off - 0xFE000) / 4)) s.cister.msixTable ((off - 0xFE000) / 4)
  else if 0xFF000 ≤ off && off < 0xFF008 then
    w32 ((List.range 32).foldl (fun a i => a + b2n (s.cister.msixPending.contains (8 * (off - 0xFF000) + i)) * 2 ^ i) 0)
  else 0

/-- What the 4-byte word at a BAR0 offset holds: reserved offsets and WO bits read as zero (R14, R15, R568). -/
def regWord (s : State) (off : Nat) : W32 :=
  match regAt off with
  | none => msixWord s off
  | some r => match viewReg s r off with
    | some v => v
    | none => tabGet r.reset s.regs off &&& ~~~ r.wo

/-! ### Latching pairs (R88, R569) -/

/-- The _LO registers whose read latches the _HI word after them. The ledger cursor and the pairs of R569's table are not among them. -/
def latchingLo : List Reg :=
  [R.CISTER_RING_BASE_LO, R.CISTER_MIRROR_BASE_LO, R.SEC_DEVICE_ID_LO, R.SEC_RECOVERY_LO, R.TALLY_SNAP_TIME_LO, R.COURSE_TIME_LO,
   R.COURSE_PPS_LO, R.COURSE_MC_LO, R.FB_POS_LO, R.LOOKAHEAD_FID_SUM_LO, R.LOOKAHEAD_FID_SQ_LO, R.LOOKAHEAD_JIT_SUM_LO,
   R.LOOKAHEAD_JIT_SQ_LO, R.ETH_ADDR_LO, R.CAN_TT_ROWS_LO]
/-- An offset that holds the _LO word of a latching pair. -/
def latchesAt (off : Nat) : Bool := latchingLo.any (fun r => regHas r off)

/-- The latch of an actor for the pair whose _LO word stands at an offset. -/
def hiKey (a : Actor) (off : Nat) : Nat := actorCode a * 2 ^ 20 + off

/-- Whether a read by an actor finds a register at an offset at all (R573, R574). -/
def readable (s : State) (a : Actor) (off : Nat) : Bool :=
  let p := pageOf off
  let cursor := off = R.LEDGER_CURSOR_LO.base || off = R.LEDGER_CURSOR_HI.base || regHas R.LEDGER_WINDOW off
  reaches s a && (!inRecovery s || p = 0x00 || p = 0x03 || cursor) && (decide (a = .host) || !(p = 0xFE || p = 0xFF))

/-- What an actor reads at an offset: the _HI word of a latching pair is that actor's latch (R88). DESIGN CHOICE (log 9). -/
def regRead (s : State) (a : Actor) (off : Nat) : W32 :=
  if !readable s a off then 0
  else if 4 ≤ off && latchesAt (off - 4) then tabGet 0 s.hiLatch (hiKey a (off - 4))
  else regWord s off

/-- Read the _LO word of a latching pair: the _HI word is latched for the actor, and an 8-byte read returns both words (R88, R569). An access of another size is handled under R38. -/
def latchRead (a : Actor) (off size : Nat) (s : State) : State :=
  if !readable s a off then { s with readData := 0 }
  else if size = 4 || size = 8 then
    let hi := regWord s (off + 4)
    { s with
      readData := (if size = 8 then hi.setWidth 64 <<< 32 else 0) ||| (regWord s off).setWidth 64
      hiLatch := tabSet 0 s.hiLatch (hiKey a off) hi }
  else { badAccess a false 2 false off s with readData := 0 }

/-- COURSE_TIME_LO_READ (R88). -/
def execCourseTimeLoRead (t : Time) (a : Actor) (size : Nat) (s : State) : Host.Outcome State Fault Refusal :=
  .next (latchRead a R.COURSE_TIME_LO.base size (begin' t s))

/-- COURSE_MC_LO_READ: the machine course of the latest sweep close (R88). -/
def execCourseMcLoRead (t : Time) (a : Actor) (size : Nat) (s : State) : Host.Outcome State Fault Refusal :=
  .next (latchRead a R.COURSE_MC_LO.base size (begin' t s))

/-- The registers whose reads have commands of their own. -/
def readsApart (off : Nat) : Bool :=
  off = R.LEDGER_WINDOW.base + 28 || off = R.LEDGER_RTC.base || off = R.COURSE_LATCH_DATA.base + 28

/-- A read of any other register of BAR0: one aligned word, and nothing else changes; an access of another size or alignment is handled under R38 (R14, R569), but what recovery hides reads zero uncounted (R574). -/
def plainRead (a : Actor) (off size : Nat) (s : State) : State :=
  if !readable s a off then { s with readData := 0 }
  else if size = 4 && off % 4 = 0 then { s with readData := (regRead s a off).setWidth 64 }
  else { badAccess a false 2 false off s with readData := 0 }

/-- A read of the doorbell page: S of ring n at n × 8, D at n × 8 + 4; any other read returns zero and counts (R38, R56, R579). DESIGN CHOICE (log 9). -/
def bar2Read (a : Actor) (off size : Nat) (s : State) : State :=
  if !reaches s a then { s with readData := 0 }
  else if 0x400 ≤ off then { badAccess a false 1 true off s with readData := 0 }
  else if size = 4 && off % 4 = 0 then
    let r := ring s (off / 8)
    { s with readData := (if off % 8 = 0 then r.s else r.d).setWidth 64 }
  else { badAccess a false 2 true off s with readData := 0 }

/-- LATCHED_PAIR_LO_READ: a read of `size` bytes at the _LO word of any other latching pair (R569); at an offset without such a pair, a plain read. Offsets from 2^20 on are those of BAR2. DESIGN CHOICE (log 9). -/
def execLatchedPairLoRead (t : Time) (a : Actor) (off size : Nat) (s : State) : Host.Outcome State Fault Refusal :=
  let s := begin' t s
  if 2 ^ 20 ≤ off then .next (bar2Read a (off - 2 ^ 20) size s)
  else if readsApart off && size = 4 then .next s
  else if latchesAt off then .next (latchRead a off size s) else .next (plainRead a off size s)

/-- COURSE_LATCH_DATA7_READ: the last word of the oldest record of the selected latch is returned, and the record removed (R109). -/
def execCourseLatchData7Read (t : Time) (s : State) : Host.Outcome State Fault Refusal :=
  let s := begin' t s
  let n := rf s R.COURSE_LATCH_SEL 0 2 0
  if inRecovery s then .next { s with readData := 0 }
  else .next { setLatchFifo n ((latchFifo s n).drop 1) s with readData := (latchWord s 7).setWidth 64 }

end Sys2Proof.Machine
end

