-- ==== Sys2Proof/Machine/RegWrite.lean ====
section
/-! DEFINITION. A write to any register (R14 to R17, R567 to R577): what its gate lets through acts as its access codes and its chapter state; a register with a command of its own acts as that command does. -/
namespace Sys2Proof.Machine

/-- A write that only changes the stored bits that software may write (R14, R15). -/
def plainWrite (off : Nat) (v : W32) (s : State) : State :=
  match regAt off with
  | none => s
  | some r => { s with regs := tabSet r.reset s.regs off (regMerge r (tabGet r.reset s.regs off) v) }

/-- Ring contexts: the base is written only while the ring is idle and not enabled; so is the fault cleared (R71 to R74). -/
def ringRegWrite (off : Nat) (v : W32) (s : State) : State :=
  let n := (off - 0x1000) / 0x20
  let r := ring s n
  let free := !r.enable && r.idle
  if regHas R.CISTER_RING_CFG off then (if flag v 31 then ringCfgEnable n v s else ringCfgDisable n v s)
  else if !free then s
  else if regHas R.CISTER_RING_BASE_LO off then setRing n { r with baseLo := v &&& R.CISTER_RING_BASE_LO.rw } s
  else if regHas R.CISTER_RING_BASE_HI off then setRing n { r with baseHi := v } s
  else if regHas R.CISTER_RING_STAT off && flag v 30 then setRing n { r with fault := false, cause := 0 } s
  else s

/-- Identification, clocks and resets: W1C fields (R453, R576). DESIGN CHOICE (log 23). -/
def idClkWrite (off : Nat) (v : W32) (s : State) : State :=
  if off = R.ID_BADACC.base then
    (if flag v 31 then { s with security := { s.security with badAcc := setFlag s.security.badAcc 31 false } } else s)
  else if off = R.CLK_STAT.base then
    { s with clocks := { s.clocks with faults := s.clocks.faults % 64 - (s.clocks.faults % 64 &&& v.toNat) } }
  else if off = R.RST_CAUSE.base then
    { s with clocks := { s.clocks with
        causeCold := s.clocks.causeCold && !flag v 31, causeWarm := s.clocks.causeWarm && !flag v 30
        causeRef := s.clocks.causeRef && !flag v 29, causePll := s.clocks.causePll && !flag v 28 } }
  else plainWrite off v s

/-- The recovery registers (R480, R482). -/
def recoveryWrite (off : Nat) (v : W32) (s : State) : State :=
  if off = R.SEC_RECOVERY_LO.base then modSec (fun x => { x with recoveryLo := v }) s
  else if off = R.SEC_RECOVERY_HI.base then modSec (fun x => { x with recoveryHi := v }) s
  else if off = R.SEC_RECOVERY_CTRL.base then recoveryLoad v s
  else s

/-- Ledger (R491, R501, R503, R506). -/
def ledgerWrite (off size : Nat) (v : W64) (s : State) : State :=
  if off = R.LEDGER_CURSOR_LO.base then cursorWrite false size v s
  else if off = R.LEDGER_CURSOR_HI.base then cursorWrite true size v s
  else if off = R.LEDGER_RTC_CTRL.base then rtcCtrl (v.setWidth 32) s
  else plainWrite off (v.setWidth 32) s

/-- Trace and tallies (R542 to R544). -/
def traceWrite (off : Nat) (v : W32) (s : State) : State :=
  if off = R.TRACE_CFG.base then traceCfgWrite v s
  else if off = R.TALLY_SNAP.base then tallySnapWrite v s
  else plainWrite off v s

/-- Feedback (R128, R132, R137, R140, R141, R145). -/
def fbWrite (off size : Nat) (v : W64) (s : State) : State :=
  let w : W32 := v.setWidth 32
  let at' (r : Reg) : Bool := regHas r off
  if at' R.FB_CFG then (let n := regIdx R.FB_CFG off; if flag w 31 then fbCfgEnable n w s else fbCfgDisable n w s)
  else if at' R.FB_CAL_OFS || at' R.FB_CAL_GAIN then
    (if rb s R.FB_CAL (regIdx R.FB_CAL_OFS off) 31 then s else plainWrite off w s)
  else if at' R.FB_STAT then
    (let n := regIdx R.FB_STAT off
     setFb n { fb s n with sticky := (fb s n).sticky - ((fb s n).sticky &&& (w.toNat % 256)) } s)
  else if at' R.AIN_CFG then
    (let n := regIdx R.AIN_CFG off
     let starts := flag w 31 && !rb s R.AIN_CFG n 31
     plainWrite off w (if starts then setAin n (ainStart (ain s n)) s else s))
  else if at' R.EMU_CFG then emuCfgWrite (regIdx R.EMU_CFG off) w s
  else if at' R.EMU_NUM then emuRatioAct (regIdx R.EMU_NUM off) false size v s
  else if at' R.EMU_DEN then emuRatioAct (regIdx R.EMU_DEN off) true 4 v s
  else if at' R.EMU_STAT then
    (let n := regIdx R.EMU_STAT off
     setEmu n { emu s n with overrun := (emu s n).overrun && !flag w 31 } s)
  else plainWrite off w s

/-- Lane engine (R169, R178, R213, R218): cell_mm is ignored while a cache slot is not free. -/
def engineWrite (off : Nat) (v : W32) (s : State) : State :=
  if off = R.LOOKAHEAD_FID_CFG.base then
    let s := plainWrite off v s
    if flag v 31 then { s with engine := { s.engine with fid := {} } } else s
  else if off = R.CONVOY_CFG.base then
    let was := rb s R.CONVOY_CFG 0 31
    let s := plainWrite off v s
    if was && !flag v 31 then leaveConvoy s else s
  else if off = R.COVERAGE_CFG.base then
    let held := s.engine.coverage.slots.any (fun e => decide (e.2.st ≠ .free))
    plainWrite off (if held then setFld v 31 16 (rf s R.COVERAGE_CFG 0 31 16) else v) s
  else plainWrite off v s

/-- Ethernet (R251, R265). -/
def ethWrite (off : Nat) (v : W32) (s : State) : State :=
  if regHas R.ETH_CFG off then ethCfgWrite (regIdx R.ETH_CFG off) v s
  else if off = R.ETH_MDIO.base then mdioWrite v s
  else plainWrite off v s

/-- Control engine (R373, R374, R376). -/
def loopRegWrite (off : Nat) (v : W32) (s : State) : State :=
  if off = R.LOOP_STAT.base then { s with loops := { s.loops with bistFail := s.loops.bistFail && !flag v 29 } }
  else if off = R.LOOP_BIST_REQ.base then bistRequest v s
  else plainWrite off v s

/-- PWM (R337, R343, R345, R346, R348): a trip input that a write of its set-up asserts counts. -/
def pwmWrite (a : Actor) (off size : Nat) (v : W64) (s : State) : State :=
  let w : W32 := v.setWidth 32
  let at' (r : Reg) : Bool := regHas r off
  if at' R.PWM_CFG then (let n := regIdx R.PWM_CFG off; if flag w 31 then pwmCfgEnable n w s else pwmCfgDisable n w s)
  else if at' R.PWM_CMP then
    (let n := regIdx R.PWM_CMP off
     pwmWriteCmp a n w (if size = 8 then pwmWritePer n ((v >>> 32).setWidth 32) s else s))
  else if at' R.PWM_PER then pwmWritePer (regIdx R.PWM_PER off) w s
  else if at' R.PWM_STAT then pwmStatWrite (regIdx R.PWM_STAT off) w s
  else if at' R.PWM_MOD_SYNC then pwmModSync (regIdx R.PWM_MOD_SYNC off) w s
  else if at' R.PWM_TRIP_IN_CFG then
    tripsAsserted (tripAsserted s) (now12 s) (plainWrite off w s)
  else plainWrite off w s

/-- Bus ports (R385, R394, R399, R401, R406): what is ignored while the port is enabled. -/
def busWrite (off : Nat) (v : W32) (s : State) : State :=
  let p := (off - 0x18000) / 0x80
  let at' (r : Reg) : Bool := regHas r off
  if at' R.CAN_PORT_CFG then (if flag v 31 then portEnable p v s else portDisable p v s)
  else if at' R.CAN_PORT_CTRL then portRecover p v s
  else if at' R.CAN_RX_CFG then rxCfgWrite p v s
  else if at' R.CAN_STAT then modBus p (fun b => { b with cfgErr := b.cfgErr && !flag v 26 }) s
  else if portEnabled s p && [R.CAN_NBT, R.CAN_DBT, R.CAN_TDC, R.CAN_XL_PWM, R.CAN_TT_CFG, R.CAN_TT_CYCLE, R.CAN_TT_SYNC,
      R.CAN_IMW_CFG, R.CAN_IMW_ID].any at' then s
  else plainWrite off v s

/-- The MSI-X table: an unmasked pending vector sends its message (R63). -/
def msixWrite (off : Nat) (v : W32) (s : State) : State :=
  let k := (off - 0xFE000) / 4
  let w := if k % 4 = 0 then v &&& 0xFFFFFFFC#32 else if k % 4 = 3 then v &&& 1#32 else v
  sendPending (k / 4) { s with cister := { s.cister with msixTable := tabSet (msixDefault k) s.cister.msixTable k w } }

/-- What a write of `size` bytes that passed its gate does. -/
def regAct (a : Actor) (off size : Nat) (v : W64) (s : State) : State :=
  let w : W32 := v.setWidth 32
  let p := pageOf off
  if p = 0x00 || p = 0x04 then idClkWrite off w s
  else if p = 0x01 then ringRegWrite off w s
  else if p = 0x02 then (if off = R.CISTER_HOST_WDOG.base then hostWdogWrite w s else plainWrite off w s)
  else if p = 0x03 then recoveryWrite off w s
  else if p = 0x05 then ledgerWrite off size v s
  else if p = 0x06 then traceWrite off w s
  else if p = 0x09 then cross 5 (fbWrite off size v) s
  else if p = 0x0A then engineWrite off w s
  else if p = 0x0B then cross 14 (ethWrite off w) s
  else if p = 0x0C then loopRegWrite off w s
  else if off = R.LEASE_REQ.base then leaseRequest a w s
  else if 0x10 ≤ p && p ≤ 0x12 then drvSoft off w s
  else if p = 0x14 then cross 10 (pwmWrite a off size v) s
  else if p = 0x18 then cross 12 (busWrite off w) s
  else if 0x19 ≤ p && p ≤ 0x20 then cross 12 (plainWrite off w) s
  else if p = 0xFE then msixWrite off w s
  else plainWrite off w s

/-- A write that would set an enable which R516 holds back until the operational state. -/
def setsEnable (off : Nat) (v : W32) : Bool :=
  flag v 31 && (regHas R.PWM_CFG off || regHas R.CAN_PORT_CFG off || regHas R.EMU_CFG off || regHas R.ETH_CFG off
    || off = R.PWM_GLOBAL.base)

/-- An implement lane is on (R115). -/
def implementOn (s : State) : Bool := s.engine.lanes.any (fun e => e.2.configured && e.2.implement && e.2.on)

/-- The rule under which a write that passes its gate is undefined use, and whether it is (R115, R301, R431). DESIGN CHOICE (log 10). DESIGN CHOICE (log 34). -/
def writeMisuse (s : State) (a : Actor) (off size : Nat) (v : W32) : Nat × Bool :=
  let passes := decide (gateWrite s a off size = .allow)
  let p := pageOf off
  if p = 0x08 then
    (115, passes && implementOn s && (off = R.COURSE_HITCH_GEOM.base
      || (off = R.COURSE_HITCH_CFG.base && fld v 31 30 ≠ rf s R.COURSE_HITCH_CFG 0 31 30)))
  else if 0x19 ≤ p && p ≤ 0x20 then
    let port := 4 * (p - 0x19) + off % 0x1000 / 0x400
    (431, passes && portEnabled s port && ttOn s port)
  else (301, undefined301 s a off size)

/-- REGISTER_WRITE: a write of `size` bytes by an actor at a BAR0 offset (R14, R568 to R573). Undefined where R76, R115, R301 or R431 says so. -/
def execRegisterWrite (t : Time) (a : Actor) (off size : Nat) (v : W64) (s : State) : Host.Outcome State Fault Refusal :=
  let s := begin' t s
  let bad := writeMisuse s a off size (v.setWidth 32)
  if bad.2 then .fault (.undefinedUse bad.1)
  else
    let s' := if setsEnable off (v.setWidth 32) then gatedEnable a off size (regAct a off size v) s
      else gated a off size (regAct a off size v) s
    let moved := (pageOf off = 0x01 || off = R.CISTER_MIRROR_BASE_LO.base || off = R.CISTER_MIRROR_BASE_HI.base) && !ringsMisuse s
    orUndefined 76 (moved && ringsMisuse s') s'

end Sys2Proof.Machine
end

