-- ==== Sys2Proof/Machine/Tiles.lean ====
section
/-! DEFINITION. Tiles supplied, refused, flushed and evicted, and the writeback buffers (R230 to R239). -/
namespace Sys2Proof.Machine

def supplyRing : Nat := 85
def writebackRing : Nat := 86

/-! ### Images (R218) -/

/-- The cells of an image from byte `k` on, four a byte; unapplied cells are not listed. -/
def cellsOf : Nat → List Byte → Tab Nat
  | _, [] => []
  | k, b :: rest =>
    ((List.range 4).filterMap (fun q =>
      let v := b.toNat / 4 ^ q % 4
      if v = 0 then none else some (4 * k + q, v))) ++ cellsOf (k + 1) rest

/-- The `n` bytes of an image from byte `k` on. -/
def imageBytes (fill : Nat) : Nat → Nat → Tab Nat → List Byte
  | 0, _, _ => []
  | n + 1, k, cells =>
    let here := cells.takeWhile (fun e => e.1 < 4 * k + 4)
    let rest := cells.dropWhile (fun e => e.1 < 4 * k + 4)
    let v (q : Nat) : Nat := tabGet fill here (4 * k + q) % 4 * 4 ^ q
    BitVec.ofNat 8 (v 0 + v 1 + v 2 + v 3) :: imageBytes fill n (k + 1) rest

/-- A supplied cell merged into a held one (R235). -/
def mergeCell (old new : Nat) : Nat := if 2 ≤ new then new else if new = 1 && old = 0 then 1 else old

/-- A supplied image merged into a held one (R235). -/
def mergeImage (f1 : Nat) (c1 : Tab Nat) (f2 : Nat) (c2 : Tab Nat) : Nat × Tab Nat :=
  let f := mergeCell f1 f2
  let keys := c1.map (·.1) ++ c2.map (·.1)
  (f, keys.foldl (fun t k => tabSet f t k (mergeCell (tabGet f1 c1 k) (tabGet f2 c2 k))) [])

/-- Marks made during a load are kept unless the new content excludes their cells (R235). DESIGN CHOICE (log 49). -/
def keepMarks (f : Nat) (c : Tab Nat) (marks : List Nat) : Tab Nat :=
  marks.foldl (fun t k => if tabGet f t k = 0 then tabSet f t k 1 else t) c

/-- The content of a completed load becomes visible (R235). -/
def showLoad (i : Nat) (s : State) : State :=
  let x := tileSlot s i
  match x.load with
  | none => s
  | some ld =>
    if !ld.done then s
    else
      let (f, c) := if ld.replace || !x.resident then (ld.fill, ld.cells) else mergeImage x.fill x.cells ld.fill ld.cells
      let was := x.resident
      let kept := ld.marks.filter (fun k => tabGet f c k ≤ 1)
      let s := setTileSlot i { x with
        st := if kept.isEmpty then .clean else .dirty
        fill := f
        cells := keepMarks f c kept
        marked := kept.length
        owesRequest := none
        load := none } s
      if was then s else tileResident x.tx x.ty s

/-- Every completed load becomes visible: step 4 of the sweep that begins now (R235). -/
def showLoads (s : State) : State := (s.engine.coverage.slots.map (·.1)).foldl (fun s i => showLoad i s) s

/-! ### Descriptors of ring 85 -/

/-- A descriptor of a ring is in execution. -/
def ringBusy (s : State) (n : Nat) : Bool := (ring s n).fetched.any (fun x => x.phase = .running)

/-- What a tile descriptor does: it finishes or runs on, or it waits. -/
inductive TileAct where
  | run (r : DescResult)
  | wait (s : State)

/-- Carry out the oldest waiting descriptor of ring 85 if its opcode is `op` and none is in execution (R237). -/
def tileCmd (op : Nat) (f : Desc → State → TileAct) (s : State) : State :=
  match nextDesc s supplyRing with
  | none => s
  | some x =>
    if u16 x.bytes 0 = op && !ringBusy s supplyRing then
      match f x s with
      | .wait s => s
      | .run _ => runDesc supplyRing op (fun x s => match f x s with
          | .run r => r
          | .wait s => { state := s, finished := false }) s
    else s

/-- The key of a descriptor is in range (R234). -/
def keyOk (x : Desc) : Bool :=
  let ok (v : Int) : Bool := decide (-(2 ^ 23) ≤ v) && decide (v < 2 ^ 23)
  ok (i32 x.bytes 8) && ok (i32 x.bytes 12)

def descFlag (x : Desc) (i : Nat) : Bool := bitOf (u8 x.bytes 24) i

/-- What a slot holds, for the case that the SUPPLY which takes it fails (R47). -/
def TileSlot.prior (x : TileSlot) : TilePrior :=
  { st := x.st, tx := x.tx, ty := x.ty, fill := x.fill, cells := x.cells, marked := x.marked
    touched := x.touched, pinnedAt := x.pinnedAt, owesRequest := x.owesRequest }

/-- Start a load into slot `i`, which held `prior` before the SUPPLY (R235). -/
def startLoad (i : Nat) (prior : TilePrior) (x : Desc) (s : State) : DescResult :=
  let fill := descFlag x 1
  let image := if fill then [] else dmaRead s (ring s supplyRing).onChip (u64 x.bytes 16) 16384
  let ld : TileLoad := { fill := if fill then u8 x.bytes 25 % 4 else 0, cells := cellsOf 0 image,
                         replace := descFlag x 0 || descFlag x 1, index := some x.index, prior := prior }
  let y := tileSlot s i
  { state := setTileSlot i { y with st := if y.resident then y.st else .requested, owesRequest := none, load := some ld } s
    finished := false }

/-- The key's completed load is not yet visible: a descriptor that names the key waits for the sweep that shows it. DESIGN CHOICE (log 49). -/
def loadPending (s : State) (tx ty : Int) : Bool :=
  match slotOf s tx ty with
  | some i => (tileSlot s i).load.isSome
  | none => false

/-- SUPPLY (R235). DESIGN CHOICE (log 38). DESIGN CHOICE (log 49). -/
def supplyDesc (x : Desc) (s : State) : TileAct :=
  let tx := i32 x.bytes 8
  let ty := i32 x.bytes 12
  if loadPending s tx ty then .wait s
  else if !keyOk x || (!descFlag x 1 && u64 x.bytes 16 % 64 ≠ 0) then .run { state := s, status := 3 }
  else match slotOf s tx ty with
    | some i => if (tileSlot s i).st = .writing then .wait s else .run (startLoad i (tileSlot s i).prior x (touchSlot i s))
    | none =>
      if keyOnItsWay s tx ty then .wait s
      else match allocSlot tx ty 0 s with
        | none => .run { state := s, status := 0x0100 }
        | some (_, false, s) => .wait s
        | some (i, true, s') => .run (startLoad i (tileSlot s i).prior x (touchSlot i s'))

/-- REFUSE (R236). -/
def refuseDesc (x : Desc) (s : State) : TileAct :=
  let tx := i32 x.bytes 8
  let ty := i32 x.bytes 12
  let refuse (i : Nat) (s : State) : DescResult :=
    { state := setTileSlot i { tileSlot s i with st := .refused, owesRequest := none } (touchSlot i s) }
  if loadPending s tx ty then .wait s
  else if !keyOk x then .run { state := s, status := 3 }
  else match slotOf s tx ty with
    | some i => if (tileSlot s i).resident then .run { state := s, status := 0x0102 } else .run (refuse i s)
    | none =>
      if keyOnItsWay s tx ty then .wait s
      else match allocSlot tx ty 0 s with
        | none => .run { state := s, status := 0x0100 }
        | some (_, false, s) => .wait s
        | some (i, true, s) => .run (refuse i s)

/-- FLUSH (R237). -/
def flushDesc (x : Desc) (s : State) : TileAct :=
  if loadPending s (i32 x.bytes 8) (i32 x.bytes 12) then .wait s
  else if !keyOk x then .run { state := s, status := 3 }
  else match slotOf s (i32 x.bytes 8) (i32 x.bytes 12) with
    | none => .run { state := s, status := 0x0101 }
    | some i =>
      match (tileSlot s i).st with
      | .dirty => if bufferFree s then .run { state := startWrite i 2 (some x.index) none s, finished := false } else .wait s
      | .writing => .wait s
      | _ => .run { state := s }

/-- One key of an EVICT in progress: its slot is freed, or copied out first (R237). Answers whether it is still to do. DESIGN CHOICE (log 49). -/
def evictKey (discard : Bool) (key : Int × Int) (s : State) : Bool × State :=
  match slotOf s key.1 key.2 with
  | none => (false, s)
  | some i =>
    if (tileSlot s i).load.isSome then (true, s)
    else match (tileSlot s i).st with
      | .writing => (true, s)
      | .dirty =>
        if discard then (false, setTileSlot i {} s)
        else (true, if bufferFree s then startWrite i 3 none none s else s)
      | _ => (false, setTileSlot i {} s)

/-- Carry an EVICT on; it completes when no slot is left to do (R237). -/
def evictRun (s : State) : State :=
  match s.engine.coverage.evicting with
  | none => s
  | some (idx, discard, todo) =>
    let (left, s) := todo.foldl (fun (acc : List (Int × Int) × State) key =>
      let (more, s) := evictKey discard key acc.2
      (if more then acc.1 ++ [key] else acc.1, s)) ([], s)
    let set (v : Option (Option W32 × Bool × List (Int × Int))) (s : State) : State :=
      { s with engine := { s.engine with coverage := { s.engine.coverage with evicting := v } } }
    if left.isEmpty then
      (match idx with
        | some i => completeAt supplyRing i 0 0 (set none s)
        | none => set none s)
    else set (some (idx, discard, left)) s

/-- EVICT (R237). -/
def evictDesc (x : Desc) (s : State) : TileAct :=
  let start (l : List (Int × Int)) : DescResult :=
    { state := { s with engine := { s.engine with coverage := { s.engine.coverage with
        evicting := some (some x.index, descFlag x 3, l) } } }, finished := false }
  if descFlag x 2 then .run (start ((s.engine.coverage.slots.filter (fun e => e.2.st != .free)).map (fun e => (e.2.tx, e.2.ty))))
  else if !keyOk x then .run { state := s, status := 3 }
  else match slotOf s (i32 x.bytes 8) (i32 x.bytes 12) with
    | none => .run { state := s, status := 0x0101 }
    | some _ => .run (start [(i32 x.bytes 8, i32 x.bytes 12)])

/-- SUPPLY (R235). Undefined where R244 says so. -/
def execSupply (t : Time) (s : State) : Host.Outcome State Fault Refusal :=
  let s := tileCmd 1 supplyDesc (begin' t s)
  orUndefined 244 (tilesMisuse s) s
/-- REFUSE (R236). -/
def execRefuse (t : Time) (s : State) : Host.Outcome State Fault Refusal := .next (tileCmd 2 refuseDesc (begin' t s))
/-- FLUSH (R237). -/
def execFlush (t : Time) (s : State) : Host.Outcome State Fault Refusal := .next (tileCmd 3 flushDesc (begin' t s))
/-- EVICT (R237). -/
def execEvict (t : Time) (s : State) : Host.Outcome State Fault Refusal :=
  .next (evictRun (tileCmd 4 evictDesc (begin' t s)))

/-- BUFFER (R238): a writeback buffer is held until an image is copied into it. -/
def bufferDesc (x : Desc) (s : State) : DescResult :=
  if u64 x.bytes 8 % 64 ≠ 0 then { state := s, status := 3 }
  else { state := { s with engine := { s.engine with coverage := { s.engine.coverage with
      buffers := s.engine.coverage.buffers ++ [(x.index, u64 x.bytes 8)] } } }, finished := false }

/-- BUFFER (R238). Undefined where R244 says so. -/
def execBuffer (t : Time) (s : State) : Host.Outcome State Fault Refusal :=
  let s := runDesc writebackRing 1 bufferDesc (begin' t s)
  orUndefined 244 (tilesMisuse s) (evictRun s)

/-- TILE_LOAD_COMPLETE (R235): the content becomes visible from the next sweep. DESIGN CHOICE (log 49). -/
def execTileLoadComplete (t : Time) (i : Fin 256) (s : State) : Host.Outcome State Fault Refusal :=
  let s := begin' t s
  let x := tileSlot s i
  match x.load with
  | none => .next s
  | some ld =>
    if ld.done then .next s
    else
      let s := setTileSlot i { x with load := some { ld with done := true } } s
      .next (match ld.index with
        | some idx => completeAt supplyRing idx 0 0 s
        | none => s)

/-- What becomes of a slot whose image has been copied out (R230, R231, R237). -/
def afterWrite (i : Nat) (w : TileWrite) (s : State) : State :=
  let x := tileSlot s i
  let x := { x with st := if x.remarked = 0 then .clean else .dirty, marked := x.remarked, remarked := 0, write := none }
  match w.nextKey with
  | some (tx, ty, kind) =>
    if x.st = .clean then
      let s := touchSlot i (setTileSlot i { tx := tx, ty := ty, st := .requested } s)
      if kind = 0 then s else tilePost i kind s
    else setTileSlot i x s
  | none => setTileSlot i x s

/-- TILE_WRITEBACK_COMPLETE (R238): image, fields and completion of the buffer. -/
def execTileWritebackComplete (t : Time) (i : Fin 256) (s : State) : Host.Outcome State Fault Refusal :=
  let s := begin' t s
  let x := tileSlot s i
  match x.write with
  | none => .next s
  | some w =>
    let r := ring s writebackRing
    if !reachable s r then .next s
    else
    let s := dmaWrite r.onChip w.addr (imageBytes x.fill 16384 0 x.cells) s
    let s := dmaWrite r.onChip (r.entryAddr w.buffer + 16)
      (leBytes 4 (wrapU 32 x.tx) ++ leBytes 4 (wrapU 32 x.ty) ++ leBytes 4 (x.marked - x.remarked) ++ leBytes 1 w.reason) s
    let s := afterWrite i w (completeAt writebackRing w.buffer 0 0 s)
    let s := match w.forDesc with
      | some idx => completeAt supplyRing idx 0 0 s
      | none => s
    .next (evictRun s)

end Sys2Proof.Machine
end

