-- ==== Sys2Proof/Machine/Sweep.lean ====
section
/-! DEFINITION. The sweep: what happens at every sweep close, in the order of R24, and the aggregation that ends it (R20 to R27, R152, R160, R166, R316, R318, R497). -/
namespace Sys2Proof.Machine

/-! ### Lapses and grants at a close (R316, R318) -/

/-- A direct lane at the close after a lapse: it is off, lease_lost if it was on, and its committed events are withdrawn. DESIGN CHOICE (log 47). -/
def lapseLane (k : Nat) (s : State) : State :=
  let l := lane s k
  if !l.binding.isDirect then s
  else
    let at' := s.lease.lapseAt
    let e : LaneEv := { id := 0, kind := 2, tExec := at', transport := transportOf s l.type }
    let s := modLane k (fun l => { l with hold := withBit l.hold 4 }) s
    let s := if l.on then
        modLane k (fun l => { l with on := false, applying := closeApplying l e at', faults := l.faults ||| 0x80 }) s
      else s
    withdrawAll k l.binding (fun _ => true) s

/-- The control die has learned of a lapse (R316). DESIGN CHOICE (log 47). -/
def sweepLapse (s : State) : State :=
  if !s.engine.lapseDue then s
  else
    let s := { s with engine := { s.engine with lapseDue := false, leaseSeen := false } }
    let s := (lanesOf s).foldl (fun s k => lapseLane k s) s
    ledgerReport streamSafety 0x0A21 s.lease.cause s.lease.lapseEpoch (notify 0x21 s.lease.cause s.lease.lapseEpoch s)

/-- A lease has been granted since the close before (R318). -/
def sweepGrant (s : State) : State :=
  if s.engine.grantDue then { s with engine := { s.engine with grantDue := false, leaseSeen := s.lease.held } } else s

/-! ### Fault conditions that persist (R152) -/

/-- The lane faults whose condition is present at a lane's binding: of a direct lane, as the control die's register copy shows its channel and bank. DESIGN CHOICE (log 48). -/
def presentFaults (s : State) (l : Lane) : Nat :=
  match l.binding with
  | .direct ch =>
    let bits := (rd s R.DRV_FAULT ch).toNat
    let lv := rf s R.DRV_TH_STAT ch 15 14
    faultLaneBits bits + 4 * b2n (rb s R.DRV_HS_STAT (ch / 8) 0 && !bitOf bits 1)
      + 16 * b2n (decide (2 ≤ lv)) + 32 * b2n (decide (3 ≤ lv)) + 2 ^ 11 * b2n (decide (1 ≤ lv))
  | .remote p n u =>
    let b := busPort s p
    0x100 * b2n (bitOf (tabGet 0 b.nodeMask n) u) + 0x200 * b2n (b.silent.contains n)
  | _ => 0

/-- One visit, a fault whose condition persists set again first. -/
def visit (k : Nat) (s : State) : State := visitLane k (laneFault k (presentFaults s (lane s k)) s)

/-! ### Aggregation (R160, R172, R175, R497) -/

/-- A lane counts as faulted: bits 0 to 10 of its fault word (R152). -/
def Lane.anyFault (l : Lane) : Bool := l.faults % 2 ^ 11 ≠ 0

/-- Add a lane to an aggregate. -/
def Totals.addLane (t : Totals) (l : Lane) : Totals :=
  { t with
    total := t.total + 1
    on := t.on + b2n l.on
    faulted := t.faulted + b2n l.anyFault
    faults := t.faults ||| l.faults
    demand := t.demand + (if l.on then l.eff else 0) }

/-- Add what a proxy stands for (R170, R175). -/
def Totals.addProxy (t : Totals) (c : Caravan) : Totals :=
  let r := c.report
  { t with
    total := t.total + r.total
    on := t.on + r.on
    faulted := t.faulted + r.faulted
    faults := t.faults ||| r.faults ||| (if c.silent then 0x400 else 0)
    silent := t.silent || c.silent || r.silent }

/-- The aggregate of caravan `k`. -/
def totalsOf (s : State) (k : Nat) : Totals :=
  let t := (lanesBelow s k).foldl (fun t i => t.addLane (lane s i)) {}
  (proxiesBelow s k).foldl (fun t i => t.addProxy (caravan s i)) t

def Totals.anyFault (t : Totals) : Bool := 0 < t.faulted || t.silent

/-- Caravans that LEDGER_AUDIT names. -/
def audited (s : State) : List Nat :=
  ((List.range 32).flatMap (fun n =>
    let w := rd s R.LEDGER_AUDIT n
    (if flag w 15 then [fld w 10 0] else []) ++ (if flag w 31 then [fld w 26 16] else []))).eraseDups

/-- An EDGE record (R497). -/
def edgeRecord (k : Nat) (on : Bool) (s : State) : State :=
  let x := wrapU 32 (satS 32 (roundDiv s.course.pose.x (2 ^ 16)))
  let y := wrapU 32 (satS 32 (roundDiv s.course.pose.y (2 ^ 16)))
  ledgerQueue (mkRecord s streamAudit (0x8000 + 2 * k + b2n on)
    (wrapU 48 (mcSteps s) + (k + 0x8000 * b2n on) * 2 ^ 48 + x * 2 ^ 64 + y * 2 ^ 96)) s

/-- Aggregate caravan `k`: notification 0x10 on a rising any_fault, and an EDGE record where any_on changes (R160, R497). -/
def aggregate (names : List Nat) (k : Nat) (t : Totals) (s : State) : State :=
  let c := caravan s k
  let s := setCaravan k { c with totals := t } s
  let s := if c.notifyFault && t.anyFault && !c.totals.anyFault then notify 0x10 k t.faults s else s
  let was := decide (0 < c.totals.on)
  let is := decide (0 < t.on)
  if names.contains k && was != is then edgeRecord k is s else s

/-- The end of a sweep: aggregates, then the status records of R166. -/
def sweepEnd (s : State) : State :=
  let names := audited s
  let sums := (caravansOf s).map (fun k => (k, totalsOf s k))
  let s := sums.foldl (fun s x => aggregate names x.1 x.2 s) s
  let s := (lanesOf s).foldl (fun s k => modLane k (fun l => { l with record := laneRecord s l }) s) s
  (caravansOf s).foldl (fun s k => modCaravan k (fun c => { c with record := caravanRecord s k c }) s) s

/-! ### The close -/

/-- A sweep that closes after its due time is an overrun (R23); the manual gives its notification no number, subject or detail. DESIGN CHOICE (log 28). -/
def overrunNote (s : State) : State :=
  let w := freeWord s
  drawFree (notify (Config.overrunKind % 64) (w.toNat % 2 ^ 32) (w.toNat / 2 ^ 32) (bump T.sweepOverrun s))

/-- Everything a sweep does, in the order of R24. -/
def sweep (imu : Option (Time × W32)) (s : State) : State :=
  let overrun := s.course.closed && decide (sweepDue s < s.now)
  let s := if overrun then overrunNote s else s
  let s := courseClose imu s
  let s := { s with engine := { s.engine with set := lookWritten s, ringTurn := [] } }
  let s := sweepGrant (sweepLapse s)
  let s := walkCounted (walk (loopFactors (takeShare s)))
  let s := applyFixes (applyReports s)
  let s := judgeMarks (evictRun (showLoads s))
  let s := (lanesOf s).foldl (fun s k => visit k s) s
  let s := pwmUntimed s
  let s := sweepEnd s
  let s := loopsClose s
  let s := { s with engine := { s.engine with sweeps := s.engine.sweeps + 1 } }
  traceEvent 2 0 (leBytes 6 (wrapU 48 (mcSteps s)) ++ leBytes 1 (b2n overrun) ++ [0]) s

/-- SWEEP_CLOSE: the sweep in progress closes and the lanes are visited (R24, R85); `imu` says when the sweep's read of the inertial unit began, and what it returned. DESIGN CHOICE (log 2). -/
def execSweepClose (t : Time) (imu : Option (Time × W32)) (s : State) : Host.Outcome State Fault Refusal :=
  let s := begin' t s
  if !setupOpen s || (s.course.closed && decide (s.now < sweepDue s)) then .next s else forwardOutcome (sweep imu s)

end Sys2Proof.Machine
end

