-- ==== Sys2Proof/Machine/Dispatch.lean ====
section
/-! DEFINITION. The dispatch of every command to its meaning, one arm per row of the operation table. -/
namespace Sys2Proof.Machine

def exec (i : Instr) (s : State) : Host.Outcome State Fault Refusal :=
  match i with
  | .doorbell t a off size v stores => Sys2Proof.Machine.execDoorbell t a off size v stores s
  | .descriptorFetch t n => Sys2Proof.Machine.execDescriptorFetch t n s
  | .mirrorUpdate t n => Sys2Proof.Machine.execMirrorUpdate t n s
  | .ringEnable t a n v => Sys2Proof.Machine.execRingEnable t a n v s
  | .ringDisable t a n v => Sys2Proof.Machine.execRingDisable t a n v s
  | .ringFault t n src => Sys2Proof.Machine.execRingFault t n src s
  | .msixHoldoffExpiry t line => Sys2Proof.Machine.execMsixHoldoffExpiry t line s
  | .msixUnmask t v mask => Sys2Proof.Machine.execMsixUnmask t v mask s
  | .busMasterRestore t => Sys2Proof.Machine.execBusMasterRestore t s
  | .functionLevelReset t => Sys2Proof.Machine.execFunctionLevelReset t s
  | .hostWdogWrite t a v => Sys2Proof.Machine.execHostWdogWrite t a v s
  | .hostWdogExpiry t => Sys2Proof.Machine.execHostWdogExpiry t s
  | .sweepClose t imu => Sys2Proof.Machine.execSweepClose t imu s
  | .coastExpiry t => Sys2Proof.Machine.execCoastExpiry t s
  | .hostSourceTimeout t => Sys2Proof.Machine.execHostSourceTimeout t s
  | .hostValueStale t hitch => Sys2Proof.Machine.execHostValueStale t hitch s
  | .courseTimeLoRead t a size => Sys2Proof.Machine.execCourseTimeLoRead t a size s
  | .courseMcLoRead t a size => Sys2Proof.Machine.execCourseMcLoRead t a size s
  | .latchedPairLoRead t a off size => Sys2Proof.Machine.execLatchedPairLoRead t a off size s
  | .courseLatchData7Read t => Sys2Proof.Machine.execCourseLatchData7Read t s
  | .ppsEdge t => Sys2Proof.Machine.execPpsEdge t s
  | .fix t => Sys2Proof.Machine.execFix t s
  | .setPose t => Sys2Proof.Machine.execSetPose t s
  | .hostMotion t => Sys2Proof.Machine.execHostMotion t s
  | .quadratureEdge t n a b => Sys2Proof.Machine.execQuadratureEdge t n a b s
  | .pulseEdge t n x => Sys2Proof.Machine.execPulseEdge t n x s
  | .pulseZeroTimeout t n => Sys2Proof.Machine.execPulseZeroTimeout t n s
  | .hallStep t n code x => Sys2Proof.Machine.execHallStep t n code x s
  | .hallInvalid t n => Sys2Proof.Machine.execHallInvalid t n s
  | .indexEdge t x => Sys2Proof.Machine.execIndexEdge t x s
  | .sincosSample t n sine cosine => Sys2Proof.Machine.execSincosSample t n sine cosine s
  | .observerUpdate t n => Sys2Proof.Machine.execObserverUpdate t n s
  | .calibrationUpdate t n => Sys2Proof.Machine.execCalibrationUpdate t n s
  | .wireFault t n x => Sys2Proof.Machine.execWireFault t n x s
  | .fbFaultRecovery t n => Sys2Proof.Machine.execFbFaultRecovery t n s
  | .fbTrackEntry t n => Sys2Proof.Machine.execFbTrackEntry t n s
  | .fbEnable t a n v => Sys2Proof.Machine.execFbEnable t a n v s
  | .fbDisable t a n v => Sys2Proof.Machine.execFbDisable t a n v s
  | .ainConversion t n uvolt => Sys2Proof.Machine.execAinConversion t n uvolt s
  | .latchEdge t n at' x => Sys2Proof.Machine.execLatchEdge t n at' x s
  | .emuUpdate t n => Sys2Proof.Machine.execEmuUpdate t n s
  | .emuEdge t n => Sys2Proof.Machine.execEmuEdge t n s
  | .emuRatioWrite t a n den size v => Sys2Proof.Machine.execEmuRatioWrite t a n den size v s
  | .laneConfig t n => Sys2Proof.Machine.execLaneConfig t n s
  | .caravanConfig t n => Sys2Proof.Machine.execCaravanConfig t n s
  | .attach t n => Sys2Proof.Machine.execAttach t n s
  | .release t n => Sys2Proof.Machine.execRelease t n s
  | .inhibit t n => Sys2Proof.Machine.execInhibit t n s
  | .setRate t n => Sys2Proof.Machine.execSetRate t n s
  | .setDelay t n => Sys2Proof.Machine.execSetDelay t n s
  | .clearFault t n => Sys2Proof.Machine.execClearFault t n s
  | .query t n => Sys2Proof.Machine.execQuery t n s
  | .mark t n => Sys2Proof.Machine.execMark t n s
  | .cancel t n => Sys2Proof.Machine.execCancel t n s
  | .forwardTimeout t k tag => Sys2Proof.Machine.execForwardTimeout t k tag s
  | .proxySilent t k => Sys2Proof.Machine.execProxySilent t k s
  | .parentSilent t => Sys2Proof.Machine.execParentSilent t s
  | .dispatchOnToll t => Sys2Proof.Machine.execDispatchOnToll t s
  | .supply t => Sys2Proof.Machine.execSupply t s
  | .refuse t => Sys2Proof.Machine.execRefuse t s
  | .flush t => Sys2Proof.Machine.execFlush t s
  | .evict t => Sys2Proof.Machine.execEvict t s
  | .buffer t => Sys2Proof.Machine.execBuffer t s
  | .tileLoadComplete t ix => Sys2Proof.Machine.execTileLoadComplete t ix s
  | .tileWritebackComplete t ix => Sys2Proof.Machine.execTileWritebackComplete t ix s
  | .ethRxFrame t m at' fcs frame => Sys2Proof.Machine.execEthRxFrame t m at' fcs frame s
  | .targetPlace t => Sys2Proof.Machine.execTargetPlace t s
  | .ethSend t m => Sys2Proof.Machine.execEthSend t m s
  | .timeMap t m => Sys2Proof.Machine.execTimeMap t m s
  | .ethEnable t a m v => Sys2Proof.Machine.execEthEnable t a m v s
  | .mdioStart t a v => Sys2Proof.Machine.execMdioStart t a v s
  | .mdioDone t data => Sys2Proof.Machine.execMdioDone t data s
  | .event t => Sys2Proof.Machine.execEvent t s
  | .retime t => Sys2Proof.Machine.execRetime t s
  | .withdraw t => Sys2Proof.Machine.execWithdraw t s
  | .write t => Sys2Proof.Machine.execWrite t s
  | .time t drift => Sys2Proof.Machine.execTime t drift s
  | .grant t => Sys2Proof.Machine.execGrant t s
  | .revoke t => Sys2Proof.Machine.execRevoke t s
  | .clear t => Sys2Proof.Machine.execClear t s
  | .onEventExecute t ch => Sys2Proof.Machine.execOnEventExecute t ch s
  | .offEventExecute t ch => Sys2Proof.Machine.execOffEventExecute t ch s
  | .rateEventExecute t ch => Sys2Proof.Machine.execRateEventExecute t ch s
  | .phaseEnd t ch ma => Sys2Proof.Machine.execPhaseEnd t ch ma s
  | .quenchEnd t ch ma => Sys2Proof.Machine.execQuenchEnd t ch ma s
  | .pulseStart t ch => Sys2Proof.Machine.execPulseStart t ch s
  | .pulseEnd t ch => Sys2Proof.Machine.execPulseEnd t ch s
  | .shotRefused t ch => Sys2Proof.Machine.execShotRefused t ch s
  | .backstopExpiry t ch => Sys2Proof.Machine.execBackstopExpiry t ch s
  | .openingReport t ch samples => Sys2Proof.Machine.execOpeningReport t ch samples s
  | .closingReport t ch drain => Sys2Proof.Machine.execClosingReport t ch drain s
  | .report t => Sys2Proof.Machine.execReport t s
  | .status t seg samples vboost shunt diode => Sys2Proof.Machine.execStatus t seg samples vboost shunt diode s
  | .fault t => Sys2Proof.Machine.execFault t s
  | .lease t => Sys2Proof.Machine.execLease t s
  | .offsetCalGap t ch start samples => Sys2Proof.Machine.execOffsetCalGap t ch start samples s
  | .calStarvation t ch => Sys2Proof.Machine.execCalStarvation t ch s
  | .boostOvervoltage t v => Sys2Proof.Machine.execBoostOvervoltage t v s
  | .boostUndervoltage t v => Sys2Proof.Machine.execBoostUndervoltage t v s
  | .drvChannelDisable t a ch => Sys2Proof.Machine.execDrvChannelDisable t a ch s
  | .profileValidate t a slot v => Sys2Proof.Machine.execProfileValidate t a slot v s
  | .relayRetransmit t down => Sys2Proof.Machine.execRelayRetransmit t down s
  | .relayLinkDown t down => Sys2Proof.Machine.execRelayLinkDown t down s
  | .relayTrained t revision => Sys2Proof.Machine.execRelayTrained t revision s
  | .farResetSeen t control => Sys2Proof.Machine.execFarResetSeen t control s
  | .timeSend t => Sys2Proof.Machine.execTimeSend t s
  | .leaseTimeout t => Sys2Proof.Machine.execLeaseTimeout t s
  | .leaseRepeat t => Sys2Proof.Machine.execLeaseRepeat t s
  | .leaseRegrant t => Sys2Proof.Machine.execLeaseRegrant t s
  | .leaseReq t a v => Sys2Proof.Machine.execLeaseReq t a v s
  | .thermalWindow t ch start mv ma => Sys2Proof.Machine.execThermalWindow t ch start mv ma s
  | .drvThRrefWrite t a ch v => Sys2Proof.Machine.execDrvThRrefWrite t a ch v s
  | .thermalUpdate t ch i2 => Sys2Proof.Machine.execThermalUpdate t ch i2 s
  | .offStateOpenLoad t x => Sys2Proof.Machine.execOffStateOpenLoad t x s
  | .onStateOpenLoad t ch ma => Sys2Proof.Machine.execOnStateOpenLoad t ch ma s
  | .shortToBattery t ch ma => Sys2Proof.Machine.execShortToBattery t ch ma s
  | .tripComparator t ch ma => Sys2Proof.Machine.execTripComparator t ch ma s
  | .highSideDesaturation t bank dv x => Sys2Proof.Machine.execHighSideDesaturation t bank dv x s
  | .drvFaultClear t a ch v => Sys2Proof.Machine.execDrvFaultClear t a ch v s
  | .drvHsStatClear t a bank v => Sys2Proof.Machine.execDrvHsStatClear t a bank v s
  | .pwmReload t n => Sys2Proof.Machine.execPwmReload t n s
  | .pwmEnable t a n v => Sys2Proof.Machine.execPwmEnable t a n v s
  | .pwmDisable t a n v => Sys2Proof.Machine.execPwmDisable t a n v s
  | .pwmCmpPerWrite t a n v => Sys2Proof.Machine.execPwmCmpPerWrite t a n v s
  | .pwmShadowWrite t a n per v => Sys2Proof.Machine.execPwmShadowWrite t a n per v s
  | .pwmLaneOn t n => Sys2Proof.Machine.execPwmLaneOn t n s
  | .pwmLaneOff t n => Sys2Proof.Machine.execPwmLaneOff t n s
  | .pwmRateWrite t n => Sys2Proof.Machine.execPwmRateWrite t n s
  | .pwmSync t late => Sys2Proof.Machine.execPwmSync t late s
  | .pwmModSyncGo t a m v => Sys2Proof.Machine.execPwmModSyncGo t a m v s
  | .pwmTrip t pins held merged => Sys2Proof.Machine.execPwmTrip t pins held merged s
  | .pwmClockFault t edges => Sys2Proof.Machine.execPwmClockFault t edges s
  | .pwmStatClear t a n v => Sys2Proof.Machine.execPwmStatClear t a n v s
  | .config t => Sys2Proof.Machine.execConfig t s
  | .program t => Sys2Proof.Machine.execProgram t s
  | .enable t => Sys2Proof.Machine.execEnable t s
  | .disable t => Sys2Proof.Machine.execDisable t s
  | .resetState t => Sys2Proof.Machine.execResetState t s
  | .post t => Sys2Proof.Machine.execPost t s
  | .read t => Sys2Proof.Machine.execRead t s
  | .loopSample t n => Sys2Proof.Machine.execLoopSample t n s
  | .idleTimeout t n => Sys2Proof.Machine.execIdleTimeout t n s
  | .loopBist t => Sys2Proof.Machine.execLoopBist t s
  | .loopBistReq t a v => Sys2Proof.Machine.execLoopBistReq t a v s
  | .bistResult t pass => Sys2Proof.Machine.execBistResult t pass s
  | .canPortEnable t a p v => Sys2Proof.Machine.execCanPortEnable t a p v s
  | .canPortDisable t a p v => Sys2Proof.Machine.execCanPortDisable t a p v s
  | .canSend t p => Sys2Proof.Machine.execCanSend t p s
  | .canAttemptStart t p => Sys2Proof.Machine.execCanAttemptStart t p s
  | .canAttemptSuccess t p lost x => Sys2Proof.Machine.execCanAttemptSuccess t p lost x s
  | .canAttemptError t p type dataPhase position x => Sys2Proof.Machine.execCanAttemptError t p type dataPhase position x s
  | .canFrameReceived t p id ctrl data sof overload => Sys2Proof.Machine.execCanFrameReceived t p id ctrl data sof overload s
  | .recover t a p v => Sys2Proof.Machine.execRecover t a p v s
  | .recoveryComplete t p => Sys2Proof.Machine.execRecoveryComplete t p s
  | .wakeUp t x => Sys2Proof.Machine.execWakeUp t x s
  | .referenceMessage t p id data sof => Sys2Proof.Machine.execReferenceMessage t p id data sof s
  | .referenceAttempt t p sof res => Sys2Proof.Machine.execReferenceAttempt t p sof res s
  | .referenceMiss t p => Sys2Proof.Machine.execReferenceMiss t p s
  | .listenTimeout t p sof res => Sys2Proof.Machine.execListenTimeout t p sof res s
  | .ttWindowStart t p c idle => Sys2Proof.Machine.execTtWindowStart t p c idle s
  | .slotFrameForm t p c => Sys2Proof.Machine.execSlotFrameForm t p c s
  | .nodeStatus t p node data => Sys2Proof.Machine.execNodeStatus t p node data s
  | .nodeSilent t p node => Sys2Proof.Machine.execNodeSilent t p node s
  | .admitFrame t p node frame => Sys2Proof.Machine.execAdmitFrame t p node frame s
  | .joined t p node frame => Sys2Proof.Machine.execJoined t p node frame s
  | .share t p node frame => Sys2Proof.Machine.execShare t p node frame s
  | .convoyReport t p node frame => Sys2Proof.Machine.execConvoyReport t p node frame s
  | .waybill t p node op frame => Sys2Proof.Machine.execWaybill t p node op frame s
  | .done t p node frame => Sys2Proof.Machine.execDone t p node frame s
  | .record t p node frame => Sys2Proof.Machine.execRecord t p node frame s
  | .coldReset x => Sys2Proof.Machine.execColdReset x s
  | .warmReset t => Sys2Proof.Machine.execWarmReset t s
  | .clockFaultReset t pll => Sys2Proof.Machine.execClockFaultReset t pll s
  | .referenceClockFault x => Sys2Proof.Machine.execReferenceClockFault x s
  | .pllLockLost t => Sys2Proof.Machine.execPllLockLost t s
  | .pllLock t pll edges => Sys2Proof.Machine.execPllLock t pll edges s
  | .domainClockFault t x => Sys2Proof.Machine.execDomainClockFault t x s
  | .ethLockLost t => Sys2Proof.Machine.execEthLockLost t s
  | .pipeLockLost t => Sys2Proof.Machine.execPipeLockLost t s
  | .rtcClockFault x => Sys2Proof.Machine.execRtcClockFault x s
  | .driveOscillatorFault x => Sys2Proof.Machine.execDriveOscillatorFault x s
  | .domainReset t d => Sys2Proof.Machine.execDomainReset t d s
  | .domainResetRelease t d healthy => Sys2Proof.Machine.execDomainResetRelease t d healthy s
  | .perst t low => Sys2Proof.Machine.execPerst t low s
  | .driveDieReset x => Sys2Proof.Machine.execDriveDieReset x s
  | .driveDieResetRelease x => Sys2Proof.Machine.execDriveDieResetRelease x s
  | .alwaysOnReset x => Sys2Proof.Machine.execAlwaysOnReset x s
  | .crossingFarReset t k => Sys2Proof.Machine.execCrossingFarReset t k s
  | .crossingRestart t k => Sys2Proof.Machine.execCrossingRestart t k s
  | .coreWdogKick t k => Sys2Proof.Machine.execCoreWdogKick t k s
  | .coreWatchdogExpiry t k => Sys2Proof.Machine.execCoreWatchdogExpiry t k s
  | .regionFault t k addr perm => Sys2Proof.Machine.execRegionFault t k addr perm s
  | .handlerException t k => Sys2Proof.Machine.execHandlerException t k s
  | .coreRestart t k => Sys2Proof.Machine.execCoreRestart t k s
  | .hash t k block => Sys2Proof.Machine.execHash t k block s
  | .seal t k block => Sys2Proof.Machine.execSeal t k block s
  | .unseal t k block => Sys2Proof.Machine.execUnseal t k block s
  | .verify t k block => Sys2Proof.Machine.execVerify t k block s
  | .serviceAttest t k block => Sys2Proof.Machine.execServiceAttest t k block s
  | .stage t n ok => Sys2Proof.Machine.execStage t n ok s
  | .activate t n => Sys2Proof.Machine.execActivate t n s
  | .confirm t n => Sys2Proof.Machine.execConfirm t n s
  | .attest t n => Sys2Proof.Machine.execAttest t n s
  | .provision t n => Sys2Proof.Machine.execProvision t n s
  | .ledgerClear t n => Sys2Proof.Machine.execLedgerClear t n s
  | .voltageGlitch x => Sys2Proof.Machine.execVoltageGlitch x s
  | .clockGlitch x => Sys2Proof.Machine.execClockGlitch x s
  | .temperatureViolation x => Sys2Proof.Machine.execTemperatureViolation x s
  | .meshViolation t => Sys2Proof.Machine.execMeshViolation t s
  | .signatureViolation t => Sys2Proof.Machine.execSignatureViolation t s
  | .regionFaultViolation t => Sys2Proof.Machine.execRegionFaultViolation t s
  | .lockstepMismatch t => Sys2Proof.Machine.execLockstepMismatch t s
  | .monitorWatchdogExpiry t => Sys2Proof.Machine.execMonitorWatchdogExpiry t s
  | .recoveryImageLoad t a v => Sys2Proof.Machine.execRecoveryImageLoad t a v s
  | .resetRelease t x fit => Sys2Proof.Machine.execResetRelease t x fit s
  | .monitorStart t log2 mode mhz => Sys2Proof.Machine.execMonitorStart t log2 mode mhz s
  | .charterApply t => Sys2Proof.Machine.execCharterApply t s
  | .firmwareStart t => Sys2Proof.Machine.execFirmwareStart t s
  | .endpointReady t => Sys2Proof.Machine.execEndpointReady t s
  | .relayTimeout t => Sys2Proof.Machine.execRelayTimeout t s
  | .startupGrant t => Sys2Proof.Machine.execStartupGrant t s
  | .ledgerEntry t k => Sys2Proof.Machine.execLedgerEntry t k s
  | .ledgerFlashWrite t ok => Sys2Proof.Machine.execLedgerFlashWrite t ok s
  | .sig t => Sys2Proof.Machine.execSig t s
  | .rtcSet t a v => Sys2Proof.Machine.execRtcSet t a v s
  | .ledgerCursorWrite t a high size v => Sys2Proof.Machine.execLedgerCursorWrite t a high size v s
  | .ledgerWindow7Read t => Sys2Proof.Machine.execLedgerWindow7Read t s
  | .ledgerRtcRead t => Sys2Proof.Machine.execLedgerRtcRead t s
  | .ledgerExportEntry t => Sys2Proof.Machine.execLedgerExportEntry t s
  | .operatingTimeTick t => Sys2Proof.Machine.execOperatingTimeTick t s
  | .traceSync t => Sys2Proof.Machine.execTraceSync t s
  | .overflow t => Sys2Proof.Machine.execOverflow t s
  | .tallySnap t a v => Sys2Proof.Machine.execTallySnap t a v s
  | .registerWrite t a off size v => Sys2Proof.Machine.execRegisterWrite t a off size v s
  | .busMasterDisable t d3 => Sys2Proof.Machine.execBusMasterDisable t d3 s
  | .idle t down => Sys2Proof.Machine.execIdle t down s
  | .relayFrameDiscard t down flips => Sys2Proof.Machine.execRelayFrameDiscard t down flips s
  | .canIntegrationComplete t p => Sys2Proof.Machine.execCanIntegrationComplete t p s
  | .canReceiveError t p type dataPhase position x => Sys2Proof.Machine.execCanReceiveError t p type dataPhase position x s
  | .boostVoltageRecovery t v => Sys2Proof.Machine.execBoostVoltageRecovery t v s
  | .executionInstant t k => Sys2Proof.Machine.execExecutionInstant t k s
  | .monitorRequestCompletion t ix => Sys2Proof.Machine.execMonitorRequestCompletion t ix s
  | .serviceDone t k => Sys2Proof.Machine.execServiceDone t k s
  | .ethTransmitComplete t m at' => Sys2Proof.Machine.execEthTransmitComplete t m at' s

end Sys2Proof.Machine
end

