-- ==== Sys2Proof/Safety.lean ====
section
/-! DEFINITION. What claims are stated in terms of: a command that completes, the parts of the state that a command keeps, memories in their canonical form, and a safe run. -/
namespace Sys2Proof.Machine

/-- Command `c` completes in state `s`: it answers a next state, and `P` holds of it. -/
def Completes (c : Instr) (s : State) (P : State → Prop) : Prop := ∃ u, exec c s = .next u ∧ P u

/-- The pieces of the state, one for each field. -/
inductive Piece where
  | pending
  | now
  | freeDraws
  | out
  | readData
  | hostMem
  | messageStore
  | appSram
  | regs
  | tallies
  | tallySnap
  | tallySnapTime
  | hiLatch
  | cister
  | ledger
  | aon
  | trace
  | startup
  | clocks
  | eventLines
  | cores
  | security
  | feedback
  | course
  | engine
  | drive
  | relay
  | lease
  | pwm
  | loops
  | eth
  | bus
  deriving DecidableEq, Repr

/-- A part is the same in two states. -/
def Piece.same (p : Piece) (s u : State) : Prop :=
  match p with
  | .pending => u.pending = s.pending
  | .now => u.now = s.now
  | .freeDraws => u.freeDraws = s.freeDraws
  | .out => u.out = s.out
  | .readData => u.readData = s.readData
  | .hostMem => u.hostMem = s.hostMem
  | .messageStore => u.messageStore = s.messageStore
  | .appSram => u.appSram = s.appSram
  | .regs => u.regs = s.regs
  | .tallies => u.tallies = s.tallies
  | .tallySnap => u.tallySnap = s.tallySnap
  | .tallySnapTime => u.tallySnapTime = s.tallySnapTime
  | .hiLatch => u.hiLatch = s.hiLatch
  | .cister => u.cister = s.cister
  | .ledger => u.ledger = s.ledger
  | .aon => u.aon = s.aon
  | .trace => u.trace = s.trace
  | .startup => u.startup = s.startup
  | .clocks => u.clocks = s.clocks
  | .eventLines => u.eventLines = s.eventLines
  | .cores => u.cores = s.cores
  | .security => u.security = s.security
  | .feedback => u.feedback = s.feedback
  | .course => u.course = s.course
  | .engine => u.engine = s.engine
  | .drive => u.drive = s.drive
  | .relay => u.relay = s.relay
  | .lease => u.lease = s.lease
  | .pwm => u.pwm = s.pwm
  | .loops => u.loops = s.loops
  | .eth => u.eth = s.eth
  | .bus => u.bus = s.bus

/-- Every part of the state but those listed is unchanged. -/
def KeptBut (l : List Piece) (s u : State) : Prop := ∀ p, p ∉ l → p.same s u

/-- What the start of a command moves: device time, the outputs, and the trace bytes driven out. -/
def begun : List Piece := [.now, .out, .trace]

/-- What a notification, a completion or a delivered record moves besides: rings, tallies, the lines of MSI-X messages, and the memories that hold rings. -/
def delivering : List Piece := [.now, .out, .trace, .cister, .tallies, .eventLines, .hostMem, .messageStore]

/-- What an event moves that is reported: a notification, a record to the ledger, or both. -/
def reporting : List Piece := .ledger :: delivering

/-- What handing timed events on to their consumers moves, and tolls that return with it (R28 to R30). -/
def handing : List Piece := .engine :: .relay :: .bus :: .pwm :: .clocks :: delivering

/-- Every entry of an instance array but entry `n` reads the same in two states. -/
def OthersKept {α : Type} (f : State → Nat → α) (n : Nat) (s u : State) : Prop := ∀ m, m ≠ n → f u m = f s m

/-- Every drive channel but channel `n` is as it was, but that a rail gone to boost ends the measuring windows of its bank (R320). -/
def OtherChannels (n : Nat) (s u : State) : Prop :=
  ∀ m, m ≠ n → drvCh u m = { drvCh s m with closings := (drvCh u m).closings } ∧ (bankOf m ≠ bankOf n → drvCh u m = drvCh s m)

/-- Descriptor `x` of opcode `op` is the next that ring `n` executes, what it references can be reached (R67), and no fetched descriptor has an unknown opcode. -/
def Ready (s : State) (n op : Nat) (x : Desc) : Prop :=
  nextDesc s n = some x ∧ u16 x.bytes 0 = op ∧ canExecute s n x = true ∧ ∀ y ∈ (ring s n).fetched, knownOpcode (ring s n).kind (u16 y.bytes 0) = true

/-- Command `c` executes descriptor `x` of ring `n`: its effect leaves a state of which `P` holds, and the descriptor then completes with a status and a result. -/
def Answers (c : Instr) (s : State) (n : Nat) (x : Desc) (status : Nat) (result : W32) (P : State → Prop) : Prop :=
  ∃ v, exec c s = .next (complete n x status result v) ∧ P v

/-- Command `c` takes descriptor `x` of ring `n` into execution: its effect leaves a state of which `P` holds, and the descriptor stays running. -/
def Begins (c : Instr) (s : State) (n : Nat) (x : Desc) (P : State → Prop) : Prop :=
  ∃ v, exec c s = .next (markRunning n x.index v) ∧ P v

/-- Waybill `x` of opcode `op` is the next that ring `n` executes, it is the ring's turn in this sweep, nothing of it goes to a subordinate, and its target, a lane (kind 0) or a caravan (kind 1) of index `k`, lies on this device (R25, R161, R162, R169). -/
def Waybill (s : State) (n op : Nat) (x : Desc) (kind k : Nat) : Prop :=
  Ready s n op x ∧ (ring s n).kind = 1 ∧ turnOk s n (reachKeys s x.bytes) = true ∧ partsOf op (some 0) x.bytes s = []
    ∧ targetOf x.bytes = { kind := kind, convoy := s.engine.convoy.addr, index := k }

/-- The bodies of the frames that the drive die has sent and not seen acknowledged, and of those that wait behind them, in order. -/
def sentUp (s : State) : List FrameBody := s.relay.up.unacked.map (·.body) ++ s.relay.up.waiting
/-- The same of the control die. -/
def sentDown (s : State) : List FrameBody := s.relay.down.unacked.map (·.body) ++ s.relay.down.waiting

/-- Frame `f` is the next down frame that the drive die accepts, and it names the lease epoch that the drive die holds (R306, R313). -/
def ArrivesDown (s : State) (f : Frame) : Prop := headDown s = some f ∧ f.leaseEpoch = s.drive.lease.e
/-- The drive die has accepted the frame at the head, and its lease timer has started afresh (R306, R313). -/
def TookDown (s u : State) : Prop :=
  u.relay.down.expect = seqNext s.relay.down.expect ∧ u.relay.down.flight = s.relay.down.flight.drop 1
    ∧ u.relay.down.acceptedAt = u.now ∧ u.drive.lease.timerAt = u.now
/-- The control die has accepted the frame at the head (R306). -/
def TookUp (s u : State) : Prop :=
  u.relay.up.expect = seqNext s.relay.up.expect ∧ u.relay.up.flight = s.relay.up.flight.drop 1 ∧ u.relay.up.acceptedAt = u.now

/-- The three memories are in their canonical form. -/
def Canonical (s : State) : Prop :=
  Memory.wf s.hostMem = true ∧ Memory.wf s.messageStore = true ∧ Memory.wf s.appSram = true

/-- A write by actor `a` of `size` bytes at BAR0 offset `off`, made by command `c` at `t`, which its gate turns away, moves nothing, but the bad-access count where the gate counts (R568, R574). -/
def TurnedAway (c : Instr) (t : Time) (a : Actor) (off size : Nat) (s : State) : Prop :=
  (gateWrite s a off size = .ignore → exec c s = .next (begin' t s))
    ∧ ∀ k, gateWrite s a off size = .bad k → exec c s = .next (badAccess a true k false off (begin' t s))

/-- `n` steps from a state all answer a next state: no case of undefined use is reached (R533). -/
def SafeFor : Nat → State → Prop
  | 0, _ => True
  | n + 1, s => ∃ u, step s = .next u ∧ SafeFor n u

end Sys2Proof.Machine
end

