-- ==== Sys2Proof/Certificates/Slice0/Obligations.lean ====
section
/-! DEFINITION. The statements for the provers, family by family. -/

open Sys2Proof Sys2Proof.Machine

/-- A step runs the command at the front of the queue, with the queue's rest (the model's own form of a block's step). On an empty queue the block idles (log entry 1: the model's choice). -/
def Obligations.StepTakesTheFrontCommand : Prop :=
  (∀ (c : Instr) (rest : List Instr) (s : State), s.pending = c :: rest → step s = exec c { s with pending := rest }) ∧
  (∀ s : State, s.pending = [] → step s = .next s)

/-- A command's effect is on everything but the queue: it neither adds a waiting command nor takes one. -/
def Obligations.CommandsLeaveTheQueue : Prop :=
  ∀ (c : Instr) (s u : State), exec c s = .next u → u.pending = s.pending

/-- Every step keeps the three memories in their canonical form: strictly rising addresses, and no entry equal to what an unlisted address reads as. -/
def Obligations.EveryStepKeepsMemoriesCanonical : Prop :=
  ∀ s u : State, Canonical s → step s = .next u → Canonical u

/-- Every command answers a next state, but in the cases of undefined use that the model can see, each under the rule that names it; no command is refused (R533). -/
def Obligations.OnlyUndefinedUseStops : Prop :=
  ∀ (c : Instr) (s : State), (∃ u, exec c s = .next u) ∨ ∃ r ∈ [76, 115, 180, 244, 301, 378, 431], exec c s = .fault (.undefinedUse r)

/-- Undefined use stops: a store that software may make into what the device owns of a ring (R76), a write of the hitch settings while an implement lane is on (R115), a profile write while its slot is in use (R301), and a matrix write while its time-triggered port is enabled (R431). -/
def Obligations.UndefinedUseStops : Prop :=
  ∀ (t : Time) (a : Actor) (v : W64) (s : State),
    (∀ (off size : Nat) (stores : List Store), storesMisuse (begin' t s) (stores.filter (storeAllowed (begin' t s) a)) = true → exec (.doorbell t a off size v stores) s = .fault (.undefinedUse 76)) ∧
    (gateWrite s a R.COURSE_HITCH_GEOM.base 4 = .allow → implementOn s = true →
      exec (.registerWrite t a R.COURSE_HITCH_GEOM.base 4 v) s = .fault (.undefinedUse 115)) ∧
    (∀ slot : Fin 32, slotInUse s slot = true → gateWrite s a (regOff R.DRV_PROF_HDR slot 0) 4 = .allow →
      exec (.profileValidate t a slot (v.setWidth 32)) s = .fault (.undefinedUse 301) ∧
      exec (.registerWrite t a (regOff R.DRV_PROF_HDR slot 0) 4 v) s = .fault (.undefinedUse 301)) ∧
    (∀ (p : Fin 32) (c : Fin 64), portEnabled s p = true → ttOn s p = true → gateWrite s a (R.CAN_TT_COL.base + 0x400 * p + 16 * c) 4 = .allow →
      exec (.registerWrite t a (R.CAN_TT_COL.base + 0x400 * p + 16 * c) 4 v) s = .fault (.undefinedUse 431))

/-- Device time never runs back, but at a cold reset, where it starts at zero (R12, R438). Once its keys are erased by a level 3 response, no command brings them back, for the OTP bits that keep them so only rise (R467, R478, R479). -/
def Obligations.TimeAndErasedKeysNeverComeBack : Prop :=
  (∀ (c : Instr) (s u : State), exec c s = .next u → (∀ x, c ≠ .coldReset x) → s.now ≤ u.now) ∧
  (∀ (c : Instr) (s u : State), exec c s = .next u → s.security.keysDead = true →
    u.security.keysDead = true)

/-- The operating-time counter adds 1 at a tick that comes a second or more after the instant to which it has counted, out of cold reset, and that instant moves on by a second; a tick before that moves nothing. The power-cycle counter adds 1 at each cold reset up to 2^24 − 1, and nothing else changes either but an always-on reset, which clears both (R492). -/
def Obligations.TheCountersOfLife : Prop :=
  ∀ s : State,
    (∀ t : Time, let b := begin' t s
      let due := s.startup.released = true ∧ s.aon.opAt + secUnits ≤ b.now
      (due → exec (.operatingTimeTick t) s =
        .next { b with aon := { s.aon with opSeconds := s.aon.opSeconds + 1, opAt := s.aon.opAt + secUnits } }) ∧
      (¬due → exec (.operatingTimeTick t) s = .next b)) ∧
    (∀ (t : Time) (vcore vio18 vio33 held low : Nat), ((vcore < 740 ∨ vio18 < 1650 ∨ vio33 < 3000) ∧ 100 ≤ held ∨ usUnits ≤ low) →
      Completes (.coldReset ⟨t, vcore, vio18, vio33, held, low⟩) s (fun u =>
        u.aon.powerCycles = min (s.aon.powerCycles + 1) (2 ^ 24 - 1) ∧ u.aon.opSeconds = s.aon.opSeconds)) ∧
    (∀ (t : Time) (vbackup vio33 held : Nat), vbackup < 1800 → vio33 < 3000 → 100 ≤ held → Completes (.alwaysOnReset ⟨t, vbackup, vio33, held⟩) s (fun u =>
      u.aon.opSeconds = 0 ∧ u.aon.powerCycles = 0)) ∧
    (∀ (c : Instr) (u : State), exec c s = .next u → (∀ t, c ≠ .operatingTimeTick t) → (∀ x, c ≠ .coldReset x) →
      (∀ x, c ≠ .alwaysOnReset x) → u.aon.opSeconds = s.aon.opSeconds ∧ u.aon.powerCycles = s.aon.powerCycles)

/-- On entry to operational, by BIST_RESULT in the calibration state, SEC_STAT.mode reads 1, START_TIME holds the time since the reset release in ms, rounded to nearest, and kind 0x3B is raised with subject 0 and START_STAT bits 15:0 as detail (R522). -/
def Obligations.EntryToOperational : Prop :=
  ∀ (t : Time) (pass : Bool) (s : State), s.startup.phase = 6 → s.loops.bistActive = true →
    ∃ v, exec (.bistResult t pass) s = .next (notify 0x3B 0 (startBits v) v) ∧ v.startup.phase = 7 ∧
      fld (secStat v) 31 30 = 1 ∧ v.startup.startTime = min (roundDivNat (v.now - s.startup.releaseAt) msUnits) 0xFFFFFFFF ∧
      v.now = (begin' t s).now

/-- What reset leaves, as far as the manual states it: START_STAT reads 0 (rom), RST_CAUSE cold, every ring idle and disabled, registers at their reset values though host software reads zero until the endpoint answers, machine course and device time at zero, loops on the fallback path, PWM channels at their safe level, no lane configured, no lease (R373, R438, R453, R515, R524, R582). The memories of the reset state are in their canonical form. -/
def Obligations.WhatResetLeaves : Prop :=
  (let s := State.reset
  s.pending = [] ∧ s.now = 0 ∧ s.eventLines = [] ∧ s.cister.endpointReady = false ∧
  (∀ off : Fin 0x100000, regRead s .host off = 0) ∧ startStat s = 0 ∧ rstCause s = 0x80000000 ∧
  (∀ n : Fin 128, (ring s n).enable = false ∧ (ring s n).d = 0 ∧ (ring s n).s = 0) ∧
  regWord s R.CISTER_MSIX_MOD.base = 1 ∧ regWord s R.COURSE_SWEEP.base = 5 ∧ regWord s R.PWM_PER.base = 19200 ∧
  regWord s R.PWM_STAT.base = 0x80000000 ∧ regWord s R.FB_FILT.base = 4 ∧ regWord s R.LEDGER_EXPORT.base = 15 ∧
  regWord s R.LOOP_BIST_CFG.base = 60 ∧ regWord s R.ID_SCRATCH.base = 0 ∧
  s.course.mc = 0 ∧ s.loops.fallback = true ∧ (∀ n : Fin 48, (pwmCh s n).safe = true) ∧ (∀ k : Fin 64, (lane s k).configured = false) ∧
  s.lease.held = false ∧ s.drive.lease.e = 0) ∧
  (Canonical State.reset)

/-- DOORBELL, after the stores that it publishes: at a running ring of its owner a value in the range of R58 becomes S, the host watchdog starts afresh for a ring in host memory, a trace packet leaves, and the effects of the ring's kind follow (of a post ring none, and nothing else moves); a value out of range leaves S, counts in the doorbell-reject tally and raises kind 0x00 with the ring and the value; at a ring that does not run nothing at all happens. The word above is ignored. A doorbell of another actor, at a reserved offset, of another size, or before the firmware state is ignored and counted; one of host software before the endpoint answers, or of a core that does not run, does not reach the device. Host software's stores are made where they go to host memory and nowhere else; a core's are made while each lies in its regions, and one outside them is a region fault in its place. What would make writeback buffers overlap is undefined use (R38, R44, R56 to R58, R69, R70, R244, R459 to R461, R515, R579). -/
def Obligations.DoorbellsMoveTheIndexOrAreIgnored : Prop :=
  ∀ (t : Time) (a : Actor) (off size : Nat) (v : W64) (stores : List Store) (s : State),
    let c := Instr.doorbell t a off size v stores
    let n := off / 8
    let w : W32 := v.setWidth 32
    let b := begin' t s
    let made := stores.filter (storeAllowed b a)
    let z := actorStores a stores b
    let r := ring z n
    let y := setRing n { r with s := w } z
    let fits := (size = 4 ∧ off % 4 = 0) ∨ (size = 8 ∧ off % 8 = 0)
    let answers (u : State) : Prop := (tilesMisuse u = true → tilesMisuse b = true) → exec c s = .next u
    (a = .host → z = made.foldl (fun s x => applyStore x s) b) ∧
    (∀ k : Fin 4, a = .core k →
      (reaches b a = true → made = stores → z = stores.foldl (fun s x => applyStore x s) b) ∧
      (reaches b a = false → z = b) ∧
      (∀ x : Store, stores = [x] → reaches b a = true → storeAllowed b a x = false → z = regionFault k b)) ∧
    (storesMisuse b made = false →
      (reaches z a = false → answers z) ∧
      (reaches z a = true →
        (0x400 ≤ off → answers (badAccess a true 1 true off z)) ∧
        (off < 0x400 → ¬ fits → answers (badAccess a true 2 true off z)) ∧
        (off < 0x400 → fits → setupOpen z = false → answers (badAccess a true 4 true off z)) ∧
        (off < 0x400 → fits → setupOpen z = true → off % 8 ≠ 0 → answers z) ∧
        (off < 0x400 → fits → setupOpen z = true → off % 8 = 0 → ringOwner z n ≠ actorCode a →
          answers (if a = .host ∧ givenToCore z n = true then bump T.doorbellReject z else badAccess a true 3 true off z)) ∧
        (off < 0x400 → fits → setupOpen z = true → off % 8 = 0 → ringOwner z n = actorCode a →
          (r.running = false → answers z) ∧
          (r.running = true → doorbellOk r w = false → answers (notify 0x00 n w.toNat (bump T.doorbellReject z))) ∧
          (r.running = true → doorbellOk r w = true →
            let u := doorbellEffects n r.s (traceEvent 11 0 ([BitVec.ofNat 8 n, 0, 0, 0] ++ leBytes 4 w.toNat)
              (if r.onChip then y else hostWdogStart y))
            answers u ∧ (ring u n).s = w ∧
            (r.isPost = true → ring u n = { r with s := w } ∧ OthersKept ring n z u ∧ KeptBut [.cister, .trace] z u)))))

/-- DESCRIPTOR_FETCH: the entry at F is read from memory as it stands, F advances by one, and the descriptor waits for execution behind those fetched before it; one of an unknown opcode that nothing is ahead of completes with 0x0002. Where the ring may not be fetched from, or its next waybill waits for a forwarding slot, nothing moves (R41, R43, R47, R173). MIRROR_UPDATE of a ring whose D has moved: with the mirror enabled, 8 bytes of host memory at the mirror base plus 8 times the ring's number hold D and, for a delivery ring, its drop tally (0 for a post ring), and every other byte is unchanged; with it disabled, or for a ring on chip, memory is unchanged. Either way the mirror is no longer due. While the device may issue no memory request, or with nothing due, nothing moves (R59, R60, R67, R71). -/
def Obligations.FetchAndMirrorFollowTheIndices : Prop :=
  (∀ (t : Time) (n : Fin 128) (s : State),
    let c := Instr.descriptorFetch t n
    let r := ring s n
    let x : Desc := { index := r.f, bytes := dmaRead s r.onChip (r.entryAddr r.f) r.entryBytes }
    ((mayFetch s n = false ∨ proxyFull s n = true) → exec c s = .next (begin' t s)) ∧
    (mayFetch s n = true → proxyFull s n = false → fetchMisuse s n = false →
      ((∀ y ∈ r.fetched ++ [x], knownOpcode r.kind (u16 y.bytes 0) = true) →
        Completes c s (fun u =>
          ring u n = { r with f := r.f + 1, fetched := r.fetched ++ [x] } ∧ (∀ m, m ≠ n.val → ring u m = ring s m) ∧
          KeptBut (.cister :: begun) s u)) ∧
      (r.fetched = [] → knownOpcode r.kind (u16 x.bytes 0) = false →
        exec c s = .next (complete n x 2 0 (setRing n { r with f := r.f + 1, fetched := [x] } (begin' t s)))))) ∧
  (∀ (t : Time) (n : Fin 128) (s : State),
    let c := Instr.mirrorUpdate t n
    let lo := rd s R.CISTER_MIRROR_BASE_LO 0
    let base := (rd s R.CISTER_MIRROR_BASE_HI 0).toNat * 2 ^ 32 + (lo.toNat - lo.toNat % 1024)
    ((s.cister.mirrorDue.contains n.val = false ∨ busOk s = false) → exec c s = .next (begin' t s)) ∧
    (s.cister.mirrorDue.contains n.val = true → busOk s = true →
      Completes c s (fun u =>
        u.cister = { s.cister with mirrorDue := s.cister.mirrorDue.filter (fun k => k != n.val) } ∧
        (flag lo 0 = true → (ring s n).onChip = false →
          memRead u.hostMem (base + 8 * n) 8 =
            leBytes 4 (ring s n).d.toNat ++ leBytes 4 (if (ring s n).isPost then 0 else tally s n : W32).toNat) ∧
        (∀ a, a < base + 8 * n ∨ base + 8 * n + 8 ≤ a → memByte u.hostMem a = memByte s.hostMem a) ∧
        ((flag lo 0 = false ∨ (ring s n).onChip = true) → u.hostMem = s.hostMem) ∧
        KeptBut (.hostMem :: .cister :: begun) s u)))

/-- RING_ENABLE: of a ring that is enabled already nothing moves. One that passes the checks starts the ring: S, D, F and the drop tally are 0 and the ring runs, with the configuration written if it was idle and else the one it had; its mirror is due where D moved; then the effects of its kind follow, and for every kind but the notification, tile-request and ledger-export rings there are none and nothing else in the device moves. One that fails a check leaves enable at 0, sets fault and the cause, and raises notification kind 0x01 with the ring and the cause. A write that its gate turns away moves nothing but the bad-access count (R60, R64, R65, R74, R568). RING_DISABLE: a running ring clears its enable bit. Of a delivery ring that no post ring completes into nothing else moves; at a completion ring the completions that wait for it are dropped; at a post ring every descriptor whose execution has not begun completes with 0x0005, a bus transmit ring and the buffer ring giving up what their units hold. An idle ring takes the other fields written; one with descriptors still in execution takes nothing. A write that its gate turns away moves nothing but the bad-access count (R61, R65, R238, R394, R568). RING_FAULT on ring memory or the mirror stops a running ring as though disabled, sets fault and cause 5 or 6, raises notification kind 0x01, and reports through Advanced Error Reporting; a ring that does not run keeps everything. On the body or a buffer of a descriptor whose execution has not begun, or of an image still being loaded, it completes that descriptor with 0x0006, the load is dropped, and descriptors of unknown opcode that come next complete with 0x0002; on any other descriptor it does nothing (R47, R65, R66, R235). -/
def Obligations.RingsStartStopAndFault : Prop :=
  (∀ (t : Time) (a : Actor) (n : Fin 128) (v : W32) (s : State),
    let c := Instr.ringEnable t a n v
    let b := begin' t s
    let off := regOff R.CISTER_RING_CFG n 0
    let o := ring s n
    let r := { o with cfg := if o.idle then cfgMerge n o.cfg v else setFlag o.cfg 31 true }
    let r' := { r with s := 0, d := 0, f := 0, episode := false, stop := false, leftover := !o.fetched.isEmpty }
    let u := enableEffects n ((if o.d ≠ 0 then mirrorMark n else id) (setTally n 0 (setRing n r' b)))
    let no := notify 0x01 n (enableCause s n r)
      (setRing n { r with cfg := setFlag r.cfg 31 false, fault := true, cause := enableCause s n r } b)
    (flag v 31 = false → exec c s = .next b) ∧
    (flag v 31 = true → ringsMisuse s = false →
      (∀ k : Nat, gateWrite s a off 4 = .bad k → exec c s = .next (badAccess a true k false off b)) ∧
      (gateWrite s a off 4 = .ignore → exec c s = .next b) ∧
      (gateWrite s a off 4 = .allow → o.enable = true → exec c s = .next b)) ∧
    (flag v 31 = true → gateWrite s a off 4 = .allow → o.enable = false → enableCause s n r = 0 → ringsMisuse u = false →
      exec c s = .next u ∧
      (r.kind ≠ 0xD → r.kind ≠ 7 → r.kind ≠ 0xC →
        ring u n = r' ∧ tally u n = 0 ∧ (∀ m, m ≠ n.val → ring u m = ring s m) ∧ KeptBut (.cister :: .tallies :: begun) s u)) ∧
    (flag v 31 = true → gateWrite s a off 4 = .allow → o.enable = false → enableCause s n r ≠ 0 → ringsMisuse no = false →
      exec c s = .next no)) ∧
  (∀ (t : Time) (a : Actor) (n : Fin 128) (v : W32) (s : State),
    let c := Instr.ringDisable t a n v
    let b := begin' t s
    let off := regOff R.CISTER_RING_CFG n 0
    let r := ring s n
    let r' := { r with cfg := setFlag r.cfg 31 false, stop := false }
    let y := discardWaiting r.fetched.length n (setRing n r' b)
    (flag v 31 = true → exec c s = .next b) ∧
    (flag v 31 = false →
      (∀ k : Nat, gateWrite s a off 4 = .bad k → exec c s = .next (badAccess a true k false off b)) ∧
      (gateWrite s a off 4 = .ignore → exec c s = .next b)) ∧
    (flag v 31 = false → gateWrite s a off 4 = .allow →
      (r.enable = true → r.isPost = false → r.kind ≠ 2 → exec c s = .next (setRing n r' b)) ∧
      (r.enable = true → r.kind = 2 → exec c s = .next (drainInto n (setRing n r' b))) ∧
      (r.enable = true → r.kind = 3 → exec c s = .next (busTxDisabled (n - 16) y)) ∧
      (r.enable = true → r.kind = 9 → exec c s = .next (releaseBuffers y)) ∧
      (r.enable = true → r.isPost = true → r.kind ≠ 3 → r.kind ≠ 9 → exec c s = .next y) ∧
      (r.enable = true → r.isPost = true → Completes c s (fun u =>
        (ring u n).enable = false ∧ ∀ x ∈ (ring u n).fetched, x.phase ≠ .waiting)) ∧
      (r.enable = false → r.idle = true → exec c s = .next (setRing n { r with cfg := cfgMerge n r.cfg v } b)) ∧
      (r.enable = false → r.idle = false → exec c s = .next b))) ∧
  (∀ (t : Time) (n : Fin 128) (s : State),
    let r := ring s n
    let b := begin' t s
    let at' (k : Nat) : Ring := { r with stop := true, fault := true, cause := k }
    (r.running = true →
      exec (.ringFault t n .ring) s = .next (emit .aer (notify 0x01 n 5 (stopRing n (at' 5) b))) ∧
      exec (.ringFault t n .mirror) s = .next (emit .aer (notify 0x01 n 6 (stopRing n (at' 6) b))) ∧
      (r.isPost = false → r.kind ≠ 2 →
        exec (.ringFault t n .ring) s = .next (emit .aer (notify 0x01 n 5 (setRing n (at' 5) b))) ∧
        exec (.ringFault t n .mirror) s = .next (emit .aer (notify 0x01 n 6 (setRing n (at' 6) b))))) ∧
    (r.running = false →
      exec (.ringFault t n .ring) s = .next b ∧ exec (.ringFault t n .mirror) s = .next b) ∧
    (∀ (i : W32) (x : Desc), descAt s n i = some x → stillReading s n x = true →
      let z := complete n x 6 0 (if r.kind = 8 then dropLoad i b else b)
      exec (.ringFault t n (.body i)) s = .next (skipUnknown (ring z n).fetched.length n z) ∧
      ((∀ y, nextDesc z n = some y → knownOpcode (ring z n).kind (u16 y.bytes 0) = true) →
        exec (.ringFault t n (.body i)) s = .next z)) ∧
    (∀ (i : W32) (x : Desc), descAt s n i = some x → stillReading s n x = false → exec (.ringFault t n (.body i)) s = .next b) ∧
    (∀ i : W32, descAt s n i = none → exec (.ringFault t n (.body i)) s = .next b))

/-- MSIX_HOLDOFF_EXPIRY sends the message of a line whose holdoff has run, or sets the pending bit of a withheld vector, and clears the count; before that nothing moves. MSIX_UNMASK sets the mask bit of one vector, or the function mask, to the value given, and sends the message of each pending vector that nothing withholds any longer, once, clearing its pending bit. A message that joins one still pending on its line of crossing 2 counts as merged and does not leave by itself. Bus Master Enable 0, or D3hot, ends memory requests and messages; restored, every write that waited is made and every pending vector that no mask withholds sends its message (R62, R63, R67, R446; log entry 18 for how long a line is taken). FUNCTION_LEVEL_RESET clears every host-located ring but its location and owner, the MSI-X table, pending bits and function mask, the mirror base and the bus-master enable, drops what units hold of host-located rings, writes a SAFETY record, and leaves rings on chip, lanes, caravans, drive and lease as they are. With room in the SAFETY queue the record is its last and no other unit moves; without it, the loss is reported to ring 90 (R68, R493). HOST_WDOG_WRITE by host software takes the period and the inhibit bit and starts the host watchdog, or stops it with a period of 0; a write that its gate turns away moves nothing but the bad-access count. HOST_WDOG_EXPIRY, once the period has run, stops it, raises kind 0x03 and reports the period, and with the inhibit bit set caravan 0 is inhibited; before that nothing moves (R69, R568). -/
def Obligations.InterruptsAndHostResets : Prop :=
  (∀ (t : Time) (s : State),
    let b := begin' t s
    let seen (v : Nat) : Prop := (eventPulse b.now (phaseUnits v) (tabGet {} s.eventLines v)).2 = true
    let merged : W32 := tally s (T.xingMerge 2)
    let pieces : List Piece := [.now, .out, .trace, .cister, .tallies, .eventLines, .hostMem]
    (∀ line : Fin 68,
      let m := moderation s line
      let due := 0 < m.pending ∧ modHoldoff s line ≤ nowUs b - m.first
      (due → exec (.msixHoldoffExpiry t line) s = .next (setModeration line { m with pending := 0 } (sendLine line b))) ∧
      (due → Completes (.msixHoldoffExpiry t line) s (fun u => moderation u line = { m with pending := 0 } ∧
        (64 ≤ line.val → Out.coreLine (line.val - 64) ∈ u.out) ∧
        (line.val < 64 → withheld s line = false → seen line → Out.msix line.val ∈ u.out) ∧
        (line.val < 64 → withheld s line = false → ¬ seen line →
          Out.msix line.val ∉ u.out ∧ tally u (T.xingMerge 2) = merged + 1) ∧
        (line.val < 64 → withheld s line = true → u.cister.msixPending.contains line.val = true) ∧ KeptBut delivering s u)) ∧
      (¬ due → exec (.msixHoldoffExpiry t line) s = .next b)) ∧
    (∀ (v : Fin 64) (m : Bool), Completes (.msixUnmask t (some v) m) s (fun u =>
      vectorMasked u v = m ∧ (∀ k : Fin 64, k ≠ v → vectorMasked u k = vectorMasked s k) ∧
      (if s.cister.msixPending.contains v.val = true ∧ m = false ∧ s.cister.functionMask = false ∧ busOk s = true then
        (seen v → u.out = b.out ++ [Out.msix v.val]) ∧ (¬ seen v → u.out = b.out ∧ tally u (T.xingMerge 2) = merged + 1) ∧
        u.cister.msixPending = s.cister.msixPending.filter (fun k => k != v.val)
      else u.out = b.out ∧ u.cister.msixPending = s.cister.msixPending ∧ u.tallies = s.tallies) ∧
      KeptBut pieces s u)) ∧
    (∀ m : Bool, Completes (.msixUnmask t none m) s (fun u => u.cister.functionMask = m ∧
      (∀ v : Fin 64, s.cister.msixPending.contains v.val = true →
        (if m = true ∨ vectorMasked s v = true ∨ busOk s = false then
          u.cister.msixPending.contains v.val = true ∧ Out.msix v.val ∉ u.out
        else u.cister.msixPending.contains v.val = false ∧ (Out.msix v.val ∈ u.out ↔ seen v))) ∧
      KeptBut pieces s u)) ∧
    exec (.busMasterDisable t false) s = .next { b with cister := { b.cister with busMaster := false } } ∧
    exec (.busMasterDisable t true) s = .next { b with cister := { b.cister with d3hot := true } } ∧
    exec (.busMasterRestore t) s = .next (tileRepost (notifFlush 64 (drainAll (sendAllPending
      (payWrites { b with cister := { b.cister with busMaster := true, d3hot := false } }))))) ∧
    Completes (.busMasterRestore t) s (fun u => busOk u = true ∧ u.cister.owedWrites = [] ∧
      ∀ v : Fin 64, s.cister.msixPending.contains v.val = true → s.cister.functionMask = false → vectorMasked s v = false →
        seen v → Out.msix v.val ∈ u.out)) ∧
  (∀ (t : Time) (s : State),
    exec (.functionLevelReset t) s = .next (ledgerReport streamSafety 0x0140 0 0 (hostSideReset (begin' t s))) ∧
    Completes (.functionLevelReset t) s (fun u =>
      (∀ n : Fin 128, n.val ≠ 90 → (ring s n).onChip = false → ring u n = ringCleared n (ring s n)) ∧
      (∀ n : Fin 128, n.val ≠ 90 → n.val ≠ 85 → (ring s n).onChip = true → ring u n = ring s n) ∧
      u.cister.busMaster = false ∧ u.cister.msixTable = [] ∧ u.cister.functionMask = false ∧
      rd u R.CISTER_MIRROR_BASE_LO 0 = 0 ∧ rd u R.CISTER_MIRROR_BASE_HI 0 = 0 ∧
      ((ring s 86).onChip = false → u.engine.coverage.buffers = []) ∧
      (∀ p : Fin 32, (ring s (16 + p)).onChip = false → ((busPort s p).attempt.bind (·.index)).isNone = true → (busPort u p).queue = []) ∧
      u.engine.lanes = s.engine.lanes ∧ u.engine.caravans = s.engine.caravans ∧ u.drive = s.drive ∧ u.lease = s.lease ∧
      ((lstream s streamSafety).queue.length < 64 →
        u.cister.msixPending = [] ∧ (ring u 90 = if (ring s 90).onChip then ring s 90 else ringCleared 90 (ring s 90)) ∧
        ((lstream u streamSafety).queue.map (·.code) = (lstream s streamSafety).queue.map (·.code) ++ [0x0140]) ∧
        KeptBut (.cister :: .tallies :: .regs :: .security :: .hiLatch :: .ledger :: .engine :: .bus :: .course :: begun) s u))) ∧
  (∀ (t : Time) (a : Actor) (v : W32) (s : State),
    let b := begin' t s
    let off := R.CISTER_HOST_WDOG.base
    let period := rf s R.CISTER_HOST_WDOG 0 15 0
    let x := { b with cister := { b.cister with hostWdog := none } }
    let y := ledgerReport streamSafety 0x0103 0 period (notify 0x03 0 period x)
    (gateWrite s a off 4 = .allow →
      Completes (.hostWdogWrite t a v) s (fun u =>
        rd u R.CISTER_HOST_WDOG 0 = v &&& 0x8000FFFF#32 ∧ (∀ k, k ≠ off → tabGet 0 u.regs k = tabGet 0 s.regs k) ∧
        u.cister = { s.cister with hostWdog := if fld v 15 0 = 0 then none else some u.now } ∧
        KeptBut (.regs :: .cister :: begun) s u)) ∧
    (gateWrite s a off 4 = .ignore → exec (.hostWdogWrite t a v) s = .next b) ∧
    (∀ k : Nat, gateWrite s a off 4 = .bad k → exec (.hostWdogWrite t a v) s = .next (badAccess a true k false off b)) ∧
    (hostWdogDue b = true →
      exec (.hostWdogExpiry t) s = .next (if rb s R.CISTER_HOST_WDOG 0 31 then rootInhibit y else y) ∧
      Completes (.hostWdogExpiry t) s (fun u =>
        u.cister.hostWdog = none ∧ (rb s R.CISTER_HOST_WDOG 0 31 = true → (caravan u 0).ownEnable = false) ∧
        u.drive = s.drive ∧ u.lease = s.lease)) ∧
    (hostWdogDue b = false → exec (.hostWdogExpiry t) s = .next b))

/-- SWEEP_CLOSE, once the sweep is due, runs the steps of a sweep: the close is the time of the command, the sweep's length is the time since the close before, or for the first one after a reset the period (log entry 28), and the feedback, network, security and always-on state stay as they are; a waybill from the parent that waits for the close is then applied. A close before its time does nothing (R23, R24, R85, R173). COAST_EXPIRY after the coast time brings course to rest and, where the source register asks for it, inhibits caravan 0; HOST_SOURCE_TIMEOUT after the host timeout makes the host source lost; HOST_VALUE_STALE makes a value in use stale, with notification 0x0B of subject 3; PPS_EDGE counts and stamps an edge, applies an armed setting of the real-time clock, and rejects an edge less than 100 ms after the latest accepted one. Before its time each does nothing (R83, R89, R491, R583; log entry 99 for the edge that is measured from). -/
def Obligations.SweepCloseAndCourseTimers : Prop :=
  (∀ (t : Time) (imu : Option (Time × W32)) (s : State),
    let b := begin' t s
    let z := drainForwarded 128 (false, sweep imu b)
    (setupOpen s = true → (s.course.closed = true → sweepDue s ≤ b.now) →
      (s.engine.convoy.waiting = [] → exec (.sweepClose t imu) s = .next (sweep imu b)) ∧
      (z.1 = false → exec (.sweepClose t imu) s = .next z.2 ∧ Completes (.sweepClose t imu) s (fun u =>
        u.course.closed = true ∧ u.course.lastClose = u.now ∧ (u.course.duration = if s.course.closed then u.now - s.course.lastClose else min u.now s.course.set.period) ∧
        u.engine.sweeps = s.engine.sweeps + 1 ∧
        (∀ p ∈ ([.readData, .appSram, .tallySnap, .hiLatch, .aon, .startup, .cores, .security, .feedback, .eth] : List Piece), p.same s u)))) ∧
    ((setupOpen s = false ∨ (s.course.closed = true ∧ b.now < sweepDue s)) → exec (.sweepClose t imu) s = .next b)) ∧
  (∀ (t : Time) (s : State),
    let b := begin' t s
    let c := s.course
    let soon := c.ppsSeen = true ∧ b.now - c.ppsTime < 20000000
    (c.coasting = true → c.coastAt + c.set.coastTime ≤ b.now → c.rested = false →
      Completes (.coastExpiry t) s (fun u =>
        u.course = { c with rested := true, coasting := false, speed := 0 } ∧
        (flag c.set.src 16 = true → (caravan u 0).ownEnable = false) ∧ (flag c.set.src 16 = false → u.engine = s.engine) ∧
        OthersKept caravan 0 s u ∧ KeptBut (.course :: .engine :: begun) s u)) ∧
    ((c.coasting = false ∨ b.now < c.coastAt + c.set.coastTime ∨ c.rested = true) → exec (.coastExpiry t) s = .next b) ∧
    exec (.hostSourceTimeout t) s =
      .next (if hostTimedOut b c.set c.hostSpeed then { b with course := { c with hostLost := true } } else b) ∧
    exec (.hostValueStale t false) s =
      .next (if c.set.yawHost = true ∧ c.hostYaw.stale = false ∧ hostTimedOut b c.set c.hostYaw = true then
        notify 0x0B 3 (1 + 2 * b2n c.hostHitch.stale) { b with course := { c with hostYaw := { c.hostYaw with stale := true } } } else b) ∧
    exec (.hostValueStale t true) s =
      .next (if c.set.hitchSrc = 3 ∧ c.hostHitch.stale = false ∧ hostTimedOut b c.set c.hostHitch = true then
        notify 0x0B 3 (b2n c.hostYaw.stale + 2) { b with course := { c with hostHitch := { c.hostHitch with stale := true } } } else b) ∧
    (¬ soon → exec (.ppsEdge t) s =
        .next (rtcPps { b with course := { c with ppsTime := b.now, ppsCount := c.ppsCount + 1, ppsSeen := true } }) ∧
      Completes (.ppsEdge t) s (fun u =>
        u.course = { c with ppsTime := u.now, ppsCount := c.ppsCount + 1, ppsSeen := true } ∧
        KeptBut (.course :: .aon :: .clocks :: reporting) s u)) ∧
    (soon → exec (.ppsEdge t) s = .next (bump T.ppsReject b)))

/-- HOST_MOTION takes the values whose valid bits are set and starts their timeouts afresh. FIX is received: step 3 of the next sweep applies it, setting the remaining corrections from the pose at its instant, or completing with 0x0100, 0x0101 or 0x0102, and its result is the size of the error. SET_POSE applies the FIX descriptors before it and then at once clears the remaining corrections, turns and shifts the pose and the history about the pose at its instant, or completes with 0x0100 or 0x0101 (R24, R93 to R97; log entry 102 for the order of the two). -/
def Obligations.PoseDescriptorsApply : Prop :=
  ∀ (t : Time) (x : Desc) (s : State),
    let b := begin' t s
    let r := fixDesc x s
    let p := setPoseDesc x (applyFixes b)
    (Ready s 87 3 x → Answers (.hostMotion t) s 87 x 0 0 (fun u =>
      (poseValid x 2 = true → u.course.hostSpeed = { value := i32 x.bytes 28, at' := some u.now, stale := false } ∧ u.course.hostLost = false) ∧
      (poseValid x 2 = false → u.course.hostSpeed = s.course.hostSpeed ∧ u.course.hostLost = s.course.hostLost) ∧
      (u.course.hostYaw = if poseValid x 3 then { value := i32 x.bytes 32, at' := some u.now, stale := false } else s.course.hostYaw) ∧
      (u.course.hostHitch = if poseValid x 4 then { value := i32 x.bytes 36, at' := some u.now, stale := false } else s.course.hostHitch) ∧
      u.course = { s.course with hostSpeed := u.course.hostSpeed, hostLost := u.course.hostLost,
                                 hostYaw := u.course.hostYaw, hostHitch := u.course.hostHitch } ∧
      KeptBut (.course :: begun) s u)) ∧
    (Ready s 87 1 x → Begins (.fix t) s 87 x (fun u =>
      u.course = { s.course with fixDue := s.course.fixDue ++ [x] } ∧ KeptBut (.course :: begun) s u)) ∧
    (s.course.fixDue = [x] →
      applyFixes s = completeAt 87 x.index (fixDesc x { s with course := { s.course with fixDue := [] } }).status
        (fixDesc x { s with course := { s.course with fixDue := [] } }).result
        (fixDesc x { s with course := { s.course with fixDue := [] } }).state) ∧
    (lookupAt s (u64 x.bytes 8) = .expired → r.status = 0x0100 ∧ r.result = 0 ∧ r.state = s) ∧
    (lookupAt s (u64 x.bytes 8) = .future → r.status = 0x0101 ∧ r.result = 0 ∧ r.state = s) ∧
    (Ready s 87 2 x → Answers (.setPose t) s 87 x p.status p.result (fun u => u = p.state)) ∧
    (Ready s 87 2 x → s.course.fixDue = [] → lookupAt s (u64 x.bytes 8) = .expired →
      Answers (.setPose t) s 87 x 0x0100 0 (fun u => KeptBut begun s u)) ∧
    (Ready s 87 2 x → s.course.fixDue = [] → lookupAt s (u64 x.bytes 8) = .future →
      Answers (.setPose t) s 87 x 0x0101 0 (fun u => KeptBut begun s u)) ∧
    (∀ (d px py : Int) (ph w : Int), lookupAt s (u64 x.bytes 8) = .found d px py ph w →
      let ex := i32 x.bytes 16 - px
      let ey := i32 x.bytes 20 - py
      let dh := if poseValid x 1 then wrapS 32 ((u32 x.bytes 24 : Int) - ph) else 0
      let gx := if poseValid x 0 then i32 x.bytes 16 else px
      let gy := if poseValid x 0 then i32 x.bytes 20 else py
      let q := shiftPoint dh px py gx gy s.course.pose.x s.course.pose.y
      let gate : Int := fld s.course.set.pose 15 0
      (poseValid x 0 = true → poseValid x 5 = false → gate ≠ 0 → gate * gate < ex * ex + ey * ey →
        r.status = 0x0102 ∧ r.result = BitVec.ofNat 32 (errMag ex ey) ∧ r.state = s) ∧
      (poseValid x 0 = true → (poseValid x 5 = true ∨ gate = 0 ∨ ex * ex + ey * ey ≤ gate * gate) →
        r.status = 0 ∧ r.result = BitVec.ofNat 32 (errMag ex ey) ∧ r.state = { s with course := { s.course with
          remX := ex * 2 ^ 16, remY := ey * 2 ^ 16,
          remHeading := if poseValid x 1 then dh * 2 ^ 16 else s.course.remHeading } }) ∧
      (poseValid x 0 = false → r.status = 0 ∧ r.result = 0 ∧ r.state = { s with course := { s.course with
          remHeading := if poseValid x 1 then dh * 2 ^ 16 else s.course.remHeading } }) ∧
      (Ready s 87 2 x → s.course.fixDue = [] →
        Answers (.setPose t) s 87 x 0 (if poseValid x 0 then BitVec.ofNat 32 (errMag ex ey) else 0) (fun u =>
          u.course.remX = 0 ∧ u.course.remY = 0 ∧ u.course.remHeading = 0 ∧
          u.course.pose = { s.course.pose with
            x := satS 48 q.1, y := satS 48 q.2, heading := wrapU 48 (s.course.pose.heading + dh * 2 ^ 16) } ∧
          u.course.history = s.course.history.map (fun e => { e with pose := shiftPose dh px py gx gy e.pose }) ∧
          u.course.mc = s.course.mc ∧ u.course.speed = s.course.speed ∧ KeptBut (.course :: delivering) s u)))

/-- A read of a latching pair's _LO word returns it and latches the _HI word for that actor alone; 8 bytes return both; another size is refused with cause 2; where nothing is readable, zero is returned. A read elsewhere returns its word and nothing moves; a read of BAR2 returns S or D of a ring. A read of the last latch-record word returns it and removes the record (R38, R56, R88, R109, R568, R569, R573, R579). A read of the low word of a latching pair returns it and latches the high word for that actor alone; a read of the high word returns the latch; any other command leaves each latch as it is or, as a reset that reaches it, at zero (R88). -/
def Obligations.LatchedPairsHoldTheirHighWord : Prop :=
  (∀ (t : Time) (a : Actor) (off size : Nat) (s : State),
    let b := begin' t s
    let took (off : Nat) (u : State) : Prop :=
      u.readData = (if size = 8 then (regWord b (off + 4)).setWidth 64 <<< 32 else 0) ||| (regWord b off).setWidth 64 ∧
      regRead u a (off + 4) = regWord b (off + 4) ∧
      (∀ k, k ≠ hiKey a off → tabGet 0 u.hiLatch k = tabGet 0 s.hiLatch k) ∧ KeptBut (.readData :: .hiLatch :: begun) s u
    let no (off : Nat) : State := { badAccess a false 2 false off b with readData := 0 }
    let fits := size = 4 ∨ size = 8
    let word := size = 4 ∧ off % 4 = 0
    let plain := off < 2 ^ 20 ∧ latchesAt off = false ∧ ¬ (readsApart off = true ∧ size = 4)
    (readable s a R.COURSE_TIME_LO.base = true → fits → Completes (.courseTimeLoRead t a size) s (took R.COURSE_TIME_LO.base)) ∧
    (readable s a R.COURSE_TIME_LO.base = true → ¬ fits → exec (.courseTimeLoRead t a size) s = .next (no R.COURSE_TIME_LO.base)) ∧
    (readable s a R.COURSE_TIME_LO.base = false → exec (.courseTimeLoRead t a size) s = .next { b with readData := 0 }) ∧
    (readable s a R.COURSE_MC_LO.base = true → fits → Completes (.courseMcLoRead t a size) s (took R.COURSE_MC_LO.base)) ∧
    (readable s a R.COURSE_MC_LO.base = true → ¬ fits → exec (.courseMcLoRead t a size) s = .next (no R.COURSE_MC_LO.base)) ∧
    (readable s a R.COURSE_MC_LO.base = false → exec (.courseMcLoRead t a size) s = .next { b with readData := 0 }) ∧
    (latchesAt off = true →
      (readable s a off = true → readable s a (off + 4) = true → fits → Completes (.latchedPairLoRead t a off size) s (took off)) ∧
      (readable s a off = true → ¬ fits → exec (.latchedPairLoRead t a off size) s = .next (no off)) ∧
      (readable s a off = false → exec (.latchedPairLoRead t a off size) s = .next { b with readData := 0 })) ∧
    (plain →
      (readable s a off = true →
        exec (.latchedPairLoRead t a off size) s = .next (if word then { b with readData := (regRead b a off).setWidth 64 } else no off)) ∧
      (readable s a off = false → exec (.latchedPairLoRead t a off size) s = .next { b with readData := 0 })) ∧
    (off < 2 ^ 20 → readsApart off = true → size = 4 → exec (.latchedPairLoRead t a off size) s = .next b) ∧
    (2 ^ 20 ≤ off →
      let k := off - 2 ^ 20
      let index : W32 := if k % 8 = 0 then (ring s (k / 8)).s else (ring s (k / 8)).d
      let nothing (cause : Nat) : State := { badAccess a false cause true k b with readData := 0 }
      (reaches s a = false → exec (.latchedPairLoRead t a off size) s = .next { b with readData := 0 }) ∧
      (reaches s a = true → 0x400 ≤ k → exec (.latchedPairLoRead t a off size) s = .next (nothing 1)) ∧
      (reaches s a = true → k < 0x400 → ¬ word → exec (.latchedPairLoRead t a off size) s = .next (nothing 2)) ∧
      (reaches s a = true → k < 0x400 → word → exec (.latchedPairLoRead t a off size) s = .next { b with readData := index.setWidth 64 })) ∧
    (inRecovery s = true → exec (.courseLatchData7Read t) s = .next { b with readData := 0 }) ∧
    (inRecovery s = false →
      Completes (.courseLatchData7Read t) s (fun u =>
        u.readData = (latchWord s 7).setWidth 64 ∧
        latchFifo u (rf s R.COURSE_LATCH_SEL 0 2 0) = (latchFifo s (rf s R.COURSE_LATCH_SEL 0 2 0)).drop 1 ∧
        OthersKept latchFifo (rf s R.COURSE_LATCH_SEL 0 2 0) s u ∧ KeptBut (.readData :: .course :: begun) s u))) ∧
  (∀ s : State,
    (∀ (t : Time) (a : Actor) (off : Nat), latchesAt off = true → off < 2 ^ 20 → readable s a off = true → let z := begin' t s
      Completes (.latchedPairLoRead t a off 4) s (fun u =>
        u.readData = (regWord z off).setWidth 64 ∧ tabGet 0 u.hiLatch (hiKey a off) = regWord z (off + 4) ∧
        (∀ k, k ≠ hiKey a off → tabGet 0 u.hiLatch k = tabGet 0 s.hiLatch k) ∧ KeptBut (.readData :: .hiLatch :: begun) s u)) ∧
    (∀ (a : Actor) (off : Nat), latchesAt off = true → readable s a (off + 4) = true →
      regRead s a (off + 4) = tabGet 0 s.hiLatch (hiKey a off)) ∧
    (∀ t : Time, s.startup.released = true → Completes (.warmReset t) s (fun u => u.hiLatch = [])) ∧
    (∀ (t : Time) (vcore vio18 vio33 held : Nat), Completes (.coldReset ⟨t, vcore, vio18, vio33, held, usUnits⟩) s (fun u => u.hiLatch = [])) ∧
    (∀ (c : Instr) (u : State), exec c s = .next u → (∀ t a n, c ≠ .courseTimeLoRead t a n) → (∀ t a n, c ≠ .courseMcLoRead t a n) →
      (∀ t a off n, c ≠ .latchedPairLoRead t a off n) → ∀ k, tabGet 0 u.hiLatch k = tabGet 0 s.hiLatch k ∨ tabGet 0 u.hiLatch k = 0))

/-- QUADRATURE_EDGE: a level that has not stood for the filter's clocks is not taken. From the levels taken, A leading B counts +1 and B leading A −1 while the channel counts; both changing at once is no count but a quadrature error, tallied and sticky in every state but OFF, and a fault where configured. In other modes and in OFF only the levels move (R117, R119, R123, R132). PULSE_EDGE: a wire that stood low long enough, or was taken as low, and then high long enough is an edge: it counts +1 and moves the speed estimate toward the measured period by the fraction that the bandwidth gives; 16 edges in a row less than 5 us (800 FB clocks) apart are a fault; in FAULT nothing is counted. Otherwise only the level taken moves. PULSE_ZERO_TIMEOUT makes the speed 0 once no edge has come for zero_ms, and else moves nothing (R117, R121, R132). HALL_STEP takes each of the three levels that has stood for the filter's clocks. Between valid codes, a step to the next in the sequence counts +1, to the one before −1, and moves the speed estimate while the channel counts; a skipped code counts nothing but is tallied in every state but OFF. An invalid code is timed from its first instant; a valid one that ends an invalid spell longer than the window in FAULT ends the fault's cause then. HALL_INVALID is a fault once an invalid code has stood longer than the window in any state but OFF, and else moves nothing (R117, R122, R132; log entry 103 for steps from and to an invalid code). INDEX_EDGE of a wire that stood low long enough, or was taken as low, and then high long enough captures the count and never resets it, and a distance that is not a whole turn is tallied and sticky; SINCOS_SAMPLE moves the count by the signed 12-bit change of the line angle while the channel counts, and a change of more than a quarter period, or a fourth sample in a row outside the amplitude window, is a fault. Otherwise an index moves only the level taken and a sample nothing (R117, R120, R124 to R126). -/
def Obligations.FeedbackChannelsCount : Prop :=
  (∀ (t : Time) (n : Fin 16) (a b : Bool) (heldA heldB : Nat) (s : State),
    let c := fb s n
    let filt := rf s R.FB_FILT n 7 0
    let a' := if filt ≤ heldA then a else c.a
    let b' := if filt ≤ heldB then b else c.b
    let c1 := { c with a := a', b := b' }
    let i := Instr.quadratureEdge t n ⟨a, heldA⟩ ⟨b, heldB⟩
    (fbMode s n = 0 → c.st ≠ 0 →
      (a' = !c.b ∧ b' = c.a → Completes i s (fun u =>
        fb u n = (if c.st = 1 ∨ c.st = 2 then { c1 with pos := wrapS 48 (c.pos + 1), negative := false } else c1) ∧
        OthersKept fb n s u ∧ KeptBut (.feedback :: begun) s u)) ∧
      (a' = c.b ∧ b' = !c.a → Completes i s (fun u =>
        fb u n = (if c.st = 1 ∨ c.st = 2 then { c1 with pos := wrapS 48 (c.pos - 1), negative := true } else c1) ∧
        OthersKept fb n s u ∧ KeptBut (.feedback :: begun) s u)) ∧
      (a' = c.a ∧ b' = c.b → Completes i s (fun u => fb u n = c ∧ OthersKept fb n s u ∧ KeptBut (.feedback :: begun) s u)) ∧
      (a' = !c.a ∧ b' = !c.b → Completes i s (fun u =>
        tally u (T.quadError n) = tally s (T.quadError n) + 1 ∧ OthersKept fb n s u ∧
        (rb s R.FB_CFG n 24 = false →
          fb u n = { c1 with sticky := withBit c.sticky 5 } ∧ KeptBut (.feedback :: .tallies :: begun) s u) ∧
        (rb s R.FB_CFG n 24 = true →
          fb u n = { c1 with sticky := withBit c.sticky 5, st := 3, faultAt := u.now,
                             stAt := if c.st = 3 then c.stAt else u.now, vPeriod := if c.st = 3 then c.vPeriod else 0 } ∧
          KeptBut (.feedback :: reporting) s u)))) ∧
    ((fbMode s n ≠ 0 ∨ c.st = 0) → exec i s = .next (setFb n c1 (begin' t s)))) ∧
  (∀ (t : Time) (n : Fin 16) (clocks low high : Nat) (s : State),
    let b := begin' t s
    let c := fb s n
    let filt := rf s R.FB_FILT n 7 0
    let was := if filt ≤ low then false else c.a
    let taken := filt ≤ high ∧ was = false
    let meas := roundDiv (160000000 * 2 ^ 16) clocks
    let old : Int := (periodSpeed b c).natAbs
    let num := twoPi * fbBw s n * clocks
    let den := 160000000 * 2 ^ 29
    let size : Int := if den ≤ num then meas else old + roundDiv ((meas - old) * num) den
    let fast := c.lastEdge ≠ none ∧ clocks < 800
    let counting := c.st = 1 ∨ c.st = 2
    let pe := Instr.pulseEdge t n ⟨clocks, low, high⟩
    let quiet := (fbMode s n = 1 ∨ fbMode s n = 3) ∧ counting ∧ c.lastEdge.any (fun t0 => decide (rf s R.FB_PULSE n 15 0 * msUnits ≤ b.now - t0)) = true
    (fbMode s n = 1 → taken →
      (counting → Completes pe s (fun u =>
        (fb u n).a = true ∧ (fb u n).pos = wrapS 48 (c.pos + 1) ∧ (fb u n).lastEdge = some u.now ∧ (fb u n).lastPeriod = clocks ∧
        OthersKept fb n s u ∧
        (¬ fast → (fb u n).fastEdges = 0 ∧ (fb u n).st = c.st ∧ (fb u n).sticky = c.sticky ∧
          (fb u n).vPeriod = (if c.lastEdge = none ∨ clocks = 0 then c.vPeriod else size) ∧ KeptBut (.feedback :: begun) s u) ∧
        (fast → (fb u n).fastEdges = c.fastEdges + 1 ∧ (fb u n).sticky = withBit c.sticky 1 ∧
          (c.fastEdges < 15 → (fb u n).st = c.st ∧ (fb u n).vPeriod = (if clocks = 0 then c.vPeriod else size) ∧
            KeptBut (.feedback :: begun) s u) ∧
          (15 ≤ c.fastEdges → (fb u n).st = 3 ∧ (fb u n).vPeriod = 0 ∧ (fb u n).faultAt = u.now ∧ KeptBut (.feedback :: reporting) s u)))) ∧
      (c.st = 3 → Completes pe s (fun u =>
        (fb u n).a = true ∧ (fb u n).pos = c.pos ∧ (fb u n).vPeriod = c.vPeriod ∧ (fb u n).st = 3 ∧
        (fb u n).fastEdges = (if fast then c.fastEdges + 1 else 0) ∧
        (fb u n).faultAt = (if fast ∧ 15 ≤ c.fastEdges then u.now else c.faultAt) ∧
        OthersKept fb n s u ∧ KeptBut (.feedback :: begun) s u))) ∧
    ((fbMode s n ≠ 1 ∨ c.st = 0 ∨ ¬ taken) →
      exec pe s = .next (setFb n { c with a := if filt ≤ high then true else was } b)) ∧
    (quiet → exec (.pulseZeroTimeout t n) s = .next (setFb n { c with vPeriod := 0 } b)) ∧
    (¬ quiet → exec (.pulseZeroTimeout t n) s = .next b)) ∧
  (∀ (t : Time) (n : Fin 16) (clocks heldU heldV heldW : Nat) (code : BitVec 3) (s : State),
    let b := begin' t s
    let c := fb s n
    let filt := rf s R.FB_FILT n 7 0
    let bit (i held : Nat) : Nat := if filt ≤ held then code.toNat / 2 ^ i % 2 else c.hall / 2 ^ i % 2
    let next := 4 * bit 2 heldU + 2 * bit 1 heldV + bit 0 heldW
    let valid := (hallPlace next).isSome = true
    let lasted := c.hallBadAt.any (fun t0 => decide (wireWindow s n < b.now - t0)) = true
    let c1 := { c with
      hall := next
      hallBadAt := if valid then none else some (c.hallBadAt.getD b.now)
      faultAt := if valid ∧ lasted ∧ c.st = 3 then b.now else c.faultAt }
    let meas := roundDiv (160000000 * 2 ^ 16) clocks
    let old : Int := (periodSpeed b c1).natAbs
    let num := twoPi * fbBw s n * clocks
    let den := 160000000 * 2 ^ 29
    let size : Int := if den ≤ num then meas else old + roundDiv ((meas - old) * num) den
    let v (negative : Bool) : Int := if c.lastEdge = none ∨ clocks = 0 then c.vPeriod else if negative then -size else size
    let stepped (d : Int) : FbCh := { c1 with
      pos := wrapS 48 (c.pos + d), negative := decide (d < 0), lastEdge := some b.now, lastPeriod := clocks, vPeriod := v (decide (d < 0)) }
    let counting := c.st = 1 ∨ c.st = 2
    let hs := Instr.hallStep t n code ⟨clocks, heldU, heldV, heldW⟩
    let out := fbMode s n = 3 ∧ c.st ≠ 0 ∧ lasted
    ((fbMode s n ≠ 3 ∨ c.st = 0) → exec hs s = .next (setFb n c1 b)) ∧
    (fbMode s n = 3 → c.st ≠ 0 →
      (∀ i j : Nat, hallPlace c.hall = some i → hallPlace next = some j →
        (j = i → exec hs s = .next (setFb n c1 b)) ∧
        (j = (i + 1) % 6 → exec hs s = .next (setFb n (if counting then stepped 1 else c1) b)) ∧
        (j = (i + 5) % 6 → exec hs s = .next (setFb n (if counting then stepped (-1) else c1) b)) ∧
        (j ≠ i → j ≠ (i + 1) % 6 → j ≠ (i + 5) % 6 → exec hs s = .next (bump (T.quadError n) (setFb n c1 b)))) ∧
      ((hallPlace c.hall = none ∨ hallPlace next = none) → exec hs s = .next (setFb n c1 b))) ∧
    (out → Completes (.hallInvalid t n) s (fun u =>
        (fb u n).st = 3 ∧ (fb u n).sticky = withBit c.sticky 3 ∧ (fb u n).pos = c.pos ∧ (fb u n).faultAt = u.now ∧ OthersKept fb n s u ∧
        KeptBut (.feedback :: reporting) s u)) ∧
    (¬ out → exec (.hallInvalid t n) s = .next b)) ∧
  (∀ (t : Time) (n : Fin 16) (low high : Nat) (sine cosine : Int) (s : State),
    let b := begin' t s
    let c := fb s n
    let filt := rf s R.FB_FILT n 7 0
    let was := if filt ≤ low then false else c.z
    let taken := filt ≤ high ∧ was = false
    let cz := { c with z := if filt ≤ high then true else was }
    let ie := Instr.indexEdge t ⟨n, low, high⟩
    let sc := Instr.sincosSample t n sine cosine
    let x := sinCosOf b n (clampInt (-8192) 8191 sine) (clampInt (-8192) 8191 cosine)
    let inside := rf s R.FB_SC_WIN n 15 0 ≤ lineAmp b x ∧ lineAmp b x ≤ rf s R.FB_SC_WIN n 31 16
    let bad := if inside then 0 else c.ampBad + 1
    let d : Int := match c.angle with
      | none => 0
      | some a0 => signed 12 (wrapU 12 ((lineAngle b x : Int) - a0))
    ((fbMode s n = 0 ∨ fbMode s n = 2) → c.st ≠ 0 → taken →
      Completes ie s (fun u =>
        (indexOk s n c.indexPos c.pos = true →
          fb u n = { cz with index := BitVec.ofInt 32 c.pos, indexPos := some c.pos } ∧ KeptBut (.feedback :: begun) s u) ∧
        (indexOk s n c.indexPos c.pos = false →
          fb u n = { cz with index := BitVec.ofInt 32 c.pos, indexPos := some c.pos, sticky := withBit c.sticky 4 } ∧
          tally u (T.indexError n) = tally s (T.indexError n) + 1) ∧
        OthersKept fb n s u ∧ KeptBut (.feedback :: .tallies :: begun) s u)) ∧
    (((fbMode s n ≠ 0 ∧ fbMode s n ≠ 2) ∨ c.st = 0 ∨ ¬ taken) → exec ie s = .next (setFb n cz b)) ∧
    (fbMode s n = 2 → c.st ≠ 0 →
      Completes sc s (fun u =>
        (fb u n).pos = (if (c.st = 1 ∨ c.st = 2) ∧ d ≠ 0 then wrapS 48 (c.pos + d) else c.pos) ∧
        (fb u n).angle = some (lineAngle b x) ∧ (fb u n).amp = lineAmp b x ∧ (fb u n).ampBad = bad ∧
        (fb u n).overspeed = decide (614 < d.natAbs) ∧
        u.freeDraws = s.freeDraws + (if x.stated then 0 else 1) ∧
        (d.natAbs ≤ 1024 → bad < 4 → (fb u n).st = c.st ∧ (fb u n).sticky = c.sticky ∧ KeptBut (.feedback :: .freeDraws :: begun) s u) ∧
        ((1024 < d.natAbs ∨ 4 ≤ bad) → (fb u n).st = 3 ∧ (fb u n).faultAt = u.now) ∧
        (1024 < d.natAbs → bitOf (fb u n).sticky 1 = true) ∧ (4 ≤ bad → bitOf (fb u n).sticky 6 = true) ∧
        OthersKept fb n s u ∧ KeptBut (.feedback :: .freeDraws :: reporting) s u)) ∧
    ((fbMode s n ≠ 2 ∨ c.st = 0) → exec sc s = .next b))

/-- OBSERVER_UPDATE moves the estimates and never the count, and a tracking error beyond the limit is a fault; CALIBRATION_UPDATE moves each of the four terms toward its target by at most a step (eight for the gain) and starts the statistics afresh. Where the channel does not count, or the periods are not complete, neither moves anything (R127 to R129). WIRE_FAULT on a checked pair that has disagreed for longer than the window is a fault; FB_FAULT_RECOVERY after 10 ms without a cause, and FB_ENABLE, start ACQUIRE; FB_TRACK_ENTRY ends it; FB_DISABLE leaves OFF with the count kept. Before its time, and on a pair that is not checked, nothing moves (R116, R118, R123, R130, R132, R133, R145). -/
def Obligations.FeedbackChannelsEstimateAndChangeState : Prop :=
  (∀ (t : Time) (n : Fin 16) (s : State),
    let b := begin' t s
    let c := fb s n
    let e := wrapS 64 (c.pos * 2 ^ 16 - c.pEst)
    let errMax := rf s R.FB_OBS n 15 0
    let v := c.vEst + roundDiv (e * (twoPi * twoPi * fbBw s n * fbBw s n)) (2 ^ 58 * 1000000)
    ((fbMode s n = 0 ∨ fbMode s n = 2) → (c.st = 1 ∨ c.st = 2) →
      (errMax = 0 ∨ e.natAbs ≤ errMax * 2 ^ 16 →
        exec (.observerUpdate t n) s = .next (setFb n { c with
          vEst := v, pEst := wrapS 64 (c.pEst + roundDiv (v * 2 ^ 29 + 2 * e * (twoPi * fbBw s n)) (2 ^ 29 * 1000000)),
          obsAt := b.now } b)) ∧
      (errMax ≠ 0 ∧ errMax * 2 ^ 16 < e.natAbs → Completes (.observerUpdate t n) s (fun u =>
        fb u n = { c with st := 3, stAt := u.now, faultAt := u.now, vPeriod := 0, sticky := withBit c.sticky 2 } ∧
        OthersKept fb n s u ∧ KeptBut (.feedback :: reporting) s u))) ∧
    (((fbMode s n ≠ 0 ∧ fbMode s n ≠ 2) ∨ (c.st ≠ 1 ∧ c.st ≠ 2)) → exec (.observerUpdate t n) s = .next b) ∧
    (∀ st : CalStats, c.calStats = some st → c.st = 2 → rb s R.FB_CAL n 31 = true → calNeeded s n ≤ c.calPeriods →
      let step : Int := rf s R.FB_CAL n 7 0
      let g := calTargets st
      Completes (.calibrationUpdate t n) s (fun u =>
        fb u n = { c with calPeriods := 0, calStats := none } ∧
        rf u R.FB_CAL_OFS n 31 16 = wrapU 16 (stepToward (signed 16 (rf s R.FB_CAL_OFS n 31 16)) g.1 step) ∧
        rf u R.FB_CAL_OFS n 15 0 = wrapU 16 (stepToward (signed 16 (rf s R.FB_CAL_OFS n 15 0)) g.2.1 step) ∧
        rf u R.FB_CAL_GAIN n 31 16 = wrapU 16 (stepToward (rf s R.FB_CAL_GAIN n 31 16) g.2.2.1 (step * 8)) ∧
        rf u R.FB_CAL_GAIN n 15 0 = wrapU 16 (stepToward (signed 16 (rf s R.FB_CAL_GAIN n 15 0)) g.2.2.2 step) ∧
        OthersKept fb n s u ∧ KeptBut (.feedback :: .regs :: begun) s u)) ∧
    ((c.calStats = none ∨ c.st ≠ 2 ∨ rb s R.FB_CAL n 31 = false ∨ c.calPeriods < calNeeded s n) →
      exec (.calibrationUpdate t n) s = .next b)) ∧
  (∀ (t : Time) (n : Fin 16) (s : State),
    let b := begin' t s
    let c := fb s n
    (∀ (pair : Fin 3) (held : Nat),
      let checked := rb s R.FB_CFG n 23 = true ∧ c.st ≠ 0 ∧ wireWindow s n < held ∧
        (fbMode s n = 0 ∨ fbMode s n = 1 ∧ pair.val = 0 ∧ rb s R.FB_CFG n 27 = false ∨ fbMode s n = 2 ∧ pair.val = 2)
      (checked → Completes (.wireFault t n ⟨pair, held⟩) s (fun u =>
        fb u n = { c with st := 3, sticky := withBit c.sticky 7, faultAt := u.now,
                          stAt := if c.st = 3 then c.stAt else u.now, vPeriod := if c.st = 3 then c.vPeriod else 0 } ∧
        OthersKept fb n s u ∧ KeptBut (.feedback :: reporting) s u)) ∧
      (¬ checked → exec (.wireFault t n ⟨pair, held⟩) s = .next b)) ∧
    (c.st = 3 → 2000000 ≤ b.now - c.faultAt → (fbMode s n = 3 → c.hallBadAt = none) →
      Completes (.fbFaultRecovery t n) s (fun u =>
        (fb u n).st = 1 ∧ (fb u n).stAt = u.now ∧ (fb u n).pos = c.pos ∧ (fb u n).pEst = c.pos * 2 ^ 16 ∧ (fb u n).vEst = 0 ∧
        (fb u n).vPeriod = 0 ∧ (fb u n).sticky = c.sticky ∧ OthersKept fb n s u ∧ KeptBut (.feedback :: begun) s u)) ∧
    ((c.st ≠ 3 ∨ b.now - c.faultAt < 2000000 ∨ (fbMode s n = 3 ∧ c.hallBadAt ≠ none)) → exec (.fbFaultRecovery t n) s = .next b) ∧
    (c.st = 1 → acquireTime s n ≤ b.now - c.stAt →
      exec (.fbTrackEntry t n) s = .next (setFb n { c with
        st := 2, stAt := b.now, calRun := none, calGood := false, calTravel := 0, calStart := b.now } b)) ∧
    ((c.st ≠ 1 ∨ b.now - c.stAt < acquireTime s n) → exec (.fbTrackEntry t n) s = .next b) ∧
    (∀ (a : Actor) (v : W32), gateWrite s a (regOff R.FB_CFG n 0) 4 = .allow → crossDown s 5 = false →
      (flag v 31 = true → rb s R.FB_CFG n 31 = true → exec (.fbEnable t a n v) s = .next b) ∧
      (flag v 31 = true → rb s R.FB_CFG n 31 = false →
        Completes (.fbEnable t a n v) s (fun u =>
          rd u R.FB_CFG n = regMerge R.FB_CFG 0 v ∧ OthersKept fb n s u ∧
          (fld (regMerge R.FB_CFG 0 v) 30 28 < 4 → (fb u n).st = 1 ∧ (fb u n).pos = 0 ∧ (fb u n).stAt = u.now ∧
            (fb u n).pEst = 0 ∧ (fb u n).vEst = 0 ∧ (fb u n).indexPos = none ∧ (fb u n).sticky = c.sticky) ∧
          (4 ≤ fld (regMerge R.FB_CFG 0 v) 30 28 → fb u n = { c with sticky := withBit c.sticky 0 }) ∧
          KeptBut (.feedback :: .regs :: .course :: begun) s u)) ∧
      (flag v 31 = false → rb s R.FB_CFG n 31 = true →
        Completes (.fbDisable t a n v) s (fun u =>
          fb u n = { c with st := 0, stAt := u.now, vPeriod := 0, overspeed := false } ∧
          rd u R.FB_CFG n = setFlag (rd s R.FB_CFG n) 31 false ∧
          OthersKept fb n s u ∧ KeptBut (.feedback :: .regs :: begun) s u)) ∧
      (flag v 31 = false → rb s R.FB_CFG n 31 = false →
        Completes (.fbDisable t a n v) s (fun u =>
          rd u R.FB_CFG n = regMerge R.FB_CFG 0 v ∧ u.feedback = s.feedback ∧ KeptBut (.regs :: begun) s u))))

/-- AIN_CONVERSION: the result is the rounded mean of the latest samples once there are enough of them; as many results in a row outside the limits as the hold count asks for make the input out of limits, with notification 0x0D, as many inside end it, and a hold count of 0 starts both counts afresh. LATCH_EDGE: at the latch's source the level that passes the filter is taken, and an edge taken of the latch's polarity hands its instant and position to the course unit; one within the holdoff, or with two captures waiting, is only tallied, and so is one that finds the course unit in reset; an edge of the other source does nothing (R32, R134, R136 to R138, R145, R448, R449). EMU_UPDATE takes the change of the source into the total and keeps what is owed within ±65,535 edges, what is beyond being dropped, tallied and notified; without a source it takes nothing. EMU_EDGE emits one owed edge, at least 500 ns after the one before, and moves A, B and Z. EMU_RATIO_WRITE takes numerator and denominator together and rescales nothing that is owed (R139 to R142, R569). -/
def Obligations.AnalogueLatchesAndEmulationAct : Prop :=
  (∀ (t : Time) (s : State),
    let b := begin' t s
    (∀ (n : Fin 16) (uvolt : Int),
      let c := ain s n
      let l := (ainCode uvolt :: c.samples).take 64
      let w := ainWindow s n
      let res := roundDivNat ((l.take w).foldl (· + ·) 0) w
      let hold := rf s R.AIN_CFG n 27 20
      let low := rf s R.AIN_LIMIT n 11 0
      let high := rf s R.AIN_LIMIT n 27 16
      let i := Instr.ainConversion t n uvolt
      let c1 := { c with samples := l, result := res, valid := true }
      (rb s R.AIN_CFG n 31 = true → l.length < w → exec i s = .next (setAin n { c with samples := l } b)) ∧
      (rb s R.AIN_CFG n 31 = true → w ≤ l.length →
        (hold = 0 → exec i s = .next (setAin n { c1 with outRun := 0, inRun := 0 } b)) ∧
        (hold ≠ 0 → (res < low ∨ high < res) →
          let c2 := { c1 with outRun := c.outRun + 1, inRun := 0, out := c.out || decide (hold ≤ c.outRun + 1) }
          exec i s = .next (if c.out = false ∧ hold ≤ c.outRun + 1 then notify 0x0D n res (setAin n c2 b) else setAin n c2 b)) ∧
        (hold ≠ 0 → low ≤ res → res ≤ high →
          exec i s = .next (setAin n { c1 with inRun := c.inRun + 1, outRun := 0, out := c.out && !decide (hold ≤ c.inRun + 1) } b))) ∧
      (rb s R.AIN_CFG n 31 = false → exec i s = .next b)) ∧
    (∀ (n : Fin 8) (at' : Time) (rising z : Bool) (before held waiting : Nat),
      let i := Instr.latchEdge t n at' ⟨rising, z, before, held, waiting⟩
      let filt := rf s R.LATCH_CFG n 23 16
      let was := if filt ≤ before then !rising else tabGet false s.feedback.latchLevel n.val
      let lv : State := { b with feedback := { b.feedback with
        latchLevel := tabSet false s.feedback.latchLevel n.val (if filt ≤ held then rising else was) } }
      let taken := rb s R.LATCH_CFG n 31 = true ∧ filt ≤ held ∧ was = !rising ∧
        rb s R.LATCH_CFG n (if rising then 29 else 30) = true
      let last := tabGet none s.feedback.latchEdge n.val
      let soon := last.any (fun t0 => decide (at' - t0 < rf s R.LATCH_CFG n 15 0 * usUnits)) = true
      let noted : State := { lv with feedback := { lv.feedback with latchEdge := tabSet none s.feedback.latchEdge n.val (some at') } }
      (z ≠ rb s R.LATCH_CFG n 28 → exec i s = .next b) ∧
      (z = rb s R.LATCH_CFG n 28 →
        (taken → ¬ soon → waiting < 2 → crossDown s 4 = false → exec i s = .next { noted with
          course := { s.course with captures := s.course.captures ++
            [{ latch := n.val, time := at', position := latchPosition b (rf s R.LATCH_CFG n 27 24) at' }] } }) ∧
        (taken → ¬ soon → waiting < 2 → crossDown s 4 = true → Completes i s (fun u =>
          tally u (T.xingLost 4) = tally s (T.xingLost 4) + 1 ∧ u.course = s.course ∧ u.feedback = noted.feedback ∧
          KeptBut (.feedback :: .clocks :: delivering) s u)) ∧
        (taken → ¬ soon → 2 ≤ waiting → exec i s = .next (bump (T.latchDrop n) noted)) ∧
        (taken → soon → exec i s = .next (bump (T.latchHoldoff n) lv)) ∧
        (¬ taken → exec i s = .next lv)))) ∧
  (∀ (t : Time) (n : Fin 4) (s : State),
    let b := begin' t s
    let c := emu s n
    (∀ x : Int, rb s R.EMU_CFG n 31 = true → emuSource b n = some x →
      Completes (.emuUpdate t n) s (fun u =>
        let excess := (emuExcess (emuOwedTotal s n { c with total := (emu u n).total } - c.emitted)).natAbs
        (emu u n).source = some x ∧ (emu u n).emitted = c.emitted ∧
        (c.source = none → (emu u n).total = wrapS 64 c.total) ∧
        (∀ y, c.source = some y → (emu u n).total = wrapS 64 (c.total + wrapS 48 (x - y))) ∧
        (emuOwedTotal u n (emu u n) - (emu u n).emitted).natAbs ≤ 65535 ∧
        (excess = 0 → (emu u n).overrun = c.overrun ∧ (emu u n).eBase = c.eBase ∧ KeptBut (.feedback :: begun) s u) ∧
        (excess ≠ 0 → (emu u n).overrun = true ∧ tally u (T.emuOverrun n) = tally s (T.emuOverrun n) + BitVec.ofNat 32 excess) ∧
        OthersKept emu n s u ∧ KeptBut (.feedback :: delivering) s u)) ∧
    (rb s R.EMU_CFG n 31 = true → emuSource b n = none → exec (.emuUpdate t n) s = .next (setEmu n { c with source := none } b)) ∧
    (rb s R.EMU_CFG n 31 = false → exec (.emuUpdate t n) s = .next b) ∧
    (let owed := emuOwedTotal s n c - c.emitted
     let d : Int := if 0 < owed then 1 else -1
     let zdiv : Int := (rd s R.EMU_ZDIV n).toNat
     let iso := rb s R.EMU_CFG n 15
     let due := rb s R.EMU_CFG n 31 = true ∧ (emuRatio s n c).2 ≠ 0 ∧ owed ≠ 0 ∧ (c.lastEdge = 0 ∨ 100 ≤ b.now - c.lastEdge)
     (due → exec (.emuEdge t n) s = .next (setEmu n { c with
        emitted := c.emitted + d
        lastEdge := b.now
        phase := if iso then (if c.phase % 4 = 0 then 1 else 0) else wrapU 2 (c.phase + d)
        z := !iso && decide (zdiv ≠ 0) && decide ((c.emitted + d) / zdiv ≠ c.emitted / zdiv) } b)) ∧
     (¬ due → exec (.emuEdge t n) s = .next b)) ∧
    (∀ (a : Actor) (v : W64), crossDown s 5 = false →
      (gateWrite s a (regOff R.EMU_NUM n 0) 8 = .allow →
        Completes (.emuRatioWrite t a n false 8 v) s (fun u =>
          (emu u n).num = v.toNat % 2 ^ 32 ∧ (emu u n).den = v.toNat / 2 ^ 32 ∧ (emu u n).heldNum = none ∧
          rd u R.EMU_NUM n = v.setWidth 32 ∧ rd u R.EMU_DEN n = (v >>> 32).setWidth 32 ∧
          emuOwedTotal u n (emu u n) = emuOwedTotal s n c ∧ (emu u n).emitted = c.emitted ∧ (emu u n).total = c.total ∧
          OthersKept emu n s u ∧ KeptBut (.feedback :: .regs :: begun) s u)) ∧
      (gateWrite s a (regOff R.EMU_NUM n 0) 4 = .allow →
        Completes (.emuRatioWrite t a n false 4 v) s (fun u =>
          emu u n = { c with heldNum := some (v.toNat % 2 ^ 32) } ∧ rd u R.EMU_NUM n = v.setWidth 32 ∧
          OthersKept emu n s u ∧ KeptBut (.feedback :: .regs :: begun) s u)) ∧
      (gateWrite s a (regOff R.EMU_DEN n 0) 4 = .allow →
        Completes (.emuRatioWrite t a n true 4 v) s (fun u =>
          (emu u n).num = c.heldNum.getD c.num ∧ (emu u n).den = v.toNat % 2 ^ 32 ∧ (emu u n).heldNum = none ∧
          rd u R.EMU_DEN n = v.setWidth 32 ∧
          emuOwedTotal u n (emu u n) = emuOwedTotal s n c ∧ (emu u n).emitted = c.emitted ∧ (emu u n).total = c.total ∧
          OthersKept emu n s u ∧ KeptBut (.feedback :: .regs :: begun) s u))))

/-- LANE_CONFIG on a lane: with the binding granted and free, the parent configured and no proxy, and room in the member table, the lane takes the fields of the waybill and stands empty and off with its fault word kept; result: the milestones discarded. A PWM channel that does not exist answers 0x0003, a resource of another owner 0x0004, an unconfigured parent 0x0101, a binding in use 0x0102, and each changes nothing (R149, R150, R163). CARAVAN_CONFIG of a caravan that is no proxy: with its window in order, its parent configured and no proxy, it takes the fields of the waybill; of a proxy, with its range, port and owner in order and no members, those of the proxy too. A window upside down or an undefined policy answers 0x0003, a proxy at caravan 0 0x0107, an unconfigured parent 0x0101, and each changes nothing (R164, R167, R170). ATTACH moves a lane or a caravan under a configured caravan that is no proxy and changes nothing else of it; caravan 0 answers 0x0107, an unconfigured member or parent 0x0101, a proxy 0x0108 (R154, R165). RELEASE of a configured lane forgets it, result: the milestones discarded; a lane that is on and bound has its binding commanded off. Of a caravan without members it forgets the caravan; caravan 0 answers 0x0107, a caravan with members 0x0100, what is not configured 0x0101, and each changes nothing (R150, R167). -/
def Obligations.LanesAndCaravansAreConfiguredAndMoved : Prop :=
  (∀ (t : Time) (n : Fin 128) (k : Nat) (x : Desc) (s : State),
    let b := bindingOf x.bytes
    let parent := bits (u16 x.bytes 14) 10 0
    let old := lane s k
    let granted := bindingOwner s b = none ∨ bindingOwner s b = some (ringOwner s n)
    let noPwm := b.code = 2 ∧ 48 ≤ b.field
    let unused := b = .unbound ∨ (lanesOf s).all (fun j => j = k || decide ((lane s j).binding ≠ b)) = true
    let still (st : Nat) : Prop := Answers (.laneConfig t n) s n x st 0 (fun u =>
      u.engine = (setTurn n (reachKeys s x.bytes) s).engine ∧ KeptBut (.engine :: begun) s u)
    Waybill s n 0x10 x 0 k → misuse180 s (waybillCmd n 0x10 (begin' t s)) = false →
    (granted → ¬ noPwm → (caravan s parent).configured = true → (caravan s parent).proxy = false → unused →
      (old.configured = true ∨ memberCount s < 8192) →
      Answers (.laneConfig t n) s n x 0 (if old.configured then BitVec.ofNat 32 (capNat 0xFFFFFFFF old.queue.length) else 0) (fun u =>
        let l := lane u k
        l.configured = true ∧ l.binding = b ∧ l.parent = parent ∧ l.type = bits (u8 x.bytes 12) 1 0 ∧ l.implement = bitOf (u8 x.bytes 12) 2 ∧
        l.x = i32 x.bytes 20 ∧ l.y = i32 x.bytes 24 ∧ l.g = i32 x.bytes 28 ∧ l.halfWidth = u16 x.bytes 32 ∧ l.minOff = u16 x.bytes 34 ∧
        l.onDelay = u32 x.bytes 36 ∧ l.offDelay = u32 x.bytes 40 ∧ l.rate = u32 x.bytes 44 ∧ l.ownEnable = bitOf (u8 x.bytes 48) 0 ∧
        l.on = false ∧ l.queue = [] ∧ l.events = [] ∧ l.anchored = false ∧ l.faults = old.faults ∧
        (∀ j, caravan u j = caravan s j) ∧
        (old.configured = false → OthersKept lane k s u ∧ KeptBut (.engine :: begun) s u))) ∧
    (noPwm → still 3) ∧ (¬ noPwm → ¬ granted → still 4) ∧
    (¬ noPwm → granted → (caravan s parent).configured = false → still 0x0101) ∧
    (¬ noPwm → granted → (caravan s parent).configured = true → ¬ unused → still 0x0102) ∧
    (¬ noPwm → granted → (caravan s parent).configured = true → unused → (old.configured = true ∨ memberCount s < 8192) →
      (caravan s parent).proxy = true → still 0x0108)) ∧
  (∀ (t : Time) (n : Fin 128) (k : Nat) (x : Desc) (s : State),
    let parent := bits (u16 x.bytes 12) 10 0
    let lo := i16 x.bytes 16
    let hi := i16 x.bytes 18
    let flags := u8 x.bytes 20
    let policy := u8 x.bytes 21
    let proxy := bitOf flags 2
    let port := bits (u8 x.bytes 24) 4 0
    let base := bits (u16 x.bytes 26) 11 0
    let span := bits (u16 x.bytes 28) 12 0
    let order := bits policy 3 2 ≠ 3 ∧ 0 ≤ lo ∧ lo ≤ hi
    let home := k = 0 ∨ ((caravan s parent).configured = true ∧ (caravan s parent).proxy = false ∧
      ((caravan s k).configured = true ∨ memberCount s < 8192))
    let still (st : Nat) : Prop := Answers (.caravanConfig t n) s n x st 0 (fun u =>
      u.engine = (setTurn n (reachKeys s x.bytes) s).engine ∧ KeptBut (.engine :: begun) s u)
    Waybill s n 0x11 x 1 k → k < 2048 →
    misuse180 s (waybillCmd n 0x11 (begin' t s)) = false →
    (order → home → (proxy = true → k ≠ 0 ∧ hasMembers s k = false ∧ proxyStatus (some (ringOwner s n)) k port base span s = 0) →
      Answers (.caravanConfig t n) s n x 0 0 (fun u =>
        let c := caravan u k
        c.configured = true ∧ c.parent = (if k = 0 then 0 else parent) ∧ c.ownEnable = bitOf flags 4 ∧
        c.factor = u16 x.bytes 14 ∧ c.tcEn = bitOf flags 0 ∧ c.tcMin = lo ∧ c.tcMax = hi ∧ c.reverse = bitOf flags 1 ∧
        c.notifyFault = bitOf flags 3 ∧ c.mode = bits policy 1 0 ∧ c.miss = bits policy 3 2 ∧ c.proxy = proxy ∧
        (proxy = true → c.port = port ∧ c.node = u8 x.bytes 25 ∧ c.base = base ∧ c.span = span ∧ c.timeout = u16 x.bytes 30) ∧
        (proxy = true → (caravan s k).proxy = false → c.joined = false ∧ c.silent = false ∧ c.reportAt = u.now) ∧
        OthersKept caravan k s u ∧ (∀ j, lane u j = lane s j) ∧ KeptBut (.engine :: begun) s u)) ∧
    (¬ order → still 3) ∧
    (order → k = 0 → proxy = true → still 0x0107) ∧
    (order → k ≠ 0 → (caravan s parent).configured = false → still 0x0101)) ∧
  (∀ (t : Time) (n : Fin 128) (k : Nat) (x : Desc) (s : State),
    let parent := bits (u16 x.bytes 12) 10 0
    let still (st : Nat) : Prop := Answers (.attach t n) s n x st 0 (fun u =>
      u.engine = (setTurn n (reachKeys s x.bytes) s).engine ∧ KeptBut (.engine :: begun) s u)
    misuse180 s (waybillCmd n 0x12 (begin' t s)) = false →
    (Waybill s n 0x12 x 0 k → (lane s k).configured = true → (caravan s parent).configured = true → (caravan s parent).proxy = false →
      Answers (.attach t n) s n x 0 0 (fun u =>
        lane u k = { lane s k with parent := parent } ∧ OthersKept lane k s u ∧ (∀ j, caravan u j = caravan s j) ∧
        KeptBut (.engine :: begun) s u)) ∧
    (Waybill s n 0x12 x 1 k → 0 < k → k < 2048 → (caravan s k).configured = true → (caravan s parent).configured = true →
      (caravan s parent).proxy = false →
      Answers (.attach t n) s n x 0 0 (fun u =>
        caravan u k = { caravan s k with parent := parent } ∧ OthersKept caravan k s u ∧ (∀ j, lane u j = lane s j) ∧
        KeptBut (.engine :: begun) s u)) ∧
    (Waybill s n 0x12 x 1 0 → still 0x0107) ∧
    (Waybill s n 0x12 x 0 k → ((lane s k).configured = false ∨ (caravan s parent).configured = false) → still 0x0101) ∧
    (Waybill s n 0x12 x 1 k → 0 < k → k < 2048 → ((caravan s k).configured = false ∨ (caravan s parent).configured = false) →
      still 0x0101) ∧
    (Waybill s n 0x12 x 0 k → (lane s k).configured = true → (caravan s parent).configured = true → (caravan s parent).proxy = true →
      still 0x0108)) ∧
  (∀ (t : Time) (n : Fin 128) (k : Nat) (x : Desc) (s : State),
    let b := begin' t s
    let l := lane s k
    let still (st : Nat) : Prop := Answers (.release t n) s n x st 0 (fun u =>
      u.engine = (setTurn n (reachKeys s x.bytes) s).engine ∧ KeptBut (.engine :: begun) s u)
    (Waybill s n 0x13 x 0 k → l.configured = true →
      Answers (.release t n) s n x 0 (BitVec.ofNat 32 (capNat 0xFFFFFFFF l.queue.length)) (fun u =>
        lane u k = {} ∧ (∀ j, caravan u j = caravan s j) ∧
        (l.events = [] → l.on = false → u.engine.poolFree = capNat 65536 (s.engine.poolFree + l.entries) ∧ OthersKept lane k s u ∧
          KeptBut (.engine :: begun) s u) ∧
        (∀ ch, l.events = [] → l.on = true → l.binding = .direct ch → s.engine.heap = [] → relayTolls s < 256 → storeTolls s ch < 16 →
          u.relay = (pushDown (.event ch { id := s.engine.nextEv, kind := 2, time := b.now, d := 0 }) b).relay))) ∧
    (Waybill s n 0x13 x 0 k → l.configured = false → still 0x0101) ∧
    (Waybill s n 0x13 x 1 k → 0 < k → k < 2048 → (caravan s k).configured = true → hasMembers s k = false →
      Answers (.release t n) s n x 0 0 (fun u =>
        caravan u k = caravanReset k ∧ OthersKept caravan k s u ∧ (∀ j, lane u j = lane s j) ∧ KeptBut (.engine :: begun) s u)) ∧
    (Waybill s n 0x13 x 1 k → 0 < k → k < 2048 → (caravan s k).configured = true → hasMembers s k = true → still 0x0100) ∧
    (Waybill s n 0x13 x 1 k → 0 < k → k < 2048 → (caravan s k).configured = false → still 0x0101) ∧
    (Waybill s n 0x13 x 1 0 → still 0x0107))

/-- INHIBIT and SET_RATE set a lane's or a caravan's own enable and its rate or factor; SET_DELAY of mode 0 sets a lane's delays and confidence, and of a mode above 1 answers 0x0003; QUERY writes the lane's 128-byte status record to the buffer; CLEAR_FAULT clears a lane's fault word, and a direct lane's channel gets a CLEAR frame, its bank another where the desaturation fault stood and the ring's owner owns the bank; each leaves every other lane and caravan alone. On what is not configured each answers 0x0101 and changes nothing (R162, R165, R166, R211, R325). Each of the eleven waybills: the oldest waiting descriptor of its ring, of its opcode, at the ring's turn and with a forwarding slot for each part, is carried out at once; it completes with the status and the result of its own part if nothing of it is forwarded or left to judge, QUERY having written its record first, and else it stays in execution with its parts sent. Out of its turn, or without a slot, nothing moves (R25, R43, R162, R166, R173). -/
def Obligations.LaneWaybillsActOnTheirTarget : Prop :=
  (∀ (t : Time) (n : Fin 128) (k : Nat) (x : Desc) (s : State),
    let b := begin' t s
    let l := lane s k
    let laneNow (m : Lane) (u : State) : Prop :=
      lane u k = m ∧ OthersKept lane k s u ∧ (∀ j, caravan u j = caravan s j) ∧ KeptBut (.engine :: begun) s u
    let caravanNow (c : Caravan) (u : State) : Prop :=
      caravan u k = c ∧ OthersKept caravan k s u ∧ (∀ j, lane u j = lane s j) ∧ KeptBut (.engine :: begun) s u
    let still (u : State) : Prop := u.engine = (setTurn n (reachKeys s x.bytes) s).engine ∧ KeptBut (.engine :: begun) s u
    (l.configured = true →
      (Waybill s n 0x14 x 0 k → Answers (.inhibit t n) s n x 0 0 (laneNow { l with ownEnable := !bitOf (u8 x.bytes 12) 0 })) ∧
      (Waybill s n 0x15 x 0 k → Answers (.setRate t n) s n x 0 0 (laneNow { l with rate := u32 x.bytes 12 })) ∧
      (Waybill s n 0x16 x 0 k → u8 x.bytes 12 = 0 → Answers (.setDelay t n) s n x 0 0 (laneNow { l with
        onDelay := if bitOf (u8 x.bytes 13) 0 then u32 x.bytes 16 else l.onDelay
        offDelay := if bitOf (u8 x.bytes 13) 1 then u32 x.bytes 20 else l.offDelay
        learned := false
        confidence := u8 x.bytes 14 })) ∧
      (Waybill s n 0x16 x 0 k → 1 < u8 x.bytes 12 → Answers (.setDelay t n) s n x 3 0 still) ∧
      (Waybill s n 0x18 x 0 k → u64 x.bytes 16 % 64 = 0 → Answers (.query t n) s n x 0 0 (fun u =>
        dmaRead u (ring s n).onChip (u64 x.bytes 16) 128 = statusRecord b (targetOf x.bytes) x.bytes ∧
        u.engine = (setTurn n (reachKeys s x.bytes) s).engine ∧ KeptBut (.engine :: .hostMem :: .messageStore :: begun) s u)) ∧
      (Waybill s n 0x17 x 0 k → Answers (.clearFault t n) s n x 0 0 (fun u =>
        lane u k = { l with faults := 0 } ∧ OthersKept lane k s u ∧ (∀ j, caravan u j = caravan s j) ∧
        (∀ ch, l.binding = .direct ch → rd u R.DRV_FAULT ch = 0 ∧ u.relay =
          (if bitOf l.faults 2 = true ∧ ringOwner s n = drvOwner s (ch / 8 * 8) then
            pushDown (.clear (64 + ch / 8) 1) (pushDown (.clear ch 0x7F) b) else pushDown (.clear ch 0x7F) b).relay) ∧
        (l.binding.isDirect = false → KeptBut (.engine :: begun) s u) ∧
        KeptBut (.engine :: .relay :: .regs :: begun) s u))) ∧
    (Waybill s n 0x18 x 0 k → u64 x.bytes 16 % 64 ≠ 0 → Answers (.query t n) s n x 3 0 still) ∧
    (k < 2048 → (caravan s k).configured = true →
      (Waybill s n 0x14 x 1 k → Answers (.inhibit t n) s n x 0 0
        (caravanNow { caravan s k with ownEnable := !bitOf (u8 x.bytes 12) 0 })) ∧
      (Waybill s n 0x15 x 1 k → Answers (.setRate t n) s n x 0 0
        (caravanNow { caravan s k with factor := capNat 0xFFFF (roundDivNat (u32 x.bytes 12) 16) }))) ∧
    (l.configured = false →
      (Waybill s n 0x14 x 0 k → Answers (.inhibit t n) s n x 0x0101 0 still) ∧
      (Waybill s n 0x15 x 0 k → Answers (.setRate t n) s n x 0x0101 0 still) ∧
      (Waybill s n 0x16 x 0 k → Answers (.setDelay t n) s n x 0x0101 0 still) ∧
      (Waybill s n 0x17 x 0 k → Answers (.clearFault t n) s n x 0x0101 0 still) ∧
      (Waybill s n 0x18 x 0 k → u64 x.bytes 16 % 64 = 0 → Answers (.query t n) s n x 0x0101 0 still))) ∧
  (∀ (t : Time) (n : Fin 128) (x : Desc) (s : State),
    let b := begin' t s
    let keys := reachKeys s x.bytes
    let r := ring s n
    let careful : List (Nat × Instr) := [(0x10, .laneConfig t n), (0x11, .caravanConfig t n), (0x12, .attach t n)]
    let others : List (Nat × Instr) := [(0x13, .release t n), (0x14, .inhibit t n), (0x15, .setRate t n), (0x16, .setDelay t n),
      (0x17, .clearFault t n), (0x18, .query t n), (0x20, .mark t n), (0x21, .cancel t n)]
    ∀ c ∈ careful ++ others,
      let w := waybill c.1 (some (ringOwner s n)) (some 0) x.bytes b
      let free := canForward s (partsOf c.1 (some 0) x.bytes s)
      Ready s n c.1 x → r.kind = 1 → (c.1 ≤ 0x12 → misuse180 s (waybillCmd n c.1 b) = false) →
      ((turnOk s n keys = false ∨ free = false) → exec c.2 s = .next b) ∧
      (turnOk s n keys = true → free = true → w.parts = [] → w.due = none →
        exec c.2 s = .next (complete n x w.status (BitVec.ofNat 32 (capNat 0xFFFFFFFF w.result)) (setTurn n keys
          (if c.1 = 0x18 ∧ w.status = 0 then dmaWrite r.onChip (u64 x.bytes 16) w.record w.state else w.state)))) ∧
      (turnOk s n keys = true → free = true → (w.parts ≠ [] ∨ w.due ≠ none) →
        exec c.2 s = .next (markRunning n x.index (setTurn n keys (keepOpen {
          ring := n, index := x.index, opcode := c.1, buffer := u64 x.bytes 16, onChip := r.onChip
          status := w.status, result := w.result } w)))))

/-- MARK on a lane places all its milestones or none: beyond the lane's cap or the pool it answers 0x0001, with notification 0x12, and places nothing; otherwise the result is their number, each takes a pool entry, and each stands in the queue with its position, kind and value; entries out of order answer 0x0109 or 0x0003. Where the two marks of a pair carry different references, the MARK stays in execution and is judged at its insertion visit, which takes the milestones back where a SPOT_OFF then lies behind its SPOT_ON. CANCEL removes the milestones of its kinds and range that have caused no frozen event, and answers their number (R31, R184 to R189, R192). -/
def Obligations.MarksArePlacedWhollyOrNotAtAll : Prop :=
  ∀ (t : Time) (n : Fin 128) (k : Nat) (x : Desc) (s : State),
    let b := begin' t s
    let l := lane s k
    let keys := reachKeys s x.bytes
    let es := (List.range 3).map (markEntry x.bytes 0)
    let used := (es.filter (fun e => e.kind ≠ 0)).length
    let pairs := spotPairsOf es
    let mixed := pairs.any (fun y => y.1.1 != y.2.1)
    let placed (u : State) : Prop :=
      (lane u k).queue.length = l.queue.length + used ∧ u.engine.poolFree + used = s.engine.poolFree ∧
      (∀ e ∈ es, e.kind ≠ 0 → (lane u k).queue.any (fun m => m.kind = e.kind && m.value = e.value && m.entry && m.ref = e.ref
        && decide (m.pos = convert b l e.ref e.pos)) = true) ∧
      (∀ m ∈ l.queue, m ∈ (lane u k).queue) ∧
      OthersKept lane k s u ∧ (∀ j, caravan u j = caravan s j) ∧ KeptBut (.engine :: begun) s u
    let still (u : State) : Prop := u.engine = (setTurn n keys s).engine ∧ KeptBut (.engine :: begun) s u
    l.configured = true →
    (Waybill s n 0x20 x 0 k → markStatus es = 0 → (mixed = true ∨ spotsOrdered b l pairs = true) →
      (laneCap s < l.entries + used ∨ s.engine.poolFree < used →
        exec (.mark t n) s = .next (complete n x 1 0 (setTurn n keys (notify 0x12 k s.engine.poolFree b)))) ∧
      (l.entries + used ≤ laneCap s → used ≤ s.engine.poolFree →
        (mixed = false → Answers (.mark t n) s n x 0 (BitVec.ofNat 32 used) placed) ∧
        (mixed = true → Begins (.mark t n) s n x (fun u => placed u ∧
          u.engine.marksDue = s.engine.marksDue ++ [{
            tag := s.engine.nextSeq, lanes := [k], pairs := pairs
            seqFrom := s.engine.nextSeq, seqTo := s.engine.nextSeq + used, placed := used }])))) ∧
    (Waybill s n 0x20 x 0 k → markStatus es ≠ 0 → Answers (.mark t n) s n x (markStatus es) 0 still) ∧
    (Waybill s n 0x20 x 0 k → markStatus es = 0 → mixed = false → spotsOrdered b l pairs = false →
      Answers (.mark t n) s n x 0x0109 0 still) ∧
    (∀ tag from' to' : Nat,
      let d : MarkDue := { tag := tag, lanes := [k], pairs := pairs, seqFrom := from', seqTo := to', placed := used }
      (spotsOrdered s (laneMotion s l) pairs = true → lane (judgeMark d s) k = l) ∧
      (spotsOrdered s (laneMotion s l) pairs = false →
        (lane (judgeMark d s) k).queue = l.queue.filter (fun m => !(decide (from' ≤ m.seq) && decide (m.seq < to'))))) ∧
    (let lo := wrapS 48 (signed 48 (u64 x.bytes 12 % 2 ^ 48) + 0)
     let hi := wrapS 48 (signed 48 (u64 x.bytes 20 % 2 ^ 48) + 0)
     let goes := cancels l lo hi (u8 x.bytes 28 % 64)
     Waybill s n 0x21 x 0 k →
      (ahead lo hi = true → Answers (.cancel t n) s n x 0 0 still) ∧
      (ahead lo hi = false → Answers (.cancel t n) s n x 0 (BitVec.ofNat 32 (capNat 0xFFFFFFFF (l.queue.filter goes).length)) (fun u =>
        (lane u k).queue = l.queue.filter (fun m => !goes m) ∧
        (l.queue.any goes = false → still u) ∧
        (l.events = [] → u.engine.poolFree = capNat 65536 (s.engine.poolFree + ((l.queue.filter goes).filter (·.entry)).length) ∧
          OthersKept lane k s u ∧ KeptBut (.engine :: begun) s u))))

/-- DISPATCH_ON_TOLL: an event whose consumer gives a toll goes there, in order, with the late-dispatch accounting of one that waited past its time, and one whose consumer gives none waits; an event of a PWM channel stays to its instant; one that the lane engine kept for want of a toll is offered again (R28, R29, R30, R341). EXECUTION_INSTANT: the event of an unbound lane executes when its time has come: on turns the lane on and counts an opening, off turns it off, a rate is taken; the transmitted command of a remote lane executes then and leaves its slot queue; one that its lane no longer holds turns it off, or on and off again at once, and a command that a CANCEL has stopped at its node does not execute. Where nothing is due, nothing moves (R151, R198, R205). -/
def Obligations.TheDispatcherHandsOnAndEventsExecute : Prop :=
  (∀ (t : Time) (x : DispItem) (e : LaneEv) (s : State),
    let b := begin' t s
    let empty : State := { b with engine := { b.engine with heap := [] } }
    exec (.dispatchOnToll t) s = .next (handOn b) ∧
    (s.engine.heap = [] → exec (.dispatchOnToll t) s = .next b) ∧
    (s.engine.heap = [x] → x.kept = false →
      (tollReady s x = true →
        exec (.dispatchOnToll t) s = .next (noteHanded x (handOver x empty)) ∧
        (x.body = .event e → Completes (.dispatchOnToll t) s (fun u =>
          u.engine.heap = [] ∧
          (∀ ch, x.binding = .direct ch → u.relay = (pushDown (.event ch (drvEvOf e)) b).relay) ∧
          (∀ p m i, x.binding = .remote p m i → crossDown s 12 = false →
            slotQueue u p = slotQueue s p ++ [{ lane := x.lane, node := m, sub := i, ev := e, late := x.lateAt b.now }] ∧
            u.relay = s.relay) ∧
          (x.lateAt b.now = true → tally u T.lateDispatch = tally s T.lateDispatch + 1) ∧
          u.drive = s.drive ∧ u.lease = s.lease ∧ u.pwm = s.pwm ∧ u.bus = s.bus))) ∧
      (tollReady s x = false → Completes (.dispatchOnToll t) s (fun u =>
        u.engine = { s.engine with heap := [if x.binding.code = 2 then x else { x with waited := true }] } ∧
        KeptBut (.engine :: begun) s u))) ∧
    (s.engine.heap = [x] → x.kept = true → x.body = .event e →
      let y : DispItem := { x with waited := decide (x.binding.code ≠ 2) || decide (e.tExec ≤ b.now), kept := false }
      tollReady s y = true → exec (.dispatchOnToll t) s = .next (noteHanded y (handOver y empty)))) ∧
  (∀ (t : Time) (k : Fin 4096) (s : State),
    let b := begin' t s
    let l := lane s k
    let i := Instr.executionInstant t k
    let due := l.events.find? (fun y => !y.executed && decide (y.tExec ≤ b.now))
    (∀ e : LaneEv, l.binding = .unbound → due = some e →
      exec i s = .next (eventExecutes k e false b) ∧
      Completes i s (fun u =>
        (e.kind = 1 → (lane u k).on = true ∧ (lane u k).dSent = e.d ∧
          (lane u k).openings = (if l.on then l.openings else l.openings + 1)) ∧
        (e.kind = 2 → (lane u k).on = false ∧ (lane u k).openings = l.openings) ∧
        (e.kind ≠ 1 → e.kind ≠ 2 → (lane u k).on = l.on ∧ (lane u k).dSent = e.d) ∧
        (∀ y ∈ (lane u k).events, y.id = e.id → y.executed = true) ∧
        OthersKept lane k s u ∧ KeptBut (.engine :: begun) s u)) ∧
    (l.binding = .unbound → due = none → exec i s = .next b) ∧
    (l.binding.isDirect = true → exec i s = .next b) ∧ (l.binding.code = 2 → exec i s = .next b) ∧
    (∀ (p m j : Nat), l.binding = .remote p m j →
      let sent := (slotQueue s p).find? (fun c => c.lane = k.val && c.sent && !c.cancelled && decide (c.ev.tExec ≤ b.now))
      (sent = none → exec i s = .next b) ∧
      (∀ c : SlotCmd, sent = some c →
        exec i s = .next (executesAt k c.ev.id c.ev.kind c.ev.d false
          (setSlotQueue p ((slotQueue s p).filter (fun y => y.ev.id != c.ev.id)) b)) ∧
        (∀ y : LaneEv, l.events.find? (fun e => e.id = c.ev.id && !e.executed) = some y → Completes i s (fun u =>
          slotQueue u p = (slotQueue s p).filter (fun y => y.ev.id != c.ev.id) ∧ OthersKept slotQueue p s u ∧
          (y.kind = 1 → (lane u k).on = true) ∧ (y.kind = 2 → (lane u k).on = false) ∧
          OthersKept lane k s u ∧ KeptBut (.engine :: begun) s u)) ∧
        (l.events = [] → c.ev.kind = 2 → Completes i s (fun u =>
          (lane u k).on = false ∧ slotQueue u p = (slotQueue s p).filter (fun y => y.ev.id != c.ev.id) ∧
          OthersKept lane k s u ∧ KeptBut (.engine :: begun) s u)) ∧
        (l.events = [] → c.ev.kind = 1 → Completes i s (fun u =>
          (lane u k).on = true ∧ (lane u k).events.any (fun z => decide (z.kind = 2)) = true)))))

/-- ADMIT that fits joins this device under its parent with the range given and is answered with code 0, and a port that was master here listens again; one that does not fit is answered with code 1 and changes nothing else; a device that has joined already keeps its count of the parent's silence. JOINED with code 0 marks the proxy joined, another code raises notification 0x32 with the proxy and the port. A frame for another node, on a port without Imwald traffic, or that the port does not hear, is not this device's; an identifier that is a reference message's is undefined use (R175, R380, R407, R424, R431; log entry 71 for the master that joins). SHARE from the parent waits for the next sweep and ends the parent's silence; CONVOY_REPORT gives a proxy its subordinate's totals and ends its silence; either from elsewhere, or on a port that does not hear it, does nothing here, and one under a reference message's identifier is undefined use (R171, R172, R175, R380, R431). -/
def Obligations.ConvoysJoinShareAndReport : Prop :=
  (∀ (t : Time) (p : Fin 32) (node : BitVec 8) (frame : List Byte) (s : State),
    let b := begin' t s
    let base := bits (u16 frame 8) 11 0
    let span := bits (u16 frame 10) 12 0
    let fits := rb s R.CONVOY_CFG 0 31 && rf s R.CONVOY_CFG 0 20 16 = p.val && proxiesFit s base span
    let heard := imwaldOn s p = true ∧ hears s p = true
    let down := isReference s p (0x300 + node.toNat)
    let up := isReference s p (0x400 + node.toNat)
    (heard → down = false → node.toNat = ownNode s p → crossDown s 12 = false →
      Completes (.admitFrame t p node frame) s (fun u =>
        let c := s.engine.convoy
        u.engine.convoy = (if fits then { c with
            joined := true, addr := base, span := span, depth := u8 frame 12, parentPort := p, parentNode := node.toNat
            shareAt := if c.joined then c.shareAt else u.now
            parentSilent := c.joined && c.parentSilent
            outbox := c.outbox ++ [(p.val, ownNode s p, [2, 0, 0, 0, 0, 0, 0, 0, 0])] }
          else { c with outbox := c.outbox ++ [(p.val, ownNode s p, [2, 0, 0, 0, 0, 0, 0, 0, 1])] }) ∧
        (∀ k, lane u k = lane s k) ∧ (∀ k, caravan u k = caravan s k) ∧
        (fits = false ∨ (busPort s p).tt ≠ 3 → KeptBut (.engine :: begun) s u) ∧
        (fits = true → (busPort s p).tt = 3 → (busPort u p).tt = 1 ∧ (busPort u p).formed = [] ∧ (busPort u p).listenAt = u.now ∧
          OthersKept busPort p s u))) ∧
    (heard → down = false → node.toNat ≠ ownNode s p → exec (.admitFrame t p node frame) s = .next b) ∧
    (heard → down = true → exec (.admitFrame t p node frame) s = .fault (.undefinedUse 431)) ∧
    (heard → up = false →
      (∀ k : Nat, proxyAt s p node.toNat = some k →
        (u8 frame 8 = 0 → Completes (.joined t p node frame) s (fun u =>
          caravan u k = { caravan s k with joined := true } ∧ OthersKept caravan k s u ∧ KeptBut (.engine :: begun) s u)) ∧
        (u8 frame 8 ≠ 0 → exec (.joined t p node frame) s = .next (notify 0x32 k p b))) ∧
      (proxyAt s p node.toNat = none → exec (.joined t p node frame) s = .next b)) ∧
    (heard → up = true → exec (.joined t p node frame) s = .fault (.undefinedUse 431)) ∧
    (¬ heard → exec (.admitFrame t p node frame) s = .next b ∧ exec (.joined t p node frame) s = .next b)) ∧
  (∀ (t : Time) (p : Fin 32) (node : BitVec 8) (frame : List Byte) (s : State),
    let b := begin' t s
    let heard := imwaldOn s p = true ∧ hears s p = true
    let down := isReference s p (0x300 + node.toNat)
    let up := isReference s p (0x400 + node.toNat)
    (heard → down = false →
      (fromParent s p node.toNat = true → Completes (.share t p node frame) s (fun u =>
        u.engine.convoy = { s.engine.convoy with shareDue := some (shareOfFrame frame), shareAt := u.now, parentSilent := false } ∧
        (∀ k, lane u k = lane s k) ∧ (∀ k, caravan u k = caravan s k) ∧ KeptBut (.engine :: begun) s u)) ∧
      (fromParent s p node.toNat = false → exec (.share t p node frame) s = .next b)) ∧
    (heard → up = false →
      (∀ k : Nat, proxyAt s p node.toNat = some k → Completes (.convoyReport t p node frame) s (fun u =>
        caravan u k = { caravan s k with
          report := { total := u32 frame 8, on := u32 frame 12, faulted := u32 frame 16, faults := u16 frame 20, silent := bitOf (u8 frame 22) 0 }
          reportAt := u.now, silent := false } ∧
        OthersKept caravan k s u ∧ u.engine.convoy = s.engine.convoy ∧ KeptBut (.engine :: begun) s u)) ∧
      (proxyAt s p node.toNat = none → exec (.convoyReport t p node frame) s = .next b)) ∧
    (heard → down = true → exec (.share t p node frame) s = .fault (.undefinedUse 431)) ∧
    (heard → up = true → exec (.convoyReport t p node frame) s = .fault (.undefinedUse 431)) ∧
    (¬ heard → exec (.share t p node frame) s = .next b ∧ exec (.convoyReport t p node frame) s = .next b))

/-- PROXY_SILENT after the proxy's timeout, at least 5 ms, marks the proxy silent; PARENT_SILENT after the parent's timeout, at least 5 ms, marks the parent silent; each raises notification 0x11 with the caravan (0xFFFF for the parent) and the port, and before its time does nothing (R175). A waybill from the parent is carried out here and answered DONE, or waits while it cannot be applied; DONE and FORWARD_TIMEOUT end a forwarded part, whose slot is free again, and join its status and result; with the last part the waybill is complete; RECORD keeps a piece of a status record. A frame that is not this device's, or that the port does not hear, and a time-out before its time, do nothing; a frame under a reference message's identifier is undefined use (R162, R167, R173, R380, R423, R425, R431). -/
def Obligations.ConvoySilenceAndForwarding : Prop :=
  (∀ (t : Time) (s : State),
    let b := begin' t s
    (∀ k : Fin 2048,
      let c := caravan s k
      let due := c.configured = true ∧ c.proxy = true ∧ c.silent = false ∧ c.reportAt + max 5 c.timeout * msUnits ≤ b.now
      (due → exec (.proxySilent t k) s = .next (notify 0x11 k c.port (setCaravan k { c with silent := true } b)) ∧
        Completes (.proxySilent t k) s (fun u =>
          caravan u k = { c with silent := true } ∧ OthersKept caravan k s u ∧ u.engine.convoy = s.engine.convoy ∧
          KeptBut (.engine :: delivering) s u)) ∧
      (¬ due → exec (.proxySilent t k) s = .next b)) ∧
    (let c := s.engine.convoy
     let due := c.joined = true ∧ c.parentSilent = false ∧ c.shareAt + max 5 (rf s R.CONVOY_CFG 0 15 0) * msUnits ≤ b.now
     (due → exec (.parentSilent t) s = .next (notify 0x11 0xFFFF c.parentPort
       { b with engine := { b.engine with convoy := { c with parentSilent := true } } })) ∧
     (¬ due → exec (.parentSilent t) s = .next b))) ∧
  (∀ (t : Time) (p : Fin 32) (node : BitVec 8) (frame : List Byte) (s : State),
    let b := begin' t s
    let c := s.engine.convoy
    let tag := u8 frame 1 % 64
    let heard := imwaldOn s p = true ∧ hears s p = true
    let down := isReference s p (0x300 + node.toNat)
    let up := isReference s p (0x400 + node.toNat)
    (∀ op : Nat,
      let bytes := leBytes 2 op ++ leBytes 6 0 ++ (frame.drop 8).take 56
      let i := Instr.waybill t p node op frame
      let held : State := modConvoy (fun c => { c with waiting := c.waiting ++ [(tag, op, bytes)] }) b
      let z := drainForwarded 128 (false, held)
      (¬ heard → exec i s = .next b) ∧
      (heard → down = true → exec i s = .fault (.undefinedUse 431)) ∧
      (heard → down = false →
        (fromParent s p node.toNat = false → exec i s = .next b) ∧
        (fromParent s p node.toNat = true → z.1 = false → exec i s = .next z.2) ∧
        (fromParent s p node.toNat = true → c.waiting = [] → canApply op bytes b = false → exec i s = .next held) ∧
        (fromParent s p node.toNat = true → c.waiting = [] → z.1 = false → canApply op bytes b = true →
          exec i s = .next (applyForwarded tag op bytes (modConvoy (fun c => { c with waiting := [] }) b)) ∧
          (∀ k, op = 0x14 → targetOf bytes = { kind := 0, convoy := c.addr, index := k } → (lane s k).configured = true →
            crossDown s 12 = false →
            Completes i s (fun u =>
              lane u k = { lane s k with ownEnable := !bitOf (u8 bytes 12) 0 } ∧ OthersKept lane k s u ∧
              u.engine.convoy = { c with outbox := c.outbox ++
                [(c.parentPort, ownNode s c.parentPort, [6] ++ leBytes 1 tag ++ [0, 0, 0, 0, 0, 0])] } ∧
              KeptBut (.engine :: begun) s u))))) ∧
    (heard → up = false →
      (∀ (k : Nat) (y : Part), proxyAt s p node.toNat = some k → partOf s k tag = some y → c.waiting = [] →
        exec (.done t p node frame) s = .next (partDone y (u16 frame 2) (u32 frame 4) b) ∧
        Completes (.done t p node frame) s (fun u =>
          partOf u k tag = none ∧
          (c.forwarded.all (fun f => !(f.ring = y.ring && f.index = y.index)) = true →
            u.engine.convoy.forwarded = c.forwarded ∧ KeptBut (.engine :: begun) s u) ∧
          (∀ f : Forwarded, c.forwarded = [f] → f.ring = y.ring → f.index = y.index →
            (c.parts.any (fun x => x.ring = y.ring && x.index = y.index && !(x.proxy = y.proxy && x.tag = y.tag)) = true →
              u.engine.convoy.forwarded = [{ f with status := joinStatus f.status (u16 frame 2), result := f.result + u32 frame 4 }] ∧
              KeptBut (.engine :: begun) s u) ∧
            (c.parts.any (fun x => x.ring = y.ring && x.index = y.index && !(x.proxy = y.proxy && x.tag = y.tag)) = false →
              u.engine.convoy.forwarded = [])))) ∧
      ((∀ k : Nat, proxyAt s p node.toNat = some k → partOf s k tag = none) → exec (.done t p node frame) s = .next b) ∧
      (∀ (k : Nat) (y : Part), proxyAt s p node.toNat = some k → partOf s k tag = some y →
        Completes (.record t p node frame) s (fun u =>
          partOf u k tag = some { y with
            record := patchBytes (fitBytes 128 y.record) (32 * (u16 frame 2 % 4)) (fitBytes 32 (frame.drop 8)) } ∧
          u.engine.convoy.forwarded = c.forwarded ∧ (∀ k, lane u k = lane s k) ∧ KeptBut (.engine :: begun) s u)) ∧
      (proxyAt s p node.toNat = none → exec (.record t p node frame) s = .next b)) ∧
    (heard → up = true → exec (.done t p node frame) s = .fault (.undefinedUse 431) ∧
      exec (.record t p node frame) s = .fault (.undefinedUse 431)) ∧
    (¬ heard → exec (.done t p node frame) s = .next b ∧ exec (.record t p node frame) s = .next b) ∧
    (∀ (k : Fin 2048) (tag : Fin 64),
      (∀ y : Part, partOf s k tag = some y → y.sentAt + 250 * msUnits ≤ b.now → c.waiting = [] →
        exec (.forwardTimeout t k tag) s = .next (partDone y 0x0105 0 b) ∧
        Completes (.forwardTimeout t k tag) s (fun u =>
          partOf u k tag = none ∧
          (∀ f, c.forwarded.find? (fun f => f.ring = y.ring && f.index = y.index) = some f →
            ∀ g ∈ u.engine.convoy.forwarded, g.ring = f.ring → g.index = f.index → g.status ≠ 0))) ∧
      (∀ y : Part, partOf s k tag = some y → b.now < y.sentAt + 250 * msUnits → exec (.forwardTimeout t k tag) s = .next b) ∧
      (partOf s k tag = none → exec (.forwardTimeout t k tag) s = .next b)))

/-- SUPPLY of a key without a slot takes a free slot, and of a key in a slot uses that slot: the load begins and the descriptor runs on; a key out of range or an image off a 64-byte line answers 0x0003; no slot to be had answers 0x0100; while a load of the key has not shown, the descriptor waits (R231, R234, R235; log entry 49 for the wait). REFUSE marks a slot without content refused, and answers 0x0102 where the tile is resident; FLUSH of a clean tile is done at once, of a dirty one copies it out into a buffer held, and answers 0x0101 without a slot; EVICT frees a clean slot, and a dirty one to be discarded, and answers 0x0101 without a slot; a key out of range answers 0x0003 (R234, R236, R237). BUFFER is held until an image is copied into it, and answers 0x0003 off a 64-byte line; TILE_LOAD_COMPLETE finishes a load, whose content shows from the next sweep, and completes its descriptor, unless a reset of the ring's side has taken that; TILE_WRITEBACK_COMPLETE writes the image and the fields of its buffer, completes the buffer, and leaves the slot clean, or dirty with the marks made meanwhile, or to the key that waits for it. Without a load or a copy in progress neither does anything (R67, R230, R231, R235, R238). -/
def Obligations.TilesAreSuppliedAndReturned : Prop :=
  (∀ (t : Time) (x : Desc) (i : Nat) (s : State),
    let b := begin' t s
    let tx := i32 x.bytes 8
    let ty := i32 x.bytes 12
    let fill := descFlag x 1
    Ready s 85 1 x → ringBusy s 85 = false → tilesMisuse (tileCmd 1 supplyDesc b) = false →
    (loadPending s tx ty = true → exec (.supply t) s = .next b) ∧
    (loadPending s tx ty = false → keyOk x = true → (fill = true ∨ u64 x.bytes 16 % 64 = 0) →
      (slotOf s tx ty = some i ∨ (slotOf s tx ty = none ∧ keyOnItsWay s tx ty = false ∧ freeSlot s = some i)) →
      (tileSlot s i).st ≠ .writing →
      Begins (.supply t) s 85 x (fun u =>
        (slotOf s tx ty = none → (tileSlot u i).tx = tx ∧ (tileSlot u i).ty = ty ∧ (tileSlot u i).st = .requested) ∧
        (slotOf s tx ty = some i → (tileSlot s i).resident = true →
          (tileSlot u i).st = (tileSlot s i).st ∧ (tileSlot u i).cells = (tileSlot s i).cells ∧ (tileSlot u i).fill = (tileSlot s i).fill) ∧
        (tileSlot u i).load = some {
          fill := if fill then u8 x.bytes 25 % 4 else 0
          cells := if fill then [] else cellsOf 0 (dmaRead s (ring s 85).onChip (u64 x.bytes 16) 16384)
          replace := descFlag x 0 || fill
          index := some x.index
          prior := (tileSlot s i).prior } ∧
        OthersKept tileSlot i s u ∧ KeptBut (.engine :: begun) s u)) ∧
    (loadPending s tx ty = false → (keyOk x = false ∨ (fill = false ∧ u64 x.bytes 16 % 64 ≠ 0)) →
      Answers (.supply t) s 85 x 3 0 (fun u => KeptBut begun s u)) ∧
    (keyOk x = true → (fill = true ∨ u64 x.bytes 16 % 64 = 0) → slotOf s tx ty = none → keyOnItsWay s tx ty = false →
      allocSlot tx ty 0 b = none → Answers (.supply t) s 85 x 0x0100 0 (fun u => KeptBut begun s u))) ∧
  (∀ (t : Time) (x : Desc) (i : Nat) (s : State),
    let y := tileSlot s i
    let at' := slotOf s (i32 x.bytes 8) (i32 x.bytes 12)
    ringBusy s 85 = false → loadPending s (i32 x.bytes 8) (i32 x.bytes 12) = false →
    (keyOk x = false →
      (Ready s 85 2 x → Answers (.refuse t) s 85 x 3 0 (fun u => KeptBut begun s u)) ∧
      (Ready s 85 3 x → Answers (.flush t) s 85 x 3 0 (fun u => KeptBut begun s u)) ∧
      (Ready s 85 4 x → descFlag x 2 = false → s.engine.coverage.evicting = none →
        Answers (.evict t) s 85 x 3 0 (fun u => KeptBut begun s u))) ∧
    (keyOk x = true →
      (Ready s 85 2 x → at' = some i → y.resident = true →
        Answers (.refuse t) s 85 x 0x0102 0 (fun u => KeptBut begun s u)) ∧
      (Ready s 85 2 x → at' = some i → y.resident = false →
        Answers (.refuse t) s 85 x 0 0 (fun u =>
          (tileSlot u i).st = .refused ∧ (tileSlot u i).tx = y.tx ∧ (tileSlot u i).ty = y.ty ∧ (tileSlot u i).owesRequest = none ∧
          OthersKept tileSlot i s u ∧ KeptBut (.engine :: begun) s u)) ∧
      (Ready s 85 2 x → at' = none → keyOnItsWay s (i32 x.bytes 8) (i32 x.bytes 12) = false → freeSlot s = some i →
        Answers (.refuse t) s 85 x 0 0 (fun u =>
          (tileSlot u i).st = .refused ∧ (tileSlot u i).tx = i32 x.bytes 8 ∧ (tileSlot u i).ty = i32 x.bytes 12 ∧
          OthersKept tileSlot i s u ∧ KeptBut (.engine :: begun) s u)) ∧
      (Ready s 85 3 x → at' = none → Answers (.flush t) s 85 x 0x0101 0 (fun u => KeptBut begun s u)) ∧
      (Ready s 85 3 x → at' = some i → y.st = .clean → Answers (.flush t) s 85 x 0 0 (fun u => KeptBut begun s u)) ∧
      (∀ (b : W32) (a : Nat) (rest : List (W32 × Nat)), s.engine.coverage.buffers = (b, a) :: rest →
        Ready s 85 3 x → at' = some i → y.st = .dirty →
        Begins (.flush t) s 85 x (fun u =>
          tileSlot u i = { y with st := .writing, remarked := 0,
                                  write := some { buffer := b, addr := a, reason := 2, forDesc := some x.index, nextKey := none } } ∧
          u.engine.coverage.buffers = rest ∧ OthersKept tileSlot i s u ∧ KeptBut (.engine :: begun) s u)) ∧
      (Ready s 85 4 x → descFlag x 2 = false → at' = none → s.engine.coverage.evicting = none →
        Answers (.evict t) s 85 x 0x0101 0 (fun u => KeptBut begun s u)) ∧
      (Ready s 85 4 x → at' = some i → descFlag x 2 = false → y.load = none → (y.st = .clean ∨ y.st = .dirty ∧ descFlag x 3 = true) →
        Completes (.evict t) s (fun u =>
          tileSlot u i = {} ∧ u.engine.coverage.evicting = none ∧ OthersKept tileSlot i s u ∧ KeptBut (.engine :: delivering) s u)))) ∧
  (∀ (t : Time) (s : State),
    let b := begin' t s
    (∀ x : Desc, Ready s 86 1 x → s.engine.coverage.evicting = none →
      tilesMisuse (runDesc 86 1 bufferDesc b) = false →
      (u64 x.bytes 8 % 64 = 0 → Begins (.buffer t) s 86 x (fun u =>
        u.engine.coverage.buffers = s.engine.coverage.buffers ++ [(x.index, u64 x.bytes 8)] ∧ (∀ i, tileSlot u i = tileSlot s i) ∧
        KeptBut (.engine :: begun) s u)) ∧
      (u64 x.bytes 8 % 64 ≠ 0 → Answers (.buffer t) s 86 x 3 0 (fun u => KeptBut begun s u))) ∧
    (∀ i : Fin 256,
      let y := tileSlot s i
      (∀ ld : TileLoad, y.load = some ld →
        (ld.done = false → exec (.tileLoadComplete t i) s =
            .next ((match ld.index with
              | some d => completeAt 85 d 0 0
              | none => id) (setTileSlot i { y with load := some { ld with done := true } } b)) ∧
          Completes (.tileLoadComplete t i) s (fun u =>
            tileSlot u i = { y with load := some { ld with done := true } } ∧ OthersKept tileSlot i s u ∧
            KeptBut (.engine :: delivering) s u)) ∧
        (ld.done = true → exec (.tileLoadComplete t i) s = .next b)) ∧
      (y.load = none → exec (.tileLoadComplete t i) s = .next b) ∧
      (y.write = none → exec (.tileWritebackComplete t i) s = .next b) ∧
      (∀ w : TileWrite, y.write = some w →
        let r := ring s 86
        let z := completeAt 86 w.buffer 0 0 (dmaWrite r.onChip (r.entryAddr w.buffer + 16)
          (leBytes 4 (wrapU 32 y.tx) ++ leBytes 4 (wrapU 32 y.ty) ++ leBytes 4 (y.marked - y.remarked) ++ leBytes 1 w.reason)
          (dmaWrite r.onChip w.addr (imageBytes y.fill 16384 0 y.cells) b))
        (reachable s r = false → exec (.tileWritebackComplete t i) s = .next b) ∧
        (reachable s r = true → exec (.tileWritebackComplete t i) s = .next (evictRun (match w.forDesc with
          | some d => completeAt 85 d 0 0 (afterWrite i w z)
          | none => afterWrite i w z))) ∧
        (reachable s r = true → w.nextKey = none → s.engine.coverage.evicting = none →
          Completes (.tileWritebackComplete t i) s (fun u =>
            (tileSlot u i).write = none ∧ (tileSlot u i).st = (if y.remarked = 0 then .clean else .dirty) ∧
            (tileSlot u i).marked = y.remarked ∧ (tileSlot u i).cells = y.cells ∧
            OthersKept tileSlot i s u ∧ KeptBut (.engine :: delivering) s u)))))

/-- ETH_RX_FRAME: a frame of a wrong size or check sum is only counted, one of a foreign address ignored, one that finds the far side of its crossing in reset lost and counted; any other is counted and delivered unless it is a target message. A target message is rejected whole, counted, delivered with its rejected flag and notified with 0x1A and the MAC, where its magic or version is another, its count is 0 or above 64, its length does not fit the count, no enabled camera entry has its identifier, or a record has a near edge beyond its far edge; any other is counted, its records are queued in their order under the lowest such entry, and the frame is delivered where a copy is asked for (R246, R247, R252 to R256, R449). A record of an accepted target message: below the confidence limit of its camera it is counted and not queued; with 4,096 targets waiting it is dropped and counted, and the first drop after a record was queued is notified with 0x18; otherwise it is queued last and ends the drop episode (R256). TARGET_PLACE takes the oldest target, and loses and counts it while its crossing's far side is in reset. Its time is the exposure through the map plus 200 units for each microsecond of dt; without a valid map its outcome is 7, before the history 5, beyond it 6, and nothing is placed. Otherwise its centre is placed in the field from the pose at its time, and each candidate lane in ascending order either does not meet it, or has passed it, or has no room, which counts and is notified with 0x12, or takes a SPOT_ON and a SPOT_OFF at the positions of R259. The outcome is 0 placed, 1 partly refused, 2 refused, 3 no lane, 4 passed; it is counted, an episode of outcomes 5 to 7 is notified once with 0x19, and a report is written as ETH_TGT_CFG.report asks (R194, R251, R257 to R262; log entry 72 for a target that one lane refused and the others had passed). -/
def Obligations.FramesArriveAndTargetsArePlaced : Prop :=
  (∀ (t : Time) (m : Fin 2) (at' : Time) (fcs : Bool) (frame : List Byte) (s : State),
    let b := begin' t s
    let i := Instr.ethRxFrame t m at' fcs frame
    let counted := bump (T.eth m 0) b
    let sized := 60 ≤ frame.length ∧ frame.length ≤ 2044
    let udp := ipAt frame + 20
    let p := frame.drop (udp + 8)
    let count := u8 p 3
    let camera := u16 p 4
    let known := u16 p 0 = 0x5947 ∧ u8 p 2 = 1
    let entry := (List.range 64).find? (fun k => rb s R.ETH_CAM_ID k 31 && decide (rf s R.ETH_CAM_ID k 15 0 = camera))
    let recs := (List.range count).map (fun i => p.drop (16 + 16 * i))
    let inOrder := recs.all (fun r => decide (i16 r 0 ≤ i16 r 2) && decide (i16 r 4 ≤ i16 r 6)) = true
    let fits := net16 frame (udp + 4) = 24 + 16 * count ∧ 16 + 16 * count ≤ p.length
    let good := known ∧ 1 ≤ count ∧ count ≤ 64 ∧ fits ∧ entry ≠ none ∧ inOrder
    let queued := recs.foldl (fun z r => queueTarget (targetRec m (entry.getD 0) camera (u16 p 6) (u64 p 8) r) (u8 r 14) z)
      (bump (T.eth m 3) counted)
    (ethRuns s m = false → exec i s = .next b) ∧
    (ethRuns s m = true → (fcs = false ∨ ¬ sized) → exec i s = .next (bump (T.eth m 1) b)) ∧
    (ethRuns s m = true → fcs = true → sized →
      (addressOk s m frame = false → exec i s = .next b) ∧
      (addressOk s m frame = true → crossDown s 15 = true → Completes i s (fun u =>
        u.eth = s.eth ∧ tally u (T.xingLost 15) = tally s (T.xingLost 15) + 1 ∧ KeptBut (.clocks :: delivering) s u)) ∧
      (addressOk s m frame = true → crossDown s 15 = false → isTarget s m frame = false →
        exec i s = .next (deliverFrame m at' false false frame counted) ∧
        Completes i s (fun u => tally u (T.eth m 0) = tally s (T.eth m 0) + 1 ∧ KeptBut delivering s u)) ∧
      (addressOk s m frame = true → crossDown s 15 = false → isTarget s m frame = true →
        (¬ good → exec i s = .next (notify 0x1A m (if known then camera else 0xFFFF)
            (deliverFrame m at' false true frame (bump (T.eth m 4) counted))) ∧
          Completes i s (fun u => tally u (T.eth m 4) = tally s (T.eth m 4) + 1 ∧ tally u (T.eth m 3) = tally s (T.eth m 3) ∧
            KeptBut delivering s u)) ∧
        (good → exec i s = .next (if rb s R.ETH_TGT_CFG m 30 then deliverFrame m at' true false frame queued else queued) ∧
          Completes i s (fun u => tally u (T.eth m 3) = tally s (T.eth m 3) + 1 ∧ tally u (T.eth m 4) = tally s (T.eth m 4) ∧
            (∀ k : Nat, entry = some k → s.eth.queue.length + count ≤ 4096 →
              recs.all (fun r => decide (rf s R.ETH_CAM_ID k 23 16 ≤ u8 r 14)) = true →
              u.eth.queue = s.eth.queue ++ recs.map (targetRec m k camera (u16 p 6) (u64 p 8))) ∧
            KeptBut (.eth :: delivering) s u))))) ∧
  (∀ (r : TargetRec) (conf : Nat) (s : State),
    let u := queueTarget r conf s
    let low := conf < rf s R.ETH_CAM_ID r.entry 23 16
    let room := s.eth.queue.length < 4096
    let first := (ethMac s 0).dropped = 0 ∧ (ethMac s 1).dropped = 0
    (low → u = bump (T.eth r.mac 8) s) ∧
    (¬ low → room → u.eth.queue = s.eth.queue ++ [r] ∧ (ethMac u 0).dropped = 0 ∧ (ethMac u 1).dropped = 0 ∧ KeptBut [.eth] s u) ∧
    (¬ low → ¬ room →
      let z := bump (T.eth r.mac 9) (setEthMac r.mac { ethMac s r.mac with dropped := (ethMac s r.mac).dropped + 1 } s)
      (first → u = notify 0x18 r.mac 1 z) ∧ (¬ first → u = z) ∧ u.eth.queue = s.eth.queue)) ∧
  (∀ (t : Time) (s : State),
    let b := begin' t s
    (s.eth.queue = [] → exec (.targetPlace t) s = .next b) ∧
    (∀ (r : TargetRec) (rest : List TargetRec), s.eth.queue = r :: rest →
      let z : State := { b with eth := { b.eth with queue := rest } }
      let i := Instr.targetPlace t
      (crossDown s 15 = true → Completes i s (fun u =>
        u.eth.queue = rest ∧ u.engine = s.engine ∧ tally u (T.xingLost 15) = tally s (T.xingLost 15) + 1 ∧
        KeptBut (.eth :: .clocks :: delivering) s u)) ∧
      (crossDown s 15 = false →
        (mapTime b r.mac r.exposure = none → exec i s = .next (targetDone r 0 7 {} 0 0 z)) ∧
        (∀ te : Int, mapTime b r.mac r.exposure = some te →
          let time := te + 200 * r.dt
          ((time < 0 ∨ lookupAt b time.toNat = .expired) → exec i s = .next (targetDone r (wrapU 64 time) 5 {} 0 0 z)) ∧
          (0 ≤ time → lookupAt b time.toNat = .future → exec i s = .next (targetDone r (wrapU 64 time) 6 {} 0 0 z)) ∧
          (∀ (d x y h φ : Int), 0 ≤ time → lookupAt b time.toNat = .found d x y h φ →
            let f := targetField b r x y h φ
            let w := (candidates b r.entry).foldl (fun (acc : Spotted × State) k => spotLane r f.1 f.2 k acc.1 acc.2) ({}, z)
            exec i s = .next (targetDone r (wrapU 64 time) (outcomeOf w.1) w.1 (roundDiv f.1 (2 ^ 16)) (roundDiv f.2 (2 ^ 16)) w.2))) ∧
        Completes i s (fun u => u.eth.queue = rest ∧ u.course = s.course ∧ u.drive = s.drive ∧ u.lease = s.lease ∧
          KeptBut (.eth :: .engine :: delivering) s u ∧
          (mapTime b r.mac r.exposure = none → u.engine = s.engine)))) ∧
    (∀ (r : TargetRec) (fx fy x y h φ : Int) (k : Nat) (w : Spotted),
      let l := lane s k
      -- the field point of the target's centre
      let pos := rd s R.ETH_CAM_POS r.entry
      let cx := signed 16 (fld pos 31 16) * 2 ^ 16 + (r.alongMin + r.alongMax) * 2 ^ 15
      let cy := signed 16 (fld pos 15 0) * 2 ^ 16 + (r.latMin + r.latMax) * 2 ^ 15
      let turned (ox oy ang p q : Int) : Int × Int :=
        (ox + roundDiv (p * cosQ ang 32 - q * sinQ ang 32) (2 ^ 30), oy + roundDiv (p * sinQ ang 32 + q * cosQ ang 32) (2 ^ 30))
      let hp := turned (x * 2 ^ 16) (y * 2 ^ 16) h (s.course.set.hitchX * 2 ^ 16) 0
      -- the field point in the frame of the lane's body, and the test and positions of R259
      let c := s.course.pose
      let p := if l.implement then (bodyFrame s l fx fy).1
        else roundDiv ((fx - c.x) * cosQ c.heading 48 + (fy - c.y) * sinQ c.heading 48) (2 ^ 30)
      let q := if l.implement then (bodyFrame s l fx fy).2
        else roundDiv ((fy - c.y) * cosQ c.heading 48 - (fx - c.x) * sinQ c.heading 48) (2 ^ 30)
      let g := rd s R.ETH_CAM_MARGIN r.entry
      let d := p - l.foreAft * 2 ^ 16
      let yaw := if l.implement then s.course.yawT else s.course.yaw
      let bend : Int := if 6400 * 2 ^ 8 ≤ l.v.natAbs then
        roundDiv (yaw * twoPi * d * d * (if 0 < l.v then 1 else -1)) (l.v.natAbs * 2 ^ 64) else 0
      let path := l.y * 2 ^ 16 + bend
      let half : Int := l.halfWidth * 2 ^ 16
      let hl := (r.latMax - r.latMin) * 2 ^ 15
      let ha := (r.alongMax - r.alongMin) * 2 ^ 15
      let side : Int := fld g 7 0 * 2 ^ 16
      let meets := path - half < q + hl + side ∧ q - hl - side < path + half
      let on := wrapS 48 (courseFor s l + roundDiv (d - ha - fld g 23 16 * 2 ^ 16) (2 ^ 10))
      let off := wrapS 48 (courseFor s l + roundDiv (d + ha + fld g 15 8 * 2 ^ 16) (2 ^ 10))
      let v := spotLane r fx fy k w s
      let w1 : Spotted := { w with first := some (w.first.getD k), selected := w.selected + 1 }
      let full := laneCap s < l.entries + 2 ∨ s.engine.poolFree < 2
      (targetField s r x y h φ = if rb s R.ETH_CAM_ID r.entry 30 then turned hp.1 hp.2 (h + φ) cx cy
        else turned (x * 2 ^ 16) (y * 2 ^ 16) h cx cy) ∧
      (¬ meets → v = (w, s)) ∧
      (meets → ahead off (courseFor s l) = false → v = ({ w1 with passed := w.passed + 1 }, s)) ∧
      (meets → ahead off (courseFor s l) = true → full → v = ({ w1 with refused := w.refused + 1 },
        notify 0x12 k s.engine.poolFree (bump T.spotRefused (bump (T.eth r.mac 10) s)))) ∧
      (meets → ahead off (courseFor s l) = true → ¬ full → v.1 = w1 ∧
        (lane v.2 k).queue.any (fun m => m.kind = 4 && decide (m.pos = on)) = true ∧
        (lane v.2 k).queue.any (fun m => m.kind = 5 && decide (m.pos = off)) = true ∧
        (lane v.2 k).queue.length = l.queue.length + 2 ∧ v.2.engine.poolFree + 2 = s.engine.poolFree ∧
        OthersKept lane k s v.2 ∧ KeptBut [.engine, .trace] s v.2) ∧
      outcomeOf w = (if w.selected = 0 then 3 else if w.passed = w.selected then 4 else if w.refused = w.selected then 2
        else if 0 < w.refused then 1 else 0)) ∧
    (∀ (r : TargetRec) (time : Nat) (o : Fin 8) (w : Spotted) (x y : Int),
      let u := targetDone r time o w x y s
      let m := r.mac
      let e := ethMac s m
      let mode := rf s R.ETH_TGT_CFG m 29 28
      let counter := if o.val ≤ 1 then 5 else if o.val ≤ 4 then 6 else 7
      let z := setEthMac m { e with timeEpisode := if o.val ≤ 1 then false else e.timeEpisode || decide (5 ≤ o.val) }
        (bump (T.eth m counter) s)
      let told := traceEvent 8 0 ([BitVec.ofNat 8 m, BitVec.ofNat 8 o.val] ++ leBytes 2 (w.first.getD 0xFFFF)
        ++ leBytes 2 w.selected ++ leBytes 2 r.id) (if 5 ≤ o.val ∧ e.timeEpisode = false then notify 0x19 m o.val z else z)
      let report := leBytes 8 time ++ leBytes 2 r.camera ++ leBytes 2 r.sequence ++ leBytes 2 r.id ++ leBytes 1 o.val ++ leBytes 1 r.cls
        ++ leBytes 2 (w.first.getD 0xFFFF) ++ leBytes 2 w.selected ++ leBytes 2 w.refused ++ leBytes 2 0
        ++ leBytes 4 (wrapU 32 (satS 32 x)) ++ leBytes 4 (wrapU 32 (satS 32 y))
      ((mode = 2 ∨ (mode ≠ 0 ∧ o.val ≠ 0)) → u = deliver (ethRxRing m) 2 report told) ∧
      (¬ (mode = 2 ∨ (mode ≠ 0 ∧ o.val ≠ 0)) → u = told) ∧
      tally u (T.eth m counter) = tally s (T.eth m counter) + 1))

/-- SEND of 14 to 2,044 bytes goes to the MAC and runs until sent, another length answers 0x0100; at ETH_TRANSMIT_COMPLETE the frame leaves, padded to 60 bytes, is counted, its time is written where asked, and the descriptor completes; TIME_MAP makes the MAC's map valid, and a ratio of 0 answers 0x0003; while the network domain is in reset both answer 0x0007; behind a frame in transmission, or with the MAC not running, SEND waits (R248, R250, R449). ETH_ENABLE in the operational state takes the configuration, and from 0 makes the map invalid; before it the write counts as a bad access of cause 4; MDIO_START starts a frame unless one runs, MDIO_DONE ends it and a read brings its data (R251, R265, R516). -/
def Obligations.EthernetSendsMapsTimeAndTakesWrites : Prop :=
  (∀ (t : Time) (m : Fin 2) (x : Desc) (s : State),
    let b := begin' t s
    let n := ethTxRing m
    let r := ring s n
    let down := crossDown s 14
    let bytes := dmaRead s r.onChip (u64 x.bytes 8) (u16 x.bytes 16)
    ((txBusy s n = true ∨ (ethRuns s m = false ∧ down = false)) → exec (.ethSend t m) s = .next b) ∧
    (txBusy s n = true → exec (.timeMap t m) s = .next b) ∧
    (txBusy s n = false → ethRuns s m = true → down = false → Ready s n 1 x →
      (14 ≤ u16 x.bytes 16 → u16 x.bytes 16 ≤ 2044 → exec (.ethSend t m) s = .next (markRunning n x.index b)) ∧
      (u16 x.bytes 16 < 14 ∨ 2044 < u16 x.bytes 16 → exec (.ethSend t m) s = .next (complete n x 0x0100 0 b))) ∧
    (txBusy s n = false → down = true →
      (Ready s n 1 x → exec (.ethSend t m) s = .next (complete n x 7 0 (cross 14 id b))) ∧
      (Ready s n 2 x → exec (.timeMap t m) s = .next (complete n x 7 0 (cross 14 id b)))) ∧
    (r.fetched.find? (fun y => y.phase = .running) = some x → ∀ at' : Time,
      let z := emit (.ethFrame m (bytes ++ List.replicate (60 - bytes.length) 0)) (bump (T.eth m 2) b)
      exec (.ethTransmitComplete t m at') s = .next (complete n x 0 0
        (if bitOf (u8 x.bytes 18) 0 then dmaWrite r.onChip (r.entryAddr x.index + 24) (leBytes 8 at') z else z))) ∧
    (r.fetched.find? (fun y => y.phase = .running) = none → ∀ at' : Time, exec (.ethTransmitComplete t m at') s = .next b) ∧
    (txBusy s n = false → down = false → Ready s n 2 x →
      (u32 x.bytes 24 ≠ 0 → Answers (.timeMap t m) s n x 0 0 (fun u =>
        ethMac u m = { ethMac s m with valid := true, gAnchor := u64 x.bytes 8, tAnchor := u64 x.bytes 16, ratio := u32 x.bytes 24 } ∧
        OthersKept ethMac m s u ∧ KeptBut (.eth :: begun) s u)) ∧
      (u32 x.bytes 24 = 0 → Answers (.timeMap t m) s n x 3 0 (fun u => KeptBut begun s u)))) ∧
  (∀ (t : Time) (a : Actor) (v : W32) (s : State),
    let b := begin' t s
    (∀ m : Fin 2,
      (flag v 31 = false → exec (.ethEnable t a m v) s = .next b) ∧
      (flag v 31 = true → gateWrite s a (regOff R.ETH_CFG m 0) 4 = .allow →
        (operational s = true → crossDown s 14 = false →
          Completes (.ethEnable t a m v) s (fun u =>
            rd u R.ETH_CFG m = regMerge R.ETH_CFG 0 v ∧
            (rb s R.ETH_CFG m 31 = false → ethMac u m = { ethMac s m with valid := false }) ∧
            (rb s R.ETH_CFG m 31 = true → u.eth = s.eth) ∧ OthersKept ethMac m s u ∧ KeptBut (.regs :: .eth :: begun) s u)) ∧
        (operational s = false →
          exec (.ethEnable t a m v) s = .next (badAccess a true 4 false (regOff R.ETH_CFG m 0) b)))) ∧
    (gateWrite s a R.ETH_MDIO.base 4 = .allow → crossDown s 14 = false →
      (s.eth.mdioBusy = false → Completes (.mdioStart t a v) s (fun u =>
        rd u R.ETH_MDIO 0 = regMerge R.ETH_MDIO 0 v ∧ u.eth = { s.eth with mdioBusy := flag v 31 } ∧ KeptBut (.regs :: .eth :: begun) s u)) ∧
      (s.eth.mdioBusy = true → exec (.mdioStart t a v) s = .next b)) ∧
    (∀ data : W16,
      (s.eth.mdioBusy = true → Completes (.mdioDone t data) s (fun u =>
        u.eth = { s.eth with mdioBusy := false } ∧
        (rb s R.ETH_MDIO 0 30 = false → rf u R.ETH_MDIO 0 15 0 = data.toNat ∧ rf u R.ETH_MDIO 0 31 16 = rf s R.ETH_MDIO 0 31 16) ∧
        (rb s R.ETH_MDIO 0 30 = true → u.regs = s.regs) ∧ KeptBut (.regs :: .eth :: begun) s u)) ∧
      (s.eth.mdioBusy = false → exec (.mdioDone t data) s = .next b)))

/-- PWM_RELOAD: once the PWM clock of its instant is over, a channel takes period, compare, limit, timing and phase from its shadows as they stood when the PWM clock began, advances the dither index, keeps the compare at or below the limit's share of the period, executes what is armed for it, and leaves its safe level when it is enabled and nothing holds it; before that nothing moves. A change of a channel's status is a pulse on crossing 11, one that joins another counts as merged, and no other tally moves. Without dither and minimum pulse the compare is the shadow's integer part, limited. PWM_ENABLE of a stopped channel writes PWM_CFG and reloads at tick 0 with the dither index at 0; of a running one it does nothing. PWM_DISABLE of a running one clears enable alone and goes to the safe level; of a stopped one it writes the fields (R331, R333, R335, R336, R346, R348, R446, R516). -/
def Obligations.PwmChannelsReloadStartAndStop : Prop :=
  ∀ (t : Time) (n : Fin 48) (s : State),
    let b := begin' t s
    let c := pwmCh s n
    let w := (nextReload s n).1
    let half := (nextReload s n).2
    let lim := min (fld (rd s R.PWM_LIMIT n) 31 16) 0x8000
    let reload (b : State) : State :=
      let z := pwmReload n w ((c.dither + 1) % 16) (fun c => if half then c.per else 0) b
      if half then z else tickZero n w z
    let unarmed := ∀ m : Fin 48, (pwmCh s m).armed = []
    let calm (l : List Piece) (u : State) : Prop :=
      KeptBut (l ++ .pwm :: .eventLines :: .tallies :: begun) s u ∧ ∀ k : Nat, k ≠ T.xingMerge 11 → tally u k = tally s k
    let due := c.started = true ∧ s.pwm.clockBad = false ∧ pwmOdd s n = false ∧ w + 5 ≤ 12 * b.now
    (due → exec (.pwmReload t n) s = .next (withStatus (fun _ => false) reload b) ∧
      Completes (.pwmReload t n) s (fun u => let x := pwmCh u n
        x.at' = w ∧ x.per = max 2 (fld (shadowAt w (rd s R.PWM_PER n) c.perWas) 23 0) ∧ x.dither = (c.dither + 1) % 16 ∧
        x.limit = rd s R.PWM_LIMIT n ∧ x.timing = rd s R.PWM_TIMING n ∧ x.phase = rd s R.PWM_PHASE n ∧
        x.c ≤ lim * x.per / 0x8000 ∧
        (rb s R.PWM_CFG n 22 = false → fld (rd s R.PWM_LIMIT n) 9 0 = 0 →
          x.c = min (fld (shadowAt w (rd s R.PWM_CMP n) c.cmpWas) 27 4) (lim * x.per / 0x8000)) ∧
        x.armed = [] ∧
        (rb s R.PWM_CFG n 31 = true → c.tripHold = false → c.clockHold = false → c.haltHold = false → x.safe = false) ∧
        KeptBut handing s u ∧ (unarmed → calm [] u))) ∧
    (¬ due → exec (.pwmReload t n) s = .next b) ∧
    (∀ (a : Actor) (v : W32), gateWrite s a (regOff R.PWM_CFG n 0) 4 = .allow → crossDown s 10 = false →
      let on := rb s R.PWM_CFG n 31
      (flag v 31 = true → operational s = true → on = false →
        Completes (.pwmEnable t a n v) s (fun u => let x := pwmCh u n
          rd u R.PWM_CFG n = regMerge R.PWM_CFG 0 v ∧
          (pwmOdd u n = false → s.pwm.clockBad = false →
            x.started = true ∧ x.at' = 12 * u.now ∧ x.tick = 0 ∧ x.dither = 0 ∧
            (c.tripHold = false → c.clockHold = false → c.haltHold = false → x.safe = false)) ∧
          (pwmOdd u n = false → s.pwm.clockBad = true →
            x.started = true ∧ x.at' = 12 * u.now ∧ x.tick = 0 ∧ x.dither = 0 ∧ x.safe = c.safe) ∧
          (pwmOdd u n = true → c.tripHold = false → c.clockHold = false → c.haltHold = false → x = { c with safe := false }) ∧
          (pwmOdd u n = true → (c.tripHold || c.clockHold || c.haltHold) = true → x = c) ∧
          OthersKept (fun s m => rd s R.PWM_CFG m) n s u ∧ KeptBut (.regs :: handing) s u ∧ (unarmed → calm [.regs] u))) ∧
      (flag v 31 = true → operational s = true → on = true → exec (.pwmEnable t a n v) s = .next b) ∧
      (flag v 31 = true → operational s = false →
        exec (.pwmEnable t a n v) s = .next (badAccess a true 4 false (regOff R.PWM_CFG n 0) b)) ∧
      (flag v 31 = false → exec (.pwmEnable t a n v) s = .next b) ∧
      (flag v 31 = false → on = true →
        Completes (.pwmDisable t a n v) s (fun u =>
          rd u R.PWM_CFG n = setFlag (rd s R.PWM_CFG n) 31 false ∧ pwmCh u n = { c with safe := true, cause := 31 } ∧
          OthersKept pwmCh n s u ∧ calm [.regs] u)) ∧
      (flag v 31 = false → on = false →
        exec (.pwmDisable t a n v) s = .next (wr R.PWM_CFG n (regMerge R.PWM_CFG 0 v) b) ∧
        Completes (.pwmDisable t a n v) s (fun u =>
          rd u R.PWM_CFG n = regMerge R.PWM_CFG 0 v ∧ OthersKept (fun s m => rd s R.PWM_CFG m) n s u ∧ KeptBut (.regs :: begun) s u)) ∧
      (flag v 31 = true → exec (.pwmDisable t a n v) s = .next b))

/-- PWM_CMP_PER_WRITE and PWM_SHADOW_WRITE move shadows only, and keep what each held for a reload of the same PWM clock; a write of the compare of a channel bound to a lane is ignored and counted with cause 6, the period part of an 8-byte write still lands (R336, R337, R342). A lane's on, off and rate events leave the dispatcher's heap at their instant and write the compare for their duty: an off cuts the output at once and its lane is off, an on reloads at tick 0 and its lane is on, or is armed for the next reload where sync_en is 1, and a rate event changes the lane's duty. With no lane at the channel any longer, an on moves nothing more, a rate event writes the compare shadow alone, and an off still cuts the output. An event that waited for a toll of the dispatcher past its time is counted late. Without an event of the kind that is due nothing moves (R30, R341). The level of a PWM ball: a channel at its safe level shows the level that PWM_CFG.safe names, as it is stated; any other shows its signal, and with polarity 1 the inverse of it; the signal of a running single channel without dead time is active in its ticks below the compare, for edge alignment (R331, R339, R340, R346). -/
def Obligations.CompareWritesAndLaneEventsAct : Prop :=
  (∀ (t : Time) (n : Fin 48) (a : Actor) (v : W64) (s : State), crossDown s 10 = false →
    let b := begin' t s
    let lo := v.setWidth 32
    let hi := (v >>> 32).setWidth 32
    let bad : State := badAccess a true 6 false (regOff R.PWM_CMP n 0) b
    (gateWrite s a (regOff R.PWM_CMP n 0) 8 = .allow →
      (laneOfPwm s n = none → Completes (.pwmCmpPerWrite t a n v) s (fun u =>
        rd u R.PWM_CMP n = regMerge R.PWM_CMP 0 lo ∧ rd u R.PWM_PER n = regMerge R.PWM_PER 0 hi ∧
        pwmCh u n = { pwmCh s n with cmpWas := (12 * u.now, rd s R.PWM_CMP n) :: (pwmCh s n).cmpWas
                                     perWas := (12 * u.now, rd s R.PWM_PER n) :: (pwmCh s n).perWas } ∧
        OthersKept pwmCh n s u ∧ KeptBut (.regs :: .pwm :: begun) s u)) ∧
      (laneOfPwm s n ≠ none → Completes (.pwmCmpPerWrite t a n v) s (fun u =>
        rd u R.PWM_CMP n = rd s R.PWM_CMP n ∧ rd u R.PWM_PER n = regMerge R.PWM_PER 0 hi ∧
        pwmCh u n = { pwmCh s n with perWas := (12 * u.now, rd s R.PWM_PER n) :: (pwmCh s n).perWas } ∧
        tally u T.badAccess = tally s T.badAccess + 1 ∧
        (flag s.security.badAcc 31 = false → fld u.security.badAcc 26 24 = 6 ∧ fld u.security.badAcc 19 0 = regOff R.PWM_CMP n 0) ∧
        OthersKept pwmCh n s u ∧ KeptBut (.regs :: .pwm :: .security :: .tallies :: begun) s u))) ∧
    (gateWrite s a (regOff R.PWM_PER n 0) 4 = .allow → Completes (.pwmShadowWrite t a n true lo) s (fun u =>
      rd u R.PWM_PER n = regMerge R.PWM_PER 0 lo ∧ rd u R.PWM_CMP n = rd s R.PWM_CMP n ∧
      pwmCh u n = { pwmCh s n with perWas := (12 * u.now, rd s R.PWM_PER n) :: (pwmCh s n).perWas } ∧
      OthersKept pwmCh n s u ∧ KeptBut (.regs :: .pwm :: begun) s u)) ∧
    (gateWrite s a (regOff R.PWM_CMP n 0) 4 = .allow →
      (laneOfPwm s n = none → Completes (.pwmShadowWrite t a n false lo) s (fun u =>
        rd u R.PWM_CMP n = regMerge R.PWM_CMP 0 lo ∧ rd u R.PWM_PER n = rd s R.PWM_PER n ∧
        pwmCh u n = { pwmCh s n with cmpWas := (12 * u.now, rd s R.PWM_CMP n) :: (pwmCh s n).cmpWas } ∧
        OthersKept pwmCh n s u ∧ KeptBut (.regs :: .pwm :: begun) s u)) ∧
      (laneOfPwm s n ≠ none → exec (.pwmShadowWrite t a n false lo) s = .next bad))) ∧
  (∀ (t : Time) (n : Fin 48) (s : State), crossDown s 10 = false →
    let b := begin' t s
    (∀ (y : DispItem) (e : LaneEv), b.engine.heap.find? (fun x => (x.pwmEvent n).isSome) = some y → y.pwmEvent n = some e →
      e.tExec ≤ b.now →
      let z := heapTake e.id (if y.lateAt b.now then missed y.lane y.binding e b else b)
      let c := pwmCh s n
      let gone (u : State) : Prop := ∀ x ∈ u.engine.heap, x.pwmEvent n ≠ some e
      (laneOfPwm z n = none → e.kind = 1 → exec (.pwmLaneOn t n) s = .next z) ∧
      (laneOfPwm z n = none → e.kind = 3 → exec (.pwmRateWrite t n) s = .next (pwmLaneCmp n e.d z)) ∧
      (laneOfPwm z n = none → e.kind = 2 → exec (.pwmLaneOff t n) s = .next (pwmCut n (pwmArmed n z))) ∧
      (∀ k : Nat, laneOfPwm z n = some k →
        let known := c.armed = [] ∧ ((lane z k).events.find? (fun y => y.id = e.id && !y.executed)).any (fun y => y.kind = e.kind && y.d = e.d) = true
        let on := executesAt k e.id 1 e.d false (pwmForceCmp n (pwmCompare z n e.d) z)
        (e.kind = 1 → rb s R.PWM_CFG n 23 = true → Completes (.pwmLaneOn t n) s (fun u =>
          rd u R.PWM_CMP n = regMerge R.PWM_CMP 0 (pwmCompare s n e.d) ∧ (pwmCh u n).armed = c.armed ++ [e] ∧
          (lane u k).on = (lane z k).on ∧ gone u ∧ KeptBut [.regs, .engine, .pwm] z u)) ∧
        (e.kind = 1 → rb s R.PWM_CFG n 23 = false →
          ((s.pwm.clockBad || !c.started || pwmOdd s n) = true → exec (.pwmLaneOn t n) s = .next on) ∧
          ((s.pwm.clockBad || !c.started || pwmOdd s n) = false →
            let reload (on : State) : State :=
              let x := pwmReload n (12 * b.now) (nextDither c (12 * b.now)) (fun _ => 0) on
              if c.justReloaded (12 * b.now) && decide (c.tick = 0) then x else tickZero n (12 * b.now) x
            exec (.pwmLaneOn t n) s = .next (withStatus (fun _ => false) reload on) ∧
            Completes (.pwmLaneOn t n) s (fun u => (pwmCh u n).at' = 12 * u.now ∧ (pwmCh u n).tick = 0)) ∧
          (known → Completes (.pwmLaneOn t n) s (fun u =>
            rd u R.PWM_CMP n = pwmCompare s n e.d ∧ (lane u k).on = true ∧ KeptBut (.regs :: handing) z u))) ∧
        (e.kind = 2 →
          exec (.pwmLaneOff t n) s = .next (executesAt k e.id 2 0 false (pwmCut n (pwmArmed n z))) ∧
          (known → Completes (.pwmLaneOff t n) s (fun u =>
            rd u R.PWM_CMP n = 0 ∧ (pwmCh u n).c = 0 ∧ (pwmCh u n).armed = [] ∧ gone u ∧ (lane u k).on = false ∧
            KeptBut [.regs, .engine, .pwm, .out, .trace] z u))) ∧
        (e.kind = 3 →
          exec (.pwmRateWrite t n) s = .next (executesAt k e.id 3 e.d false (pwmLaneCmp n e.d z)) ∧
          (known → Completes (.pwmRateWrite t n) s (fun u =>
            rd u R.PWM_CMP n = regMerge R.PWM_CMP 0 (pwmCompare s n e.d) ∧ gone u ∧ (lane u k).dSent = e.d ∧
            (lane u k).on = (lane z k).on ∧ (pwmCh u n).c = c.c ∧ OthersKept pwmCh n s u ∧
            KeptBut [.regs, .engine, .pwm, .out, .trace] z u))))) ∧
    (pwmTake b n 1 = none → exec (.pwmLaneOn t n) s = .next b) ∧
    (pwmTake b n 2 = none → exec (.pwmLaneOff t n) s = .next b) ∧
    (pwmTake b n 3 = none → exec (.pwmRateWrite t n) s = .next b)) ∧
  (∀ (n : Fin 48) (s : State),
    let c := pwmCh s n
    (c.safe = true → pwmBall s n =
      (if rf s R.PWM_CFG n 26 25 = 0 then .low else if rf s R.PWM_CFG n 26 25 = 1 then .high else .highZ)) ∧
    (c.safe = false → pwmBall s n = if pwmActive s n = rb s R.PWM_CFG n 27 then .low else .high) ∧
    (∀ k : Nat, c.safe = false → pwmOdd s n = false → fld c.timing 9 0 = 0 → c.centre = false → 0 < c.tickLen → 0 < c.per →
      c.tick = 0 → c.c ≤ c.per → k < c.per → 12 * s.now = c.at' + k * c.tickLen →
      pwmBall s n = if (decide (k < c.c) != rb s R.PWM_CFG n 27) = true then .high else .low))

/-- PWM_SYNC and PWM_MOD_SYNC_GO: a synced channel (sync_en 1, running, not the odd one of a pair) of a module that the edge or the write reaches reloads with its counter at PWM_PHASE modulo the cycle; the edge arrives three PWM clocks later, or four; a channel with sync_en 0 keeps its counter; no other unit moves but the lanes whose armed on events execute at the reload (R341, R343, R344). PWM_TRIP: the balls take their levels and each newly asserted input counts and is timed from its own edge; an unblanked channel that masks in one that has been asserted for its filter trips to its safe level, and a channel that masks none in stays as it is unless its partner trips. PWM_CLOCK_FAULT: a count of clock edges off 480 by more than 1 sends all 48 channels to their safe levels, sets bit 1 of the clock faults, raises notifications 0x25 and 0x34 and a SAFETY record; a count in order ends the fault and restarts each counter, with the sync outputs of the reference channels; neither does anything twice. Status pulses of one PWM clock that join others on crossing 11 count as merged. PWM_STAT_CLEAR clears the bits written as 1, the trip bit only while no masked input is asserted, the halt bit only once the owner's core runs (R343, R345, R346, R350, R436, R446). -/
def Obligations.SyncsTripsAndClockFaultsAct : Prop :=
  (∀ (t : Time) (n : Fin 48) (s : State),
    let b := begin' t s
    let m : Fin 6 := ⟨n / 8, by omega⟩
    let src := rf s R.PWM_MOD_CFG m 31 30
    let syncs := rb s R.PWM_CFG n 23 = true ∧ pwmOdd s n = false ∧ (pwmCh s n).started = true ∧ s.pwm.clockBad = false
    let frame (u : State) : Prop := KeptBut handing s u ∧ ((∀ m : Fin 48, (pwmCh s m).armed = []) →
      KeptBut (.pwm :: .eventLines :: .tallies :: begun) s u ∧ ∀ k : Nat, k ≠ T.xingMerge 11 → tally u k = tally s k)
    let lands (w : Nat) (u : State) : Prop := let x := pwmCh u n
      x.at' = w ∧ x.dither = 0 ∧ x.phase = rd s R.PWM_PHASE n ∧ x.tick = x.phase.toNat % x.len ∧ frame u
    let stays (u : State) : Prop :=
      (pwmCh u n).at' = (pwmCh s n).at' ∧ (pwmCh u n).tick = (pwmCh s n).tick ∧ (pwmCh u n).c = (pwmCh s n).c ∧ frame u
    (∀ late : Bool,
      Completes (.pwmSync t late) s frame ∧
      ((src = 1 ∨ m = 0 ∧ src = 0) → syncs → Completes (.pwmSync t late) s (lands (12 * b.now + 15 + 5 * b2n late))) ∧
      (rb s R.PWM_CFG n 23 = false → Completes (.pwmSync t late) s stays)) ∧
    (∀ (a : Actor) (v : W32), gateWrite s a (regOff R.PWM_MOD_SYNC m 0) 4 = .allow → crossDown s 10 = false →
      (flag v 0 = true → exec (.pwmModSyncGo t a m v) s = .next (withStatus (fun _ => false) (syncModule 6 m (12 * b.now)) b)) ∧
      (flag v 0 = true → syncs → Completes (.pwmModSyncGo t a m v) s (lands (12 * b.now))) ∧
      (flag v 0 = true → rb s R.PWM_CFG n 23 = false → Completes (.pwmModSyncGo t a m v) s stays) ∧
      (flag v 0 = false → exec (.pwmModSyncGo t a m v) s = .next b))) ∧
  (∀ (t : Time) (s : State),
    let b := begin' t s
    (∀ (pins : BitVec 12) (held merged : Nat),
      let p : State := { b with pwm := { s.pwm with pins := pins.toNat } }
      let risen (i : Nat) : Bool := bitOf (tripAsserted p) i && !bitOf (tripAsserted s) i
      let q := (List.range 12).foldl (fun s i => if risen i then
        bump (T.tripIn i) { s with pwm := { s.pwm with tripSince := tabSet 0 s.pwm.tripSince i (12 * b.now - 5 * held) } } else s) p
      let since (i : Nat) : Nat := if risen i then 12 * b.now - 5 * held else tabGet 0 s.pwm.tripSince i
      let trips (n : Fin 48) : Prop := (List.range 12).any (fun i => bitOf (tripMasked p n) i &&
        (unblanked p n).any (fun x => decide (rf s R.PWM_TRIP n 7 0 + 1 ≤ min ((12 * b.now - since i) / 5) x))) = true
      Completes (.pwmTrip t pins held merged) s (fun u => u.pwm.pins = pins.toNat ∧
        (∀ i : Fin 12, tally u (T.tripIn i) = tally s (T.tripIn i) + BitVec.ofNat 32 (b2n (risen i)) ∧
          tabGet 0 u.pwm.tripSince i.val = since i) ∧
        (∀ n : Fin 48, trips n → (pwmCh u n).trip = true ∧ (pwmCh u n).tripHold = true ∧ (pwmCh u n).safe = true) ∧
        (∀ n : Fin 48, tripMasked p n = 0 → (∀ m : Fin 48, pwmPartner s n = some m.val → tripMasked p m = 0) → pwmCh u n = pwmCh s n) ∧
        KeptBut (.pwm :: reporting) s u) ∧
      (∀ n : Fin 48, trips n → (∀ m : Fin 48, m ≠ n → tripMasked p m = 0) →
        exec (.pwmTrip t pins held merged) s = .next (bumpBy (T.xingMerge 11) merged
          (withStatus (fun m => decide (m = n.val)) (pwmTripCh n) q))) ∧
      ((∀ m : Fin 48, tripMasked p m = 0) → exec (.pwmTrip t pins held merged) s = .next (bumpBy (T.xingMerge 11) merged q))) ∧
    (∀ edges : Nat,
      let off := edgesOff edges 480 1
      let x := withStatus (fun _ => false) (fun s => (List.range 48).foldl (fun s n =>
          enterSafe n 29 (modPwmCh n (fun c => { c with clock := true, clockHold := true }) s)) s)
        { b with pwm := { s.pwm with clockBad := true } }
      let faults := if bitOf s.clocks.faults 1 then s.clocks.faults else s.clocks.faults + 2
      let outOf := min (rf s R.PWM_GLOBAL 0 2 0) 5
      (s.pwm.clockBad = false → off = true →
        exec (.pwmClockFault t edges) s = .next (ledgerReport streamSafety 0x0934 1 faults (notify 0x34 1 faults
          (notify 0x25 0 48 { x with clocks := { x.clocks with faults := faults } }))) ∧
        Completes (.pwmClockFault t edges) s (fun u =>
          u.pwm.clockBad = true ∧ bitOf u.clocks.faults 1 = true ∧
          (∀ n : Fin 48, (pwmCh u n).safe = true ∧ (pwmCh u n).clock = true ∧ (pwmCh u n).clockHold = true) ∧
          ((∀ n : Fin 48, (pwmCh s n).safe = false) → tabGet {} s.eventLines 64 = {} →
            tally u (T.xingMerge 11) = tally s (T.xingMerge 11) + 47) ∧
          KeptBut (.pwm :: .clocks :: reporting) s u)) ∧
      (s.pwm.clockBad = true → off = false →
        exec (.pwmClockFault t edges) s = .next (withStatus (fun _ => false) pwmRestart { b with pwm := { s.pwm with clockBad := false } }) ∧
        Completes (.pwmClockFault t edges) s (fun u =>
          u.pwm.clockBad = false ∧
          ((∀ m : Fin 6, 0 < m.val → rf s R.PWM_MOD_CFG m 31 30 ≠ 0) →
            ∀ n : Fin 48, (pwmCh s n).started = true → (pwmCh u n).at' = 12 * u.now ∧ (pwmCh u n).tick = 0) ∧
          (rb s R.PWM_GLOBAL 0 31 = true → (pwmCh s (refCh s outOf)).started = true → Out.syncOut ∈ u.out) ∧
          (∀ n : Fin 48, (pwmCh s n).started = false → pwmPartner s n = none → (pwmCh u n).at' = (pwmCh s n).at' ∧ (pwmCh u n).safe = (pwmCh s n).safe) ∧
          KeptBut handing s u ∧ ((∀ m : Fin 48, (pwmCh s m).armed = []) → KeptBut (.pwm :: .eventLines :: .tallies :: begun) s u))) ∧
      (s.pwm.clockBad = off → exec (.pwmClockFault t edges) s = .next b)) ∧
    (∀ (a : Actor) (n : Fin 48) (v : W32), gateWrite s a (regOff R.PWM_STAT n 0) 4 = .allow → crossDown s 10 = false →
      let own := pwmOwner s n
      let restarted := own = 0 || (tabGet {} s.cores (own - 1)).run = 1
      Completes (.pwmStatClear t a n v) s (fun u =>
        pwmCh u n = { pwmCh s n with
          trip := (pwmCh s n).trip && !(flag v 30 && tripMasked s n = 0)
          clock := (pwmCh s n).clock && !flag v 29
          halt := (pwmCh s n).halt && !(flag v 28 && restarted)
          clipped := (pwmCh s n).clipped && !flag v 27
          filtered := (pwmCh s n).filtered && !flag v 26
          flagsWas := ((pwmCh s n).flagsWas.1 && !flag v 27, (pwmCh s n).flagsWas.2 && !flag v 26) } ∧
        OthersKept pwmCh n s u ∧ KeptBut (.pwm :: begun) s u)))

/-- The loop-parameter ring: CONFIG of a disabled loop reads its 128-byte image and PROGRAM its terms of 12 bytes, from buffers aligned to 64 bytes; RESET_STATE sets s2 and s3 and clears the other states; POST writes posted values; READ writes the 128-byte record. A CONFIG of an enabled loop completes with 0x0100, a misaligned buffer with 3, an image out of order with the status of its fault (R354, R355, R357, R359). -/
def Obligations.LoopParametersAreTaken : Prop :=
  ∀ (t : Time) (x : Desc) (s : State),
    let n := u8 x.bytes 8
    let c := loop s n
    let at' := u64 x.bytes 16
    let first := u8 x.bytes 10
    let count := u8 x.bytes 11
    let img := dmaRead s (ring s 88).onChip at' 128
    let own (f : LoopCh) (u : State) : Prop := loop u n = f ∧ OthersKept loop n s u ∧ KeptBut (.loops :: begun) s u
    (Ready s 88 1 x →
      (c.enabled = true → Answers (.config t) s 88 x 0x0100 0 (fun u => KeptBut begun s u)) ∧
      (c.enabled = false → at' % 64 ≠ 0 → Answers (.config t) s 88 x 3 0 (fun u => KeptBut begun s u)) ∧
      (c.enabled = false → at' % 64 = 0 → imageStatus s { c with image := img } ≠ 0 →
        Answers (.config t) s 88 x (imageStatus s { c with image := img }) 0 (fun u => KeptBut begun s u)) ∧
      (c.enabled = false → at' % 64 = 0 → imageStatus s { c with image := img } = 0 →
        Answers (.config t) s 88 x 0 0 (own { c with image := img }))) ∧
    (Ready s 88 2 x →
      ((count = 0 ∨ 64 < first + count ∨ at' % 64 ≠ 0) → Answers (.program t) s 88 x 3 0 (fun u => KeptBut begun s u)) ∧
      (0 < count → first + count ≤ 64 → at' % 64 = 0 →
        Answers (.program t) s 88 x 0 0 (fun u =>
          (∀ i : Fin 64, tabGet {} (loop u n).terms i = if first ≤ i ∧ i < first + count
            then termOf ((dmaRead s (ring s 88).onChip at' (12 * count)).drop (12 * (i - first))) else tabGet {} c.terms i) ∧
          loop u n = { c with terms := (loop u n).terms } ∧ OthersKept loop n s u ∧ KeptBut (.loops :: begun) s u))) ∧
    (Ready s 88 5 x → Answers (.resetState t) s 88 x 0 0 (fun u =>
      (∀ i : Fin 16, tabGet 0 (loop u n).st i = if i = 2 ∨ i = 3 then i32 x.bytes 12 else 0) ∧
      loop u n = { c with st := (loop u n).st } ∧ OthersKept loop n s u ∧ KeptBut (.loops :: begun) s u)) ∧
    (Ready s 88 6 x →
      ((count = 0 ∨ 8 < count ∨ 256 < first + count) → Answers (.post t) s 88 x 3 0 (fun u => KeptBut begun s u)) ∧
      (0 < count → count ≤ 8 → first + count ≤ 256 → Answers (.post t) s 88 x 0 0 (fun u =>
        (∀ i : Fin 256, tabGet 0 u.loops.post i =
          if first ≤ i ∧ i < first + count then i32 x.bytes (24 + 4 * (i - first)) else tabGet 0 s.loops.post i) ∧
        u.loops = { s.loops with post := u.loops.post } ∧ KeptBut (.loops :: begun) s u))) ∧
    (Ready s 88 7 x →
      (at' % 64 ≠ 0 → Answers (.read t) s 88 x 3 0 (fun u => KeptBut begun s u)) ∧
      (at' % 64 = 0 → Answers (.read t) s 88 x 0 0 (fun u =>
        u = dmaWrite (ring s 88).onChip at' (loopState c) (begin' t s) ∧ (loopState c).length = 128)))

/-- ENABLE starts a configured loop whose resources ring 88's owner holds and whose target no enabled loop has; of an enabled one it completes and changes nothing; without an image, or with a lane or caravan it names not configured, it completes with 0x0101, with a resource not granted to the owner of ring 88 4 (feedback channels, analogue inputs and latches are those of ring 87's owner; log entry 62), with a taken target 0x0102. DISABLE stops a loop and, where its image says so, writes the idle output. IDLE_TIMEOUT writes the idle output once no sample has run for the idle time, and raises notification 0x2A; before that it does nothing (R354, R356, R359, R363). -/
def Obligations.LoopsStartStopAndIdle : Prop :=
  ∀ (t : Time) (s : State),
    let b := begin' t s
    (∀ x : Desc, let n := u8 x.bytes 8
      let c := loop s n
      let taken := (enabledLoops s).any (fun m => sameTarget c.out (loop s m).out)
      let kept (u : State) : Prop := KeptBut begun s u
      let stopped : LoopCh := { c with enabled := false, primed := none, due := [], waiting := none }
      (Ready s 88 3 x →
        (c.enabled = true → Answers (.enable t) s 88 x 0 0 kept) ∧
        (c.enabled = false → (c.image = [] ∨ loopDangling s c = true) → Answers (.enable t) s 88 x 0x0101 0 kept) ∧
        (c.enabled = false → c.image ≠ [] → loopDangling s c = false →
          (loopGranted s c = false → Answers (.enable t) s 88 x 4 0 kept) ∧
          (loopGranted s c = true → taken = true → Answers (.enable t) s 88 x 0x0102 0 kept) ∧
          (loopGranted s c = true → taken = false → Answers (.enable t) s 88 x 0 0 (fun u =>
            loop u n = { c with enabled := true, enabledAt := u.now, primed := none, due := [], waiting := none, sinceRecord := 0 } ∧
            OthersKept loop n s u ∧ KeptBut (.loops :: begun) s u)))) ∧
      (Ready s 88 4 x →
        (c.enabled = false → Answers (.disable t) s 88 x 0 0 kept) ∧
        (c.enabled = true → c.flag 4 = false → Answers (.disable t) s 88 x 0 0 (fun u =>
          loop u n = stopped ∧ OthersKept loop n s u ∧ KeptBut (.loops :: begun) s u)) ∧
        (c.enabled = true → c.flag 4 = true → Answers (.disable t) s 88 x 0 0 (fun u =>
          u = loopWrite n c.uIdle (tabGet 0 c.st 15) (setLoop n stopped b) ∧
          loop u n = { stopped with y := c.uIdle } ∧ OthersKept loop n s u)))) ∧
    (∀ n : Fin 256, let c := loop s n
      let due := c.enabled = true ∧ c.idle = false ∧ c.idleMs ≠ 0 ∧ max (c.lastAt.getD 0) c.enabledAt + c.idleMs * msUnits ≤ b.now
      (due →
        exec (.idleTimeout t n) s = .next (notify 0x2A n c.idleMs (loopWrite n c.uIdle (tabGet 0 c.st 15) (setLoop n { c with idle := true } b))) ∧
        Completes (.idleTimeout t n) s (fun u =>
          loop u n = { c with idle := true, y := c.uIdle } ∧ OthersKept loop n s u ∧
          (∀ i, c.out = (1, i) → laneOfPwm s i = none → crossDown s 10 = false →
            fld (rd u R.PWM_CMP i) 27 0 = roundDivNat ((clampInt 0 0x8000 (roundShift c.uIdle c.outShift)).toNat * pwmPer s i * 16) 0x8000) ∧
          KeptBut (.regs :: .loops :: .relay :: .clocks :: .pwm :: delivering) s u)) ∧
      (¬ due → exec (.idleTimeout t n) s = .next b))

/-- LOOP_SAMPLE: a trigger within 50 us of the previous sample is skipped and counted; any other runs a sample, which counts, stamps its time and ends the idle state. A periodic loop triggers at multiples of its period, a course loop at its predicted crossings, a latch loop at the edge, and each is used up; without a trigger nothing moves; an enabled loop whose program has no end term is undefined use (R361, R362, R363, R364, R378). LOOP_BIST: a due self-test counts and moves every enabled loop to the fallback path; not due, or one in progress, does nothing. LOOP_BIST_REQ: any actor's write with bit 0 at 1 makes one due, and merges with one in progress. BIST_RESULT: a pass moves the loops back to the main path; a failure keeps them on the fallback path for good, with notification 0x29 and a SAFETY record; either ends the calibration state; without a test nothing moves (R371, R372, R373, R374, R520). -/
def Obligations.LoopsSampleSkipAndTestThemselves : Prop :=
  (∀ (t : Time) (n : Fin 256) (s : State), let c := loop s n
    let b := begin' t s
    let now := b.now
    let i := Instr.loopSample t n
    let periodic (p : Time) : Prop := p < now ∧ ((now : Int) - 200 * (u32 c.image 8)) % (200 * (c.period : Int)) = 0 ∧ c.lastAt ≠ some now
    let late := c.lastAt.any (fun l => decide (now < l + 50 * usUnits))
    (c.enabled = true → noEnd c = true → exec i s = .fault (.undefinedUse 378)) ∧
    (c.enabled = false → exec i s = .next b) ∧
    (c.enabled = true → noEnd c = false →
      (c.primed = none → exec i s = .next b) ∧
      (∀ p : Time, c.primed = some p →
        (c.trigger = 0 → periodic p → exec i s = .next (triggerLoop n none b)) ∧
        (c.trigger = 0 → ¬ periodic p → exec i s = .next b) ∧
        (∀ (w : Time) (m : Int) (rest : List (Time × Int)), c.trigger = 1 → c.due = (w, m) :: rest →
          exec i s = .next (if w ≤ now then triggerLoop n (some m) (setLoop n { c with due := rest } b) else b)) ∧
        (c.trigger = 1 → c.due = [] → exec i s = .next b) ∧
        (∀ e : Time, 2 ≤ c.trigger → latchDue s c p = some e →
          exec i s = .next (triggerLoop n none (setLoop n { c with latchSeen := some e } b))) ∧
        (2 ≤ c.trigger → latchDue s c p = none → exec i s = .next b) ∧
        ((c.trigger = 0 ∧ periodic p) ∨ (c.trigger = 1 ∧ (c.due.head?).any (fun d => decide (d.1 ≤ now)) = true) ∨
            (2 ≤ c.trigger ∧ (latchDue s c p).isSome = true) →
          (late = true → Completes i s (fun u => let y := loop u n
            y.skips = c.skips + 1 ∧ y.skipping = true ∧ y.samples = c.samples ∧ y.lastAt = c.lastAt ∧ y.y = c.y ∧ y.st = c.st ∧
            OthersKept loop n s u ∧ KeptBut (.loops :: delivering) s u)) ∧
          (late = false → Completes i s (fun u => let y := loop u n
            y.samples = c.samples + 1 ∧ y.lastAt = some u.now ∧ y.skips = c.skips ∧ y.skipping = false ∧ y.idle = false ∧
            OthersKept loop n s u ∧ KeptBut (.regs :: .loops :: .relay :: .clocks :: .pwm :: delivering) s u)))))) ∧
  (∀ (t : Time) (s : State),
    let b := begin' t s
    (s.loops.bistActive = false → bistDue b = true → Completes (.loopBist t) s (fun u =>
      u.loops.bistActive = true ∧ u.loops.bistReq = false ∧ u.loops.bistAt = u.now ∧ u.loops.fallback = true ∧
      tally u T.loopBistRuns = tally s T.loopBistRuns + 1 ∧
      u.startup = { s.startup with bistStarted := s.startup.bistStarted || s.startup.phase = 6 } ∧
      (∀ n : Fin 256, (loop u n).y = (loop s n).y ∧ (loop u n).enabled = (loop s n).enabled) ∧
      KeptBut (.loops :: .startup :: .tallies :: begun) s u)) ∧
    ((s.loops.bistActive = true ∨ bistDue b = false) → exec (.loopBist t) s = .next b) ∧
    (∀ (a : Actor) (v : W32), gateWrite s a R.LOOP_BIST_REQ.base 4 = .allow →
      exec (.loopBistReq t a v) s = .next { b with loops := { s.loops with bistReq := s.loops.bistReq || (flag v 0 && !s.loops.bistActive) } }) ∧
    (s.loops.bistActive = true →
      (∀ pass : Bool, s.startup.phase ≠ 6 → exec (.bistResult t pass) s = .next (bistEnds pass b)) ∧
      (∀ pass : Bool, s.startup.phase = 6 → exec (.bistResult t pass) s = .next (enterOperational (bistEnds pass b))) ∧
      (∀ pass : Bool, Completes (.bistResult t pass) s (fun u =>
        u.loops.bistActive = false ∧ (pass = true → u.loops.fallback = false ∧ u.loops.stay = 0 ∧ u.loops.bistFail = s.loops.bistFail) ∧
        (pass = false → u.loops.fallback = s.loops.fallback ∧ u.loops.stay = 3 ∧ u.loops.bistFail = true) ∧
        (s.startup.phase = 6 → u.startup.phase = 7) ∧ (s.startup.phase ≠ 6 → u.startup = s.startup) ∧
        KeptBut (.loops :: .startup :: reporting) s u))) ∧
    (∀ pass : Bool, s.loops.bistActive = false → exec (.bistResult t pass) s = .next b))

/-- CAN_PORT_ENABLE of a disabled port with a configuration in order writes CAN_PORT_CFG and starts integration, or stays bus-off; a configuration that R385 or R406 refuses sets cfg_err and leaves the port disabled; an enabled port takes nothing, and before the operational state the write counts. CAN_PORT_DISABLE finishes the attempt in progress, or stops the port at once, which then still hears a frame in progress (log entry 65); of a disabled port it writes the fields; a port enabled again during its last attempt begins afresh after it. CAN_INTEGRATION_COMPLETE makes an integrating port active, or passive. WAKE_UP, a low of 5 us at a disabled port that asks for it, is reported once, with notification 0x2B (R381, R385, R394, R516). -/
def Obligations.BusPortsStartStopAndWake : Prop :=
  ∀ (t : Time) (p : Fin 32) (s : State), let b := busPort s p
    let z := begin' t s
    (∀ (a : Actor) (v : W32), gateWrite s a (regOff R.CAN_PORT_CFG p 0) 4 = .allow → crossDown s 12 = false →
      let w := v &&& R.CAN_PORT_CFG.rw
      (flag v 31 = true → operational s = true → portEnabled s p = false →
        (cfgBad s p w = true → Completes (.canPortEnable t a p v) s (fun u =>
          busPort u p = { b with cfgErr := true } ∧ rd u R.CAN_PORT_CFG p = setFlag w 31 false ∧
          OthersKept busPort p s u ∧ KeptBut (.regs :: .bus :: begun) s u)) ∧
        (cfgBad s p w = false → exec (.canPortEnable t a p v) s = .next (portEnable p v z)) ∧
        (cfgBad s p w = false → b.stopping = true → Completes (.canPortEnable t a p v) s (fun u =>
          busPort u p = { b with cfgErr := false } ∧ rd u R.CAN_PORT_CFG p = w ∧
          OthersKept busPort p s u ∧ KeptBut (.regs :: .bus :: begun) s u)) ∧
        (cfgBad s p w = false → b.stopping = false → b.tec ≤ 127 → b.recErr ≤ 127 → b.passive = false → Completes (.canPortEnable t a p v) s (fun u => let x := busPort u p
          x = { b with cfgErr := false, st := if b.busOff then 4 else 1, master := 15
                       stoppedAt := none, rxCfg := x.rxCfg, rxPast := x.rxPast
                       tt := if ttOn s p = false then 0 else if b.busOff then 4 else 1
                       listenAt := u.now, enabledAt := u.now, misses := 0, candidate := false
                       first := true, good := 0, ratio := 2 ^ 30, stamp := none, ownRef := none } ∧
          rd u R.CAN_PORT_CFG p = w ∧ OthersKept busPort p s u ∧ KeptBut (.regs :: .bus :: delivering) s u))) ∧
      (flag v 31 = true → operational s = true → portEnabled s p = true → exec (.canPortEnable t a p v) s = .next z) ∧
      (flag v 31 = true → operational s = false →
        exec (.canPortEnable t a p v) s = .next (badAccess a true 4 false (regOff R.CAN_PORT_CFG p 0) z)) ∧
      (flag v 31 = false → exec (.canPortEnable t a p v) s = .next z) ∧
      (flag v 31 = true → exec (.canPortDisable t a p v) s = .next z) ∧
      (flag v 31 = false → portEnabled s p = true →
        (b.attempt ≠ none → Completes (.canPortDisable t a p v) s (fun u =>
          busPort u p = { b with stopping := true } ∧ rd u R.CAN_PORT_CFG p = setFlag (rd s R.CAN_PORT_CFG p) 31 false ∧
          OthersKept busPort p s u ∧ KeptBut (.regs :: .bus :: begun) s u)) ∧
        (b.attempt = none → Completes (.canPortDisable t a p v) s (fun u =>
          busPort u p = { b with st := 0, stopping := false, attempt := none, passive := false, woke := false, tt := 0, window := none
                                 stoppedAt := if hears s p then some u.now else none
                                 formed := [], candidate := false, running := false, convoyFormed := none, txEnd := none } ∧
          rd u R.CAN_PORT_CFG p = setFlag (rd s R.CAN_PORT_CFG p) 31 false ∧
          OthersKept busPort p s u ∧ KeptBut (.regs :: .bus :: begun) s u))) ∧
      (flag v 31 = false → portEnabled s p = false → Completes (.canPortDisable t a p v) s (fun u =>
        rd u R.CAN_PORT_CFG p = w ∧ KeptBut (.regs :: begun) s u))) ∧
    (b.st = 1 → exec (.canIntegrationComplete t p) s = .next (setBus p { b with st := if b.passive then 3 else 2 } z)) ∧
    (b.st ≠ 1 → exec (.canIntegrationComplete t p) s = .next z) ∧
    (∀ low : Nat,
      let wakes := b.st = 0 ∧ rb s R.CAN_PORT_CFG p 24 = true ∧ b.woke = false ∧ 5 * usUnits ≤ low
      (wakes → exec (.wakeUp t ⟨p, low⟩) s = .next (notify 0x2B p 0 (setBus p { b with woke := true } z))) ∧
      (¬ wakes → exec (.wakeUp t ⟨p, low⟩) s = .next z))

/-- RECOVER starts recovery of an enabled bus-off port and of no other; RECOVERY_COMPLETE of a recovering port makes it active with both counters at 0. CAN_RECEIVE_ERROR that the port takes at its sample point counts, and raises REC by 1, and by 8 as often as ISO 11898-1 says besides; a protocol exception is recorded where it is enabled, raises nothing, and the port integrates again. CAN_FRAME_RECEIVED counts and is recorded, lowers REC by 1, or from above 127 to a value of 119 to 127; overload frames after it are answered and counted; the error state follows the counters, and neither counts in restricted or monitoring mode. A port that is not on the bus, or loops back, hears nothing, but one that has stopped the frame in progress then (R379, R380, R383, R388, R389, R394, R395, R399, R401). Error confinement, whatever the attempt: CAN_ATTEMPT_ERROR that takes TEC above 255 makes the port bus-off and holds the frame; one that takes it above 127 makes the port error-passive (R395, R398). -/
def Obligations.BusErrorsAreCounted : Prop :=
  (∀ (t : Time) (p : Fin 32) (s : State), let b := busPort s p
    let z := begin' t s
    (∀ (a : Actor) (v : W32), gateWrite s a (regOff R.CAN_PORT_CTRL p 0) 4 = .allow → crossDown s 12 = false →
      Completes (.recover t a p v) s (fun u =>
        busPort u p = (if flag v 0 ∧ b.st = 4 ∧ portEnabled s p then { b with st := 5 } else b) ∧
        OthersKept busPort p s u ∧ KeptBut (.bus :: begun) s u)) ∧
    (b.st = 5 → Completes (.recoveryComplete t p) s (fun u => let x := busPort u p
      x.st = 2 ∧ x.tec = 0 ∧ x.recErr = 0 ∧ x.busOff = false ∧ x.passive = false ∧ (x.tt = if b.tt = 0 then 0 else 1) ∧
      x.queue = b.queue ∧ x.held = b.held ∧ OthersKept busPort p s u ∧ KeptBut (.bus :: delivering) s u)) ∧
    (b.st ≠ 5 → exec (.recoveryComplete t p) s = .next z) ∧
    (∀ (type : Fin 10) (dp : Bool) (pos : Nat) (h : HeardError),
      let i := Instr.canReceiveError t p type dp pos h
      let err := 1 ≤ type.val ∧ type.val ≤ 4 ∧ takenWrong s p dp h.wrong h.phase = true
      let exception := type = 9 ∧ rb s R.CAN_PORT_CFG p 25 = true
      (hearsFrame s p h.sof = false ∨ ¬ (err ∨ exception) → exec i s = .next z) ∧
      (hearsFrame s p h.sof = true → exception → b.st ≠ 0 → b.busOff = false → b.tec ≤ 255 → Completes i s (fun u => let x := busPort u p
        x.st = 1 ∧ x.recErr = b.recErr ∧ x.tec = b.tec ∧ x.attempt = b.attempt ∧ x.queue = b.queue ∧
        OthersKept busPort p s u ∧ KeptBut (.bus :: .freeDraws :: delivering) s u)) ∧
      (hearsFrame s p h.sof = true → err → b.busOff = false → b.tec ≤ 255 → Completes i s (fun u => let x := busPort u p
        x.recErr = (if counts s p then b.recErr + 1 + 8 * h.eights else b.recErr) ∧ x.tec = b.tec ∧ x.txEnd = none ∧
        (∀ r, errTally type = some r → tally u (T.can r p) = tally s (T.can r p) + 1) ∧
        (b.st ≠ 0 → x.passive = (decide (127 < b.tec) || decide (127 < x.recErr)) ∧
          (b.st = (if b.passive then 3 else 2) → x.st = if x.passive then 3 else 2)) ∧
        (b.st = 0 → x.st = 0 ∧ x.passive = b.passive ∧ x.stoppedAt = none) ∧
        (rf s R.CAN_PORT_CFG p 30 28 = 0 → (dp && h.xl && rb s R.CAN_XL_PWM p 0) = false → Out.errorFlag p b.passive ∈ u.out) ∧
        x.attempt = b.attempt ∧ x.queue = b.queue ∧ OthersKept busPort p s u ∧ KeptBut (.bus :: .freeDraws :: delivering) s u))) ∧
    (∀ (id ctrl : W32) (data : List Byte) (sof : Time) (o : Overload),
      let i := Instr.canFrameReceived t p id ctrl data sof o
      let f := BusFrame.heard { id := id, ctrl := ctrl, data := data }
      let known := f.fmt = 0 ∨ (f.fmt = 1 ∧ rb s R.CAN_PORT_CFG p 27 = true) ∨ (f.fmt = 2 ∧ rb s R.CAN_PORT_CFG p 26 = true)
      let on := hearsFrame s p sof = true ∧ known
      let heard := frameRecord p f false sof (busTrace 0 p (some f) (modBus p (fun b => { b with txEnd := none })
        (overloads p o (bump (T.can R.CAN_RX_OK p) (if rf s R.CAN_PORT_CFG p 30 28 = 2 then latchRx p sof z else emit (.busAck p) (latchRx p sof z))))))
      (¬ on → exec i s = .next z) ∧
      (on → counts s p = false → exec i s = .next (heardOver p heard)) ∧
      (on → counts s p = true → b.recErr ≤ 127 →
        exec i s = .next (heardOver p (modBus p (fun b => { b with recErr := b.recErr - 1 + 8 * o.eights }) heard))) ∧
      (on → b.busOff = false → b.tec ≤ 255 → Completes i s (fun u => let x := busPort u p
        (counts s p = false → x.recErr = b.recErr) ∧ (counts s p = true → b.recErr ≤ 127 → x.recErr = b.recErr - 1 + 8 * o.eights) ∧
        (counts s p = true → 127 < b.recErr → 119 + 8 * o.eights ≤ x.recErr ∧ x.recErr ≤ 127 + 8 * o.eights) ∧
        (counts s p = true → b.st ≠ 0 → x.passive = (decide (127 < b.tec) || decide (127 < x.recErr))) ∧
        (rf s R.CAN_PORT_CFG p 30 28 ≠ 2 → Out.busAck p ∈ u.out) ∧
        (tally u (T.can R.CAN_OVERLOAD p) = tally s (T.can R.CAN_OVERLOAD p) + BitVec.ofNat 32 o.frames) ∧
        (rf s R.CAN_PORT_CFG p 30 28 = 0 → 0 < o.frames → Out.overload p ∈ u.out) ∧
        x.txEnd = none ∧ x.tec = b.tec ∧ x.attempt = b.attempt ∧ x.queue = b.queue ∧
        OthersKept busPort p s u ∧ KeptBut (.bus :: .freeDraws :: delivering) s u)))) ∧
  (∀ (t : Time) (p : Fin 32) (type : Fin 6) (dp : Bool) (pos : Nat) (y : SentError) (a : BusAttempt) (s : State),
    let b := busPort s p
    let i := Instr.canAttemptError t p type dp pos y
    let tec := b.tec + 8 + 8 * y.eights
    b.attempt = some a → a.orphan = false → b.stopping = false → type ≠ 0 → b.busOff = false → b.st = 2 → b.passive = false →
    loopback s p = false → y.exempt = false → sentWrong s p a.frame dp y.wrong y.phase y.delay = true →
    (255 < tec → b.held = none → Completes i s (fun u => let x := busPort u p
      x.st = 4 ∧ x.busOff = true ∧ x.passive = false ∧ x.attempt = none ∧ x.tec = tec ∧ x.formed = [] ∧
      (a.slot = none → x.held = some a) ∧ (b.tt ≠ 0 → x.tt = 4) ∧ OthersKept busPort p s u ∧ KeptBut (.bus :: .engine :: .relay :: .pwm :: .clocks :: reporting) s u)) ∧
    (127 < tec → tec ≤ 255 → Completes i s (fun u => let x := busPort u p
      x.st = 3 ∧ x.passive = true ∧ x.busOff = false ∧ x.attempt = none ∧ x.tec = tec ∧ KeptBut handing s u)))

/-- CAN_SEND validates the oldest SEND descriptor: a frame that R387 does not allow completes with 0x0100, another takes a priority-queue entry and runs; a port that is off, may not transmit, or has no free entry takes none, and while the crossing to the bus unit has no far side the frame is discarded and counted. CAN_ATTEMPT_START of a port that may start puts the frame that wins on an idle bus where it fits its window; an Imwald frame under a reference identifier is undefined use (R386, R390, R391, R397, R412, R413, R431, R449). CAN_ATTEMPT_SUCCESS ends the attempt and lowers TEC, and a priority frame leaves its entry and completes; overload frames after it are answered, counted and delay the suspend time; a secondary sample point beyond 127 clocks makes it a bit error instead; lost, the frame stays, or leaves if it is single-shot, and a port in loopback loses nothing. CAN_ATTEMPT_ERROR that the port takes raises TEC by 8 but for the exceptions of ISO 11898-1, and by 8 as often as that standard says besides, and the frame stays queued to be sent again; without an attempt nothing moves (R379, R380, R383, R384, R386, R392, R393, R395, R397). -/
def Obligations.FramesAreSentAndRetried : Prop :=
  (∀ (t : Time) (p : Fin 32) (s : State), let b := busPort s p
    let z := begin' t s
    (∀ x : Desc, crossDown s 12 = true → Ready s (16 + p) 1 x → Completes (.canSend t p) s (fun u =>
      tally u (T.xingLost 12) = tally s (T.xingLost 12) + 1 ∧ busPort u p = b ∧
      ((ring s (16 + p)).cmpMode ≠ 2 → ∀ y ∈ (ring u (16 + p)).fetched, y.index = x.index → y.phase = .done) ∧
      KeptBut (.clocks :: delivering) s u)) ∧
    (∀ x : Desc, crossDown s 12 = false → b.st ≠ 0 → counts s p = true → b.queue.length < 64 → Ready s (16 + p) 1 x →
      (sendFrame s p x.bytes = none → Answers (.canSend t p) s (16 + p) x 0x0100 0 (fun u => KeptBut begun s u)) ∧
      (∀ f : BusFrame, sendFrame s p x.bytes = some f → Begins (.canSend t p) s (16 + p) x (fun u =>
        busPort u p = { b with queue := b.queue ++ [{ index := x.index, frame := f }] } ∧ OthersKept busPort p s u ∧
        KeptBut (.bus :: begun) s u))) ∧
    (crossDown s 12 = false → (b.st = 0 ∨ counts s p = false ∨ 64 ≤ b.queue.length) → exec (.canSend t p) s = .next z) ∧
    (mayStart z p = false → exec (.canAttemptStart t p) s = .next z) ∧
    (bestOffer (offers z p) = none → exec (.canAttemptStart t p) s = .next z) ∧
    (∀ a : BusAttempt, mayStart z p = true → bestOffer (offers z p) = some a →
      let f := a.frame.sent b.passive
      let fits := ttOn s p = false ∨ (openWindow z p).all (fun w => z.now + worstUnits s p a.frame ≤ w.ends) = true
      let clash := a.index = none ∧ isReference s p (bits f.id.toNat 10 0) = true
      (fits → clash → exec (.canAttemptStart t p) s = .fault (.undefinedUse 431)) ∧
      (fits → ¬ clash → Completes (.canAttemptStart t p) s (fun u =>
        busPort u p = { b with attempt := some { a with frame := f }, held := none
                               window := b.window.map (fun w => { w with tried := if w.kind = 1 then w.tried ++ [(a.src, a.frame)] else w.tried }) } ∧
        (u.out = z.out ++ if loopback s p then [] else [Out.busFrame p f (xlSymbols s p f)]) ∧ OthersKept busPort p s u ∧
        KeptBut (.bus :: begun) s u)) ∧
      (¬ fits → Completes (.canAttemptStart t p) s (fun u =>
        busPort u p = { b with window := b.window.map (fun w => { w with noFit := true }) } ∧
        (tally u (T.can R.CAN_TT_NOFIT p) = tally s (T.can R.CAN_TT_NOFIT p) + if b.window.any (·.noFit) then 0 else 1) ∧
        OthersKept busPort p s u ∧ KeptBut (.bus :: .tallies :: begun) s u)))) ∧
  (∀ (t : Time) (p : Fin 32) (s : State), let b := busPort s p
    let z := begin' t s
    (b.attempt = none →
      (∀ (lost : Bool) (x : SentFrame), exec (.canAttemptSuccess t p lost x) s = .next z) ∧
      (∀ (type : Fin 6) (dp : Bool) (pos : Nat) (x : SentError), exec (.canAttemptError t p type dp pos x) s = .next z)) ∧
    (∀ a : BusAttempt, b.attempt = some a →
      let w := latchRx p a.sof z
      let prio : Option W32 := match a.src with
        | .prio i => some i
        | _ => none
      let calm := a.orphan = false ∧ b.stopping = false ∧ b.busOff = false
      (∀ y : SentFrame, tdcBeyond s p a.frame y.delay = true → exec (.canAttemptSuccess t p false y) s =
        .next (attemptFailed p a 1 true (freeWord z).toNat (beyondError y) (drawFree (tdcMeasure p a.frame y.delay w)))) ∧
      (∀ y : SentFrame, tdcBeyond s p a.frame y.delay = false →
        exec (.canAttemptSuccess t p false y) s = .next (attemptWon p a y.overload (tdcMeasure p a.frame y.delay w)) ∧
        (calm → b.tec + 8 * y.overload.eights ≤ 255 → Completes (.canAttemptSuccess t p false y) s (fun u => let x := busPort u p
          x.attempt = none ∧ x.tec = b.tec - 1 + 8 * y.overload.eights ∧ x.recErr = b.recErr ∧ x.ackErrs = 0 ∧ x.noAck = false ∧
          x.txEnd = some (u.now + bitUnits s p (14 * y.overload.frames)) ∧
          x.passive = (decide (127 < x.tec) || decide (127 < b.recErr)) ∧
          (∀ i, prio = some i → x.queue = b.queue.filter (fun e => e.index != i) ∧
            ((ring s (16 + p)).cmpMode ≠ 2 → ∀ y ∈ (ring u (16 + p)).fetched, y.index = i → y.phase = .done) ∧
            KeptBut (.bus :: delivering) s u) ∧
          (prio = none → x.queue = b.queue) ∧ KeptBut handing s u))) ∧
      (∀ y : SentFrame, loopback s p = true → exec (.canAttemptSuccess t p true y) s = .next w) ∧
      (∀ y : SentFrame, loopback s p = false →
        exec (.canAttemptSuccess t p true y) s = .next (attemptLost p a w) ∧
        (calm → Completes (.canAttemptSuccess t p true y) s (fun u => let x := busPort u p
          x.attempt = none ∧ x.ackErrs = 0 ∧ x.tec = b.tec ∧ x.recErr = b.recErr ∧ x.txEnd = none ∧
          tally u (T.can R.CAN_ARB_LOST p) = tally s (T.can R.CAN_ARB_LOST p) + 1 ∧
          (prio.any (singleShot s p) = false → x.queue = b.queue) ∧
          (∀ i, prio = some i → singleShot s p i = true → x.queue = b.queue.filter (fun e => e.index != i) ∧
            ((ring s (16 + p)).cmpMode ≠ 2 → ∀ y ∈ (ring u (16 + p)).fetched, y.index = i → y.phase = .done)) ∧
          KeptBut handing s u))) ∧
      (∀ (type : Fin 6) (dp : Bool) (pos : Nat) (y : SentError),
        let i := Instr.canAttemptError t p type dp pos y
        let taken := type ≠ 0 ∧ loopback s p = false ∧
          ((type = 1 ∧ dp = true ∧ tdcBeyond s p a.frame y.delay = true) ∨ sentWrong s p a.frame dp y.wrong y.phase y.delay = true)
        (¬ taken → exec i s = .next z) ∧
        (taken → exec i s = .next (attemptFailed p a type dp pos y (tdcMeasure p a.frame y.delay w)) ∧
          (calm → b.tec + 8 + 8 * y.eights ≤ 255 → prio.any (singleShot s p) = false → rf s R.CAN_PORT_CFG p 15 0 = 0 →
            Completes i s (fun u => let x := busPort u p
              x.attempt = none ∧ x.tec = (if y.exempt ∧ (type = 5 ∧ b.passive = true ∨ type = 2) then b.tec else b.tec + 8) + 8 * y.eights ∧
              x.ackErrs = (if type = 5 then b.ackErrs + 1 else 0) ∧ x.txEnd = some (u.now + bitUnits s p (flagBits y)) ∧
              x.queue.map (·.frame) = b.queue.map (·.frame) ∧ KeptBut handing s u))))))

/-- REFERENCE_MESSAGE of a valid reference message makes the port a slave of its sender and begins a basic cycle at its SOF; one of no higher priority than a master's own, or at a port without a schedule, is ignored, and one with this potential master's own identifier is undefined use. REFERENCE_MISS begins the predicted cycle and counts; the eighth in a row returns the port to listening with no master, with notification 0x31; before the tolerance has run it does nothing (R408, R410, R411, R431). REFERENCE_ATTEMPT of a due master, or of a potential master after a miss, and LISTEN_TIMEOUT of a potential master after init_wait cycles, put the reference message on the bus: with success, or with no acknowledgement alone, the port is master and begins the cycle at its SOF; lost to another reference message, or by a port that is no master, it stays as it was; one that is not due, or that a port in loopback cannot see, does nothing (R380, R408, R409, R411). -/
def Obligations.ReferencesBeginCyclesAndMastersSendThem : Prop :=
  (∀ (t : Time) (p : Fin 32) (s : State), let b := busPort s p
    let z := begin' t s
    let ref := rf s R.CAN_TT_CFG p 21 11
    (∀ (id : BitVec 11) (data : List Byte) (sof : Time), let prio := id.toNat - ref
      let i := Instr.referenceMessage t p id data sof
      let valid := ttOn s p = true ∧ hears s p = true ∧ ref ≤ id.toNat ∧ prio < 8 ∧
        (if rb s R.CAN_TT_CFG p 30 then 48 ≤ data.length else 4 ≤ data.length)
      let own := mayMaster s p = true ∧ prio = masterPrio s p
      (¬ valid → exec i s = .next z) ∧
      (valid → own → exec i s = .fault (.undefinedUse 431)) ∧
      (valid → ¬ own → (b.tt = 0 ∨ b.tt = 4 ∨ b.tt = 3 ∧ masterPrio s p ≤ prio) → exec i s = .next z) ∧
      (valid → ¬ own → (b.tt = 1 ∨ b.tt = 2 ∨ b.tt = 3 ∧ prio < masterPrio s p) →
        Completes i s (fun u => let x := busPort u p
          x.tt = 2 ∧ x.master = prio ∧ x.misses = 0 ∧ x.cycleAt = sof ∧ x.cycle = u8 data 0 % 64 ∧ x.stamp = some sof ∧
          x.window = none ∧ x.ownRef = none ∧ x.candidate = false ∧ x.st = b.st ∧ x.queue = b.queue ∧ x.attempt = b.attempt ∧
          OthersKept busPort p s u ∧ KeptBut (.bus :: .course :: .engine :: .freeDraws :: delivering) s u))) ∧
    (let missed := b.tt = 2 ∧ predicted s p + ttTol s p ≤ z.now
     let x : BusPort := { b with cycle := (b.cycle + 1) % ttMatrix s p % 64, cycleAt := predicted s p
                                 window := none, convoyTurn := false, convoyFormed := none, candidate := false }
     (¬ missed → exec (.referenceMiss t p) s = .next z) ∧
     (missed → b.misses < 7 → Completes (.referenceMiss t p) s (fun u =>
        busPort u p = { x with misses := b.misses + 1, candidate := mayMaster s p } ∧
        tally u (T.can R.CAN_TT_REF_MISS p) = tally s (T.can R.CAN_TT_REF_MISS p) + 1 ∧
        OthersKept busPort p s u ∧ KeptBut (.bus :: .tallies :: begun) s u)) ∧
     (missed → 7 ≤ b.misses →
        exec (.referenceMiss t p) s = .next (notify 0x31 p b.cycle (setMaster p 15
          (setBus p { x with tt := 1, misses := 0, listenAt := z.now, stamp := none, formed := [] } (bump (T.can R.CAN_TT_REF_MISS p) z)))) ∧
        Completes (.referenceMiss t p) s (fun u =>
          busPort u p = { x with tt := 1, misses := 0, listenAt := u.now, stamp := none, formed := [], master := 15 } ∧
          OthersKept busPort p s u ∧ KeptBut (.bus :: delivering) s u)))) ∧
  (∀ (t : Time) (p : Fin 32) (sof : Time) (s : State), let b := busPort s p
    let z := begin' t s
    let sent (cycle : Nat) (u : State) : Prop :=
      let f := (refMessage z p cycle).sent b.passive
      loopback s p = false → Out.busFrame p f (xlSymbols s p f) ∈ u.out
    let kept (u : State) : Prop := OthersKept busPort p s u ∧ KeptBut (.bus :: .freeDraws :: .clocks :: delivering) s u
    let master (cycle : Nat) (u : State) : Prop := let x := busPort u p
      x.tt = 3 ∧ x.master = masterPrio s p ∧ x.cycle = cycle % 64 ∧ x.cycleAt = sof ∧ x.ownRef = some sof ∧
      (x.k = if b.tt = 3 then b.k + 1 else 0) ∧ sent cycle u ∧ kept u
    let succeeds (y : SentFrame) : Prop :=
      tdcBeyond s p (refMessage z p 0) y.delay = false ∧ y.overload.eights = 0
    let lost (cycle : Nat) (u : State) : Prop :=
      (busPort u p).tt = b.tt ∧ (busPort u p).master = b.master ∧ (busPort u p).cycleAt = b.cycleAt ∧ (busPort u p).tec = b.tec ∧
      tally u (T.can R.CAN_ARB_LOST p) = tally s (T.can R.CAN_ARB_LOST p) + 1 ∧ sent cycle u ∧ kept u
    let calm := b.tec ≤ 127 ∧ b.recErr ≤ 127 ∧ b.busOff = false
    (let due := ttOn s p = true ∧ mayStart z p = true ∧ mayMaster s p = true ∧ (b.tt = 3 ∧ nextRef s p ≤ portGlobal s p z.now ∨ b.tt = 2 ∧ b.candidate = true)
     let cycle := if b.tt = 3 then (b.cycle + 1) % ttMatrix s p else b.cycle
     (∀ res : RefResult,
       (due → seesResult s p (refMessage z p cycle) res = true →
         exec (.referenceAttempt t p sof res) s = .next (refAttempt p cycle (b.cycleAt + ttTol s p) sof res z)) ∧
       ((¬ due ∨ seesResult s p (refMessage z p cycle) res = false) → exec (.referenceAttempt t p sof res) s = .next z)) ∧
     (due → calm →
       (∀ y : SentFrame, succeeds y → Completes (.referenceAttempt t p sof (.success y)) s (fun u =>
         master cycle u ∧ (busPort u p).tec = b.tec - 1)) ∧
       (∀ (pos : Nat) (y : SentError), seesResult s p (refMessage z p cycle) (.unacked pos y) = true → y.eights = 0 → b.tec ≤ 119 →
         Completes (.referenceAttempt t p sof (.unacked pos y)) s (fun u => master cycle u ∧
           tally u (T.can R.CAN_TT_REF_UNACK p) = tally s (T.can R.CAN_TT_REF_UNACK p) + 1 ∧
           (busPort u p).tec = (if y.exempt && b.passive then b.tec else b.tec + 8))) ∧
       (loopback s p = false → Completes (.referenceAttempt t p sof (.lost false)) s (lost cycle)) ∧
       (loopback s p = false → b.tt ≠ 3 → Completes (.referenceAttempt t p sof (.lost true)) s (lost cycle)))) ∧
    (let wait := b.listenAt + rf s R.CAN_TT_SYNC p 15 8 * (rf s R.CAN_TT_CYCLE p 31 16 * usUnits)
     let due := mayStart z p = true ∧ mayMaster s p = true ∧ b.tt = 1 ∧ wait ≤ z.now
     (∀ res : RefResult,
       (due → seesResult s p (refMessage z p 0) res = true → exec (.listenTimeout t p sof res) s =
         .next (refAttempt p 0 wait sof res (modBus p (fun b => { b with listenAt := z.now }) z))) ∧
       ((¬ due ∨ seesResult s p (refMessage z p 0) res = false) → exec (.listenTimeout t p sof res) s = .next z)) ∧
     (due → calm →
       (∀ y : SentFrame, succeeds y → Completes (.listenTimeout t p sof (.success y)) s (fun u =>
         master 0 u ∧ (busPort u p).tec = b.tec - 1)) ∧
       (loopback s p = false → ∀ other : Bool, Completes (.listenTimeout t p sof (.lost other)) s (lost 0)))))

/-- TT_WINDOW_START opens the window of its column, with kind and source from the matrix row of the cycle, until the next column begins, and on an idle bus starts what may go; before the column begins it does nothing. SLOT_FRAME_FORM, within 5 us before a slot window of a port that may use it, drops cancels, and cancelled commands, whose time has passed, and forms no frame of nothing; of a convoy window it forms the convoy frames (R412 to R414, R416, R419). NODE_STATUS stores a node's fault mask, ends its silence and faults the lanes it names; NODE_SILENT marks the node and its lanes; a node without lanes, a port without Imwald traffic or off the bus, or a time-out not yet run, does nothing; a node whose status identifier is a reference message's is undefined use (R422, R431). -/
def Obligations.WindowsSlotsAndNodes : Prop :=
  (∀ (t : Time) (p : Fin 32) (c : Fin 64) (s : State), let b := busPort s p
    let z := begin' t s
    let kw := columnWindow s p c
    let start := columnAt s p c
    let column := (b.tt = 2 ∨ b.tt = 3) ∧ c ≠ 0 ∧ c.val < rf s R.CAN_TT_CYCLE p 6 0
    (let due := ttOn s p = true ∧ column ∧ start ≤ z.now
     let w := setBus p { b with window := some { kind := kw.1, source := kw.2, ends := columnAt s p (c.val + 1) } } z
     let f := if kw.1 ≠ 0 ∧ kw.2 = 1 ∧ imwaldOn s p = true ∧ b.convoyFormed.map (·.1) ≠ some c.val then formConvoy p c w else w
     (¬ due → ∀ idle : Bool, exec (.ttWindowStart t p c idle) s = .next z) ∧
     (due → exec (.ttWindowStart t p c false) s = .next f) ∧
     (due → exec (.ttWindowStart t p c true) s = startOutcome p true f) ∧
     (due → (mayStart f p = false ∨ bestOffer (offers f p) = none) → exec (.ttWindowStart t p c true) s = .next f) ∧
     (due → Completes (.ttWindowStart t p c false) s (fun u =>
        (busPort u p).window = some { kind := kw.1, source := kw.2, ends := columnAt s p (c.val + 1) } ∧
        (busPort u p).attempt = b.attempt ∧ (busPort u p).cycle = b.cycle ∧ (kw.2 ≠ 1 → u.engine = s.engine) ∧
        OthersKept busPort p s u ∧ KeptBut (.bus :: .engine :: begun) s u))) ∧
    (let due := imwaldOn s p = true ∧ column ∧ kw.1 ≠ 0 ∧ start ≤ z.now + 5 * usUnits ∧ z.now ≤ start
     let slots := kw.2 = 0 ∧ (b.tt = 3 ∨ lockedPort b = true)
     (due → kw.2 = 1 → exec (.slotFrameForm t p c) s = .next (formConvoy p c z)) ∧
     (due → slots → exec (.slotFrameForm t p c) s = .next (formSlots p c z) ∧
        Completes (.slotFrameForm t p c) s (fun u =>
          let base := portGlobal s p start
          let room := columnAt s p (c.val + 1) - start
          slotCancels u p = (slotCancels s p).filter (fun x => u.now < x.time) ∧
          slotQueue u p = (slotQueue s p).filter (fun x => !(x.cancelled && decide (x.ev.tExec ≤ u.now))) ∧
          (slotQueue s p = [] → slotCancels u p = [] → (busPort u p).formed = []) ∧
          (∀ x : SlotCmd, slotQueue s p = [x] → x.sent = false → x.cancelled = false → slotInHand s p = none → slotCancels u p = [] →
            (busPort u p).formed = fitting s p room [commandFrame z p base [.inr (slotEntry s p base x)]]) ∧
          (∀ f ∈ (busPort u p).formed, f.cmds ≠ [] ∨ f.cancels ≠ []) ∧
          OthersKept busPort p s u ∧ KeptBut (.bus :: .engine :: .freeDraws :: begun) s u)) ∧
     (¬ due ∨ (kw.2 ≠ 1 ∧ ¬ slots) → exec (.slotFrameForm t p c) s = .next z))) ∧
  (∀ (t : Time) (p : Fin 32) (node : BitVec 8) (s : State), let b := busPort s p
    let z := begin' t s
    let n := node.toNat
    let lanes := nodeLanes s p n
    let heard := imwaldOn s p = true ∧ hears s p = true
    let clash := heard ∧ isReference s p (0x600 + n) = true
    (∀ data : List Byte,
      (clash → exec (.nodeStatus t p node data) s = .fault (.undefinedUse 431)) ∧
      (¬ clash → (¬ heard ∨ lanes = [] ∨ data.length < 8) → exec (.nodeStatus t p node data) s = .next z) ∧
      (¬ clash → heard → lanes ≠ [] → 8 ≤ data.length → Completes (.nodeStatus t p node data) s (fun u =>
        busPort u p = { b with nodeSeen := tabSet 0 b.nodeSeen n u.now, nodeMask := tabSet 0 b.nodeMask n (u64 data 0)
                               silent := b.silent.filter (fun m => m != n) } ∧
        (∀ y ∈ lanes, bitOf (u64 data 0) y.2 = true → bitOf (lane u y.1).faults 8 = true) ∧
        (∀ k : Nat, lanes.any (fun y => y.1 = k) = false → lane u k = lane s k) ∧
        OthersKept busPort p s u ∧ KeptBut (.bus :: .engine :: begun) s u))) ∧
    (let due := imwaldOn s p = true ∧ lanes ≠ [] ∧ rf s R.CAN_IMW_CFG p 15 0 ≠ 0 ∧ b.silent.contains n = false ∧
       max b.enabledAt (tabGet 0 b.nodeSeen n) + rf s R.CAN_IMW_CFG p 15 0 * msUnits ≤ z.now
     (¬ due → exec (.nodeSilent t p node) s = .next z) ∧
     (due → Completes (.nodeSilent t p node) s (fun u =>
        busPort u p = { b with silent := b.silent ++ [n] } ∧
        (∀ y ∈ lanes, bitOf (lane u y.1).faults 9 = true) ∧
        (∀ k : Nat, lanes.any (fun y => y.1 = k) = false → lane u k = lane s k) ∧
        OthersKept busPort p s u ∧ KeptBut (.bus :: .engine :: begun) s u))))

/-- ON_EVENT_EXECUTE: the due on event leaves the store; on a channel that is on it sets d; on one that is off, not latched and below lockout, with a valid profile, no backstop running and no peak in its bank, the gate goes on at once; while a peak runs a boost profile waits; while the backstop runs the shot is delayed to its end; a latched channel, or one in lockout, is reported cancelled, one without a valid profile reported so, and each stays off; a pulsing channel with d = 0 is on and runs no shot. Where no on event is due, nothing moves (R273, R279, R280, R283, R286, R289, R323, R325). -/
def Obligations.OnEventsStartShots : Prop :=
  ∀ (t : Time) (ch : Fin 64) (s : State),
    let b := begin' t s
    let c := drvCh s ch
    let cfg := drd s R.DRV_CH_CFG ch
    let slot := fld cfg 28 24
    let now := b.now
    let clear := c.gateOff.getD 0 + df s R.DRV_PROF_HDR slot 15 0 * usUnits
    let peak := (members (bankOf ch)).any (fun m => m ≠ ch.val && (drvCh s m).st = 2)
    let i := Instr.onEventExecute t ch
    (dueEvent b ch 1 = none → exec i s = .next b) ∧
    (∀ e : DrvEv, dueEvent b ch 1 = some e →
      let rest := c.pending.drop 1
      let known := ((laneOfDirect s ch).bind (fun k => (lane s k).events.find? (fun y => y.id = e.id && !y.executed))).isSome = true
      let frame (u : State) : Prop := OtherChannels ch s u ∧ KeptBut (.drive :: handing) s u ∧ (known → KeptBut (.drive :: .engine :: begun) s u)
      let shot := c.on = false ∧ (flag cfg 30 = false ∨ e.d ≠ 0) ∧ chLatched s ch = false ∧ c.level ≠ 3 ∧ db s R.DRV_PROF_HDR slot 31 = true
      let ready := c.gateOff = none ∨ clear ≤ now
      let waits := phSource s slot 0 = 2 ∧ peak = true
      exec i s = .next (runOn ch e (dropHead ch b)) ∧
      (c.on = true → Completes i s (fun u =>
        drvCh u ch = { c with d := e.d, pending := rest, pulseEnd := (drvCh u ch).pulseEnd } ∧ frame u)) ∧
      (shot → ready → ¬ waits → Completes i s (fun u => let x := drvCh u ch
        x.on = true ∧ x.d = e.d ∧ x.onEv = e.id ∧ x.cfg = cfg ∧ (x.st = if phSource s slot 0 = 2 then 2 else 3) ∧
        x.shot.bind (·.gateOn) = some u.now ∧ x.low = decide (phSource s slot 0 ≠ 0) ∧ x.pending = rest ∧ frame u)) ∧
      (shot → ready → waits → Completes i s (fun u => let x := drvCh u ch
        x.on = true ∧ x.d = e.d ∧ (x.st = if c.st = 4 then 4 else 1) ∧ x.awaiting = true ∧ x.shot.map (·.delayed) = some false ∧
        x.pending = rest ∧ frame u)) ∧
      (shot → ¬ ready → Completes i s (fun u => let x := drvCh u ch
        x.on = true ∧ x.d = e.d ∧ (x.st = if c.st = 4 then 4 else 1) ∧ x.shot.map (·.ready) = some clear ∧ x.awaiting = true ∧
        x.pending = rest ∧ dTally u (T.drvMinoff ch) = dTally s (T.drvMinoff ch) + 1 ∧ frame u)) ∧
      (c.on = false → flag cfg 30 = true → e.d = 0 → chLatched s ch = false → c.level ≠ 3 → Completes i s (fun u => let x := drvCh u ch
        x.on = true ∧ x.d = 0 ∧ (x.st = if c.st = 4 then 4 else 5) ∧ x.shot = c.shot ∧ x.pending = rest ∧ frame u)) ∧
      (c.on = false → (chLatched s ch = true ∨ c.level = 3) → Completes i s (fun u =>
        (drvCh u ch).on = false ∧ (drvCh u ch).shot = none ∧
        sentUp u = sentUp s ++ [.report { channel := ch, closing := false, flags := b2n e.late + 8, gate := u.now, ev := e.id }] ∧
        OtherChannels ch s u ∧ KeptBut (.drive :: .engine :: .relay :: begun) s u)) ∧
      (c.on = false → (flag cfg 30 = false ∨ e.d ≠ 0) → chLatched s ch = false → c.level ≠ 3 → db s R.DRV_PROF_HDR slot 31 = false → known →
        Completes i s (fun u =>
          (drvCh u ch).on = false ∧ (drvCh u ch).shot = none ∧
          sentUp u = sentUp s ++ [.report { channel := ch, closing := false, flags := b2n e.late + 512, gate := u.now, ev := e.id }] ∧
          OtherChannels ch s u ∧ KeptBut (.drive :: .engine :: .relay :: begun) s u)))

/-- OFF_EVENT_EXECUTE: a running shot closes: its low side opens, the channel enters closing quench, its gate-off is kept and its closing report awaits its window; a waiting shot is cancelled and reported; the channel is off. RATE_EVENT_EXECUTE sets d. Where no such event is due, nothing moves (R276, R280, R285, R292). PHASE_END: a comparator reading moves a shot to its next phase where the phase's end current or its time says so, a late end by time noted; in a hysteretic phase that goes on, the low side opens at target plus hysteresis and closes at target less hysteresis, once 1 / f_max has passed since it last closed, and else stays. QUENCH_END, below 2 % of full scale or 5 ms after gate-off, ends closing quench (R271, R274 to R276). PULSE_END closes a pulse whose on-length has run and leaves the channel on; PULSE_START, at its stagger instant, runs a shot of the channel's settings unless d is 0, the channel is barred, its profile invalid, the backstop runs or a peak is in its bank; before its instant neither does anything (R276, R283, R284). SHOT_REFUSED: a shot that has waited its tolerance is given up, counted against its bank and reported with the instant at which the tolerance ran out; a channel that pulses stays on. BACKSTOP_EXPIRY: a delayed shot becomes ready and starts with the settings then in force, waits while a peak runs in its bank, or is reported without a profile; before their time neither does anything (R273, R286 to R289, R299). -/
def Obligations.ShotsMoveThroughTheirPhases : Prop :=
  (∀ (t : Time) (ch : Fin 64) (s : State), let c := drvCh s ch
    let b := begin' t s
    let rest := c.pending.drop 1
    (dueEvent b ch 2 = none → exec (.offEventExecute t ch) s = .next b) ∧
    (dueEvent b ch 3 = none → exec (.rateEventExecute t ch) s = .next b) ∧
    (∀ e : DrvEv, dueEvent b ch 2 = some e →
      exec (.offEventExecute t ch) s = .next (stopCh ch e.id e.late (laneExec ch e c.shooting (dropHead ch b))) ∧
      (∀ sh : Shot, c.shot = some sh → c.shooting = true → Completes (.offEventExecute t ch) s (fun u => let x := drvCh u ch
        x.on = false ∧ x.st = 4 ∧ x.low = false ∧ x.shot = none ∧ x.gateOff = some u.now ∧ x.pulseEnd = none ∧
        x.closing = c.closing ++ [{ ends := u.now + df s R.DRV_PROF_DET1 c.slot 31 16 * tenthMs, det := flag c.cfg 29
                                    rep := sh.report ch true e.late u.now e.id }] ∧
        x.pending = rest ∧
        (∀ m, bankOf m ≠ bankOf ch → drvCh u m = drvCh s m) ∧ KeptBut (.drive :: .engine :: .relay :: begun) s u)) ∧
      (∀ sh : Shot, c.shot = some sh → sh.gateOn = none → c.shooting = false → Completes (.offEventExecute t ch) s (fun u => let x := drvCh u ch
        x.on = false ∧ x.shot = none ∧ x.pending = rest ∧
        sentUp u = sentUp s ++ [.report { channel := ch, closing := false, flags := sh.flags sh.late + 8, gate := u.now
                                          backstop := capNat 0xFFFF (roundDivNat (sh.ready - sh.due) usUnits)
                                          ev := if sh.pulse then 0 else sh.ev }] ∧
        OthersKept drvCh ch s u ∧ KeptBut (.drive :: .engine :: .relay :: begun) s u)) ∧
      (c.shooting = false → c.awaiting = false → Completes (.offEventExecute t ch) s (fun u =>
        drvCh u ch = { c with on := false, pending := rest, pulseEnd := none, nextPulse := none, st := if c.st = 4 then 4 else 0 } ∧
        OthersKept drvCh ch s u ∧ KeptBut (.drive :: .engine :: begun) s u))) ∧
    (∀ e : DrvEv, dueEvent b ch 3 = some e →
      exec (.rateEventExecute t ch) s = .next (setDuty ch e.d (laneExec ch e false (dropHead ch b))) ∧
      Completes (.rateEventExecute t ch) s (fun u =>
        drvCh u ch = { c with d := e.d, pending := rest, pulseEnd := (drvCh u ch).pulseEnd } ∧
        OthersKept drvCh ch s u ∧ KeptBut (.drive :: .engine :: begun) s u))) ∧
  (∀ (t : Time) (ch : Fin 64) (ma : Nat) (s : State), let c := drvCh s ch
    let b := begin' t s
    let now := b.now
    let i := Instr.phaseEnd t ch ma
    ((c.shooting = false ∨ c.shot = none) → exec i s = .next b) ∧
    (∀ sh : Shot, c.shot = some sh → c.shooting = true →
      let q := sh.phase
      let et := phEnd s c.slot q
      let level := fld (drd2 s R.DRV_PH_CTRL c.slot q) 15 0
      let byCurrent := (et = 1 && c.reaches ma level) || (et = 2 && decide (c.volts ma ≤ c.limited (c.volts level)))
      let timed := et ≠ 3 && decide (sh.phaseAt + phEndUs s c.slot q * usUnits ≤ now)
      let late := decide (et ≠ 0) && !byCurrent
      let hyst := c.volts (fld (drd2 s R.DRV_PH_CURRENT c.slot q) 31 16)
      let chops := (byCurrent || timed) = false ∧ phSource s c.slot q ≠ 0 ∧ flag (drd2 s R.DRV_PH_CTRL c.slot q) 29 = true
      exec i s = .next (regulate ch ma (if byCurrent || timed then nextPhase ch late b else b)) ∧
      ((byCurrent || timed) = true → Completes i s (fun u => let x := drvCh u ch
        x.shot.map (·.phase) = some (q + 1) ∧ x.shot.map (·.phaseAt) = some u.now ∧ x.on = c.on ∧
        (x.st = if phSource s c.slot (q + 1) = 2 then 2 else 3) ∧
        x.shot.map (·.timedOut) = some (sh.timedOut || late) ∧ (phSource s c.slot (q + 1) = 0 → x.low = false) ∧
        (∀ m, bankOf m ≠ bankOf ch → drvCh u m = drvCh s m) ∧ KeptBut (.drive :: .relay :: begun) s u)) ∧
      (chops → c.low = true → phTarget s ch q + hyst ≤ c.volts ma → Completes i s (fun u => let x := drvCh u ch
        x.low = false ∧ x.freewheel = phDecay s c.slot q ∧ x.shot = c.shot ∧ x.st = c.st ∧
        OtherChannels ch s u ∧ KeptBut (.drive :: begun) s u)) ∧
      (chops → c.low = false → c.volts ma + hyst ≤ phTarget s ch q → mayClose b c q = true → Completes i s (fun u => let x := drvCh u ch
        x.low = true ∧ x.closedAt = some u.now ∧ x.shot = c.shot ∧ x.st = c.st ∧
        OthersKept drvCh ch s u ∧ KeptBut (.drive :: begun) s u)) ∧
      (chops → (c.low = true → c.volts ma < phTarget s ch q + hyst) →
        (c.low = false → phTarget s ch q < c.volts ma + hyst ∨ mayClose b c q = false) → exec i s = .next b) ∧
      ((byCurrent || timed) = false → (phSource s c.slot q = 0 ∨ flag (drd2 s R.DRV_PH_CTRL c.slot q) 29 = false) → exec i s = .next b)) ∧
    (let ends := c.st = 4 ∧ (c.nearZero ma = true ∨ c.gateOff.getD 0 + 5 * msUnits ≤ now)
     (¬ ends → exec (.quenchEnd t ch ma) s = .next b) ∧
     (ends → Completes (.quenchEnd t ch ma) s (fun u =>
        drvCh u ch = { c with st := if c.awaiting then 1 else if c.on && c.pulsing then 5 else 0
                              quietAt := u.now
                              closing := c.closing.map (fun w => if some w.rep.gate = c.gateOff then { w with quiet := some u.now } else w)
                              closings := (drvCh u ch).closings } ∧
        OtherChannels ch s u ∧ KeptBut (.drive :: begun) s u)))) ∧
  (∀ (t : Time) (ch : Fin 64) (s : State), let c := drvCh s ch
    let b := begin' t s
    let now := b.now
    (let due := c.shooting = true ∧ c.pulseEnd.any (fun e => decide ((e : Int) ≤ driveNow b)) = true
     (¬ due → exec (.pulseEnd t ch) s = .next b) ∧
     (due → exec (.pulseEnd t ch) s = .next (closeCh ch 0 false b)) ∧
     (∀ sh : Shot, due → c.shot = some sh → Completes (.pulseEnd t ch) s (fun u => let x := drvCh u ch
        x.st = 4 ∧ x.on = c.on ∧ x.low = false ∧ x.shot = none ∧ x.gateOff = some u.now ∧
        x.closing = c.closing ++ [{ ends := u.now + df s R.DRV_PROF_DET1 c.slot 31 16 * tenthMs, det := flag c.cfg 29
                                    rep := sh.report ch true false u.now 0 }] ∧
        (∀ m, bankOf m ≠ bankOf ch → drvCh u m = drvCh s m) ∧ KeptBut (.drive :: .relay :: begun) s u))) ∧
    (let due := c.on = true ∧ c.shot = none ∧ c.nextPulse.any (fun p => decide ((p : Int) ≤ driveNow b)) = true
     (¬ due → exec (.pulseStart t ch) s = .next b) ∧
     (due → c.d = 0 → Completes (.pulseStart t ch) s (fun u =>
        drvCh u ch = { c with per := bankPeriod s ch, nextPulse := (drvCh u ch).nextPulse } ∧
        (c.pulsing = true → (drvCh u ch).nextPulse.any (fun p => decide (now < p)) = true) ∧
        OthersKept drvCh ch s u ∧ KeptBut (.drive :: begun) s u)) ∧
     (due → c.d ≠ 0 → exec (.pulseStart t ch) s =
        .next (dueShot ch c.onEv true false (setDrvCh ch { c with per := bankPeriod s ch, nextPulse := none } b))) ∧
     (let slot := fld (drd s R.DRV_CH_CFG ch) 28 24
      due → c.d ≠ 0 → barred s ch = false → db s R.DRV_PROF_HDR slot 31 = true →
      (c.gateOff = none ∨ c.gateOff.getD 0 + df s R.DRV_PROF_HDR slot 15 0 * usUnits ≤ now) → peakIn s (bankOf ch) = none →
      Completes (.pulseStart t ch) s (fun u => let x := drvCh u ch
        x.on = true ∧ x.shot.bind (·.gateOn) = some u.now ∧ x.shot.map (·.pulse) = some true ∧
        (x.st = if phSource s slot 0 = 2 then 2 else 3) ∧ OtherChannels ch s u ∧ KeptBut (.drive :: begun) s u)))) ∧
  (∀ (t : Time) (ch : Fin 64) (s : State), let c := drvCh s ch
    let b := begin' t s
    let now := b.now
    (c.shot = none → exec (.shotRefused t ch) s = .next b ∧ exec (.backstopExpiry t ch) s = .next b) ∧
    (∀ sh : Shot, c.shot = some sh →
      let over' := sh.gateOn = none ∧ sh.delayed = false ∧ sh.ready + sh.tol ≤ now
      let expired := sh.delayed = true ∧ sh.ready ≤ now
      let slot := fld (drd s R.DRV_CH_CFG ch) 28 24
      let peak := (members (bankOf ch)).any (fun m => m ≠ ch.val && (drvCh s m).st = 2)
      (¬ over' → exec (.shotRefused t ch) s = .next b) ∧
      (over' → Completes (.shotRefused t ch) s (fun u => let x := drvCh u ch
        x.shot = none ∧ x.on = (c.on && sh.pulse) ∧ dTally u (T.bankRefused (bankOf ch)) = dTally s (T.bankRefused (bankOf ch)) + 1 ∧
        sentUp u = sentUp s ++ [.report { channel := ch, closing := false, flags := sh.flags sh.late + 4, gate := sh.ready + sh.tol
                                          backstop := capNat 0xFFFF (roundDivNat (sh.ready - sh.due) usUnits)
                                          ev := if sh.pulse then 0 else sh.ev }] ∧
        OthersKept drvCh ch s u ∧ KeptBut (.drive :: .relay :: begun) s u)) ∧
      (¬ expired → exec (.backstopExpiry t ch) s = .next b) ∧
      (expired → exec (.backstopExpiry t ch) s =
        .next (readyShot ch (setDrvCh ch { c with shot := some { sh with ready := now } } b))) ∧
      (expired → db s R.DRV_PROF_HDR slot 31 = true →
        (¬ (phSource s slot 0 = 2 ∧ peak = true) → Completes (.backstopExpiry t ch) s (fun u => let x := drvCh u ch
          x.shot.bind (·.gateOn) = some u.now ∧ x.on = c.on ∧ x.cfg = drd s R.DRV_CH_CFG ch ∧
          (x.st = if phSource s slot 0 = 2 then 2 else 3) ∧
          x.opening.length = c.opening.length + 1 ∧ OtherChannels ch s u ∧ KeptBut (.drive :: begun) s u)) ∧
        (phSource s slot 0 = 2 → peak = true → sh.gateOn = none → Completes (.backstopExpiry t ch) s (fun u => let x := drvCh u ch
          (x.st = if c.st = 4 then 4 else 1) ∧ x.awaiting = true ∧ x.shot.map (·.delayed) = some false ∧ x.shot.map (·.ready) = some u.now ∧
          OthersKept drvCh ch s u ∧ KeptBut (.drive :: begun) s u))) ∧
      (expired → db s R.DRV_PROF_HDR slot 31 = false → Completes (.backstopExpiry t ch) s (fun u =>
        (drvCh u ch).shot = none ∧ (drvCh u ch).on = (c.on && sh.pulse) ∧ (sentUp u).length = (sentUp s).length + 1 ∧
        OthersKept drvCh ch s u ∧ KeptBut (.drive :: .relay :: begun) s u))))

/-- OPENING_REPORT and CLOSING_REPORT: at the end of a window it leaves the channel, the delay that the detector finds in the samples stands in its register, and the report goes to the control die; an opening sought and not found is the no-motion fault, a closing not found is flagged; before a window's end nothing moves. The detectors: too few samples show nothing (R290 to R292, R305, R324). OFFSET_CAL_GAP takes the average of the samples after the first 20 of the first usable gap, and moves by at most 2 codes at each later one; a gap too short, disturbed or not quiet moves nothing. CAL_STARVATION raises notification 0x1E once. A reading of VBOOST by BOOST_OVERVOLTAGE, BOOST_UNDERVOLTAGE or BOOST_VOLTAGE_RECOVERY sets both flags of BOOST_STAT by their limits, with notification 0x1D on a rising one, and starts the converter below V_set less the band and stops it at V_set or above the limit; a reading that is no news, or in reset, moves nothing (R271, R272, R293, R294, R300). -/
def Obligations.ReportsCalibrationAndBoost : Prop :=
  (∀ (t : Time) (ch : Fin 64) (s : State), let c := drvCh s ch
    let b := begin' t s
    let det0 := drd s R.DRV_PROF_DET0 c.slot
    let det1 := drd s R.DRV_PROF_DET1 c.slot
    let det2 := drd s R.DRV_PROF_DET2 c.slot
    (∀ samples : List OpenSample,
      let found := detectOpening (fld det0 15 0 * tenthMs) (fld det0 31 16 * tenthMs) (fld det2 31 24) (fld det2 23 16) samples
      (windowDue b.now c.opening = none → exec (.openingReport t ch samples) s = .next b) ∧
      (samples.length < 17 → found = none) ∧
      (∀ (w : Window) (rest : List Window), windowDue b.now c.opening = some (w, rest) →
        let delay := if w.det then found.map (· * 100) else none
        let still := w.det && found.isNone
        Completes (.openingReport t ch samples) s (fun u =>
          drvCh u ch = { c with opening := rest } ∧ drd u R.DRV_LAST_OPEN ch = delayWord delay ∧
          sentUp u = sentUp s ++ (if still && !db s R.DRV_FAULT ch 2 then [.fault ch 4] else []) ++
            [.report { w.rep with delay := delay, flags := w.rep.flags + 32 * b2n still }] ∧
          (still = true → db u R.DRV_FAULT ch 2 = true ∧ dTally u (T.drvNomotion ch) = dTally s (T.drvNomotion ch) + 1) ∧
          (still = false → drd u R.DRV_FAULT ch = drd s R.DRV_FAULT ch ∧ u.drive.tallies = s.drive.tallies) ∧
          OthersKept drvCh ch s u ∧ KeptBut (.drive :: .relay :: begun) s u))) ∧
    (∀ drain : List Nat,
      (windowDue b.now c.closing = none → exec (.closingReport t ch drain) s = .next b) ∧
      (∀ (w : Window) (rest : List Window), windowDue b.now c.closing = some (w, rest) →
        let found := w.quiet.bind (fun q => detectClosing ((q - w.rep.gate + 99) / 100) (fld det1 15 0 * tenthMs) (fld det1 31 16 * tenthMs)
          (fld det2 15 0) drain)
        let delay := if w.det then found.map (· * 100) else none
        (drain.length < 20 → found = none) ∧
        Completes (.closingReport t ch drain) s (fun u =>
          drvCh u ch = { c with closing := rest } ∧ drd u R.DRV_LAST_CLOSE ch = delayWord delay ∧
          sentUp u = sentUp s ++ [.report { w.rep with delay := delay, flags := w.rep.flags + 64 * b2n (w.det && found.isNone) }] ∧
          OthersKept drvCh ch s u ∧ KeptBut (.drive :: .relay :: begun) s u)))) ∧
  (∀ (t : Time) (s : State),
    let b := begin' t s
    (∀ (ch : Fin 64) (start : Time) (samples : List (BitVec 16)), let c := drvCh s ch
      let i := Instr.offsetCalGap t ch start samples
      let quiet := c.shooting = false ∧ c.st ≠ 4 ∧ c.quietAt ≤ start ∧ samples.all (fun x => c.nearZero (c.codeMa (senseCode s ch x))) = true
      let settled := (samples.drop 20).map (fun x => satS 12 x.toInt)
      let usable := db s R.DRV_CAL 0 31 = true ∧ chEnabled s ch = true ∧ quiet ∧ start + 20 * usUnits ≤ b.now ∧ settled ≠ []
      let old := signed 16 (df s R.DRV_CH_OFS ch 15 0)
      let goal := roundDiv (settled.foldl (· + ·) 0) settled.length
      (¬ usable → exec i s = .next b) ∧
      (usable → Completes i s (fun u =>
        drvCh u ch = { c with calibrated := true, gapAt := u.now, starved := false } ∧
        drd u R.DRV_CH_OFS ch = BitVec.ofNat 32 (wrapU 16 (if c.calibrated then clampInt (old - 2) (old + 2) goal else goal)) ∧
        OthersKept drvCh ch s u ∧ KeptBut (.drive :: begun) s u))) ∧
    (∀ ch : Fin 64, let c := drvCh s ch
      let limit := df s R.DRV_CAL 0 15 0
      let due := db s R.DRV_CAL 0 31 = true ∧ chEnabled s ch = true ∧ limit ≠ 0 ∧ c.starved = false ∧ c.gapAt + limit * msUnits ≤ b.now
      (¬ due → exec (.calStarvation t ch) s = .next b) ∧
      (due → exec (.calStarvation t ch) s = .next (notify 0x1E ch limit (setDrvCh ch { c with starved := true } b)))) ∧
    (∀ v : BitVec 16,
      let n := v.toNat
      let over' := vOver s < n ∧ s.drive.ov = false ∧ s.drive.inReset = false
      let under := n < vUnder s ∧ s.drive.uv = false ∧ s.drive.inReset = false
      let read (i : Instr) : Prop := exec i s = .next (boostSense n b) ∧ Completes i s (fun u =>
        u.drive.ov = decide (vOver s < n) ∧ u.drive.uv = decide (n < vUnder s) ∧ u.drive.vboost = n ∧
        u.drive.boostRun = (db s R.BOOST_CFG 0 31 && leased s && !decide (vOver s < n) &&
          (decide (n < vSet s - vBand s) || (s.drive.boostRun && decide (n < vSet s)))) ∧
        (∀ ch : Nat, drvCh u ch = { drvCh s ch with closings := (drvCh u ch).closings }) ∧
        u.drive.regs = s.drive.regs ∧ u.drive.lease = s.drive.lease ∧ KeptBut (.drive :: delivering) s u)
      (over' → read (.boostOvervoltage t v)) ∧ (¬ over' → exec (.boostOvervoltage t v) s = .next b) ∧
      (under → read (.boostUndervoltage t v)) ∧ (¬ under → exec (.boostUndervoltage t v) s = .next b) ∧
      (s.drive.inReset = false → read (.boostVoltageRecovery t v)) ∧
      (s.drive.inReset = true → exec (.boostVoltageRecovery t v) s = .next b)))

/-- The drive die accepts an EVENT: held by a lease and on an enabled channel it enters the store in time order, late if its time has passed; on a disabled channel it is discarded and counted; without a lease, or where the frame names another, it is counted lost and answered with the lease state. RETIME replaces a pending event's time, WITHDRAW removes it, or cancels and reports the waiting shot of its event. Without such a frame at the head, nothing moves (R278, R279, R281, R282, R313). WRITE stores a register on the drive die, its own bits kept and its W1C bits cleared; a valid profile header is checked and names the first condition it fails; clearing a channel's enable empties its store and takes it off, setting it restarts its calibration; CLEAR clears fault bits; TIME sets the reckoning at the first frame after training and then moves it by at most 2 units. Without such a frame at the head, nothing moves (R272, R273, R282, R298, R325, R327, R443). -/
def Obligations.DownFramesReachTheDriveDie : Prop :=
  (∀ (t : Time) (s : State),
    let b := begin' t s
    (headDown b = none → exec (.event t) s = .next b ∧ exec (.retime t) s = .next b ∧ exec (.withdraw t) s = .next b) ∧
    (∀ (f : Frame) (n id : Nat) (e : DrvEv) (time : Time), headDown b = some f →
      let c := drvCh s n
      let z := acceptDown f b
      (f.body.code ≠ 2 → exec (.event t) s = .next b) ∧ (f.body.code ≠ 3 → exec (.retime t) s = .next b) ∧
      (f.body.code ≠ 4 → exec (.withdraw t) s = .next b) ∧
      (leased z = false →
        (f.body = .event n e → exec (.event t) s = .next (sendLease (bump T.relayLost (discardEv n e z)))) ∧
        (f.body = .retime n id time → exec (.retime t) s = .next (sendLease (bump T.relayLost z))) ∧
        (f.body = .withdraw n id → exec (.withdraw t) s = .next (sendLease (bump T.relayLost z)))) ∧
      (leased s = true → f.leaseEpoch = s.drive.lease.e →
        (f.body = .event n e → chEnabled s n = true → Completes (.event t) s (fun u =>
          drvCh u n = { c with pending := storePut { e with late := decide ((e.time : Int) < driveNow b), arrival := c.arrivals } c.pending
                               arrivals := c.arrivals + 1 } ∧
          TookDown s u ∧ OthersKept drvCh n s u ∧ KeptBut (.drive :: .relay :: begun) s u)) ∧
        (f.body = .event n e → chEnabled s n = false → Completes (.event t) s (fun u =>
          drvCh u n = { c with discards := c.discards + 1 } ∧ TookDown s u ∧ OthersKept drvCh n s u ∧
          KeptBut (.drive :: .relay :: .engine :: begun) s u)) ∧
        (f.body = .retime n id time → Completes (.retime t) s (fun u =>
          (∀ y, c.pending.find? (fun z => z.id = id) = some y →
            drvCh u n = { c with pending := storePut { y with time := time } (c.pending.filter (fun z => z.id != id)) }) ∧
          (c.pending.find? (fun z => z.id = id) = none → drvCh u n = c) ∧
          TookDown s u ∧ OthersKept drvCh n s u ∧ KeptBut (.drive :: .relay :: begun) s u)) ∧
        (f.body = .withdraw n id → Completes (.withdraw t) s (fun u =>
          let waits := c.awaiting = true ∧ c.shot.any (fun sh => sh.ev = id && !sh.pulse) = true
          (c.pending.any (fun z => z.id = id) = true → drvCh u n = { c with pending := c.pending.filter (fun z => z.id != id) }) ∧
          (c.pending.any (fun z => z.id = id) = false → c.shooting = false → waits →
            (drvCh u n).shot = none ∧ (drvCh u n).on = false ∧ (sentUp u).length = (sentUp z).length + 1) ∧
          (c.pending.any (fun z => z.id = id) = false → ¬ waits → drvCh u n = c) ∧
          (c.shooting = false → OthersKept drvCh n s u) ∧ TookDown s u ∧ KeptBut (.drive :: .relay :: begun) s u))))) ∧
  (∀ (t : Time) (s : State),
    let b := begin' t s
    (headDown b = none → exec (.write t) s = .next b ∧ exec (.clear t) s = .next b ∧ ∀ drift, exec (.time t drift) s = .next b) ∧
    (∀ f : Frame, headDown b = some f →
      (f.body.code ≠ 5 → exec (.write t) s = .next b) ∧ (f.body.code ≠ 9 → exec (.clear t) s = .next b) ∧
      (f.body.code ≠ 6 → ∀ drift, exec (.time t drift) s = .next b) ∧
      (∀ (off : Nat) (v : W32), f.body = .write off v → exec (.write t) s = .next (drvApply off v (acceptDown f b)))) ∧
    (∀ f : Frame, ArrivesDown b f →
      (∀ (off : Nat) (v : W32) (r : Reg), f.body = .write off v → regAt off = some r →
        let old := tabGet r.reset s.drive.regs off
        let merged := regMerge r old v &&& ~~~ (v &&& r.w1c)
        let now' (u : State) : W32 := tabGet r.reset u.drive.regs off
        let kept (u : State) : Prop := (∀ n, drvCh u n = drvCh s n) ∧ TookDown s u ∧ KeptBut (.drive :: .relay :: begun) s u
        (off ≠ R.LEASE_CFG.base → regHas R.DRV_CH_CFG off = false → regHas R.DRV_PROF_HDR off = false → regHas R.DRV_TH_RREF off = false →
          Completes (.write t) s (fun u => now' u = merged ∧ kept u)) ∧
        (off = R.LEASE_CFG.base → Completes (.write t) s (fun u => now' u = v ∧ kept u)) ∧
        (∀ slot : Fin 32, off = regOff R.DRV_PROF_HDR slot 0 →
          Completes (.write t) s (fun u =>
            let err := if flag merged 31 then profileErr s slot merged else 0
            now' u = setFld (setFlag merged 31 (flag merged 31 && err = 0)) 30 28 err ∧ kept u)) ∧
        (∀ ch : Fin 64, off = regOff R.DRV_CH_CFG ch 0 →
          (flag old 31 = true → flag merged 31 = false → Completes (.write t) s (fun u =>
            now' u = merged ∧ (drvCh u ch).pending = [] ∧ (drvCh u ch).on = false ∧ TookDown s u ∧
            KeptBut (.drive :: .relay :: .engine :: begun) s u)) ∧
          (flag old 31 = false → flag merged 31 = true → Completes (.write t) s (fun u =>
            now' u = merged ∧ drvCh u ch = { drvCh s ch with calibrated := false, starved := false, gapAt := u.now
                                                             quietAt := max (drvCh s ch).quietAt u.now } ∧
            OthersKept drvCh ch s u ∧ TookDown s u ∧ KeptBut (.drive :: .relay :: begun) s u)) ∧
          (flag old 31 = flag merged 31 → Completes (.write t) s (fun u => now' u = merged ∧ kept u))) ∧
        (∀ ch : Fin 64, off = regOff R.DRV_TH_RREF ch 0 → Completes (.write t) s (fun u =>
          now' u = setFlag merged 31 (fld merged 15 0 ≠ 0) ∧ kept u))) ∧
      (∀ (n : Nat) (bits : W32), f.body = .clear n bits → Completes (.clear t) s (fun u =>
        (n < 64 → drd u R.DRV_FAULT n = drd s R.DRV_FAULT n &&& ~~~ bits) ∧
        (64 ≤ n → drd u R.DRV_HS_STAT (n - 64) = drd s R.DRV_HS_STAT (n - 64) &&& ~~~ bits) ∧
        u.drive.ch = s.drive.ch ∧ TookDown s u ∧ KeptBut (.drive :: .relay :: begun) s u)) ∧
      (∀ (x : Time) (drift : Int), f.body = .time x → Completes (.time t drift) s (fun u =>
        let off := s.drive.skew + drift + s.drive.rate
        (s.drive.synced = false → u.drive.skew = 0 ∧ u.drive.synced = true ∧ u.drive.rate = s.drive.rate) ∧
        (s.drive.synced = true → u.drive.skew = off - clampInt (-(2 ^ 25)) (2 ^ 25) off ∧
          (u.drive.skew - off).natAbs ≤ 2 * 2 ^ 24 ∧ u.drive.skew.natAbs ≤ off.natAbs ∧
          u.drive.rate = s.drive.rate - roundShift off 6) ∧
        u.drive.ch = s.drive.ch ∧ u.drive.regs = s.drive.regs ∧ TookDown s u ∧ KeptBut (.drive :: .relay :: begun) s u))))

/-- GRANT with a fresh epoch is taken while no lease is held, and the epoch held last or 0 is not; REVOKE, LEASE_TIMEOUT, and a frame that names another lease end the lease: every channel is off, every store empty, the converter stopped, the lapse counted; LEASE_REPEAT tells the control die again every 10 us. Before its time, or without such a frame at the head, none of them does anything (R310 to R314). LEASE_REGRANT: once the holddown has run and the rewrite is acknowledged, a fresh epoch, never 0, is granted, with notification 0x22; at the limit only a request does, with a SAFETY record; LEASE_REQ at the limit asks for one. Else neither does anything (R311, R317, R330, R519). -/
def Obligations.LeasesAreGrantedAndLapse : Prop :=
  (∀ (t : Time) (s : State),
    let b := begin' t s
    let l := s.drive.lease
    let ended (cause : Nat) (u : State) : Prop :=
      u.drive.lease.e = 0 ∧ u.drive.lease.last = l.e ∧ u.drive.lease.cause = cause ∧ u.drive.boostRun = false ∧ u.drive.boostGate = false ∧
      (∀ n, (drvCh u n).on = false ∧ (drvCh u n).pending = []) ∧
      tally u T.leaseLapses = tally s T.leaseLapses + 1 ∧ KeptBut (.drive :: .relay :: .tallies :: begun) s u
    (headDown b = none → exec (.grant t) s = .next b ∧ exec (.revoke t) s = .next b) ∧
    (∀ f : Frame, headDown b = some f →
      (f.body.code ≠ 7 → exec (.grant t) s = .next b) ∧ (f.body.code ≠ 8 → exec (.revoke t) s = .next b) ∧
      (∀ g : Nat, f.body = .grant g → exec (.grant t) s = .next (takeGrant g (acceptDown f b))) ∧
      (f.body = .revoke → exec (.revoke t) s = .next (lapse 5 (acceptDown f b))) ∧
      (l.e ≠ 0 → f.leaseEpoch ≠ l.e → f.leaseEpoch ≠ 0 → f.body = .revoke → Completes (.revoke t) s (ended 2))) ∧
    (∀ (f : Frame) (g : Nat), ArrivesDown b f →
      (f.body = .grant g →
        (l.e = 0 → g ≠ 0 → g ≠ l.last → Completes (.grant t) s (fun u =>
          u.drive.lease.e = g ∧ u.drive.lease.last = g ∧ u.drive.lease.timerAt = u.now ∧ u.drive.ch = s.drive.ch ∧
          (sentUp u).getLast? = some (.lease true g g l.cause) ∧ KeptBut (.drive :: .relay :: begun) s u)) ∧
        (l.e = 0 → (g = 0 ∨ g = l.last) → Completes (.grant t) s (fun u =>
          u.drive.lease.e = 0 ∧ u.drive.ch = s.drive.ch ∧
          (sentUp u).getLast? = some (.lease false 0 l.last l.cause) ∧ KeptBut (.drive :: .relay :: begun) s u)) ∧
        (l.e ≠ 0 → Completes (.grant t) s (fun u =>
          u.drive.lease = { l with timerAt := u.now } ∧ u.drive.ch = s.drive.ch ∧ TookDown s u ∧ KeptBut (.drive :: .relay :: begun) s u))) ∧
      (l.e ≠ 0 → f.body = .revoke → Completes (.revoke t) s (ended 5)) ∧
      (l.e = 0 → f.body = .revoke → Completes (.revoke t) s (fun u =>
        u.drive.ch = s.drive.ch ∧ u.drive.lease.e = 0 ∧ TookDown s u ∧ KeptBut (.drive :: .relay :: begun) s u))) ∧
    (let p := df s R.LEASE_CFG 0 5 0
     let due := l.e ≠ 0 ∧ l.timerAt + (if p = 0 then 1 else capNat 32 p) * 250 * usUnits ≤ b.now
     (due → exec (.leaseTimeout t) s = .next (lapse 1 b) ∧ Completes (.leaseTimeout t) s (ended 1)) ∧
     (¬ due → exec (.leaseTimeout t) s = .next b)) ∧
    (let due := l.e = 0 ∧ s.relay.trained = true ∧ s.drive.inReset = false ∧ l.leaseAt + 10 * usUnits ≤ b.now
     (due → Completes (.leaseRepeat t) s (fun u =>
        sentUp u = sentUp s ++ [.lease false 0 l.last l.cause] ∧ u.drive = { s.drive with lease := { l with leaseAt := u.now } } ∧
        KeptBut (.drive :: .relay :: begun) s u)) ∧
     (¬ due → exec (.leaseRepeat t) s = .next b))) ∧
  (∀ (t : Time) (s : State), let g := nextEpoch s
    let b := begin' t s
    let due := grantable s = true ∧ s.lease.startupDone = true ∧ heldDown b = true
    g ≠ 0 ∧ (s.lease.epoch < 65536 → g ≠ s.lease.epoch) ∧
    (¬ due → exec (.leaseRegrant t) s = .next b) ∧
    (due → limitReached s = false →
      exec (.leaseRegrant t) s = .next (sendGrant { b with lease := { s.lease with regrants := s.lease.regrants + 1 } }) ∧
      Completes (.leaseRegrant t) s (fun u =>
        u.lease = { s.lease with regrants := s.lease.regrants + 1, granting := some g } ∧
        sentDown u = sentDown s ++ [.grant g] ∧ KeptBut (.lease :: .relay :: delivering) s u)) ∧
    (due → limitReached s = true → s.lease.requests ≠ 0 →
      exec (.leaseRegrant t) s = .next (sendGrant (ledgerReport streamSafety 0x0A22 0 g
        { b with lease := { s.lease with requests := s.lease.requests - 1, regrants := s.lease.regrants + 1 } })) ∧
      Completes (.leaseRegrant t) s (fun u =>
        u.lease = { s.lease with requests := s.lease.requests - 1, regrants := s.lease.regrants + 1, granting := some g } ∧
        sentDown u = sentDown s ++ [.grant g] ∧ KeptBut (.lease :: .relay :: reporting) s u)) ∧
    (due → limitReached s = true → s.lease.requests = 0 → exec (.leaseRegrant t) s = .next b) ∧
    (∀ (a : Actor) (v : W32), gateWrite s a R.LEASE_REQ.base 4 = .allow →
      let host := decide (a = .host)
      let asks := flag v 0 = true ∧ limitReached s = true ∧ s.lease.reqFrom ≠ some (b.now, !host)
      (asks → Completes (.leaseReq t a v) s (fun u =>
        u.lease = { s.lease with requests := s.lease.requests + 1, reqFrom := some (u.now, host) } ∧ KeptBut (.lease :: begun) s u)) ∧
      (¬ asks → exec (.leaseReq t a v) s = .next b)))

/-- REPORT waits for the next sweep; FAULT sets the lane fault and the register bits it stands for, with notification 0x1F and a record, and a bank's those of its members; LEASE tells the control die the lease held, or its loss; STATUS brings the copy of a segment up to what the drive die shows, but for bits that a CLEAR on its way covers. Without such a frame at the head, on an untrained link, or with frames still on their way before a STATUS, nothing moves (R298, R304, R305, R307, R316, R323 to R325). IDLE is sent and accepted in its direction, and restarts the lease timer where it names the lease held; RELAY_FRAME_DISCARD drops the head of the flight and counts a bad check sum or link epoch, and a good frame that is next is not dropped; RELAY_RETRANSMIT, 2 us after the oldest unacknowledged frame was sent, sends every unacknowledged frame again; RELAY_LINK_DOWN, after 8 discards in a row or 20 us without acceptance, ends training and what is in flight; TIME_SEND sends the time every 10 us. Before its time none does anything. Every frame as sent passes the check of its CRC (R302, R303, R306 to R308). -/
def Obligations.UpFramesAndTheLink : Prop :=
  (∀ (t : Time) (s : State),
    let b := begin' t s
    (headUp b = none → exec (.report t) s = .next b ∧ exec (.fault t) s = .next b ∧ exec (.lease t) s = .next b) ∧
    (∀ f : Frame, headUp b = some f →
      (f.body.code ≠ 0xB → exec (.report t) s = .next b) ∧ (f.body.code ≠ 0xD → exec (.fault t) s = .next b) ∧
      (f.body.code ≠ 0xE → exec (.lease t) s = .next b) ∧
      (∀ r : Report, f.body = .report r → Completes (.report t) s (fun u =>
        u.drive = { s.drive with reports := s.drive.reports ++ [r] } ∧ TookUp s u ∧ KeptBut (.drive :: .relay :: begun) s u)) ∧
      (∀ (n : Nat) (w : W32), f.body = .fault n w →
        let z := takeUp f b
        (n < 64 → exec (.fault t) s = .next (notify 0x1F n w.toNat
            (ledgerReport (if bitOf w.toNat 4 || bitOf w.toNat 3 then streamSafety else streamFault) 0x051F n w.toNat
              (copyOr R.DRV_FAULT n w.toNat (chLaneFault n (faultLaneBits w.toNat) z)))) ∧
          Completes (.fault t) s (fun u =>
            (∀ k : Nat, laneOfDirect s n = some k →
              lane u k = { lane s k with faults := (lane s k).faults ||| faultLaneBits w.toNat } ∧ OthersKept lane k s u) ∧
            rd u R.DRV_FAULT n = (rd s R.DRV_FAULT n ||| w) ∧ TookUp s u ∧ KeptBut (.engine :: .relay :: .regs :: reporting) s u)) ∧
        (64 ≤ n → exec (.fault t) s = .next (notify 0x1F n w.toNat (ledgerReport streamSafety 0x051F n w.toNat
          ((members (n - 64)).foldl (fun s m => copyOr R.DRV_FAULT m 2 (chLaneFault m 4 s)) (copyOr R.DRV_HS_STAT (n - 64) w.toNat z)))))) ∧
      (∀ (e last cause : Nat), f.body = .lease true e last cause → Completes (.lease t) s (fun u =>
        u.lease = { s.lease with held := true, epoch := e, granting := none, lapsed := false, known := true } ∧
        (u.engine = if s.lease.held then s.engine else { s.engine with grantDue := true }) ∧ TookUp s u ∧
        KeptBut (.lease :: .engine :: .relay :: begun) s u)) ∧
      (∀ (e last cause : Nat), f.body = .lease false e last cause → Completes (.lease t) s (fun u =>
        u.lease.held = false ∧ u.lease.epoch = last ∧ u.lease.granting = none ∧ u.lease.known = true ∧
        (s.lease.held = true → u.lease.cause = cause ∧ u.lease.lapseAt = u.now ∧ u.lease.lapsed = true ∧
          u.lease.lapseEpoch = s.lease.epoch ∧ u.engine = { s.engine with lapseDue := true }) ∧
        (s.lease.held = false → u.engine = s.engine ∧ u.lease.cause = if cause = 0 then s.lease.cause else cause) ∧
        TookUp s u ∧ KeptBut (.lease :: .engine :: .relay :: begun) s u))) ∧
    (∀ (seg : Fin 233) (samples : List DriveSample) (vboost : List (BitVec 16)) (shunt : Nat) (diode : List DiodeSpan),
      let i := Instr.status t seg samples vboost shunt diode
      let c := drvCh s seg
      ((s.relay.trained = false ∨ s.relay.up.quiet = false) → exec i s = .next b) ∧
      (s.relay.trained = true → s.relay.up.quiet = true → Completes i s (fun u =>
        (∀ off ∈ (segOffsets seg).1, ∀ r, regAt off = some r → clearCovers u off = false → tabGet r.reset u.regs off = drvShows u off) ∧
        (∀ k ∈ (segOffsets seg).2, tally u k = dTally u k) ∧ u.relay.refreshed.contains seg.val = true ∧
        (∀ x : DriveSample, seg.val < 64 → samples.getLast? = some x →
          (drvCh u seg).current = capNat 0xFFFF (c.codeMa (senseCode s seg x.code)).toNat) ∧
        (∀ v : BitVec 16, seg.val = 136 → vboost.getLast? = some v → u.drive.vboost = v.toNat) ∧
        u.relay.up.expect = seqNext s.relay.up.expect ∧
        (seg.val < 64 ∨ 136 < seg.val → KeptBut (.drive :: .relay :: .regs :: .tallies :: .startup :: begun) s u) ∧
        KeptBut (.drive :: .relay :: .regs :: .startup :: .engine :: .freeDraws :: reporting) s u)))) ∧
  (∀ (t : Time) (s : State), let r := s.relay
    let b := begin' t s
    (∀ f : Frame, wireOk f.wire = true ∧ f.wire.length = 12 + f.body.payload.length) ∧
    (r.trained = true → r.down.quiet = true →
      exec (.idle t true) s = .next (withDown t (fun _ => true) (fun _ s => s) (pushDown .idle b)) ∧
      Completes (.idle t true) s (fun u => u.relay.down.expect = seqNext r.down.expect ∧ u.relay.down.next = seqNext r.down.next) ∧
      (believedEpoch s = s.drive.lease.e → Completes (.idle t true) s (fun u =>
        u.drive = { s.drive with lease := { s.drive.lease with timerAt := u.now } } ∧ KeptBut (.drive :: .relay :: begun) s u))) ∧
    (r.trained = true → r.up.quiet = true → Completes (.idle t false) s (fun u =>
      u.relay.up.expect = seqNext r.up.expect ∧ u.relay.up.next = seqNext r.up.next ∧ KeptBut (.relay :: begun) s u)) ∧
    ((r.trained = false ∨ r.down.quiet = false) → exec (.idle t true) s = .next b) ∧
    ((r.trained = false ∨ r.up.quiet = false) → exec (.idle t false) s = .next b) ∧
    (∀ (down : Bool) (flips : List Byte), let l := if down then r.down else r.up
      let i := Instr.relayFrameDiscard t down flips
      let put (m : Link) (x : State) : Prop := x.relay = if down then { r with down := m } else { r with up := m }
      (r.trained = false → exec i s = .next b) ∧
      (r.trained = true → l.flight = [] → wireOk flips = true → exec i s = .next b) ∧
      (r.trained = true → l.flight = [] → wireOk flips = false → Completes i s (fun u =>
        put { l with discards := l.discards + 1 } u ∧ tally u T.relayCrc = tally s T.relayCrc + 1 ∧ KeptBut (.relay :: .tallies :: begun) s u)) ∧
      (∀ (f : Frame) (rest : List Frame), r.trained = true → l.flight = f :: rest →
        let crc := !wireOk (flipBits f.wire flips)
        (crc = false → takes s l f = true → exec i s = .next b) ∧
        ((crc = true ∨ takes s l f = false) → Completes i s (fun u =>
          put { l with flight := rest, discards := l.discards + 1 } u ∧
          (crc = true ∨ f.epoch ≠ r.epoch → tally u T.relayCrc = tally s T.relayCrc + 1) ∧
          (crc = false → f.epoch = r.epoch → u.tallies = s.tallies) ∧ KeptBut (.relay :: .tallies :: begun) s u)))) ∧
    (∀ down : Bool, let l := if down then r.down else r.up
      let due := r.trained = true ∧ l.unacked.head?.any (fun f => decide (f.sentAt + 2 * usUnits ≤ b.now)) = true
      (¬ due → exec (.relayRetransmit t down) s = .next b) ∧
      (due → Completes (.relayRetransmit t down) s (fun u =>
        let fs := l.unacked.map (fun f => { f with sentAt := u.now })
        (u.relay = if down then { r with down := { l with unacked := fs, flight := fs } } else { r with up := { l with unacked := fs, flight := fs } }) ∧
        KeptBut (.relay :: begun) s u))) ∧
    (∀ down : Bool, let l := if down then r.down else r.up
      let due := r.trained = true ∧ (8 ≤ l.discards ∨ l.acceptedAt + 20 * usUnits ≤ b.now)
      (¬ due → exec (.relayLinkDown t down) s = .next b) ∧
      (due → Completes (.relayLinkDown t down) s (fun u =>
        u.relay = { r with trained := false, down := { r.down with flight := [] }, up := { r.up with flight := [] } } ∧
        KeptBut (.relay :: begun) s u))) ∧
    (let due := r.trained = true ∧ r.timeAt + 10 * usUnits ≤ b.now
     (¬ due → exec (.timeSend t) s = .next b) ∧
     (due → Completes (.timeSend t) s (fun u =>
        sentDown u = sentDown s ++ [.time u.now] ∧ u.relay.timeAt = u.now ∧ KeptBut (.relay :: begun) s u))))

/-- RELAY_TRAINED, once both dies are out of reset and have seen each other's, trains the link under its epoch, a new one after a die's reset; every unacknowledged frame stands in flight again, the training is counted, the drive die's revision is taken at the first training and start-up goes on. FAR_RESET_SEEN: the control die learns the lapse, discards what was for direct channels and owes the register rewrite; the drive die lapses its lease. Else neither does anything (R308, R309, R316, R319, R439, R514). -/
def Obligations.TrainingAndResetsOfTheFarDie : Prop :=
  ∀ (t : Time) (s : State), let r := s.relay
    let b := begin' t s
    (∀ revision : BitVec 8,
      let may := r.trained = false ∧ 4 ≤ s.startup.phase ∧ s.startup.phase ≤ 7 ∧ r.driveReset = false ∧
        r.controlReset = false ∧ r.driveSeen = true ∧ r.controlSeen = true
      let epoch := if r.renew then (r.epoch + 1) % 16 else r.epoch
      (¬ may → exec (.relayTrained t revision) s = .next b) ∧
      (may → Completes (.relayTrained t revision) s (fun u =>
        u.relay.trained = true ∧ u.relay.epoch = epoch ∧ u.relay.renew = false ∧ u.relay.refreshed = [] ∧
        u.relay.rewriteDue = false ∧ (r.rewriteDue = true → u.relay.rewriting = true) ∧
        (r.rewriteDue = false → u.relay.down = r.down.trained epoch u.now) ∧
        (s.drive.lease.e ≠ 0 → u.relay.up = r.up.trained epoch u.now) ∧
        tally u T.relayRetrain = tally s T.relayRetrain + 1 ∧ u.drive = { s.drive with synced := false } ∧
        u.security = (if s.startup.trained then s.security else { s.security with driveRevision := revision.toNat }) ∧ u.startup.trained = true ∧
        (s.startup.phase = 4 → s.startup.warm = false → u.startup.phase = 5) ∧
        (s.startup.phase ≠ 4 → u.startup.phase = s.startup.phase) ∧
        (s.drive.lease.e = 0 → sentUp u = sentUp s ++ [.lease false 0 s.drive.lease.last s.drive.lease.cause]) ∧
        KeptBut (.drive :: .relay :: .startup :: .security :: .tallies :: begun) s u))) ∧
    (r.driveSeen = true → exec (.farResetSeen t true) s = .next b) ∧
    (r.driveSeen = false → Completes (.farResetSeen t true) s (fun u =>
      u.relay = { r with trained := false, down := {}, up := {}, renew := true, driveSeen := true, lostStore := 0, rewriteDue := true, rewriting := true } ∧
      u.lease.granting = none ∧ u.lease.known = false ∧ u.lease.held = false ∧
      (s.lease.held = true → u.lease.cause = 4 ∧ u.lease.lapsed = true ∧ u.lease.lapseAt = u.now ∧
        tally u T.leaseLapses = tally s T.leaseLapses + 1) ∧
      u.engine.heap = s.engine.heap.filter (fun x => !(x.binding.isDirect && !x.kept)) ∧
      KeptBut (.relay :: .lease :: .engine :: .tallies :: begun) s u)) ∧
    (r.controlSeen = true → exec (.farResetSeen t false) s = .next b) ∧
    (r.controlSeen = false → Completes (.farResetSeen t false) s (fun u =>
      u.relay.controlSeen = true ∧ u.relay.trained = false ∧ u.relay.renew = true ∧ u.drive.lease.e = 0 ∧
      (s.drive.lease.e ≠ 0 → u.drive.lease.cause = 3 ∧ u.drive.lease.last = s.drive.lease.e ∧
        tally u T.leaseLapses = tally s T.leaseLapses + 1) ∧
      (s.drive.lease.e = 0 → u.drive = s.drive) ∧ KeptBut (.drive :: .relay :: .lease :: .tallies :: begun) s u))

/-- THERMAL_WINDOW, from one low-side closing to another at least 2 ms later, keeps the hot resistance it measures, and learns the reference where R321 lets it; THERMAL_UPDATE moves the temperature of the model by its step and the level with it, and a channel that reaches lockout sets its bit and runs no shot; off- and on-state open load set their fault bits with a FAULT frame and switch nothing. Without its condition none does anything (R320 to R324). SHORT_TO_BATTERY within short_us of gate-on, and TRIP_COMPARATOR while the low side conducts, latch the channel, which closes, or whose shot of the same clock never conducts; HIGH_SIDE_DESATURATION past its blanking latches the bank and every channel of it, with one FAULT frame for the bank. Without its condition none does anything (R271, R324 to R326). -/
def Obligations.ProtectionActsAndLatches : Prop :=
  (∀ (t : Time) (ch : Fin 64) (s : State), let c := drvCh s ch
    let b := begin' t s
    (∀ (start : Time) (mv ma : Nat), let stop := c.closings.getLast?.getD 0
      let i := Instr.thermalWindow t ch start mv ma
      let valid := c.closings.contains start = true ∧ start + 2 * msUnits ≤ stop ∧ ma ≠ 0
      let r := roundDivNat (mv * 1000) ma
      let learns := db s R.DRV_TH_CFG ch 30 = true ∧ thLearned s ch = false ∧ start ≤ c.shotAt + secUnits ∧
        df s R.DRV_TH_LEARN 0 7 0 * 60 * secUnits ≤ c.coolBefore
      (¬ valid → exec i s = .next b) ∧
      (valid → Completes i s (fun u =>
        drvCh u ch = { c with rHot := some r, windowAt := some u.now, closings := [stop] } ∧ OthersKept drvCh ch s u ∧
        (¬ learns → u.drive.regs = s.drive.regs) ∧
        (∀ x : Nat, learns → learnedRef s r = some x → x ≠ 0 → drd u R.DRV_TH_RREF ch = BitVec.ofNat 32 (2 ^ 31 + x)) ∧
        (learns → learnedRef s r = some 0 → u.drive.regs = s.drive.regs) ∧
        (learns → learnedRef s r = none → thLearned u ch = true) ∧
        KeptBut (.drive :: .freeDraws :: begun) s u))) ∧
    (∀ i2 : Nat, let x := thStep b ch i2
      let seen := c.windowNow b.now && thLearned s ch
      let l := thLevel s c.level x
      let on := chEnabled s ch = true ∧ db s R.DRV_TH_CFG ch 31 = true
      (¬ on → exec (.thermalUpdate t ch i2) s = .next b) ∧
      (on → Completes (.thermalUpdate t ch i2) s (fun u => let y := drvCh u ch
        y.temp = some x ∧ y.level = l ∧ y.measured = seen ∧ y.windowAt = none ∧
        (l < 3 ∨ 3 ≤ c.level → y = { c with temp := some x, level := l, measured := seen, windowAt := none } ∧
          OthersKept drvCh ch s u ∧ KeptBut (.drive :: begun) s u) ∧
        (l = 3 → c.level < 3 → db u R.DRV_FAULT ch 0 = true ∧
          ((c.shooting = true → c.shot ≠ none) → y.shooting = false ∧ y.awaiting = false) ∧ (c.pulsing = false → y.on = false)) ∧
        KeptBut (.drive :: .relay :: begun) s u))) ∧
    (let faulted (bit : Nat) (i : Instr) : Prop := Completes i s (fun u =>
        db u R.DRV_FAULT ch bit = true ∧ drvCh u ch = c ∧ OthersKept drvCh ch s u ∧
        sentUp u = sentUp s ++ (if db s R.DRV_FAULT ch bit then [] else [.fault ch (BitVec.ofNat 32 (2 ^ bit))]) ∧
        KeptBut (.drive :: .relay :: begun) s u)
     (∀ drain vbat held : Nat,
        let open' := db s R.DRV_DIAG_CFG ch 31 = true ∧ c.st = 0 ∧ railBoost s (bankOf ch) = false ∧ s.drive.inReset = false ∧
          2 * drain < vbat ∧ msUnits ≤ held
        (open' → faulted 6 (.offStateOpenLoad t ⟨ch, drain, vbat, held⟩)) ∧
        (¬ open' → exec (.offStateOpenLoad t ⟨ch, drain, vbat, held⟩) s = .next b)) ∧
     (∀ ma : Nat,
        let w := drd s R.DRV_DIAG_CFG ch
        let open' := flag w 30 = true ∧ conducting s ch = true ∧ ma < fld w 15 8 * 10 ∧
          (c.shot.bind (·.gateOn)).any (fun g => decide (g + fld w 7 0 * tenUs ≤ b.now)) = true
        (open' → faulted 5 (.onStateOpenLoad t ch ma)) ∧
        (¬ open' → exec (.onStateOpenLoad t ch ma) s = .next b)))) ∧
  (∀ (t : Time) (s : State),
    let b := begin' t s
    (∀ (ch : Fin 64) (ma : Nat), let c := drvCh s ch
      let latched (bits : Nat) (i : Instr) : Prop :=
        exec i s = .next (latchCh ch bits b) ∧
        ∀ (sh : Shot) (g : Time), c.shot = some sh → sh.gateOn = some g → Completes i s (fun u =>
          (drd u R.DRV_FAULT ch &&& BitVec.ofNat 32 bits) = BitVec.ofNat 32 bits ∧ chLatched u ch = true ∧
          (drvCh u ch).on = false ∧ (drvCh u ch).shot = none ∧ (drvCh u ch).low = false ∧
          (g < b.now → (drvCh u ch).st = 4 ∧ (drvCh u ch).gateOff = some u.now) ∧
          (g = b.now → sh.due = b.now → (drvCh u ch).st = 0 ∧ (drvCh u ch).gateOff = c.gateOff) ∧
          (∀ m, bankOf m ≠ bankOf ch → drvCh u m = drvCh s m) ∧ KeptBut (.drive :: .relay :: begun) s u)
      (let trips := c.shooting = true ∧ df s R.DRV_TRIP ch 15 0 ≤ ma ∧
         (c.shot.bind (·.gateOn)).any (fun g => decide (b.now ≤ g + df s R.DRV_DIAG_CFG ch 23 16 * usUnits)) = true
       (trips → latched 16 (.shortToBattery t ch ma)) ∧ (¬ trips → exec (.shortToBattery t ch ma) s = .next b)) ∧
      (let trips := c.shooting = true ∧ c.low = true ∧ c.reaches ma (df s R.DRV_TRIP ch 31 16) = true
       (trips → latched 8 (.tripComparator t ch ma)) ∧ (¬ trips → exec (.tripComparator t ch ma) s = .next b))) ∧
    (∀ (bank : Fin 8) (dv on held : Nat),
      let trips := railBoost s bank = true ∧ df s R.DRV_HS_CFG bank 15 8 < dv ∧ 100 ≤ held ∧ df s R.DRV_HS_CFG bank 7 0 * 20 + held ≤ on
      (¬ trips → exec (.highSideDesaturation t bank dv ⟨on, held⟩) s = .next b) ∧
      (trips → Completes (.highSideDesaturation t bank dv ⟨on, held⟩) s (fun u =>
        bankLatched u bank = true ∧ (members bank).all (fun n => chLatched u n && !(drvCh u n).on) = true ∧
        ((sentUp u).drop (sentUp s).length).head? = some (.fault (64 + bank) 1) ∧
        (∀ m, bankOf m ≠ bank.val → drvCh u m = drvCh s m) ∧ KeptBut (.drive :: .relay :: begun) s u))))

/-- Software's writes of the drive pages go to the drive die as a WRITE frame, and reads show them only once the register copy has been refreshed: DRV_CHANNEL_DISABLE clears the enable, PROFILE_VALIDATE sets valid, and r_ref, the fault bits and the bank latch go as written; a profile slot in use may not be written (R273, R282, R298, R301, R321, R325). -/
def Obligations.DriveWritesGoToTheDriveDie : Prop :=
  ∀ (t : Time) (a : Actor) (v : W32) (s : State),
    let goes (i : Instr) (r : Reg) (n : Nat) (w : W32) : Prop := gateWrite s a (regOff r n 0) 4 = .allow →
      exec i s = .next (pushDown (.write (regOff r n 0) w) (begin' t s)) ∧
      Completes i s (fun u => sentDown u = sentDown s ++ [.write (regOff r n 0) w] ∧ KeptBut (.relay :: begun) s u)
    (∀ ch : Fin 64,
      goes (.drvChannelDisable t a ch) R.DRV_CH_CFG ch (setFlag (rd s R.DRV_CH_CFG ch) 31 false) ∧
      goes (.drvThRrefWrite t a ch v) R.DRV_TH_RREF ch v ∧
      goes (.drvFaultClear t a ch v) R.DRV_FAULT ch v) ∧
    (∀ bank : Fin 8, goes (.drvHsStatClear t a bank v) R.DRV_HS_STAT bank v) ∧
    (∀ slot : Fin 32,
      (slotInUse s slot = false → goes (.profileValidate t a slot v) R.DRV_PROF_HDR slot (setFlag v 31 true)) ∧
      (gateWrite s a (regOff R.DRV_PROF_HDR slot 0) 4 = .allow → slotInUse s slot = true →
        exec (.profileValidate t a slot v) s = .fault (.undefinedUse 301)))

/-- COLD_RESET, where a rail has stood below its monitor's threshold (VCORE 740 mV, VIO18 1,650, VIO33 3,000) for 100 units of device time or SYS_RESET_N has been low for 1 us, returns every unit to its reset state and device time to 0, keeps OTP, flash, host memory and the always-on domain, and raises the power-cycle counter; with neither cause nothing moves. WARM_RESET and the clock-fault resets reset the control die alone: device time, the drive die, SRAM and the always-on domain stay, the next start is warm, and RST_CAUSE names the kind; a warm reset sends REVOKE first, and a clock-fault reset leaves device time coarse until the PLL locks. REFERENCE_CLOCK_FAULT makes one where the reference is off by more than 1 % or has stopped for 1 us, and PLL_LOCK_LOST where the PLL was locked; else neither moves anything, and while a cold reset is held none of these does (R436, R438, R440, R442, R481, R492, R552). -/
def Obligations.ResetsReachWhatTheySay : Prop :=
  ∀ (t : Time) (s : State),
    let b := begin' t s
    let keeps (u : State) : Prop :=
      u.now = b.now ∧ u.drive = { s.drive with reports := [] } ∧ u.aon = s.aon ∧
      u.messageStore = s.messageStore ∧ u.appSram = s.appSram ∧ u.hostMem = s.hostMem ∧
      u.regs = [] ∧ u.engine = State.reset.engine ∧ u.course = State.reset.course ∧ u.bus = [] ∧ u.eth = State.reset.eth ∧
      u.loops = State.reset.loops ∧ u.feedback = State.reset.feedback ∧ u.cores = [] ∧ u.pwm = { State.reset.pwm with pins := s.pwm.pins } ∧
      (∀ n : Fin 128, ring u n = ring State.reset n) ∧ u.startup.warm = true ∧ u.startup.phase = 0 ∧ u.startup.released = true ∧ u.eventLines = [] ∧
      u.lease.held = false ∧ u.lease.regrants = s.lease.regrants ∧ u.security.slots = s.security.slots ∧
      u.security.oemHash = s.security.oemHash ∧ u.security.keysDead = s.security.keysDead ∧ u.security.charter = [] ∧
      u.clocks.causeCold = s.clocks.causeCold
    let coarse (u : State) : Prop := keeps u ∧ u.clocks.sysLock = false ∧ u.clocks.timeCoarse = true ∧ u.clocks.coarseFrom = some u.now ∧
      u.clocks.causeWarm = s.clocks.causeWarm
    (∀ vcore vio18 vio33 held low : Nat, let cause := (vcore < 740 ∨ vio18 < 1650 ∨ vio33 < 3000) ∧ 100 ≤ held ∨ usUnits ≤ low
      let c : Instr := .coldReset ⟨t, vcore, vio18, vio33, held, low⟩
      (cause → exec c s = .next (coldReset b) ∧ Completes c s (fun u =>
        u.now = 0 ∧ u.hostMem = s.hostMem ∧ u.messageStore = [] ∧ u.appSram = [] ∧ u.regs = [] ∧ u.tallies = [] ∧
        u.engine = State.reset.engine ∧ u.course = State.reset.course ∧ u.drive = State.reset.drive ∧ u.relay = State.reset.relay ∧
        u.bus = [] ∧ u.eth = State.reset.eth ∧ u.loops = State.reset.loops ∧ u.feedback = State.reset.feedback ∧ u.cores = [] ∧
        u.startup = State.reset.startup ∧ u.clocks = State.reset.clocks ∧ u.lease = State.reset.lease ∧
        u.aon.opSeconds = s.aon.opSeconds ∧ u.aon.nextPos = s.aon.nextPos ∧ u.aon.powerCycles = min (s.aon.powerCycles + 1) 0xFFFFFF ∧
        u.aon.alarmLatch = s.aon.alarmLatch ∧ u.aon.killLatch = s.aon.killLatch ∧ u.aon.rtcValid = s.aon.rtcValid ∧
        u.security.slots = s.security.slots ∧ u.security.oemHash = s.security.oemHash ∧ u.security.keysDead = s.security.keysDead)) ∧
      (¬cause → exec c s = .next b)) ∧
    (s.startup.released = false →
      exec (.warmReset t) s = .next b ∧ exec (.pllLockLost t) s = .next b ∧
      (∀ pll : Bool, exec (.clockFaultReset t pll) s = .next b) ∧
      (∀ edges gap : Nat, exec (.referenceClockFault ⟨t, edges, gap⟩) s = .next b)) ∧
    (s.startup.released = true → exec (.warmReset t) s = .next (warmReset (pushDown .revoke b)) ∧ Completes (.warmReset t) s (fun u =>
      keeps u ∧ u.clocks.causeWarm = true ∧ u.clocks.causeRef = s.clocks.causeRef ∧ u.clocks.causePll = s.clocks.causePll)) ∧
    (∀ pll : Bool, s.startup.released = true → exec (.clockFaultReset t pll) s = .next (clockFaultReset pll b) ∧ Completes (.clockFaultReset t pll) s (fun u =>
      coarse u ∧ u.clocks.causeRef = (s.clocks.causeRef || !pll) ∧ u.clocks.causePll = (s.clocks.causePll || pll) ∧
      u.clocks.fbReset = true ∧ u.clocks.busReset = true ∧ u.clocks.ethLock = (s.clocks.ethLock && pll))) ∧
    (∀ edges gap : Nat, s.startup.released = true → exec (.referenceClockFault ⟨t, edges, gap⟩) s =
      .next (if edges < 24750 ∨ 25250 < edges ∨ usUnits ≤ gap then clockFaultReset false b else b)) ∧
    (s.startup.released = true → exec (.pllLockLost t) s = .next (if s.clocks.sysLock then clockFaultReset true b else b))

/-- A domain reset, FB 0, BUS 1 or ETH 2, clears the domain's unit, but the targets that crossing 15 holds, its registers, tallies and latches, and holds it in reset; DOMAIN_RESET_RELEASE ends that once its clock has been healthy for 1 ms, and its PLL is locked. DOMAIN_CLOCK_FAULT, of a clock more than 1 edge in a microsecond off 160 or 80, and ETH_LOCK_LOST set the CLK_STAT bit, raise kind 0x34 and reset the domain; a clock nearer to nominal moves nothing. PLL_LOCK sets its lock bit, in the rom state releases its domains, and after a clock-fault reset advances device time by the 32.768 kHz edges; edges x 390625 / 64 of them, rounded to nearest (R7, R435 to R438, R442). A loss of the link, by PIPE_LOCK_LOST or PERST low, clears the host side of Cister, as a Function Level Reset does, and makes the endpoint not ready; the former also reports CLK_STAT bit 0. RTC_CLOCK_FAULT reports bit 5 where the clock is off by more than 0.1 % or stopped for 1 ms. DRIVE_DIE_RESET, with VBAT below 7.5 V or VIO33 outside 3.135 to 3.465 V, empties the drive die, and DRIVE_OSCILLATOR_FAULT, more than 20 edges off 400, does so too and reports kind 0x34; DRIVE_DIE_RESET_RELEASE ends the reset once VBAT is at 8 V and VIO33 good for 1 ms. ALWAYS_ON_RESET, with VBACKUP below 1.8 V and VIO33 below 3.0 V for 500 ns, makes the RTC invalid and clears both counters, and leaves all else. Where its condition fails, each moves nothing (R68, R310, R436 to R438, R492, R512, R552). -/
def Obligations.DomainsLinksAndDriveDieReset : Prop :=
  (∀ (t : Time) (s : State), let c := s.clocks
    let b := begin' t s
    let cleared (lo hi : Nat) (u : State) : Prop := ∀ off : Fin 0x100000, lo ≤ off.val → off.val < hi → ∀ d, tabGet d u.regs off = d
    let fb (u : State) : Prop := u.feedback = State.reset.feedback ∧ u.clocks.fbReset = true ∧ cleared 0x9000 0xA000 u
    let bus (u : State) : Prop := u.bus = [] ∧ u.clocks.busReset = true ∧ cleared 0x18000 0x21000 u
    let eth (u : State) : Prop := u.eth = { State.reset.eth with queue := s.eth.queue } ∧ u.clocks.ethReset = true ∧ cleared 0xB000 0xC000 u
    let moved : List Piece := .regs :: .tallies :: .hiLatch :: .clocks :: begun
    (∀ d : Fin 3, exec (.domainReset t d) s = .next (domainReset d b)) ∧
    Completes (.domainReset t 0) s (fun u => fb u ∧ KeptBut (.feedback :: moved) s u) ∧
    Completes (.domainReset t 1) s (fun u => bus u ∧ KeptBut (.bus :: moved) s u) ∧
    Completes (.domainReset t 2) s (fun u => eth u ∧ KeptBut (.eth :: moved) s u) ∧
    (∀ edges : Nat,
      ((edges < 159 ∨ 161 < edges) → exec (.domainClockFault t ⟨false, edges⟩) s = .next (domainReset 0 (clockFault 2 b)) ∧
        Completes (.domainClockFault t ⟨false, edges⟩) s (fun u => fb u ∧ bitOf u.clocks.faults 2 = true ∧
          KeptBut (.feedback :: .regs :: .hiLatch :: .clocks :: reporting) s u)) ∧
      (159 ≤ edges → edges ≤ 161 → exec (.domainClockFault t ⟨false, edges⟩) s = .next b) ∧
      ((edges < 79 ∨ 81 < edges) → exec (.domainClockFault t ⟨true, edges⟩) s = .next (domainReset 1 (clockFault 3 b)) ∧
        Completes (.domainClockFault t ⟨true, edges⟩) s (fun u => bus u ∧ bitOf u.clocks.faults 3 = true ∧
          KeptBut (.bus :: .regs :: .hiLatch :: .clocks :: reporting) s u)) ∧
      (79 ≤ edges → edges ≤ 81 → exec (.domainClockFault t ⟨true, edges⟩) s = .next b)) ∧
    exec (.ethLockLost t) s = .next (domainReset 2 (clockFault 4 { b with clocks := { c with ethLock := false } })) ∧
    Completes (.ethLockLost t) s (fun u => eth u ∧ bitOf u.clocks.faults 4 = true ∧ u.clocks.ethLock = false ∧
      KeptBut (.eth :: .regs :: .hiLatch :: .clocks :: reporting) s u) ∧
    (∀ (d : Fin 3) (healthy : Time),
      (healthy + msUnits ≤ b.now → exec (.domainResetRelease t d healthy) s = .next { b with
        clocks := (if d = 0 then { c with fbReset := c.fbReset && !c.sysLock }
          else if d = 1 then { c with busReset := c.busReset && !c.sysLock } else { c with ethReset := c.ethReset && !c.ethLock }) }) ∧
      (b.now < healthy + msUnits → exec (.domainResetRelease t d healthy) s = .next b)) ∧
    (∀ edges : Nat, let starting := decide (s.startup.phase = 0)
      exec (.pllLock t 0 edges) s = .next { b with
        now := c.coarseFrom.elim b.now (fun t0 => max b.now (t0 + roundDivNat (edges * 390625) 64))
        clocks := { c with sysLock := true, coarseFrom := none, fbReset := c.fbReset && !starting, busReset := c.busReset && !starting } } ∧
      exec (.pllLock t 1 edges) s = .next { b with clocks := { c with ethLock := true, ethReset := c.ethReset && !starting } } ∧
      exec (.pllLock t 2 edges) s = .next { b with clocks := { c with pipeLock := true } })) ∧
  (∀ (t : Time) (s : State), let b := begin' t s
    let hostGone (u : State) : Prop :=
      u.cister.endpointReady = false ∧ u.cister.busMaster = false ∧
      (∀ n : Fin 128, n.val ≠ 90 → (ring s n).onChip = false → ring u n = ringCleared n (ring s n)) ∧
      (∀ n : Fin 128, n.val ≠ 90 → n.val ≠ 85 → (ring s n).onChip = true → ring u n = ring s n) ∧
      u.engine.lanes = s.engine.lanes ∧ u.drive = s.drive
    let hostMoved : List Piece := .cister :: .tallies :: .regs :: .hiLatch :: .security :: .engine :: .bus :: .course :: begun
    let driveGone (u : State) : Prop :=
      u.drive = { State.reset.drive with inReset := true, resetAt := u.now, reports := s.drive.reports } ∧ u.relay.driveReset = true ∧
      u.relay.trained = false ∧ u.relay.driveSeen = false
    exec (.pipeLockLost t) s = .next (clockFault 0 (hostSideReset { b with
      clocks := { s.clocks with pipeLock := false }, cister := { b.cister with endpointReady := false } })) ∧
    Completes (.pipeLockLost t) s (fun u => hostGone u ∧ u.clocks.pipeLock = false ∧ bitOf u.clocks.faults 0 = true ∧
      KeptBut (.clocks :: .ledger :: .hostMem :: .messageStore :: hostMoved) s u) ∧
    exec (.perst t true) s = .next (hostSideReset { b with cister := { b.cister with perstHigh := false, endpointReady := false } }) ∧
    Completes (.perst t true) s (fun u => hostGone u ∧ u.cister.perstHigh = false ∧ KeptBut hostMoved s u) ∧
    exec (.perst t false) s = .next { b with cister := { b.cister with perstHigh := true } } ∧
    (∀ edges gap : Nat, let off := edges * 1000 < 32768000 - 32768 ∨ 32768000 + 32768 < edges * 1000 ∨ msUnits ≤ gap
      (off → exec (.rtcClockFault ⟨t, edges, gap⟩) s = .next (clockFault 5 b) ∧ Completes (.rtcClockFault ⟨t, edges, gap⟩) s (fun u =>
        bitOf u.clocks.faults 5 = true ∧ (∀ i : Fin 5, bitOf u.clocks.faults i = bitOf s.clocks.faults i) ∧
        KeptBut (.clocks :: reporting) s u)) ∧
      (¬off → exec (.rtcClockFault ⟨t, edges, gap⟩) s = .next b)) ∧
    (∀ vbat vio33 : Nat, let bad := vbat < 7500 ∨ vio33 < 3135 ∨ 3465 < vio33
      (bad → exec (.driveDieReset ⟨t, vbat, vio33⟩) s = .next (driveDieReset b) ∧ Completes (.driveDieReset ⟨t, vbat, vio33⟩) s (fun u =>
        driveGone u ∧ KeptBut (.drive :: .relay :: .tallies :: begun) s u)) ∧
      (¬bad → exec (.driveDieReset ⟨t, vbat, vio33⟩) s = .next b) ∧
      (∀ good : Nat, exec (.driveDieResetRelease ⟨t, vbat, vio33, good⟩) s =
        .next (if 8000 ≤ vbat ∧ 3135 ≤ vio33 ∧ vio33 ≤ 3465 ∧ msUnits ≤ good then
          { b with drive := { s.drive with inReset := false }, relay := { s.relay with driveReset := false } } else b))) ∧
    (∀ edges : Nat,
      ((edges < 380 ∨ 420 < edges) → Completes (.driveOscillatorFault ⟨t, edges⟩) s (fun u =>
        driveGone u ∧ u.clocks = s.clocks ∧ KeptBut (.drive :: .relay :: .freeDraws :: reporting) s u)) ∧
      (380 ≤ edges → edges ≤ 420 → exec (.driveOscillatorFault ⟨t, edges⟩) s = .next b)) ∧
    (∀ vbackup vio33 held : Nat,
      (vbackup < 1800 → vio33 < 3000 → 100 ≤ held → Completes (.alwaysOnReset ⟨t, vbackup, vio33, held⟩) s (fun u =>
        u.aon = { s.aon with rtcValid := false, rtcMillis := 0, rtcAt := u.now, opSeconds := 0, opAt := u.now, powerCycles := 0 } ∧
        KeptBut (.aon :: begun) s u)) ∧
      ((1800 ≤ vbackup ∨ 3000 ≤ vio33 ∨ held < 100) → exec (.alwaysOnReset ⟨t, vbackup, vio33, held⟩) s = .next b)))

/-- CROSSING_FAR_RESET of a crossing, for one that has a clock domain or the link behind it while that is in reset, marks it down, and discards and counts what it holds: the waiting captures of crossing 4, the unsent commands and the cancels of every port and the convoy frames at crossing 12, the targets of crossing 15, and every fetched descriptor of the rings behind crossings 12 and 14, which completes with status 0x0007; while that is not so, or of a crossing already down, nothing moves. CROSSING_RESTART clears both marks and its event lines once the far side is back. While the far side is in reset, an item given to a crossing is discarded and counted, and kind 0x35 is raised for the first (R448, R449, R450). -/
def Obligations.CrossingsDiscardAndRestart : Prop :=
  ∀ (t : Time) (k : Fin 18) (s : State), let b := begin' t s
    let inReset := if k.val ≤ 2 then s.cister.perstHigh = false ∨ s.clocks.pipeLock = false
      else if k.val = 3 ∨ k.val = 4 ∨ k.val = 5 ∨ k.val = 6 then s.clocks.fbReset = true
      else if k.val = 8 ∨ k.val = 12 ∨ k.val = 13 then s.clocks.busReset = true
      else if k.val = 9 ∨ k.val = 14 ∨ k.val = 15 then s.clocks.ethReset = true else False
    let falls := k.val = 7 ∨ k.val = 10 ∨ k.val = 11 ∨ 16 ≤ k.val ∨ inReset
    let down : State := { b with clocks := { s.clocks with farDown := s.clocks.farDown ++ [k.val] } }
    let lost (n : Nat) (u : State) : Prop := tally u (T.xingLost k) = tally s (T.xingLost k) + BitVec.ofNat 32 n
    (s.clocks.farDown.contains k.val = false → falls →
      exec (.crossingFarReset t k) s = .next ((crossingRings k).foldl (fun x n => loseFetched k n x) (loseHeld k down)) ∧
      (k ≠ 2 → k ≠ 4 → k ≠ 12 → k ≠ 14 → k ≠ 15 → exec (.crossingFarReset t k) s = .next down) ∧
      (k = 4 → Completes (.crossingFarReset t k) s (fun u =>
        u.course = { s.course with captures := [] } ∧ lost s.course.captures.length u ∧ KeptBut (.course :: .clocks :: delivering) s u)) ∧
      (k = 15 → Completes (.crossingFarReset t k) s (fun u =>
        u.eth = { s.eth with queue := [] } ∧ lost s.eth.queue.length u ∧ KeptBut (.eth :: .clocks :: delivering) s u)) ∧
      (k = 12 → Completes (.crossingFarReset t k) s (fun u =>
        u.engine.convoy.outbox = [] ∧
        (∀ p : Fin 32, slotCancels u p = [] ∧ slotQueue u p = (slotQueue s p).filter (·.sent) ∧
          ((ring s (16 + p)).cmpMode ≠ 2 → ∀ y ∈ (ring u (16 + p)).fetched, y.phase ≠ .waiting ∧ y.phase ≠ .running)) ∧
        KeptBut (.engine :: .clocks :: delivering) s u)) ∧
      (k = 14 → Completes (.crossingFarReset t k) s (fun u =>
        (∀ n ∈ [80, 81], (ring s n).cmpMode ≠ 2 → ∀ y ∈ (ring u n).fetched, y.phase ≠ .waiting ∧ y.phase ≠ .running) ∧
        KeptBut (.clocks :: delivering) s u))) ∧
    (s.clocks.farDown.contains k.val = true ∨ ¬falls → exec (.crossingFarReset t k) s = .next b) ∧
    (inReset → exec (.crossingRestart t k) s = .next b) ∧
    (¬inReset → Completes (.crossingRestart t k) s (fun u =>
      u.clocks = { s.clocks with farDown := s.clocks.farDown.filter (· != k.val), discarding := s.clocks.discarding.filter (· != k.val) } ∧
      u.eventLines = s.eventLines.filter (fun e => !decide (k = 2 ∧ e.1 < 64 ∨ k = 11 ∧ e.1 = pwmLine)) ∧
      KeptBut (.clocks :: .eventLines :: begun) s u)) ∧
    (∀ (f : State → State) (x : State), crossDown x k = true →
      tally (cross k f x) (T.xingLost k) = tally x (T.xingLost k) + 1 ∧
      (x.clocks.discarding.contains k.val = true → KeptBut [.tallies] x (cross k f x)) ∧
      (x.clocks.discarding.contains k.val = false → (cross k f x).clocks.discarding = x.clocks.discarding ++ [k.val] ∧
        KeptBut (.clocks :: delivering) x (cross k f x))) ∧
    (∀ (f : State → State) (x : State), crossDown x k = false → cross k f x = f x) ∧
    (∀ (n : Fin 48) (a : Actor) (v : W64), crossDown s 10 = true → s.clocks.discarding.contains 10 = true →
      gateWrite s a (regOff R.PWM_CMP n 0) 8 = .allow → Completes (.pwmCmpPerWrite t a n v) s (fun u =>
        tally u (T.xingLost 10) = tally s (T.xingLost 10) + 1 ∧ KeptBut (.tallies :: begun) s u))

/-- Each violation source is recorded in the alarm state and in the always-on latch and answered at its level: 1 and above lock the keys, 2 and above erase the audit key, 3 sets the kill latch, kills the keys for good and, after REVOKE, makes a warm reset. The sources are: 0 VCORE outside 720 to 880 mV or VIO18 outside 1,620 to 1,980 for 2 ns after release, 1 a clock phase below 600 ps, 3 a junction above 140 or below -55 degrees for 1 ms, 4 the mesh, always at level 3, 5 the eighth failed signature check in a row, once until one passes, 6 more region faults in the present second than the charter's threshold, once in it. A lockstep mismatch or the monitor's watchdog sends REVOKE and makes a warm reset while the monitor runs. Where its condition fails, each moves nothing (R476 to R479, R481). -/
def Obligations.ViolationsAreAnsweredAtTheirLevel : Prop :=
  ∀ (t : Time) (s : State), let b := begin' t s
    let answered (src : Nat) (u : State) : Prop := let lv := alarmLevel s src
      bitOf u.aon.alarmLatch src = true ∧
      (lv < 3 → bitOf u.security.alarms src = true ∧ u.security.level = max s.security.level lv ∧
        u.security.keyLock = (s.security.keyLock || decide (1 ≤ lv)) ∧ u.security.auditErased = (s.security.auditErased || decide (2 ≤ lv)) ∧
        u.security.keysDead = s.security.keysDead ∧ u.aon.killLatch = s.aon.killLatch ∧ KeptBut (.aon :: .security :: reporting) s u) ∧
      (lv = 3 → u.aon.killLatch = true ∧ u.security.keysDead = true ∧ u.security.keysPresent = false ∧
        u.clocks.causeWarm = true ∧ u.startup.phase = 0 ∧ u.startup.warm = true)
    let warm (c : Instr) : Prop := exec c s = .next (warmReset (pushDown .revoke b)) ∧ Completes c s (fun u =>
      u.clocks.causeWarm = true ∧ u.startup.phase = 0 ∧ u.startup.warm = true ∧ u.aon = s.aon)
    (∀ vcore vio18 ns : Nat, let cause := s.startup.released = true ∧ (vcore < 720 ∨ 880 < vcore ∨ vio18 < 1620 ∨ 1980 < vio18) ∧ 2 ≤ ns
      (cause → exec (.voltageGlitch ⟨t, vcore, vio18, ns⟩) s = .next (violation 0 b) ∧ Completes (.voltageGlitch ⟨t, vcore, vio18, ns⟩) s (answered 0)) ∧
      (¬cause → exec (.voltageGlitch ⟨t, vcore, vio18, ns⟩) s = .next b)) ∧
    (∀ ps : Nat, (ps < 600 → exec (.clockGlitch ⟨t, ps⟩) s = .next (violation 1 b) ∧ Completes (.clockGlitch ⟨t, ps⟩) s (answered 1)) ∧
      (600 ≤ ps → exec (.clockGlitch ⟨t, ps⟩) s = .next b)) ∧
    (∀ (deci : Int) (held : Nat), let cause := (1400 < deci ∨ deci < -550) ∧ msUnits ≤ held
      (cause → exec (.temperatureViolation ⟨t, deci, held⟩) s = .next (violation 3 b) ∧ Completes (.temperatureViolation ⟨t, deci, held⟩) s (answered 3)) ∧
      (¬cause → exec (.temperatureViolation ⟨t, deci, held⟩) s = .next b)) ∧
    (exec (.meshViolation t) s = .next (violation 4 b) ∧ Completes (.meshViolation t) s (answered 4) ∧ alarmLevel s 4 = 3) ∧
    (let cause := 8 ≤ s.aon.sigFails ∧ s.aon.sigRaised = false;
      (cause → exec (.signatureViolation t) s = .next (violation 5 { b with aon := { s.aon with sigRaised := true } }) ∧
        Completes (.signatureViolation t) s (fun u => answered 5 u ∧ u.aon.sigRaised = true)) ∧
      (¬cause → exec (.signatureViolation t) s = .next b)) ∧
    (let cause := s.security.faultSecond = b.now / secUnits ∧ max 1 (u16 s.security.charter 300) < s.security.faultsInSecond ∧
        s.security.faultsRaised = false;
      (cause → exec (.regionFaultViolation t) s = .next (violation 6 { b with security := { s.security with faultsRaised := true } }) ∧
        Completes (.regionFaultViolation t) s (answered 6)) ∧
      (¬cause → exec (.regionFaultViolation t) s = .next b)) ∧
    (∀ c ∈ [Instr.lockstepMismatch t, .monitorWatchdogExpiry t],
      (1 ≤ s.startup.phase → s.startup.phase ≤ 7 → warm c) ∧ (s.startup.phase = 0 ∨ 8 ≤ s.startup.phase → exec c s = .next b))

/-- CORE_WDOG_KICK restarts a running core's watchdog. A running core is halted by its watchdog's expiry (cause 1), by a blocked access where the charter says so (2), and by an exception in its handler (3): its request ends, its PWM channels go to their safe levels, machine inhibit or REVOKE follows where the charter says so, and kind 0x39 is raised. A blocked access counts as a region fault, and a blocked read returns zero. CORE_RESTART starts a halted core again after its delay while restarts are left. Of a core not running, of an access not blocked, and before its time, each moves nothing (R346, R459, R461). The services of a running core whose keys may be used, for at most 1 MiB in its own regions: HASH leaves SHA-256 in its block, SEAL writes a fresh vector, the text and its tag, UNSEAL the text or status 0x0120, VERIFY its verdict, SERVICE_ATTEST the record; without keys each ends with 0x0114, with a longer input with 3, and with a buffer outside the core's regions with 4, a region fault that is counted. A block of another operation, without 1 in its start byte, or of a core that is stopped or being served, moves nothing. SERVICE_DONE writes the status with the done bit and raises the core's line; with no request it moves nothing (R475). -/
def Obligations.CoresAreHaltedServedAndRestarted : Prop :=
  (∀ (t : Time) (k : Fin 4) (s : State), let c := core' s k
    let b := begin' t s
    let halted (u : State) : Prop := let x := core' u k
      (x.run = if c.restarts < coreRestartMax s k then 2 else 3) ∧ x.haltedAt = u.now ∧ x.serving = none ∧ x.restarts = c.restarts ∧
      (∀ n : Fin 48, pwmOwner s n = k.val + 1 → (pwmCh u n).safe = true) ∧ OthersKept core' k s u ∧
      (coreOnHalt s k = 1 → (caravan u 0).ownEnable = false) ∧
      (coreOnHalt s k = 2 → sentDown u = sentDown s ++ [.revoke])
    let moved : List Piece := .cores :: .engine :: .relay :: .pwm :: reporting
    let halts (i : Instr) (cause : Nat) : Prop :=
      exec i s = .next (haltCore k cause b) ∧ Completes i s (fun u => halted u ∧ KeptBut moved s u)
    let expired := coreWdogMs s k ≠ 0 ∧ c.kickedAt + coreWdogMs s k * msUnits ≤ b.now
    (c.run = 1 →
      exec (.coreWdogKick t k) s = .next (setCore k { c with kickedAt := b.now } b) ∧
      Completes (.coreWdogKick t k) s (fun u =>
        core' u k = { c with kickedAt := u.now } ∧ OthersKept core' k s u ∧ KeptBut (.cores :: begun) s u) ∧
      (expired → halts (.coreWatchdogExpiry t k) 1) ∧ (¬expired → exec (.coreWatchdogExpiry t k) s = .next b) ∧
      halts (.handlerException t k) 3) ∧
    (c.run ≠ 1 → ∀ i ∈ [Instr.coreWdogKick t k, .coreWatchdogExpiry t k, .handlerException t k], exec i s = .next b) ∧
    (∀ (addr : W32) (perm : Fin 3),
      let counted := emit (.regionFault k) (countRegionFault (if perm = 0 then { b with readData := 0 } else b))
      (c.run = 1 → accessBlocked s k addr.toNat perm = true →
        exec (.regionFault t k addr perm) s = .next (if coreHaltOnFault s k then haltCore k 2 counted else counted) ∧
        Completes (.regionFault t k addr perm) s (fun u =>
          .regionFault k ∈ u.out ∧ (perm = 0 → u.readData = 0) ∧ (perm ≠ 0 → u.readData = s.readData) ∧
          (coreHaltOnFault s k = true → halted u ∧ KeptBut (.readData :: .security :: moved) s u) ∧
          (coreHaltOnFault s k = false → tally u T.regionFaults = tally s T.regionFaults + 1 ∧
            KeptBut (.readData :: .security :: .tallies :: begun) s u))) ∧
      (c.run ≠ 1 ∨ accessBlocked s k addr.toNat perm = false → exec (.regionFault t k addr perm) s = .next b)) ∧
    (let due := c.run = 2 ∧ c.haltedAt + coreRestartDelay s k * msUnits ≤ b.now;
      (due → exec (.coreRestart t k) s = .next (setCore k { c with run := 1, restarts := c.restarts + 1, kickedAt := b.now } b) ∧
        Completes (.coreRestart t k) s (fun u =>
          core' u k = { c with run := 1, restarts := c.restarts + 1, kickedAt := u.now } ∧ OthersKept core' k s u ∧
          KeptBut (.cores :: begun) s u)) ∧
      (¬due → exec (.coreRestart t k) s = .next b))) ∧
  (∀ (t : Time) (k : Fin 4) (block : List Byte) (s : State), let c := core' s k
    let z := begin' t s
    let b := fitBytes 64 block
    let len := u32 block 4
    let src := u32 block 8
    let dst := u32 block 12
    let asked (op : Nat) : Prop := c.run = 1 ∧ c.serving = none ∧ u8 b 60 = 1 ∧ u16 b 0 = op
    let ready (op : Nat) : Prop := asked op ∧ keysUsable s = true ∧ u32 b 4 ≤ 0x100000
    let serves (status : Nat) (result : List Byte) (u : State) : Prop :=
      core' u k = { c with service := patch 24 result (patch 2 [0, 0] b), serving := some status } ∧ OthersKept core' k s u
    let reads (n : Nat) : Prop := bufferIn s k src n 0 = true
    let writes (n : Nat) : Prop := bufferIn s k dst n 1 = true
    let memories : List Piece := .cores :: .messageStore :: .appSram :: begun
    (ready 1 → reads len → Completes (.hash t k block) s (fun u =>
      serves 0 (beBytes 32 (Config.sha256 (coreRead s src len))) u ∧ KeptBut (.cores :: begun) s u)) ∧
    (ready 2 → reads len → writes (len + 28) → Completes (.seal t k block) s (fun u =>
      let iv := leBytes 8 u.now ++ leBytes 4 s.security.sealCount
      serves 0 [] u ∧ u.security.sealCount = (s.security.sealCount + 1) % 2 ^ 32 ∧
      coreRead u dst (len + 28) = iv ++ fitBytes (len + 16) (Config.sealText s.security.oemHash (u32 block 20) iv (coreRead s src len)) ∧
      KeptBut (.security :: memories) s u)) ∧
    (ready 3 → reads len → writes (len - 28) → Completes (.unseal t k block) s (fun u =>
      let input := coreRead s src len
      let text := if len < 28 then none else Config.openText s.security.oemHash (u32 block 20) (input.take 12) (input.drop 12)
      (text = none → serves 0x0120 [] u ∧ KeptBut (.cores :: begun) s u) ∧
      (∀ x, text = some x → serves 0 [] u ∧ coreRead u dst (len - 28) = fitBytes (len - 28) x) ∧ KeptBut memories s u)) ∧
    (ready 4 → reads len → bufferIn s k (u32 block 16) 128 0 = true → Completes (.verify t k block) s (fun u =>
      let aux := coreRead s (u32 block 16) 128
      let good := Config.ecdsaVerify (aux.take 64) (Config.sha256 (coreRead s src len)) (aux.drop 64)
      serves 0 (BitVec.ofNat 8 (b2n good) :: List.replicate 31 0) u ∧ KeptBut (.cores :: begun) s u)) ∧
    (ready 5 → reads 32 → writes 192 → Completes (.serviceAttest t k block) s (fun u =>
      serves 0 [] u ∧ coreRead u dst 192 = attestation z (coreRead s src 32) ∧ KeptBut memories s u)) ∧
    (∀ e ∈ [(1, Instr.hash t k block), (2, Instr.seal t k block), (3, Instr.unseal t k block), (4, Instr.verify t k block),
        (5, Instr.serviceAttest t k block)],
      let outside := (bufferIn s k src (if e.1 = 5 then 32 else len) 0 = false) ∨
        (e.1 = 2 ∧ bufferIn s k dst (len + 28) 1 = false) ∨ (e.1 = 3 ∧ bufferIn s k dst (len - 28) 1 = false) ∨
        (e.1 = 4 ∧ bufferIn s k (u32 block 16) 128 0 = false) ∨ (e.1 = 5 ∧ bufferIn s k dst 192 1 = false)
      (asked e.1 → keysUsable s = false → Completes e.2 s (fun u => serves 0x0114 [] u ∧ KeptBut (.cores :: begun) s u)) ∧
      (asked e.1 → keysUsable s = true → 0x100000 < u32 b 4 → Completes e.2 s (fun u => serves 3 [] u ∧ KeptBut (.cores :: begun) s u)) ∧
      (ready e.1 → outside → Completes e.2 s (fun u => serves 4 [] u ∧ tally u T.regionFaults = tally s T.regionFaults + 1 ∧
        KeptBut (.cores :: .security :: .tallies :: begun) s u)) ∧
      (¬asked e.1 → exec e.2 s = .next z)) ∧
    (∀ status : Nat, c.serving = some status →
      exec (.serviceDone t k) s = .next (emit (.serviceDone k)
        (setCore k { c with service := patch 2 (leBytes 2 (status + 2 ^ 15)) c.service, serving := none } z)) ∧
      Completes (.serviceDone t k) s (fun u =>
        core' u k = { c with service := patch 2 (leBytes 2 (status + 2 ^ 15)) c.service, serving := none } ∧ .serviceDone k ∈ u.out ∧
        OthersKept core' k s u ∧ KeptBut (.cores :: begun) s u)) ∧
    (c.serving = none → exec (.serviceDone t k) s = .next z))

/-- STAGE puts a verified image into its type's inactive slot, which is not valid until the request completes, or ends with the status of the first condition it fails and changes no slot; ACTIVATE exchanges the slots of a mask of types that all have a valid image, in trial; CONFIRM ends trials, and with bit 0 raises floors to the active versions. A directory that changes is written under the next sequence number into the copy not in use, the other copy staying. Where the next waybill of the ring is no such request, or its buffer in host memory cannot be reached, or 4 requests wait, nothing moves. That the update is permitted to host software under the default charter is the model's choice (log 84) (R462, R464, R465, R471, R472). -/
def Obligations.UpdatesMoveTheSlots : Prop :=
  ∀ (t : Time) (n : Fin 128) (x : Desc) (s : State), let y := s.security
    let takes (op : Nat) : Prop := Ready s n op x ∧ (ring s n).kind = 1 ∧ y.requests.length < 4
    let asked (op status types : Nat) (u : State) : Prop :=
      u.security.requests.dropLast = y.requests ∧
      u.security.requests.getLast?.map (fun q => (q.ring, q.index, q.opcode, q.status, q.types)) = some (n.val, x.index, op, status, types) ∧
      KeptBut (.security :: .aon :: begun) s u
    let slotsKept (u : State) : Prop := u.security.slots = y.slots ∧ u.security.active = y.active ∧ u.security.trial = y.trial ∧
      u.security.validA = y.validA ∧ u.security.validB = y.validB ∧ u.security.floorMon = y.floorMon ∧ u.security.floorFw = y.floorFw ∧
      u.security.seq = y.seq ∧ u.security.dirCopies = y.dirCopies
    let written (u : State) : Prop := u.security.seq = y.seq + 1 ∧ u.security.dirCopy = 1 - y.dirCopy ∧
      tabGet [] u.security.dirCopies u.security.dirCopy = dirRecord u.security ∧ OthersKept (fun v i => tabGet [] v.security.dirCopies i) u.security.dirCopy s u
    let mask := u8 x.bytes 8 % 8
    (∀ ok : Bool, takes 0x40 → Begins (.stage t n ok) s n x (fun u =>
      let k := u8 x.bytes 8
      let len := u32 x.bytes 12
      let types := if 1 ≤ k ∧ k ≤ 3 then 2 ^ (k - 1) else 0
      let img := dmaRead s (ring s n).onChip (u64 x.bytes 16) len
      let v := verdict s k img
      let status := if updateAllowed s n = false then 0x0116 else if keysUsable s = false then 0x0114 else if types = 0 then 3
        else if typeBusy s types = true ∨ bitOf y.trial (k - 1) = true then 0x0113 else if slotSize k < len then 0x0110
        else if v.status ≠ 0 then v.status else if ok = false then 0x0117 else 0
      asked 0x40 status types u ∧ (status ≠ 0 → slotsKept u) ∧
      slotImage u k (inactiveSlot s k) = (if status = 0 then img else slotImage s k (inactiveSlot s k)) ∧
      slotImage u k (activeSlot s k) = slotImage s k (activeSlot s k) ∧
      slotValid u k (inactiveSlot s k) = (decide (status ≠ 0) && slotValid s k (inactiveSlot s k)) ∧ u.security.active = y.active ∧
      (status = 0 → slotValid s k (inactiveSlot s k) = true → written u) ∧
      (slotValid s k (inactiveSlot s k) = false → u.security.seq = y.seq ∧ u.security.dirCopies = y.dirCopies))) ∧
    (takes 0x41 →
      let status := if updateAllowed s n = false then 0x0116 else if typeBusy s mask = true then 0x0113
        else if (typesIn mask).any (fun k => !slotValid s k (inactiveSlot s k)) = true then 0x0112 else 0
      (status ≠ 0 ∨ mask = 0 → Begins (.activate t n) s n x (fun u => asked 0x41 status mask u ∧ slotsKept u)) ∧
      (status = 0 → mask ≠ 0 → Begins (.activate t n) s n x (fun u => asked 0x41 0 mask u ∧ u.security.slots = y.slots ∧ written u ∧
        u.security.validA = y.validA ∧ u.security.validB = y.validB ∧
        ∀ i : Fin 3, bitOf u.security.active i = (bitOf y.active i != bitOf mask i) ∧
          bitOf u.security.trial i = (bitOf y.trial i || bitOf mask i)))) ∧
    (takes 0x42 →
      let status := if updateAllowed s n = false then 0x0116 else if typeBusy s mask = true then 0x0113 else 0
      (status ≠ 0 → Begins (.confirm t n) s n x (fun u => asked 0x42 status mask u ∧ slotsKept u)) ∧
      (status = 0 → Begins (.confirm t n) s n x (fun u => asked 0x42 0 mask u ∧ u.security.slots = y.slots ∧ u.security.active = y.active ∧
        (∀ i : Fin 3, bitOf u.security.trial i = (bitOf y.trial i && !bitOf mask i)) ∧
        (y.trial &&& mask = 0 → u.security.seq = y.seq ∧ u.security.dirCopies = y.dirCopies) ∧
        (y.trial &&& mask ≠ 0 → written u) ∧
        (bitOf (u8 x.bytes 9) 0 = false → u.security.floorMon = y.floorMon ∧ u.security.floorFw = y.floorFw) ∧
        (bitOf (u8 x.bytes 9) 0 = true → bitOf mask 0 = true →
          u.security.floorMon = max y.floorMon (min (imageVersion (slotImage s 1 (activeSlot s 1))) 128)) ∧
        (bitOf (u8 x.bytes 9) 0 = true → bitOf mask 1 = true →
          u.security.floorCharter = max y.floorCharter (min (imageVersion (slotImage s 2 (activeSlot s 2))) 64)) ∧
        (bitOf (u8 x.bytes 9) 0 = true → bitOf mask 2 = true →
          u.security.floorFw = max y.floorFw (min (imageVersion (slotImage s 3 (activeSlot s 3))) 128))))) ∧
    (∀ e ∈ [(0x40, Instr.stage t n true), (0x40, .stage t n false), (0x41, .activate t n), (0x42, .confirm t n), (0x43, .attest t n),
        (0x44, .provision t n), (0x45, .ledgerClear t n)],
      (nextDesc s n = none ∨ (ring s n).kind ≠ 1 ∨ 4 ≤ y.requests.length → exec e.2 s = .next (begin' t s)) ∧
      (∀ d, nextDesc s n = some d → (u16 d.bytes 0 ≠ e.1 ∨ canExecute s n d = false) → exec e.2 s = .next (begin' t s)))

/-- ATTEST writes the signed record to its buffer; PROVISION programs oem_key_hash once; a CLEAR with a token that R504 accepts moves first index and export mark of its streams past up_to, and a refused one moves no stream; MONITOR_REQUEST_COMPLETION marks a staged slot valid and completes the waybill with the request's status, and a restart makes a warm reset; a place without a request moves nothing. RECOVERY_IMAGE_LOAD keeps the value written, and with start at 1 and the device not dead writes the image in host memory into slot A, marks the slot valid or not, and restarts the rom state where it is valid; a write that its gate turns away moves nothing but the bad-access count (R467, R471, R473, R480, R504, R505, R568). -/
def Obligations.RequestsAttestProvisionAndClear : Prop :=
  ∀ (t : Time) (s : State), let y := s.security
    let b := begin' t s
    (∀ (n : Fin 128) (x : Desc),
      let takes (op : Nat) : Prop := Ready s n op x ∧ (ring s n).kind = 1 ∧ y.requests.length < 4
      let asked (op status : Nat) (u : State) : Prop :=
        u.security.requests.dropLast = y.requests ∧
          u.security.requests.getLast?.map (fun q => (q.ring, q.index, q.opcode, q.status, q.restart)) = some (n.val, x.index, op, status, false)
      let at' := u64 x.bytes 8
      let chip := (ring s n).onChip
      (takes 0x43 →
        (keysUsable s = false → Begins (.attest t n) s n x (fun u => asked 0x43 0x0114 u ∧ KeptBut (.security :: begun) s u)) ∧
        (keysUsable s = true → at' % 64 ≠ 0 → Begins (.attest t n) s n x (fun u => asked 0x43 3 u ∧ KeptBut (.security :: begun) s u)) ∧
        (keysUsable s = true → at' % 64 = 0 → Begins (.attest t n) s n x (fun u =>
          asked 0x43 0 u ∧ dmaRead u chip at' 192 = attestation b (x.bytes.drop 16) ∧
          KeptBut (.security :: .hostMem :: .messageStore :: begun) s u))) ∧
      (takes 0x44 →
        (keysUsable s = false → Begins (.provision t n) s n x (fun u =>
          asked 0x44 0x0114 u ∧ u.security.oemHash = y.oemHash ∧ KeptBut (.security :: begun) s u)) ∧
        (keysUsable s = true → y.oemHash ≠ 0 → Begins (.provision t n) s n x (fun u =>
          asked 0x44 0x0115 u ∧ u.security.oemHash = y.oemHash ∧ KeptBut (.security :: begun) s u)) ∧
        (keysUsable s = true → y.oemHash = 0 → Begins (.provision t n) s n x (fun u =>
          asked 0x44 0 u ∧ u.security.oemHash = beNat (fitBytes 32 (x.bytes.drop 8)) ∧ KeptBut (.security :: begun) s u))) ∧
      (takes 0x45 → Begins (.ledgerClear t n) s n x (fun u =>
        let tok := dmaRead s chip at' 160
        let key := fitBytes 64 (tok.drop 32)
        let form := u32 tok 0 = 0x52434C59 ∧ u64 tok 8 ≠ 0 ∧ u64 tok 8 = y.deviceId.toNat
        let signed := y.oemHash ≠ 0 ∧ Config.sha256 key = y.oemHash ∧
          Config.ecdsaVerify key (Config.sha256 (tok.take 96)) (fitBytes 64 (tok.drop 96)) = true
        let pos (k : Nat) := clearPosition s k (BitVec.ofNat 32 (u32 tok (16 + 4 * k)))
        let named (k : Fin 4) : Prop := bitOf (u8 tok 4) k = true
        let status := if y.keysDead then 0x0114 else if at' % 64 ≠ 0 then 3 else if ¬form then 0x0110 else if ¬signed then 0x0110
          else if ∃ k : Fin 4, named k ∧ pos k = none then 0x0118 else 0
        asked 0x45 status u ∧ (status ≠ 0 → u.ledger = s.ledger) ∧
        (∀ k : Fin 4, let p := if status = 0 ∧ bitOf (u8 tok 4) k = true then pos k else none
          (lstream u k).first = p.elim (lstream s k).first (fun p => max (lstream s k).first p) ∧
          (lstream u k).exported = p.elim (lstream s k).exported (fun p => max (lstream s k).exported p)) ∧
        KeptBut (.security :: .aon :: .ledger :: delivering) s u))) ∧
    (∀ i : Fin 4, y.requests[i.val]? = none → exec (.monitorRequestCompletion t i) s = .next b) ∧
    (∀ (i : Fin 4) (q : MonRequest), y.requests[i.val]? = some q →
      let rest : State := { b with security := { y with requests := y.requests.eraseIdx i } }
      let staged := q.opcode = 0x40 ∧ q.status = 0
      let done := completeAt q.ring q.index q.status q.result
        (if staged then (typesIn q.types).foldl (fun s k => setSlotValid k (inactiveSlot s k) true s) rest else rest)
      exec (.monitorRequestCompletion t i) s = .next (if q.restart then warmReset (pushDown .revoke done) else done) ∧
      (q.restart = false → ∀ x : Desc, descAt s q.ring q.index = some x →
        Answers (.monitorRequestCompletion t i) s q.ring x q.status q.result (fun u =>
          u.security.requests = y.requests.eraseIdx i ∧ u.security.slots = y.slots ∧ u.security.active = y.active ∧ u.security.trial = y.trial ∧
          (∀ k ∈ [1, 2, 3], slotValid u k (inactiveSlot s k) =
            (slotValid s k (inactiveSlot s k) || decide (staged ∧ bitOf q.types (k - 1) = true)) ∧
            slotValid u k (activeSlot s k) = slotValid s k (activeSlot s k)) ∧
          (¬ staged → u.security = { y with requests := y.requests.eraseIdx i }) ∧ KeptBut (.security :: begun) s u)) ∧
      (q.restart = true → Completes (.monitorRequestCompletion t i) s (fun u =>
        u.clocks.causeWarm = true ∧ u.startup.phase = 0 ∧ u.startup.warm = true ∧ u.security.slots = y.slots ∧
        u.security.active = y.active ∧ u.security.trial = y.trial))) ∧
    (∀ (a : Actor) (v : W32),
      (gateWrite s a R.SEC_RECOVERY_CTRL.base 4 = .allow → Completes (.recoveryImageLoad t a v) s (fun u =>
        let img := memRead s.hostMem (y.recoveryHi.toNat * 2 ^ 32 + y.recoveryLo.toNat) (fld v 17 0)
        let good := (verdict s 1 img).status = 0
        let starts := flag v 31 = true ∧ y.keysDead = false ∧ busOk s = true
        u.security.recoveryCtrl = regMerge R.SEC_RECOVERY_CTRL 0 v ∧
        (¬starts → u.security.slots = y.slots ∧ u.startup = s.startup) ∧
        (starts → slotImage u 1 0 = img ∧ slotImage u 1 1 = slotImage s 1 1 ∧ slotValid u 1 0 = decide good ∧
          u.startup.phase = (if good then 0 else s.startup.phase)) ∧
        KeptBut (.security :: .startup :: .aon :: begun) s u)) ∧
      TurnedAway (.recoveryImageLoad t a v) t a R.SEC_RECOVERY_CTRL.base 4 s)

/-- RESET_RELEASE leaves cold reset once rails in their operating ranges and SYS_RESET_N have been good for 1 ms; bits of the OTP only rise. MONITOR_START reads the directory and goes to the monitor state where a monitor slot verifies, and to recovery where none does, where no flash of a size R576 allows is found, and where the device is dead. CHARTER_APPLY, of the monitor or the charter state, applies a verified charter, or the default charter, shows versions and floors, locks, and goes to the firmware state. FIRMWARE_START goes to the relay state, with firmware valid and its cores started where its slot verifies. Each moves nothing in any other state of start-up, MONITOR_START also before release or lock. That OTP and flash contents enter with RESET_RELEASE is the model's choice (logs 80, 82) (R462, R465, R466, R470, R479, R511, R514). ENDPOINT_READY answers once PERST_N is high, the reset is released and the PLL is locked. RELAY_TIMEOUT goes on without the drive die, once 100 ms of the relay state have passed without training: kind 0x3B is raised with subject 1. STARTUP_GRANT sends the first grant in the lease state or later, after a warm start once the holddown has run, and ends the lease state. Where its condition fails, each moves nothing (R515, R518, R519). -/
def Obligations.StartUpGoesStateByState : Prop :=
  (∀ (t : Time) (s : State), let y := s.security
    let b := begin' t s
    (∀ (x : ResetSeen) (fit : Option Fitting), let c : Instr := .resetRelease t x fit
      let rails := 760 ≤ x.vcore ∧ x.vcore ≤ 840 ∧ 1710 ≤ x.vio18 ∧ x.vio18 ≤ 1890 ∧ 3135 ≤ x.vio33 ∧ x.vio33 ≤ 3465
      (s.startup.released = false → rails → msUnits ≤ x.good → Completes c s (fun u =>
        u.startup.released = true ∧ u.startup.phase = 0 ∧ u.startup.releaseAt = u.now ∧ u.aon.rtcValid = s.aon.rtcValid ∧
        u.aon.rtcMillis = (if s.aon.rtcValid then s.aon.rtcMillis + x.held else s.aon.rtcMillis) ∧ u.aon.opSeconds = s.aon.opSeconds ∧
        u.relay = { s.relay with driveReset := s.drive.inReset } ∧ (fit = none → u.security = y) ∧
        (∀ f, fit = some f → u.security.oemHash = y.oemHash ||| f.oemHash ∧ u.security.deviceId = y.deviceId ||| f.deviceId ∧
          u.security.deadBits = y.deadBits ||| f.deadBits ∧ u.security.revoked = y.revoked ||| f.revoked ∧
          tabGet [] u.security.dirCopies 0 = f.copy0 ∧ tabGet [] u.security.dirCopies 1 = f.copy1) ∧
        KeptBut (.startup :: .aon :: .security :: .relay :: begun) s u)) ∧
      (s.startup.released = true ∨ ¬ rails ∨ x.good < msUnits → exec c s = .next b)) ∧
    (∀ log2 mode mhz : Nat, let c : Instr := .monitorStart t log2 mode mhz
      let dead := s.aon.killLatch = true ∨ y.keysDead = true
      let found := 24 ≤ log2 ∧ log2 ≤ 28
      let z := dirLoad { b with security := { y with flashLog2 := log2, flashMode := mode % 4, flashMhz := mhz % 256 } }
      let starts := s.startup.phase = 0 ∧ s.startup.released = true ∧ s.clocks.sysLock = true
      (starts → dead → Completes c s (fun u =>
        u.startup.phase = 8 ∧ u.security.keysDead = true ∧ u.security.slots = y.slots ∧ KeptBut (.startup :: .security :: begun) s u)) ∧
      (starts → ¬dead → ¬found → exec c s = .next (enterPhase 8 b) ∧ Completes c s (fun u =>
        u.startup.phase = 8 ∧ u.security = y ∧ KeptBut (.startup :: begun) s u)) ∧
      (starts → ¬dead → found → Completes c s (fun u =>
        let chosen := (chooseSlot 1 (fun _ => true) z).1
        u.security.flashLog2 = log2 ∧ (chosen = none → u.startup.phase = 8 ∧ u.security.keysPresent = y.keysPresent) ∧
        (∀ b, chosen = some b → u.startup.phase = 1 ∧ u.security.keysPresent = true ∧
          u.security.monRuns = BitVec.ofNat 32 (imageVersion (slotImage s 1 b))) ∧ u.security.verMon = y.verMon ∧
        KeptBut (.startup :: .security :: .aon :: .clocks :: reporting) s u)) ∧
      (¬starts → exec c s = .next b)) ∧
    (s.startup.phase = 1 ∨ s.startup.phase = 2 → s.clocks.refFaultDue = false → Completes (.charterApply t) s (fun u =>
      let chosen := (chooseSlot 2 (fun img => charterOk (fitBytes 880 (imageBody img))) b).1
      (y.oemHash = 0 → chosen = none) ∧ u.security.verMon = y.monRuns ∧ u.trace.masked = true ∧
      u.security.floorsShown = BitVec.ofNat 32 (y.floorMon % 256 * 2 ^ 16 + y.floorFw % 256 * 2 ^ 8 + y.floorCharter % 256) ∧
      u.startup.phase = 3 ∧ u.security.locked = true ∧ u.startup.charterApplied = true ∧
      u.startup.defaultCharter = u.security.charter.isEmpty ∧ (chosen = none → u.security.charter = y.charter) ∧
      (∀ b, chosen = some b → u.security.charter = fitBytes 880 (imageBody (slotImage s 2 b)) ∧
        rd u R.LEASE_CFG 0 = BitVec.ofNat 32 (u32 u.security.charter 284) ∧
        ∀ n : Fin 128, (ring u n).onChip = bitOf (u8 u.security.charter (144 + n)) 7) ∧
      KeptBut (.startup :: .security :: .aon :: .regs :: .relay :: reporting) s u)) ∧
    (s.startup.phase = 1 ∨ s.startup.phase = 2 → ∃ u, exec (.charterApply t) s = .next u) ∧
    (s.startup.phase ≠ 1 → s.startup.phase ≠ 2 → exec (.charterApply t) s = .next b) ∧
    (s.startup.phase = 3 → Completes (.firmwareStart t) s (fun u =>
      let chosen := if s.startup.defaultCharter then none else (chooseSlot 3 (fun _ => true) b).1
      u.startup.phase = 4 ∧ (chosen = none → u.cores = s.cores ∧ u.appSram = s.appSram ∧ u.security.fwValid = y.fwValid) ∧
      (∀ b, chosen = some b → u.security.fwValid = true ∧ u.security.verFw = BitVec.ofNat 32 (imageVersion (slotImage s 3 b)) ∧
        ∀ k : Fin 4, (core' u k).run = if (coreEntry s k (slotImage s 3 b)).isSome then 1 else (core' s k).run) ∧
      KeptBut (.startup :: .security :: .aon :: .cores :: .appSram :: reporting) s u)) ∧
    (s.startup.phase ≠ 3 → exec (.firmwareStart t) s = .next b)) ∧
  (∀ (t : Time) (s : State), let u0 := s.startup
    let b := begin' t s
    (let ready := s.cister.perstHigh = true ∧ u0.released = true ∧ s.clocks.pipeLock = true;
      (ready → exec (.endpointReady t) s = .next { b with cister := { b.cister with endpointReady := true } } ∧
        Completes (.endpointReady t) s (fun u => u.cister = { s.cister with endpointReady := true } ∧ KeptBut (.cister :: begun) s u)) ∧
      (¬ready → exec (.endpointReady t) s = .next b)) ∧
    (let out := u0.phase = 4 ∧ s.relay.trained = false ∧ u0.phaseAt + 100 * msUnits ≤ b.now;
      let x := { b with startup := { u0 with noDrive := true, phase := 5 } }
      (out → exec (.relayTimeout t) s =
          .next (enterPhase 6 (ledgerReport streamSafety 0x0A3B 1 (startBits x) (notify 0x3B 1 (startBits x) x))) ∧
        Completes (.relayTimeout t) s (fun u =>
          u.startup = { u0 with noDrive := true, phase := 6, phaseAt := u.now } ∧ KeptBut (.startup :: reporting) s u)) ∧
      (¬out → exec (.relayTimeout t) s = .next b)) ∧
    (let grants := grantable s = true ∧ s.lease.startupDone = false ∧ 5 ≤ u0.phase ∧ u0.phase ≤ 7 ∧ (u0.warm = false ∨ heldDown b = true);
      (grants → Completes (.startupGrant t) s (fun u =>
        u.lease = { s.lease with startupDone := true, granting := some (nextEpoch s) } ∧
        sentDown u = sentDown s ++ [.grant (nextEpoch s)] ∧ u.startup.leased = true ∧ u.startup.noDrive = false ∧
        u.startup.phase = (if u0.phase = 5 then 6 else u0.phase) ∧ KeptBut (.lease :: .relay :: .startup :: delivering) s u)) ∧
      (¬grants → exec (.startupGrant t) s = .next b)))

/-- LEDGER_ENTRY, from the monitor state on, fixes the oldest queued record at the stream's next position, and the last of the START and KEY records begins the charter state (log entry 86); an AUDIT block that it fills is closed and its six SIG positions are left; the share of 4,096 places counts the SIG positions kept for closed blocks. LEDGER_FLASH_WRITE moves the next record to flash, marks a sector bad that fails and goes to a good one, and stops a full AUDIT or SECURITY area. SIG fills the positions of the oldest closed block. LEDGER_EXPORT_ENTRY writes the next exportable record to ring 89. With nothing queued, no room, nothing ready, no closed block, or no entry to put, each moves nothing, as a dead device does (R478, R485, R493, R494, R496, R499, R503, R514). -/
def Obligations.LedgerRecordsMove : Prop :=
  ∀ (t : Time) (s : State),
    (∀ (k : Fin 4) (r : LedgerRec) (rest : List LedgerRec), let l := lstream s k
      let p := nextPos s k
      let closes := k = 2 ∧ p % 70 = 63
      let room := shareUsed s k + placesFor s k ≤ 4096 ∧ s.startup.phase ≠ 0
      (l.queue = r :: rest → s.startup.phase ≠ 1 → (¬room ∨ s.security.keysDead = true) → exec (.ledgerEntry t k) s = .next (begin' t s)) ∧
      (l.queue = r :: rest → room → s.security.keysDead = false →
      Completes (.ledgerEntry t k) s (fun u => let x := lstream u k
        tabGet {} x.buffer p = (if k = 2 then { r with unsigned := s.security.auditErased } else r) ∧
        nextPos u k = (if closes then p + 7 else p + 1) ∧ u.ledger.blocksOpen = s.ledger.blocksOpen ++ (if closes then [p / 70] else []) ∧
        (l.lostDue = 0 → x.queue = rest) ∧
        (l.lostDue ≠ 0 → x.queue.dropLast = rest ∧ x.queue.getLast?.map (fun y => (y.code, y.payload)) = some (2, l.lostDue) ∧ x.lostDue = 0) ∧
        x.flash = l.flash ∧ x.first = l.first ∧ OthersKept lstream k s u ∧ OthersKept nextPos k s u ∧
        (s.startup.phase ≠ 1 → u.startup = s.startup) ∧
        (s.startup.phase = 1 → u.startup = if startRecordsWait u then s.startup else { s.startup with phase := 2, phaseAt := u.now }) ∧
        KeptBut (.ledger :: .aon :: .startup :: begun) s u))) ∧
    (∀ k : Fin 4, (lstream s k).queue = [] → exec (.ledgerEntry t k) s = .next (let z := begin' t s
      if s.startup.phase = 1 ∧ startRecordsWait s = false then { z with startup := { s.startup with phase := 2, phaseAt := z.now } } else z)) ∧
    (∀ ok : Bool, s.security.keysDead = true → exec (.ledgerFlashWrite t ok) s = .next (begin' t s)) ∧
    (∀ ok : Bool, serveOrder.find? (fun k => flashReady s k && 0 < shareRecords s k) = none → exec (.ledgerFlashWrite t ok) s = .next (begin' t s)) ∧
    ((s.ledger.blocksOpen = [] ∨ s.security.keysDead = true) → exec (.sig t) s = .next (begin' t s)) ∧
    ((rb s R.LEDGER_EXPORT 0 31 = false ∨ canPut s 89 = false ∨ serveOrder.find? (fun k => exportable s k) = none) →
      exec (.ledgerExportEntry t) s = .next (begin' t s)) ∧
    (∀ (k : Nat) (ok : Bool), s.security.keysDead = false → serveOrder.find? (fun k => flashReady s k && 0 < shareRecords s k) = some k → let l := lstream s k
      (areaFull s k = false → ok = true → Completes (.ledgerFlashWrite t ok) s (fun u => let x := lstream u k
        tabGet {} x.flash l.flashNext = tabGet {} l.buffer l.flashNext ∧ tabGet {} x.buffer l.flashNext = {} ∧
        x.flashNext = l.flashNext + 1 ∧ x.first = l.first ∧ (x.sector = if (l.flashNext + 1) % 128 = 0 then nextSector s k else l.sector) ∧ OthersKept lstream k s u ∧ KeptBut (.ledger :: begun) s u)) ∧
      (areaFull s k = false → ok = false → Completes (.ledgerFlashWrite t ok) s (fun u =>
        lstream u k = { l with badSectors := l.badSectors ++ [shareBase s k + l.sector], sector := (lstream u k).sector } ∧
        (lstream u k).badSectors.contains (shareBase s k + (lstream u k).sector) =
          (List.range (shareSectors s k)).all (fun j => (lstream u k).badSectors.contains (shareBase s k + j)) ∧ OthersKept lstream k s u ∧
        KeptBut (.ledger :: delivering) s u)) ∧
      (areaFull s k = true → sectorReusable k l = false → Completes (.ledgerFlashWrite t ok) s (fun u =>
        lstream u k = { l with stopped := true } ∧ OthersKept lstream k s u ∧ KeptBut (.ledger :: delivering) s u)) ∧
      (areaFull s k = true → sectorReusable k l = true → ok = true → Completes (.ledgerFlashWrite t ok) s (fun u => let x := lstream u k
        x.first = max l.first (flashFirst l / 128 * 128 + 128) ∧ x.flashNext = l.flashNext + 1 ∧
        tabGet {} x.flash l.flashNext = tabGet {} l.buffer l.flashNext ∧ OthersKept lstream k s u ∧ KeptBut (.ledger :: begun) s u))) ∧
    (∀ (b : Nat) (rest : List Nat), s.ledger.blocksOpen = b :: rest → s.security.keysDead = false →
      Completes (.sig t) s (fun u => u.ledger.blocksOpen = rest ∧ u.ledger.hashes = s.ledger.hashes ∧
        (∀ i : Fin 6, tabGet {} (lstream u 2).buffer (70 * b + 64 + i) = sigRecord (begin' t s) b i) ∧
        OthersKept lstream 2 s u ∧ KeptBut (.ledger :: begun) s u)) ∧
    (∀ k : Nat, rb s R.LEDGER_EXPORT 0 31 = true → canPut s 89 = true → serveOrder.find? (fun k => exportable s k) = some k →
      let p := exportPos s k
      Completes (.ledgerExportEntry t) s (fun u =>
        (lstream u k).exportNext = p + 1 ∧ (lstream u k).exported = (lstream s k).exported ∧ (ring u 89).d = (ring s 89).d + 1 ∧
        u.ledger.exportLog = s.ledger.exportLog ++ [{ index := (ring s 89).d, stream := k, position := p }] ∧
        (lstream u k).first = (lstream s k).first ∧ OthersKept lstream k s u ∧ KeptBut (.ledger :: delivering) s u))

/-- RTC_SET sets the clock at once, or arms it for the next GNSS_PPS edge, and writes an RTC_SET record; LEDGER_RTC_READ returns the seconds and latches the milliseconds. A cursor write of 8 bytes takes effect at once, the low word with the high word; LEDGER_WINDOW7_READ advances the index; writes that their gates turn away move nothing but the bad-access count (R491, R501, R506, R568). -/
def Obligations.TheClockIsSetAndTheWindowMoves : Prop :=
  ∀ (t : Time) (s : State),
    (∀ (a : Actor) (v : W32), TurnedAway (.rtcSet t a v) t a R.LEDGER_RTC_CTRL.base 4 s) ∧
    (∀ (a : Actor) (v : W32), gateWrite s a R.LEDGER_RTC_CTRL.base 4 = .allow → crossDown s 17 = false →
      let millis := (rd s R.LEDGER_RTC_SET 0).toNat * 1000 + min (fld v 9 0) 999
      (flag v 31 = true → flag v 30 = false → Completes (.rtcSet t a v) s (fun u =>
        u.aon = { s.aon with rtcValid := true, rtcMillis := millis, rtcAt := u.now } ∧ rtcNow u = millis ∧ u.ledger.rtcArmed = false ∧
        ((lstream s 2).queue.length < 64 → (lstream u 2).queue.dropLast = (lstream s 2).queue ∧
          (lstream u 2).queue.getLast?.map (·.code) = some 4 ∧ KeptBut (.regs :: .aon :: .ledger :: begun) s u))) ∧
      (flag v 31 = true → flag v 30 = true → Completes (.rtcSet t a v) s (fun u =>
        u.ledger = { s.ledger with rtcArmed := true } ∧ KeptBut (.regs :: .ledger :: begun) s u)) ∧
      (flag v 31 = false → Completes (.rtcSet t a v) s (fun u => KeptBut (.regs :: begun) s u))) ∧
    Completes (.ledgerRtcRead t) s (fun u => let z := begin' t s
      u.readData = BitVec.ofNat 64 (rtcNow z / 1000 % 2 ^ 32) ∧ fld u.ledger.rtcMs 9 0 = rtcNow z % 1000 ∧
      flag u.ledger.rtcMs 31 = s.aon.rtcValid ∧ KeptBut (.readData :: .ledger :: begun) s u) ∧
    (∀ (a : Actor) (high : Bool) (size : Nat) (v : W64), TurnedAway (.ledgerCursorWrite t a high size v) t a
      (if high then R.LEDGER_CURSOR_HI.base else R.LEDGER_CURSOR_LO.base) size s) ∧
    (∀ (a : Actor) (v : W64),
      (gateWrite s a R.LEDGER_CURSOR_LO.base 8 = .allow → Completes (.ledgerCursorWrite t a false 8 v) s (fun u =>
        u.ledger.cursorIndex = v.setWidth 32 ∧ u.ledger.cursorStream = bits v.toNat 33 32 ∧ KeptBut (.ledger :: begun) s u)) ∧
      (gateWrite s a R.LEDGER_CURSOR_LO.base 4 = .allow → Completes (.ledgerCursorWrite t a false 4 v) s (fun u =>
        u.ledger = { s.ledger with cursorHeld := some (v.setWidth 32) } ∧ KeptBut (.ledger :: begun) s u)) ∧
      (gateWrite s a R.LEDGER_CURSOR_HI.base 4 = .allow → Completes (.ledgerCursorWrite t a true 4 v) s (fun u =>
        u.ledger.cursorIndex = s.ledger.cursorHeld.getD s.ledger.cursorIndex ∧ u.ledger.cursorStream = bits v.toNat 1 0 ∧
        u.ledger.cursorHeld = none ∧ KeptBut (.ledger :: begun) s u))) ∧
    Completes (.ledgerWindow7Read t) s (fun u =>
      u.readData = BitVec.ofNat 64 (u32 (recBytes s.ledger.window) 28) ∧ u.ledger.cursorIndex = s.ledger.cursorIndex + 1 ∧
      u.ledger.window = (match positionOf s s.ledger.cursorStream (s.ledger.cursorIndex + 1) with
        | none => {}
        | some p => recordAt s s.ledger.cursorStream p) ∧ KeptBut (.readData :: .ledger :: begun) s u)

/-- TRACE_SYNC puts a SYNC with the present device time at the first packet boundary once 20,000 units have passed; OVERFLOW reports the packets lost once there is room, with a SYNC behind it; TALLY_SNAP captures the 512 tallies and the instant. While the port is disabled neither packet comes, and a TALLY_SNAP without its bit moves nothing, nor does one that its gate turns away but for the bad-access count. That a SYNC goes in at the first packet boundary of the FIFO is the model's choice (log 24) (R538, R539, R542, R568). -/
def Obligations.TraceSyncsAndTallyCaptures : Prop :=
  ∀ (t : Time) (s : State), let z := begin' t s
    let tr := z.trace
    (rb s R.TRACE_CFG 0 31 = true → 20000 ≤ z.now - tr.lastSync → tr.lastSync ≤ z.now → tr.lost = 0 → traceLevel tr + 13 ≤ 4096 →
      Completes (.traceSync t) s (fun u =>
        traceSyncPacket u.now ∈ u.trace.fifo ∧ u.trace.fifo.length = tr.fifo.length + 1 ∧ u.trace.lastSync = u.now ∧
        u.trace.dropped = tr.dropped ∧ KeptBut begun s u)) ∧
    (z.now - tr.lastSync < 20000 ∨ rb s R.TRACE_CFG 0 31 = false → exec (.traceSync t) s = .next z) ∧
    (rb s R.TRACE_CFG 0 31 = true → 20000 ≤ z.now - tr.lastSync → exec (.traceSync t) s = .next { z with trace := traceSyncAt z.now tr }) ∧
    (rb s R.TRACE_CFG 0 31 = true → tr.lost ≠ 0 → traceLevel tr + 20 ≤ 4096 → Completes (.overflow t) s (fun u =>
      u.trace.fifo = tr.fifo ++ [0xE0 :: leBytes 2 u.now ++ leBytes 4 tr.lost, traceSyncPacket u.now] ∧ u.trace.lost = 0 ∧
      u.trace.dropped = tr.dropped ∧ KeptBut begun s u)) ∧
    (tr.lost = 0 ∨ rb s R.TRACE_CFG 0 31 = false → exec (.overflow t) s = .next z) ∧
    (∀ (a : Actor) (v : W32), TurnedAway (.tallySnap t a v) t a R.TALLY_SNAP.base 4 s) ∧
    (∀ (a : Actor) (v : W32), gateWrite s a R.TALLY_SNAP.base 4 = .allow →
      (flag v 0 = true → Completes (.tallySnap t a v) s (fun u =>
        u.tallySnapTime = u.now ∧ (∀ i : Fin 512, tabGet 0 u.tallySnap i = tally s i) ∧ KeptBut (.tallySnap :: .tallySnapTime :: begun) s u)) ∧
      (flag v 0 = false → exec (.tallySnap t a v) s = .next z))

/-- A write that its gate turns away is counted and captured, or ignored, and changes nothing else; one that passes at a plain course register changes the bits that software may write and no other; CLK_STAT and RST_CAUSE bits clear where 1 is written. A write that is no undefined use acts as its register's chapter says, by regAct, but that an output unit's enable counts as a bad access of cause 4 before the operational state (R14, R15, R17, R516, R568, R576). A write by an actor which the gate of its register turns away, for its size, its owner, the state of start-up or a lock, moves nothing, but the bad-access count and capture where the gate counts: the form of every command that is a write of one register. A command that stands for a write with enable 1, or 0, is no such write with the other value, and moves nothing then; an enable that waits for the operational state counts with cause 4 before it. RING_ENABLE is stated where no misuse of R76 stands already (R17, R516, R568, R571 to R574). -/
def Obligations.RegisterWritesPassTheirGate : Prop :=
  (∀ (t : Time) (a : Actor) (off size : Nat) (v : W64) (s : State),
    let w : W32 := v.setWidth 32
    let b := begin' t s
    let moves := pageOf off = 0x01 ∨ off = R.CISTER_MIRROR_BASE_LO.base ∨ off = R.CISTER_MIRROR_BASE_HI.base
    (gateWrite s a off size = .allow → setsEnable off w = false → (writeMisuse b a off size w).2 = false →
      (¬moves ∨ ringsMisuse b = true ∨ ringsMisuse (regAct a off size v b) = false) →
      exec (.registerWrite t a off size v) s = .next (regAct a off size v b)) ∧
    (gateWrite s a off size = .ignore → exec (.registerWrite t a off size v) s = .next b) ∧
    (gateWrite s a off size = .allow → setsEnable off w = true → (writeMisuse b a off size w).2 = false →
      exec (.registerWrite t a off size v) s = .next (if operational s then regAct a off size v b else badAccess a true 4 false off b)) ∧
    (∀ c : Nat, gateWrite s a off size = .bad c → Completes (.registerWrite t a off size v) s (fun u =>
      tally u T.badAccess = tally s T.badAccess + 1 ∧
      (flag s.security.badAcc 31 = false → fld u.security.badAcc 26 24 = c % 8 ∧ fld u.security.badAcc 19 0 = off % 2 ^ 20 ∧ flag u.security.badAcc 31 = true) ∧
      (flag s.security.badAcc 31 = true → u.security = s.security) ∧ KeptBut (.tallies :: .security :: begun) s u)) ∧
    (∀ r : Reg, gateWrite s a off size = .allow → pageOf off = 0x08 → size = 4 → implementOn s = false → regAt off = some r →
      Completes (.registerWrite t a off size v) s (fun u =>
        tabGet r.reset u.regs off = regMerge r (tabGet r.reset s.regs off) w ∧
        (∀ (o : Nat) (d : W32), o ≠ off → tabGet d u.regs o = tabGet d s.regs o) ∧ KeptBut (.regs :: begun) s u)) ∧
    (gateWrite s a off size = .allow → size = 4 →
      (off = R.CLK_STAT.base → Completes (.registerWrite t a off size v) s (fun u =>
        (∀ i : Fin 6, bitOf u.clocks.faults i = (bitOf s.clocks.faults i && !flag w i)) ∧ KeptBut (.clocks :: begun) s u)) ∧
      (off = R.RST_CAUSE.base → Completes (.registerWrite t a off size v) s (fun u =>
        u.clocks.causeCold = (s.clocks.causeCold && !flag w 31) ∧ u.clocks.causeWarm = (s.clocks.causeWarm && !flag w 30) ∧
        u.clocks.causeRef = (s.clocks.causeRef && !flag w 29) ∧ u.clocks.causePll = (s.clocks.causePll && !flag w 28) ∧
        KeptBut (.clocks :: begun) s u)))) ∧
  (∀ (t : Time) (a : Actor) (v : W32) (w : W64) (s : State), let b := begin' t s
    let off (e : Instr × Nat × Nat) : Prop := TurnedAway e.1 t a e.2.1 e.2.2 s
    let waits (e : Instr × Nat) : Prop :=
      (flag v 31 = false → exec e.1 s = .next b) ∧ (flag v 31 = true → off (e.1, e.2, 4)) ∧
      (flag v 31 = true → gateWrite s a e.2 4 = .allow → operational s = false → exec e.1 s = .next (badAccess a true 4 false e.2 b))
    let clears (e : Instr × Nat) : Prop := (flag v 31 = true → exec e.1 s = .next b) ∧ (flag v 31 = false → off (e.1, e.2, 4))
    (∀ n : Fin 128, (flag v 31 = false → exec (.ringEnable t a n v) s = .next b) ∧
      (flag v 31 = true → ringsMisuse b = false → off (.ringEnable t a n v, regOff R.CISTER_RING_CFG n 0, 4)) ∧
      clears (.ringDisable t a n v, regOff R.CISTER_RING_CFG n 0)) ∧
    (∀ n : Fin 16, (flag v 31 = false → exec (.fbEnable t a n v) s = .next b) ∧
      (flag v 31 = true → off (.fbEnable t a n v, regOff R.FB_CFG n 0, 4)) ∧ clears (.fbDisable t a n v, regOff R.FB_CFG n 0)) ∧
    (∀ (n : Fin 4) (den : Bool) (size : Nat), off (.emuRatioWrite t a n den size w, regOff (if den then R.EMU_DEN else R.EMU_NUM) n 0, size)) ∧
    (∀ n : Fin 48, waits (.pwmEnable t a n v, regOff R.PWM_CFG n 0) ∧ clears (.pwmDisable t a n v, regOff R.PWM_CFG n 0) ∧
      off (.pwmCmpPerWrite t a n w, regOff R.PWM_CMP n 0, 8) ∧ off (.pwmStatClear t a n v, regOff R.PWM_STAT n 0, 4) ∧
      ∀ per : Bool, off (.pwmShadowWrite t a n per v, regOff (if per then R.PWM_PER else R.PWM_CMP) n 0, 4)) ∧
    (∀ m : Fin 6, off (.pwmModSyncGo t a m v, regOff R.PWM_MOD_SYNC m 0, 4)) ∧
    (∀ m : Fin 2, waits (.ethEnable t a m v, regOff R.ETH_CFG m 0)) ∧
    (∀ p : Fin 32, waits (.canPortEnable t a p v, regOff R.CAN_PORT_CFG p 0) ∧ clears (.canPortDisable t a p v, regOff R.CAN_PORT_CFG p 0) ∧
      off (.recover t a p v, regOff R.CAN_PORT_CTRL p 0, 4)) ∧
    (∀ ch : Fin 64, off (.drvChannelDisable t a ch, regOff R.DRV_CH_CFG ch 0, 4) ∧ off (.drvThRrefWrite t a ch v, regOff R.DRV_TH_RREF ch 0, 4) ∧
      off (.drvFaultClear t a ch v, regOff R.DRV_FAULT ch 0, 4)) ∧
    (∀ k : Fin 8, off (.drvHsStatClear t a k v, regOff R.DRV_HS_STAT k 0, 4)) ∧
    (∀ slot : Fin 32, off (.profileValidate t a slot v, regOff R.DRV_PROF_HDR slot 0, 4)) ∧
    ∀ e ∈ [(Instr.hostWdogWrite t a v, R.CISTER_HOST_WDOG.base, 4), (.mdioStart t a v, R.ETH_MDIO.base, 4), (.leaseReq t a v, R.LEASE_REQ.base, 4),
        (.loopBistReq t a v, R.LOOP_BIST_REQ.base, 4), (.tallySnap t a v, R.TALLY_SNAP.base, 4), (.rtcSet t a v, R.LEDGER_RTC_CTRL.base, 4),
        (.recoveryImageLoad t a v, R.SEC_RECOVERY_CTRL.base, 4)], off e)
end

