-- ==== Sys2Proof/Laws/Tables.lean ====
section
/-! SUPPORT. Laws of the sparse tables and of memories: what a store leaves readable, and that every store keeps the canonical form. -/
namespace Sys2Proof.Machine

variable {α : Type} {d : α}

theorem tabGet_erase (t : Tab α) (k j : Nat) : tabGet d (tabErase k t) j = if k = j then d else tabGet d t j := by
  induction t with
  | nil => simp [tabErase, tabGet]
  | cons e rest ih =>
    obtain ⟨k', v⟩ := e
    by_cases h : k' = k <;> by_cases h2 : k' = j <;> simp_all [tabErase, tabGet] <;> grind

theorem tabGet_insert (t : Tab α) (k : Nat) (v : α) (j : Nat) (h : ∀ e ∈ t, e.1 ≠ k) :
    tabGet d (tabInsert k v t) j = if k = j then v else tabGet d t j := by
  induction t with
  | nil => simp [tabInsert, tabGet]
  | cons e rest ih =>
    obtain ⟨k', v'⟩ := e
    have hk : k' ≠ k := h (k', v') (by simp)
    have ih := ih (fun e he => h e (by simp [he]))
    unfold tabInsert
    split
    · simp [tabGet]
    · by_cases h2 : k' = j
      · subst h2; simp [tabGet, Ne.symm hk]
      · simp [tabGet, h2, ih]

theorem tabErase_keys (t : Tab α) (k : Nat) : ∀ e ∈ tabErase k t, e.1 ≠ k := by
  induction t with
  | nil => simp [tabErase]
  | cons e rest ih =>
    obtain ⟨k', v'⟩ := e
    unfold tabErase
    split
    · exact ih
    · intro e he
      cases List.mem_cons.mp he with
      | inl h => simpa [h]
      | inr h => exact ih e h

/-- What every key reads as after a store. -/
theorem tabGet_tabSet [DecidableEq α] (t : Tab α) (k : Nat) (v : α) (j : Nat) :
    tabGet d (tabSet d t k v) j = if k = j then v else tabGet d t j := by
  unfold tabSet
  split
  · simp_all [tabGet_erase]
  · rw [tabGet_insert _ _ _ _ (tabErase_keys t k), tabGet_erase]
    by_cases h : k = j <;> simp [h]

@[simp] theorem tabGet_tabSet_same [DecidableEq α] (t : Tab α) (k : Nat) (v : α) : tabGet d (tabSet d t k v) k = v := by
  simp [tabGet_tabSet]

theorem tabGet_tabSet_other [DecidableEq α] (t : Tab α) (k : Nat) (v : α) (j : Nat) (h : k ≠ j) :
    tabGet d (tabSet d t k v) j = tabGet d t j := by
  simp [tabGet_tabSet, h]

/-- A store at one key leaves what any other key reads as, whatever unlisted value each of them has. -/
theorem tabGet_tabSet_far [DecidableEq α] (d' : α) (t : Tab α) (k : Nat) (v : α) (j : Nat) (h : k ≠ j) :
    tabGet d (tabSet d' t k v) j = tabGet d t j := by
  unfold tabSet
  split
  · rw [tabGet_erase, if_neg h]
  · rw [tabGet_insert _ _ _ _ (tabErase_keys t k), if_neg h, tabGet_erase, if_neg h]

theorem tabRising_mono (t : Tab α) (lo lo' : Nat) (h : lo' ≤ lo) (w : tabRising lo t = true) : tabRising lo' t = true := by
  cases t with
  | nil => rfl
  | cons e rest =>
    obtain ⟨k, v⟩ := e
    simp only [tabRising, Bool.and_eq_true, decide_eq_true_eq] at w ⊢
    exact ⟨by omega, w.2⟩

theorem tabRising_erase (t : Tab α) (lo k : Nat) (w : tabRising lo t = true) : tabRising lo (tabErase k t) = true := by
  induction t generalizing lo with
  | nil => rfl
  | cons e rest ih =>
    obtain ⟨k', v⟩ := e
    simp only [tabRising, Bool.and_eq_true, decide_eq_true_eq] at w
    unfold tabErase
    split
    · exact tabRising_mono _ _ _ (by omega) (ih (k' + 1) w.2)
    · simp only [tabRising, Bool.and_eq_true, decide_eq_true_eq]
      exact ⟨w.1, ih _ w.2⟩

theorem tabRising_insert (t : Tab α) (lo k : Nat) (v : α) (hlo : lo ≤ k) (w : tabRising lo t = true)
    (h : ∀ e ∈ t, e.1 ≠ k) : tabRising lo (tabInsert k v t) = true := by
  induction t generalizing lo with
  | nil => simp [tabInsert, tabRising, hlo]
  | cons e rest ih =>
    obtain ⟨k', v'⟩ := e
    simp only [tabRising, Bool.and_eq_true, decide_eq_true_eq] at w
    have hk : k' ≠ k := h (k', v') (by simp)
    unfold tabInsert
    split
    · simp only [tabRising, Bool.and_eq_true, decide_eq_true_eq]
      exact ⟨hlo, by omega, w.2⟩
    · simp only [tabRising, Bool.and_eq_true, decide_eq_true_eq]
      exact ⟨w.1, ih _ (by omega) w.2 (fun e he => h e (by simp [he]))⟩

theorem tabErase_mem (t : Tab α) (k : Nat) (e : Nat × α) (h : e ∈ tabErase k t) : e ∈ t := by
  induction t with
  | nil => simp [tabErase] at h
  | cons x rest ih =>
    obtain ⟨k', v'⟩ := x
    unfold tabErase at h
    split at h
    · exact List.mem_cons_of_mem _ (ih h)
    · cases List.mem_cons.mp h with
      | inl h => simp [h]
      | inr h => exact List.mem_cons_of_mem _ (ih h)

theorem tabInsert_mem (t : Tab α) (k : Nat) (v : α) (e : Nat × α) (h : e ∈ tabInsert k v t) : e = (k, v) ∨ e ∈ t := by
  induction t with
  | nil => simpa [tabInsert] using h
  | cons x rest ih =>
    obtain ⟨k', v'⟩ := x
    unfold tabInsert at h
    split at h
    · simpa using h
    · cases List.mem_cons.mp h with
      | inl h => simp [h]
      | inr h => cases ih h with
        | inl h => exact .inl h
        | inr h => exact .inr (List.mem_cons_of_mem _ h)

/-- Every store keeps the canonical form of a table. -/
theorem tabWf_tabSet [DecidableEq α] (t : Tab α) (k : Nat) (v : α) (w : tabWf d t = true) : tabWf d (tabSet d t k v) = true := by
  simp only [tabWf, Bool.and_eq_true, List.all_eq_true, decide_eq_true_eq] at w ⊢
  have he := tabRising_erase t 0 k w.1
  unfold tabSet
  split
  · exact ⟨he, fun e h => w.2 e (tabErase_mem t k e h)⟩
  · rename_i hv
    refine ⟨tabRising_insert _ _ _ _ (Nat.zero_le _) he (tabErase_keys t k), fun e h => ?_⟩
    cases tabInsert_mem _ _ _ _ h with
    | inl h => simpa [h] using hv
    | inr h => exact w.2 e (tabErase_mem t k e h)

@[simp] theorem tabWf_nil [DecidableEq α] : tabWf d ([] : Tab α) = true := rfl

/-! ### Memories -/

@[simp] theorem memByte_nil (a : Nat) : memByte [] a = 0 := rfl

theorem memByte_memSet (m : Memory) (a : Nat) (b : Byte) (x : Nat) :
    memByte (memSet m a b) x = if a = x then b else memByte m x := tabGet_tabSet m a b x

/-- A byte below the first one stored, or past the last, reads as before. -/
theorem memByte_memWrite_outside (bs : List Byte) (m : Memory) (a x : Nat) (h : x < a ∨ a + bs.length ≤ x) :
    memByte (memWrite m a bs) x = memByte m x := by
  induction bs generalizing m a with
  | nil => rfl
  | cons b rest ih =>
    simp only [List.length_cons] at h
    unfold memWrite
    rw [ih _ _ (by omega), memByte_memSet, if_neg (by omega)]

/-- The byte stored reads back. -/
theorem memByte_memWrite_inside (bs : List Byte) (m : Memory) (a i : Nat) (h : i < bs.length) :
    memByte (memWrite m a bs) (a + i) = bs[i] := by
  induction bs generalizing m a i with
  | nil => simp at h
  | cons b rest ih =>
    unfold memWrite
    cases i with
    | zero => rw [memByte_memWrite_outside _ _ _ _ (by omega), memByte_memSet]; simp
    | succ i =>
      have := ih (memSet m a b) (a + 1) i (by simpa using h)
      rw [show a + (i + 1) = a + 1 + i by omega, this]; simp

/-- Every store keeps a memory's canonical form. -/
@[simp] theorem memWrite_wf (bs : List Byte) (m : Memory) (a : Nat) (w : Memory.wf m = true) : Memory.wf (memWrite m a bs) = true := by
  induction bs generalizing m a with
  | nil => exact w
  | cons b rest ih => exact ih _ _ (tabWf_tabSet m a b w)

end Sys2Proof.Machine
end

