-- ==== Sys2Proof/Laws/Access.lean ====
section
/-! SUPPORT. What the accessors of the units find after the updates of the same unit. -/
namespace Sys2Proof.Machine

/-- What `lane` finds after `setLane`. -/
theorem lane_setLane (k j : Nat) (x : Lane) (s : State) : lane (setLane k x s) j = if k = j then x else lane s j := by
  by_cases h : k = j
  · subst h; simp [lane, setLane]
  · simp [lane, setLane, tabGet_tabSet_far, h]

@[simp] theorem lane_setLane_same (k : Nat) (x : Lane) (s : State) : lane (setLane k x s) k = x := by simp [lane_setLane]

/-- What `caravan` finds after `setCaravan`. -/
theorem caravan_setCaravan (k j : Nat) (x : Caravan) (s : State) : caravan (setCaravan k x s) j = if k = j then x else caravan s j := by
  by_cases h : k = j
  · subst h; simp [caravan, setCaravan]
  · simp [caravan, setCaravan, tabGet_tabSet_far, h]

@[simp] theorem caravan_setCaravan_same (k : Nat) (x : Caravan) (s : State) : caravan (setCaravan k x s) k = x := by simp [caravan_setCaravan]

/-- What `ring` finds after `setRing`. -/
theorem ring_setRing (k j : Nat) (x : Ring) (s : State) : ring (setRing k x s) j = if k = j then x else ring s j := by
  by_cases h : k = j
  · subst h; simp [ring, setRing]
  · simp [ring, setRing, tabGet_tabSet_far, h]

@[simp] theorem ring_setRing_same (k : Nat) (x : Ring) (s : State) : ring (setRing k x s) k = x := by simp [ring_setRing]

/-- What `moderation` finds after `setModeration`. -/
theorem moderation_setModeration (k j : Nat) (x : Moderation) (s : State) : moderation (setModeration k x s) j = if k = j then x else moderation s j := by
  by_cases h : k = j
  · subst h; simp [moderation, setModeration]
  · simp [moderation, setModeration, tabGet_tabSet_far, h]

@[simp] theorem moderation_setModeration_same (k : Nat) (x : Moderation) (s : State) : moderation (setModeration k x s) k = x := by simp [moderation_setModeration]

/-- What `notif` finds after `setNotif`. -/
theorem notif_setNotif (k j : Nat) (x : Notif) (s : State) : notif (setNotif k x s) j = if k = j then x else notif s j := by
  by_cases h : k = j
  · subst h; simp [notif, setNotif]
  · simp [notif, setNotif, tabGet_tabSet_far, h]

@[simp] theorem notif_setNotif_same (k : Nat) (x : Notif) (s : State) : notif (setNotif k x s) k = x := by simp [notif_setNotif]

/-- What `lstream` finds after `setLStream`. -/
theorem lstream_setLStream (k j : Nat) (x : LStream) (s : State) : lstream (setLStream k x s) j = if k = j then x else lstream s j := by
  by_cases h : k = j
  · subst h; simp [lstream, setLStream]
  · simp [lstream, setLStream, tabGet_tabSet_far, h]

@[simp] theorem lstream_setLStream_same (k : Nat) (x : LStream) (s : State) : lstream (setLStream k x s) k = x := by simp [lstream_setLStream]

/-- What `fb` finds after `setFb`. -/
theorem fb_setFb (k j : Nat) (x : FbCh) (s : State) : fb (setFb k x s) j = if k = j then x else fb s j := by
  by_cases h : k = j
  · subst h; simp [fb, setFb]
  · simp [fb, setFb, tabGet_tabSet_far, h]

@[simp] theorem fb_setFb_same (k : Nat) (x : FbCh) (s : State) : fb (setFb k x s) k = x := by simp [fb_setFb]

/-- What `ain` finds after `setAin`. -/
theorem ain_setAin (k j : Nat) (x : AinCh) (s : State) : ain (setAin k x s) j = if k = j then x else ain s j := by
  by_cases h : k = j
  · subst h; simp [ain, setAin]
  · simp [ain, setAin, tabGet_tabSet_far, h]

@[simp] theorem ain_setAin_same (k : Nat) (x : AinCh) (s : State) : ain (setAin k x s) k = x := by simp [ain_setAin]

/-- What `emu` finds after `setEmu`. -/
theorem emu_setEmu (k j : Nat) (x : EmuCh) (s : State) : emu (setEmu k x s) j = if k = j then x else emu s j := by
  by_cases h : k = j
  · subst h; simp [emu, setEmu]
  · simp [emu, setEmu, tabGet_tabSet_far, h]

@[simp] theorem emu_setEmu_same (k : Nat) (x : EmuCh) (s : State) : emu (setEmu k x s) k = x := by simp [emu_setEmu]

/-- What `tileSlot` finds after `setTileSlot`. -/
theorem tileSlot_setTileSlot (k j : Nat) (x : TileSlot) (s : State) : tileSlot (setTileSlot k x s) j = if k = j then x else tileSlot s j := by
  by_cases h : k = j
  · subst h; simp [tileSlot, setTileSlot]
  · simp [tileSlot, setTileSlot, tabGet_tabSet_far, h]

@[simp] theorem tileSlot_setTileSlot_same (k : Nat) (x : TileSlot) (s : State) : tileSlot (setTileSlot k x s) k = x := by simp [tileSlot_setTileSlot]

/-- What `drvCh` finds after `setDrvCh`. -/
theorem drvCh_setDrvCh (k j : Nat) (x : DrvCh) (s : State) : drvCh (setDrvCh k x s) j = if k = j then x else drvCh s j := by
  by_cases h : k = j
  · subst h; simp [drvCh, setDrvCh]
  · simp [drvCh, setDrvCh, tabGet_tabSet_far, h]

@[simp] theorem drvCh_setDrvCh_same (k : Nat) (x : DrvCh) (s : State) : drvCh (setDrvCh k x s) k = x := by simp [drvCh_setDrvCh]

/-- What `loop` finds after `setLoop`. -/
theorem loop_setLoop (k j : Nat) (x : LoopCh) (s : State) : loop (setLoop k x s) j = if k = j then x else loop s j := by
  by_cases h : k = j
  · subst h; simp [loop, setLoop]
  · simp [loop, setLoop, tabGet_tabSet_far, h]

@[simp] theorem loop_setLoop_same (k : Nat) (x : LoopCh) (s : State) : loop (setLoop k x s) k = x := by simp [loop_setLoop]

/-- What `pwmCh` finds after `setPwmCh`. -/
theorem pwmCh_setPwmCh (k j : Nat) (x : PwmCh) (s : State) : pwmCh (setPwmCh k x s) j = if k = j then x else pwmCh s j := by
  by_cases h : k = j
  · subst h; simp [pwmCh, setPwmCh]
  · simp [pwmCh, setPwmCh, tabGet_tabSet_far, h]

@[simp] theorem pwmCh_setPwmCh_same (k : Nat) (x : PwmCh) (s : State) : pwmCh (setPwmCh k x s) k = x := by simp [pwmCh_setPwmCh]

/-- What `busPort` finds after `setBus`. -/
theorem busPort_setBus (k j : Nat) (x : BusPort) (s : State) : busPort (setBus k x s) j = if k = j then x else busPort s j := by
  by_cases h : k = j
  · subst h; simp [busPort, setBus]
  · simp [busPort, setBus, tabGet_tabSet_far, h]

@[simp] theorem busPort_setBus_same (k : Nat) (x : BusPort) (s : State) : busPort (setBus k x s) k = x := by simp [busPort_setBus]

/-- What `ethMac` finds after `setEthMac`. -/
theorem ethMac_setEthMac (k j : Nat) (x : EthMac) (s : State) : ethMac (setEthMac k x s) j = if k = j then x else ethMac s j := by
  by_cases h : k = j
  · subst h; simp [ethMac, setEthMac]
  · simp [ethMac, setEthMac, tabGet_tabSet_far, h]

@[simp] theorem ethMac_setEthMac_same (k : Nat) (x : EthMac) (s : State) : ethMac (setEthMac k x s) k = x := by simp [ethMac_setEthMac]

/-- What `latchFifo` finds after `setLatchFifo`. -/
theorem latchFifo_setLatchFifo (k j : Nat) (x : List LatchRec) (s : State) : latchFifo (setLatchFifo k x s) j = if k = j then x else latchFifo s j := by
  by_cases h : k = j
  · subst h; simp [latchFifo, setLatchFifo]
  · simp [latchFifo, setLatchFifo, tabGet_tabSet_far, h]

@[simp] theorem latchFifo_setLatchFifo_same (k : Nat) (x : List LatchRec) (s : State) : latchFifo (setLatchFifo k x s) k = x := by simp [latchFifo_setLatchFifo]

/-! ### Registers and tallies -/

theorem rd2_wr2 (r q : Reg) (i j i' j' : Nat) (v : W32) (s : State) (h : r.reset = q.reset) :
    rd2 (wr2 r i j v s) q i' j' = if regOff r i j = regOff q i' j' then v else rd2 s q i' j' := by
  simp only [rd2, wr2, ← h, tabGet_tabSet]

@[simp] theorem rd2_wr2_same (r : Reg) (i j : Nat) (v : W32) (s : State) : rd2 (wr2 r i j v s) r i j = v := by
  simp [rd2, wr2]

@[simp] theorem rd_wr_same (r : Reg) (i : Nat) (v : W32) (s : State) : rd (wr r i v s) r i = v := by
  simp [rd, wr]

/-- A write to one register leaves another as it reads. -/
theorem rd2_wr2_other (r q : Reg) (i j i' j' : Nat) (v : W32) (s : State) (h : regOff r i j ≠ regOff q i' j') :
    rd2 (wr2 r i j v s) q i' j' = rd2 s q i' j' := by
  simp only [rd2, wr2]
  exact tabGet_tabSet_far _ _ _ _ _ h

theorem tally_bumpBy (k n j : Nat) (s : State) :
    tally (bumpBy k n s) j = if k = j then tally s j + BitVec.ofNat 32 n else tally s j := by
  by_cases h : k = j
  · subst h; simp [tally, bumpBy, tabMod]
  · simp [tally, bumpBy, tabMod, tabGet_tabSet, h]

@[simp] theorem tally_bump_same (k : Nat) (s : State) : tally (bump k s) k = tally s k + 1 := by
  simp [bump, tally_bumpBy]

theorem tally_bump_other (k j : Nat) (s : State) (h : k ≠ j) : tally (bump k s) j = tally s j := by
  simp [bump, tally_bumpBy, h]

@[simp] theorem tally_setTally_same (k : Nat) (v : W32) (s : State) : tally (setTally k v s) k = v := by
  simp [tally, setTally]

@[simp] theorem drd_dset_same (r : Reg) (i : Nat) (v : W32) (s : State) : drd (dset r i v s) r i = v := by
  simp [drd, drd2, dset]

end Sys2Proof.Machine
end

