-- ==== Sys2Proof/Laws/Moves.lean ====
section
/-! SUPPORT. What an operation moves: a list of pieces that may change while every other piece stays and memories keep their canonical form; how that composes. -/
namespace Sys2Proof.Machine

/-- An operation from `s` to `u` moves at most the pieces listed, and keeps memories canonical. -/
def Moves (l : List Piece) (s u : State) : Prop := KeptBut l s u ∧ (Canonical s → Canonical u)

theorem Moves.refl (l : List Piece) (s : State) : Moves l s s := ⟨fun p _ => by cases p <;> rfl, id⟩

theorem Moves.trans {l : List Piece} {s u v : State} (h : Moves l s u) (k : Moves l u v) : Moves l s v := by
  refine ⟨fun p hp => ?_, fun c => k.2 (h.2 c)⟩
  have a := h.1 p hp
  have b := k.1 p hp
  cases p <;> exact b.trans a

theorem sub_all {l m : List Piece} (h : l.all (fun p => m.contains p) = true) : ∀ p, p ∈ l → p ∈ m := by
  intro p hp
  simpa using List.all_eq_true.mp h p hp

theorem Moves.mono {l : List Piece} (m : List Piece) {s u : State} (h : Moves l s u) (hm : l.all (fun p => m.contains p) = true) : Moves m s u :=
  ⟨fun p hp => h.1 p (fun x => hp (sub_all hm p x)), h.2⟩

/-- One more operation at the end. -/
theorem Moves.after {l : List Piece} (m : List Piece) {s u v : State} (k : Moves l u v) (hm : l.all (fun p => m.contains p) = true)
    (h : Moves m s u) : Moves m s v := h.trans (k.mono m hm)

theorem Moves.foldl {α : Type} {l : List Piece} {f : State → α → State} {s u : State} (xs : List α)
    (h : ∀ s a, Moves l s (f s a)) (k : Moves l s u) : Moves l s (xs.foldl f u) := by
  induction xs generalizing u with
  | nil => exact k
  | cons x rest ih => exact ih (k.trans (h u x))

/-- The second component of a pair that a match has named. -/
theorem Moves.pair {α : Type} {l : List Piece} {s u : State} {x : α × State} {a : α} (h : x = (a, u)) (k : Moves l s x.2) : Moves l s u := by
  subst h; exact k

/-- A record update: each piece is listed, or taken from `u`. -/
theorem Moves.mk {l : List Piece} {s u v : State} (k : Moves l s u) (h : ∀ p, l.contains p = true ∨ p.same u v)
    (hm : v.hostMem = u.hostMem) (mm : v.messageStore = u.messageStore) (am : v.appSram = u.appSram) : Moves l s v := by
  refine ⟨fun p hp => ?_, fun c => ?_⟩
  · have a := k.1 p hp
    have b : p.same u v := by
      rcases h p with h | h
      · exact absurd (by simpa using h) hp
      · exact h
    cases p <;> exact b.trans a
  · have := k.2 c
    exact ⟨by rw [hm]; exact this.1, by rw [mm]; exact this.2.1, by rw [am]; exact this.2.2⟩

theorem Canonical.hostMem {s : State} (h : Canonical s) : Memory.wf s.hostMem = true := h.1
theorem Canonical.messageStore {s : State} (h : Canonical s) : Memory.wf s.messageStore = true := h.2.1
theorem Canonical.appSram {s : State} (h : Canonical s) : Memory.wf s.appSram = true := h.2.2

end Sys2Proof.Machine
end

