-- ==== Sys2Proof/Laws/State.lean ====
section
/-! SUPPORT. One lemma per field of State per named update: what the update leaves unchanged. -/
namespace Sys2Proof.Machine

@[simp] theorem emit_pending (o : Out) (s : State) : (emit o s).pending = s.pending := rfl
@[simp] theorem emit_now (o : Out) (s : State) : (emit o s).now = s.now := rfl
@[simp] theorem emit_freeDraws (o : Out) (s : State) : (emit o s).freeDraws = s.freeDraws := rfl
@[simp] theorem emit_readData (o : Out) (s : State) : (emit o s).readData = s.readData := rfl
@[simp] theorem emit_hostMem (o : Out) (s : State) : (emit o s).hostMem = s.hostMem := rfl
@[simp] theorem emit_messageStore (o : Out) (s : State) : (emit o s).messageStore = s.messageStore := rfl
@[simp] theorem emit_appSram (o : Out) (s : State) : (emit o s).appSram = s.appSram := rfl
@[simp] theorem emit_regs (o : Out) (s : State) : (emit o s).regs = s.regs := rfl
@[simp] theorem emit_tallies (o : Out) (s : State) : (emit o s).tallies = s.tallies := rfl
@[simp] theorem emit_tallySnap (o : Out) (s : State) : (emit o s).tallySnap = s.tallySnap := rfl
@[simp] theorem emit_tallySnapTime (o : Out) (s : State) : (emit o s).tallySnapTime = s.tallySnapTime := rfl
@[simp] theorem emit_hiLatch (o : Out) (s : State) : (emit o s).hiLatch = s.hiLatch := rfl
@[simp] theorem emit_cister (o : Out) (s : State) : (emit o s).cister = s.cister := rfl
@[simp] theorem emit_ledger (o : Out) (s : State) : (emit o s).ledger = s.ledger := rfl
@[simp] theorem emit_aon (o : Out) (s : State) : (emit o s).aon = s.aon := rfl
@[simp] theorem emit_trace (o : Out) (s : State) : (emit o s).trace = s.trace := rfl
@[simp] theorem emit_startup (o : Out) (s : State) : (emit o s).startup = s.startup := rfl
@[simp] theorem emit_clocks (o : Out) (s : State) : (emit o s).clocks = s.clocks := rfl
@[simp] theorem emit_eventLines (o : Out) (s : State) : (emit o s).eventLines = s.eventLines := rfl
@[simp] theorem emit_cores (o : Out) (s : State) : (emit o s).cores = s.cores := rfl
@[simp] theorem emit_security (o : Out) (s : State) : (emit o s).security = s.security := rfl
@[simp] theorem emit_feedback (o : Out) (s : State) : (emit o s).feedback = s.feedback := rfl
@[simp] theorem emit_course (o : Out) (s : State) : (emit o s).course = s.course := rfl
@[simp] theorem emit_engine (o : Out) (s : State) : (emit o s).engine = s.engine := rfl
@[simp] theorem emit_drive (o : Out) (s : State) : (emit o s).drive = s.drive := rfl
@[simp] theorem emit_relay (o : Out) (s : State) : (emit o s).relay = s.relay := rfl
@[simp] theorem emit_lease (o : Out) (s : State) : (emit o s).lease = s.lease := rfl
@[simp] theorem emit_pwm (o : Out) (s : State) : (emit o s).pwm = s.pwm := rfl
@[simp] theorem emit_loops (o : Out) (s : State) : (emit o s).loops = s.loops := rfl
@[simp] theorem emit_eth (o : Out) (s : State) : (emit o s).eth = s.eth := rfl
@[simp] theorem emit_bus (o : Out) (s : State) : (emit o s).bus = s.bus := rfl

@[simp] theorem drawFree_pending (s : State) : (drawFree s).pending = s.pending := rfl
@[simp] theorem drawFree_now (s : State) : (drawFree s).now = s.now := rfl
@[simp] theorem drawFree_out (s : State) : (drawFree s).out = s.out := rfl
@[simp] theorem drawFree_readData (s : State) : (drawFree s).readData = s.readData := rfl
@[simp] theorem drawFree_hostMem (s : State) : (drawFree s).hostMem = s.hostMem := rfl
@[simp] theorem drawFree_messageStore (s : State) : (drawFree s).messageStore = s.messageStore := rfl
@[simp] theorem drawFree_appSram (s : State) : (drawFree s).appSram = s.appSram := rfl
@[simp] theorem drawFree_regs (s : State) : (drawFree s).regs = s.regs := rfl
@[simp] theorem drawFree_tallies (s : State) : (drawFree s).tallies = s.tallies := rfl
@[simp] theorem drawFree_tallySnap (s : State) : (drawFree s).tallySnap = s.tallySnap := rfl
@[simp] theorem drawFree_tallySnapTime (s : State) : (drawFree s).tallySnapTime = s.tallySnapTime := rfl
@[simp] theorem drawFree_hiLatch (s : State) : (drawFree s).hiLatch = s.hiLatch := rfl
@[simp] theorem drawFree_cister (s : State) : (drawFree s).cister = s.cister := rfl
@[simp] theorem drawFree_ledger (s : State) : (drawFree s).ledger = s.ledger := rfl
@[simp] theorem drawFree_aon (s : State) : (drawFree s).aon = s.aon := rfl
@[simp] theorem drawFree_trace (s : State) : (drawFree s).trace = s.trace := rfl
@[simp] theorem drawFree_startup (s : State) : (drawFree s).startup = s.startup := rfl
@[simp] theorem drawFree_clocks (s : State) : (drawFree s).clocks = s.clocks := rfl
@[simp] theorem drawFree_eventLines (s : State) : (drawFree s).eventLines = s.eventLines := rfl
@[simp] theorem drawFree_cores (s : State) : (drawFree s).cores = s.cores := rfl
@[simp] theorem drawFree_security (s : State) : (drawFree s).security = s.security := rfl
@[simp] theorem drawFree_feedback (s : State) : (drawFree s).feedback = s.feedback := rfl
@[simp] theorem drawFree_course (s : State) : (drawFree s).course = s.course := rfl
@[simp] theorem drawFree_engine (s : State) : (drawFree s).engine = s.engine := rfl
@[simp] theorem drawFree_drive (s : State) : (drawFree s).drive = s.drive := rfl
@[simp] theorem drawFree_relay (s : State) : (drawFree s).relay = s.relay := rfl
@[simp] theorem drawFree_lease (s : State) : (drawFree s).lease = s.lease := rfl
@[simp] theorem drawFree_pwm (s : State) : (drawFree s).pwm = s.pwm := rfl
@[simp] theorem drawFree_loops (s : State) : (drawFree s).loops = s.loops := rfl
@[simp] theorem drawFree_eth (s : State) : (drawFree s).eth = s.eth := rfl
@[simp] theorem drawFree_bus (s : State) : (drawFree s).bus = s.bus := rfl

@[simp] theorem wr2_pending (r : Reg) (i j : Nat) (v : W32) (s : State) : (wr2 r i j v s).pending = s.pending := rfl
@[simp] theorem wr2_now (r : Reg) (i j : Nat) (v : W32) (s : State) : (wr2 r i j v s).now = s.now := rfl
@[simp] theorem wr2_freeDraws (r : Reg) (i j : Nat) (v : W32) (s : State) : (wr2 r i j v s).freeDraws = s.freeDraws := rfl
@[simp] theorem wr2_out (r : Reg) (i j : Nat) (v : W32) (s : State) : (wr2 r i j v s).out = s.out := rfl
@[simp] theorem wr2_readData (r : Reg) (i j : Nat) (v : W32) (s : State) : (wr2 r i j v s).readData = s.readData := rfl
@[simp] theorem wr2_hostMem (r : Reg) (i j : Nat) (v : W32) (s : State) : (wr2 r i j v s).hostMem = s.hostMem := rfl
@[simp] theorem wr2_messageStore (r : Reg) (i j : Nat) (v : W32) (s : State) : (wr2 r i j v s).messageStore = s.messageStore := rfl
@[simp] theorem wr2_appSram (r : Reg) (i j : Nat) (v : W32) (s : State) : (wr2 r i j v s).appSram = s.appSram := rfl
@[simp] theorem wr2_tallies (r : Reg) (i j : Nat) (v : W32) (s : State) : (wr2 r i j v s).tallies = s.tallies := rfl
@[simp] theorem wr2_tallySnap (r : Reg) (i j : Nat) (v : W32) (s : State) : (wr2 r i j v s).tallySnap = s.tallySnap := rfl
@[simp] theorem wr2_tallySnapTime (r : Reg) (i j : Nat) (v : W32) (s : State) : (wr2 r i j v s).tallySnapTime = s.tallySnapTime := rfl
@[simp] theorem wr2_hiLatch (r : Reg) (i j : Nat) (v : W32) (s : State) : (wr2 r i j v s).hiLatch = s.hiLatch := rfl
@[simp] theorem wr2_cister (r : Reg) (i j : Nat) (v : W32) (s : State) : (wr2 r i j v s).cister = s.cister := rfl
@[simp] theorem wr2_ledger (r : Reg) (i j : Nat) (v : W32) (s : State) : (wr2 r i j v s).ledger = s.ledger := rfl
@[simp] theorem wr2_aon (r : Reg) (i j : Nat) (v : W32) (s : State) : (wr2 r i j v s).aon = s.aon := rfl
@[simp] theorem wr2_trace (r : Reg) (i j : Nat) (v : W32) (s : State) : (wr2 r i j v s).trace = s.trace := rfl
@[simp] theorem wr2_startup (r : Reg) (i j : Nat) (v : W32) (s : State) : (wr2 r i j v s).startup = s.startup := rfl
@[simp] theorem wr2_clocks (r : Reg) (i j : Nat) (v : W32) (s : State) : (wr2 r i j v s).clocks = s.clocks := rfl
@[simp] theorem wr2_eventLines (r : Reg) (i j : Nat) (v : W32) (s : State) : (wr2 r i j v s).eventLines = s.eventLines := rfl
@[simp] theorem wr2_cores (r : Reg) (i j : Nat) (v : W32) (s : State) : (wr2 r i j v s).cores = s.cores := rfl
@[simp] theorem wr2_security (r : Reg) (i j : Nat) (v : W32) (s : State) : (wr2 r i j v s).security = s.security := rfl
@[simp] theorem wr2_feedback (r : Reg) (i j : Nat) (v : W32) (s : State) : (wr2 r i j v s).feedback = s.feedback := rfl
@[simp] theorem wr2_course (r : Reg) (i j : Nat) (v : W32) (s : State) : (wr2 r i j v s).course = s.course := rfl
@[simp] theorem wr2_engine (r : Reg) (i j : Nat) (v : W32) (s : State) : (wr2 r i j v s).engine = s.engine := rfl
@[simp] theorem wr2_drive (r : Reg) (i j : Nat) (v : W32) (s : State) : (wr2 r i j v s).drive = s.drive := rfl
@[simp] theorem wr2_relay (r : Reg) (i j : Nat) (v : W32) (s : State) : (wr2 r i j v s).relay = s.relay := rfl
@[simp] theorem wr2_lease (r : Reg) (i j : Nat) (v : W32) (s : State) : (wr2 r i j v s).lease = s.lease := rfl
@[simp] theorem wr2_pwm (r : Reg) (i j : Nat) (v : W32) (s : State) : (wr2 r i j v s).pwm = s.pwm := rfl
@[simp] theorem wr2_loops (r : Reg) (i j : Nat) (v : W32) (s : State) : (wr2 r i j v s).loops = s.loops := rfl
@[simp] theorem wr2_eth (r : Reg) (i j : Nat) (v : W32) (s : State) : (wr2 r i j v s).eth = s.eth := rfl
@[simp] theorem wr2_bus (r : Reg) (i j : Nat) (v : W32) (s : State) : (wr2 r i j v s).bus = s.bus := rfl

@[simp] theorem bumpBy_pending (k n : Nat) (s : State) : (bumpBy k n s).pending = s.pending := rfl
@[simp] theorem bumpBy_now (k n : Nat) (s : State) : (bumpBy k n s).now = s.now := rfl
@[simp] theorem bumpBy_freeDraws (k n : Nat) (s : State) : (bumpBy k n s).freeDraws = s.freeDraws := rfl
@[simp] theorem bumpBy_out (k n : Nat) (s : State) : (bumpBy k n s).out = s.out := rfl
@[simp] theorem bumpBy_readData (k n : Nat) (s : State) : (bumpBy k n s).readData = s.readData := rfl
@[simp] theorem bumpBy_hostMem (k n : Nat) (s : State) : (bumpBy k n s).hostMem = s.hostMem := rfl
@[simp] theorem bumpBy_messageStore (k n : Nat) (s : State) : (bumpBy k n s).messageStore = s.messageStore := rfl
@[simp] theorem bumpBy_appSram (k n : Nat) (s : State) : (bumpBy k n s).appSram = s.appSram := rfl
@[simp] theorem bumpBy_regs (k n : Nat) (s : State) : (bumpBy k n s).regs = s.regs := rfl
@[simp] theorem bumpBy_tallySnap (k n : Nat) (s : State) : (bumpBy k n s).tallySnap = s.tallySnap := rfl
@[simp] theorem bumpBy_tallySnapTime (k n : Nat) (s : State) : (bumpBy k n s).tallySnapTime = s.tallySnapTime := rfl
@[simp] theorem bumpBy_hiLatch (k n : Nat) (s : State) : (bumpBy k n s).hiLatch = s.hiLatch := rfl
@[simp] theorem bumpBy_cister (k n : Nat) (s : State) : (bumpBy k n s).cister = s.cister := rfl
@[simp] theorem bumpBy_ledger (k n : Nat) (s : State) : (bumpBy k n s).ledger = s.ledger := rfl
@[simp] theorem bumpBy_aon (k n : Nat) (s : State) : (bumpBy k n s).aon = s.aon := rfl
@[simp] theorem bumpBy_trace (k n : Nat) (s : State) : (bumpBy k n s).trace = s.trace := rfl
@[simp] theorem bumpBy_startup (k n : Nat) (s : State) : (bumpBy k n s).startup = s.startup := rfl
@[simp] theorem bumpBy_clocks (k n : Nat) (s : State) : (bumpBy k n s).clocks = s.clocks := rfl
@[simp] theorem bumpBy_eventLines (k n : Nat) (s : State) : (bumpBy k n s).eventLines = s.eventLines := rfl
@[simp] theorem bumpBy_cores (k n : Nat) (s : State) : (bumpBy k n s).cores = s.cores := rfl
@[simp] theorem bumpBy_security (k n : Nat) (s : State) : (bumpBy k n s).security = s.security := rfl
@[simp] theorem bumpBy_feedback (k n : Nat) (s : State) : (bumpBy k n s).feedback = s.feedback := rfl
@[simp] theorem bumpBy_course (k n : Nat) (s : State) : (bumpBy k n s).course = s.course := rfl
@[simp] theorem bumpBy_engine (k n : Nat) (s : State) : (bumpBy k n s).engine = s.engine := rfl
@[simp] theorem bumpBy_drive (k n : Nat) (s : State) : (bumpBy k n s).drive = s.drive := rfl
@[simp] theorem bumpBy_relay (k n : Nat) (s : State) : (bumpBy k n s).relay = s.relay := rfl
@[simp] theorem bumpBy_lease (k n : Nat) (s : State) : (bumpBy k n s).lease = s.lease := rfl
@[simp] theorem bumpBy_pwm (k n : Nat) (s : State) : (bumpBy k n s).pwm = s.pwm := rfl
@[simp] theorem bumpBy_loops (k n : Nat) (s : State) : (bumpBy k n s).loops = s.loops := rfl
@[simp] theorem bumpBy_eth (k n : Nat) (s : State) : (bumpBy k n s).eth = s.eth := rfl
@[simp] theorem bumpBy_bus (k n : Nat) (s : State) : (bumpBy k n s).bus = s.bus := rfl

@[simp] theorem setTally_pending (k : Nat) (v : W32) (s : State) : (setTally k v s).pending = s.pending := rfl
@[simp] theorem setTally_now (k : Nat) (v : W32) (s : State) : (setTally k v s).now = s.now := rfl
@[simp] theorem setTally_freeDraws (k : Nat) (v : W32) (s : State) : (setTally k v s).freeDraws = s.freeDraws := rfl
@[simp] theorem setTally_out (k : Nat) (v : W32) (s : State) : (setTally k v s).out = s.out := rfl
@[simp] theorem setTally_readData (k : Nat) (v : W32) (s : State) : (setTally k v s).readData = s.readData := rfl
@[simp] theorem setTally_hostMem (k : Nat) (v : W32) (s : State) : (setTally k v s).hostMem = s.hostMem := rfl
@[simp] theorem setTally_messageStore (k : Nat) (v : W32) (s : State) : (setTally k v s).messageStore = s.messageStore := rfl
@[simp] theorem setTally_appSram (k : Nat) (v : W32) (s : State) : (setTally k v s).appSram = s.appSram := rfl
@[simp] theorem setTally_regs (k : Nat) (v : W32) (s : State) : (setTally k v s).regs = s.regs := rfl
@[simp] theorem setTally_tallySnap (k : Nat) (v : W32) (s : State) : (setTally k v s).tallySnap = s.tallySnap := rfl
@[simp] theorem setTally_tallySnapTime (k : Nat) (v : W32) (s : State) : (setTally k v s).tallySnapTime = s.tallySnapTime := rfl
@[simp] theorem setTally_hiLatch (k : Nat) (v : W32) (s : State) : (setTally k v s).hiLatch = s.hiLatch := rfl
@[simp] theorem setTally_cister (k : Nat) (v : W32) (s : State) : (setTally k v s).cister = s.cister := rfl
@[simp] theorem setTally_ledger (k : Nat) (v : W32) (s : State) : (setTally k v s).ledger = s.ledger := rfl
@[simp] theorem setTally_aon (k : Nat) (v : W32) (s : State) : (setTally k v s).aon = s.aon := rfl
@[simp] theorem setTally_trace (k : Nat) (v : W32) (s : State) : (setTally k v s).trace = s.trace := rfl
@[simp] theorem setTally_startup (k : Nat) (v : W32) (s : State) : (setTally k v s).startup = s.startup := rfl
@[simp] theorem setTally_clocks (k : Nat) (v : W32) (s : State) : (setTally k v s).clocks = s.clocks := rfl
@[simp] theorem setTally_eventLines (k : Nat) (v : W32) (s : State) : (setTally k v s).eventLines = s.eventLines := rfl
@[simp] theorem setTally_cores (k : Nat) (v : W32) (s : State) : (setTally k v s).cores = s.cores := rfl
@[simp] theorem setTally_security (k : Nat) (v : W32) (s : State) : (setTally k v s).security = s.security := rfl
@[simp] theorem setTally_feedback (k : Nat) (v : W32) (s : State) : (setTally k v s).feedback = s.feedback := rfl
@[simp] theorem setTally_course (k : Nat) (v : W32) (s : State) : (setTally k v s).course = s.course := rfl
@[simp] theorem setTally_engine (k : Nat) (v : W32) (s : State) : (setTally k v s).engine = s.engine := rfl
@[simp] theorem setTally_drive (k : Nat) (v : W32) (s : State) : (setTally k v s).drive = s.drive := rfl
@[simp] theorem setTally_relay (k : Nat) (v : W32) (s : State) : (setTally k v s).relay = s.relay := rfl
@[simp] theorem setTally_lease (k : Nat) (v : W32) (s : State) : (setTally k v s).lease = s.lease := rfl
@[simp] theorem setTally_pwm (k : Nat) (v : W32) (s : State) : (setTally k v s).pwm = s.pwm := rfl
@[simp] theorem setTally_loops (k : Nat) (v : W32) (s : State) : (setTally k v s).loops = s.loops := rfl
@[simp] theorem setTally_eth (k : Nat) (v : W32) (s : State) : (setTally k v s).eth = s.eth := rfl
@[simp] theorem setTally_bus (k : Nat) (v : W32) (s : State) : (setTally k v s).bus = s.bus := rfl

@[simp] theorem setLStream_pending (k : Nat) (l : LStream) (s : State) : (setLStream k l s).pending = s.pending := rfl
@[simp] theorem setLStream_now (k : Nat) (l : LStream) (s : State) : (setLStream k l s).now = s.now := rfl
@[simp] theorem setLStream_freeDraws (k : Nat) (l : LStream) (s : State) : (setLStream k l s).freeDraws = s.freeDraws := rfl
@[simp] theorem setLStream_out (k : Nat) (l : LStream) (s : State) : (setLStream k l s).out = s.out := rfl
@[simp] theorem setLStream_readData (k : Nat) (l : LStream) (s : State) : (setLStream k l s).readData = s.readData := rfl
@[simp] theorem setLStream_hostMem (k : Nat) (l : LStream) (s : State) : (setLStream k l s).hostMem = s.hostMem := rfl
@[simp] theorem setLStream_messageStore (k : Nat) (l : LStream) (s : State) : (setLStream k l s).messageStore = s.messageStore := rfl
@[simp] theorem setLStream_appSram (k : Nat) (l : LStream) (s : State) : (setLStream k l s).appSram = s.appSram := rfl
@[simp] theorem setLStream_regs (k : Nat) (l : LStream) (s : State) : (setLStream k l s).regs = s.regs := rfl
@[simp] theorem setLStream_tallies (k : Nat) (l : LStream) (s : State) : (setLStream k l s).tallies = s.tallies := rfl
@[simp] theorem setLStream_tallySnap (k : Nat) (l : LStream) (s : State) : (setLStream k l s).tallySnap = s.tallySnap := rfl
@[simp] theorem setLStream_tallySnapTime (k : Nat) (l : LStream) (s : State) : (setLStream k l s).tallySnapTime = s.tallySnapTime := rfl
@[simp] theorem setLStream_hiLatch (k : Nat) (l : LStream) (s : State) : (setLStream k l s).hiLatch = s.hiLatch := rfl
@[simp] theorem setLStream_cister (k : Nat) (l : LStream) (s : State) : (setLStream k l s).cister = s.cister := rfl
@[simp] theorem setLStream_aon (k : Nat) (l : LStream) (s : State) : (setLStream k l s).aon = s.aon := rfl
@[simp] theorem setLStream_trace (k : Nat) (l : LStream) (s : State) : (setLStream k l s).trace = s.trace := rfl
@[simp] theorem setLStream_startup (k : Nat) (l : LStream) (s : State) : (setLStream k l s).startup = s.startup := rfl
@[simp] theorem setLStream_clocks (k : Nat) (l : LStream) (s : State) : (setLStream k l s).clocks = s.clocks := rfl
@[simp] theorem setLStream_eventLines (k : Nat) (l : LStream) (s : State) : (setLStream k l s).eventLines = s.eventLines := rfl
@[simp] theorem setLStream_cores (k : Nat) (l : LStream) (s : State) : (setLStream k l s).cores = s.cores := rfl
@[simp] theorem setLStream_security (k : Nat) (l : LStream) (s : State) : (setLStream k l s).security = s.security := rfl
@[simp] theorem setLStream_feedback (k : Nat) (l : LStream) (s : State) : (setLStream k l s).feedback = s.feedback := rfl
@[simp] theorem setLStream_course (k : Nat) (l : LStream) (s : State) : (setLStream k l s).course = s.course := rfl
@[simp] theorem setLStream_engine (k : Nat) (l : LStream) (s : State) : (setLStream k l s).engine = s.engine := rfl
@[simp] theorem setLStream_drive (k : Nat) (l : LStream) (s : State) : (setLStream k l s).drive = s.drive := rfl
@[simp] theorem setLStream_relay (k : Nat) (l : LStream) (s : State) : (setLStream k l s).relay = s.relay := rfl
@[simp] theorem setLStream_lease (k : Nat) (l : LStream) (s : State) : (setLStream k l s).lease = s.lease := rfl
@[simp] theorem setLStream_pwm (k : Nat) (l : LStream) (s : State) : (setLStream k l s).pwm = s.pwm := rfl
@[simp] theorem setLStream_loops (k : Nat) (l : LStream) (s : State) : (setLStream k l s).loops = s.loops := rfl
@[simp] theorem setLStream_eth (k : Nat) (l : LStream) (s : State) : (setLStream k l s).eth = s.eth := rfl
@[simp] theorem setLStream_bus (k : Nat) (l : LStream) (s : State) : (setLStream k l s).bus = s.bus := rfl

@[simp] theorem setRing_pending (n : Nat) (r : Ring) (s : State) : (setRing n r s).pending = s.pending := rfl
@[simp] theorem setRing_now (n : Nat) (r : Ring) (s : State) : (setRing n r s).now = s.now := rfl
@[simp] theorem setRing_freeDraws (n : Nat) (r : Ring) (s : State) : (setRing n r s).freeDraws = s.freeDraws := rfl
@[simp] theorem setRing_out (n : Nat) (r : Ring) (s : State) : (setRing n r s).out = s.out := rfl
@[simp] theorem setRing_readData (n : Nat) (r : Ring) (s : State) : (setRing n r s).readData = s.readData := rfl
@[simp] theorem setRing_hostMem (n : Nat) (r : Ring) (s : State) : (setRing n r s).hostMem = s.hostMem := rfl
@[simp] theorem setRing_messageStore (n : Nat) (r : Ring) (s : State) : (setRing n r s).messageStore = s.messageStore := rfl
@[simp] theorem setRing_appSram (n : Nat) (r : Ring) (s : State) : (setRing n r s).appSram = s.appSram := rfl
@[simp] theorem setRing_regs (n : Nat) (r : Ring) (s : State) : (setRing n r s).regs = s.regs := rfl
@[simp] theorem setRing_tallies (n : Nat) (r : Ring) (s : State) : (setRing n r s).tallies = s.tallies := rfl
@[simp] theorem setRing_tallySnap (n : Nat) (r : Ring) (s : State) : (setRing n r s).tallySnap = s.tallySnap := rfl
@[simp] theorem setRing_tallySnapTime (n : Nat) (r : Ring) (s : State) : (setRing n r s).tallySnapTime = s.tallySnapTime := rfl
@[simp] theorem setRing_hiLatch (n : Nat) (r : Ring) (s : State) : (setRing n r s).hiLatch = s.hiLatch := rfl
@[simp] theorem setRing_ledger (n : Nat) (r : Ring) (s : State) : (setRing n r s).ledger = s.ledger := rfl
@[simp] theorem setRing_aon (n : Nat) (r : Ring) (s : State) : (setRing n r s).aon = s.aon := rfl
@[simp] theorem setRing_trace (n : Nat) (r : Ring) (s : State) : (setRing n r s).trace = s.trace := rfl
@[simp] theorem setRing_startup (n : Nat) (r : Ring) (s : State) : (setRing n r s).startup = s.startup := rfl
@[simp] theorem setRing_clocks (n : Nat) (r : Ring) (s : State) : (setRing n r s).clocks = s.clocks := rfl
@[simp] theorem setRing_eventLines (n : Nat) (r : Ring) (s : State) : (setRing n r s).eventLines = s.eventLines := rfl
@[simp] theorem setRing_cores (n : Nat) (r : Ring) (s : State) : (setRing n r s).cores = s.cores := rfl
@[simp] theorem setRing_security (n : Nat) (r : Ring) (s : State) : (setRing n r s).security = s.security := rfl
@[simp] theorem setRing_feedback (n : Nat) (r : Ring) (s : State) : (setRing n r s).feedback = s.feedback := rfl
@[simp] theorem setRing_course (n : Nat) (r : Ring) (s : State) : (setRing n r s).course = s.course := rfl
@[simp] theorem setRing_engine (n : Nat) (r : Ring) (s : State) : (setRing n r s).engine = s.engine := rfl
@[simp] theorem setRing_drive (n : Nat) (r : Ring) (s : State) : (setRing n r s).drive = s.drive := rfl
@[simp] theorem setRing_relay (n : Nat) (r : Ring) (s : State) : (setRing n r s).relay = s.relay := rfl
@[simp] theorem setRing_lease (n : Nat) (r : Ring) (s : State) : (setRing n r s).lease = s.lease := rfl
@[simp] theorem setRing_pwm (n : Nat) (r : Ring) (s : State) : (setRing n r s).pwm = s.pwm := rfl
@[simp] theorem setRing_loops (n : Nat) (r : Ring) (s : State) : (setRing n r s).loops = s.loops := rfl
@[simp] theorem setRing_eth (n : Nat) (r : Ring) (s : State) : (setRing n r s).eth = s.eth := rfl
@[simp] theorem setRing_bus (n : Nat) (r : Ring) (s : State) : (setRing n r s).bus = s.bus := rfl

@[simp] theorem setModeration_pending (line : Nat) (m : Moderation) (s : State) : (setModeration line m s).pending = s.pending := rfl
@[simp] theorem setModeration_now (line : Nat) (m : Moderation) (s : State) : (setModeration line m s).now = s.now := rfl
@[simp] theorem setModeration_freeDraws (line : Nat) (m : Moderation) (s : State) : (setModeration line m s).freeDraws = s.freeDraws := rfl
@[simp] theorem setModeration_out (line : Nat) (m : Moderation) (s : State) : (setModeration line m s).out = s.out := rfl
@[simp] theorem setModeration_readData (line : Nat) (m : Moderation) (s : State) : (setModeration line m s).readData = s.readData := rfl
@[simp] theorem setModeration_hostMem (line : Nat) (m : Moderation) (s : State) : (setModeration line m s).hostMem = s.hostMem := rfl
@[simp] theorem setModeration_messageStore (line : Nat) (m : Moderation) (s : State) : (setModeration line m s).messageStore = s.messageStore := rfl
@[simp] theorem setModeration_appSram (line : Nat) (m : Moderation) (s : State) : (setModeration line m s).appSram = s.appSram := rfl
@[simp] theorem setModeration_regs (line : Nat) (m : Moderation) (s : State) : (setModeration line m s).regs = s.regs := rfl
@[simp] theorem setModeration_tallies (line : Nat) (m : Moderation) (s : State) : (setModeration line m s).tallies = s.tallies := rfl
@[simp] theorem setModeration_tallySnap (line : Nat) (m : Moderation) (s : State) : (setModeration line m s).tallySnap = s.tallySnap := rfl
@[simp] theorem setModeration_tallySnapTime (line : Nat) (m : Moderation) (s : State) : (setModeration line m s).tallySnapTime = s.tallySnapTime := rfl
@[simp] theorem setModeration_hiLatch (line : Nat) (m : Moderation) (s : State) : (setModeration line m s).hiLatch = s.hiLatch := rfl
@[simp] theorem setModeration_ledger (line : Nat) (m : Moderation) (s : State) : (setModeration line m s).ledger = s.ledger := rfl
@[simp] theorem setModeration_aon (line : Nat) (m : Moderation) (s : State) : (setModeration line m s).aon = s.aon := rfl
@[simp] theorem setModeration_trace (line : Nat) (m : Moderation) (s : State) : (setModeration line m s).trace = s.trace := rfl
@[simp] theorem setModeration_startup (line : Nat) (m : Moderation) (s : State) : (setModeration line m s).startup = s.startup := rfl
@[simp] theorem setModeration_clocks (line : Nat) (m : Moderation) (s : State) : (setModeration line m s).clocks = s.clocks := rfl
@[simp] theorem setModeration_eventLines (line : Nat) (m : Moderation) (s : State) : (setModeration line m s).eventLines = s.eventLines := rfl
@[simp] theorem setModeration_cores (line : Nat) (m : Moderation) (s : State) : (setModeration line m s).cores = s.cores := rfl
@[simp] theorem setModeration_security (line : Nat) (m : Moderation) (s : State) : (setModeration line m s).security = s.security := rfl
@[simp] theorem setModeration_feedback (line : Nat) (m : Moderation) (s : State) : (setModeration line m s).feedback = s.feedback := rfl
@[simp] theorem setModeration_course (line : Nat) (m : Moderation) (s : State) : (setModeration line m s).course = s.course := rfl
@[simp] theorem setModeration_engine (line : Nat) (m : Moderation) (s : State) : (setModeration line m s).engine = s.engine := rfl
@[simp] theorem setModeration_drive (line : Nat) (m : Moderation) (s : State) : (setModeration line m s).drive = s.drive := rfl
@[simp] theorem setModeration_relay (line : Nat) (m : Moderation) (s : State) : (setModeration line m s).relay = s.relay := rfl
@[simp] theorem setModeration_lease (line : Nat) (m : Moderation) (s : State) : (setModeration line m s).lease = s.lease := rfl
@[simp] theorem setModeration_pwm (line : Nat) (m : Moderation) (s : State) : (setModeration line m s).pwm = s.pwm := rfl
@[simp] theorem setModeration_loops (line : Nat) (m : Moderation) (s : State) : (setModeration line m s).loops = s.loops := rfl
@[simp] theorem setModeration_eth (line : Nat) (m : Moderation) (s : State) : (setModeration line m s).eth = s.eth := rfl
@[simp] theorem setModeration_bus (line : Nat) (m : Moderation) (s : State) : (setModeration line m s).bus = s.bus := rfl

@[simp] theorem setNotif_pending (k : Nat) (x : Notif) (s : State) : (setNotif k x s).pending = s.pending := rfl
@[simp] theorem setNotif_now (k : Nat) (x : Notif) (s : State) : (setNotif k x s).now = s.now := rfl
@[simp] theorem setNotif_freeDraws (k : Nat) (x : Notif) (s : State) : (setNotif k x s).freeDraws = s.freeDraws := rfl
@[simp] theorem setNotif_out (k : Nat) (x : Notif) (s : State) : (setNotif k x s).out = s.out := rfl
@[simp] theorem setNotif_readData (k : Nat) (x : Notif) (s : State) : (setNotif k x s).readData = s.readData := rfl
@[simp] theorem setNotif_hostMem (k : Nat) (x : Notif) (s : State) : (setNotif k x s).hostMem = s.hostMem := rfl
@[simp] theorem setNotif_messageStore (k : Nat) (x : Notif) (s : State) : (setNotif k x s).messageStore = s.messageStore := rfl
@[simp] theorem setNotif_appSram (k : Nat) (x : Notif) (s : State) : (setNotif k x s).appSram = s.appSram := rfl
@[simp] theorem setNotif_regs (k : Nat) (x : Notif) (s : State) : (setNotif k x s).regs = s.regs := rfl
@[simp] theorem setNotif_tallies (k : Nat) (x : Notif) (s : State) : (setNotif k x s).tallies = s.tallies := rfl
@[simp] theorem setNotif_tallySnap (k : Nat) (x : Notif) (s : State) : (setNotif k x s).tallySnap = s.tallySnap := rfl
@[simp] theorem setNotif_tallySnapTime (k : Nat) (x : Notif) (s : State) : (setNotif k x s).tallySnapTime = s.tallySnapTime := rfl
@[simp] theorem setNotif_hiLatch (k : Nat) (x : Notif) (s : State) : (setNotif k x s).hiLatch = s.hiLatch := rfl
@[simp] theorem setNotif_ledger (k : Nat) (x : Notif) (s : State) : (setNotif k x s).ledger = s.ledger := rfl
@[simp] theorem setNotif_aon (k : Nat) (x : Notif) (s : State) : (setNotif k x s).aon = s.aon := rfl
@[simp] theorem setNotif_trace (k : Nat) (x : Notif) (s : State) : (setNotif k x s).trace = s.trace := rfl
@[simp] theorem setNotif_startup (k : Nat) (x : Notif) (s : State) : (setNotif k x s).startup = s.startup := rfl
@[simp] theorem setNotif_clocks (k : Nat) (x : Notif) (s : State) : (setNotif k x s).clocks = s.clocks := rfl
@[simp] theorem setNotif_eventLines (k : Nat) (x : Notif) (s : State) : (setNotif k x s).eventLines = s.eventLines := rfl
@[simp] theorem setNotif_cores (k : Nat) (x : Notif) (s : State) : (setNotif k x s).cores = s.cores := rfl
@[simp] theorem setNotif_security (k : Nat) (x : Notif) (s : State) : (setNotif k x s).security = s.security := rfl
@[simp] theorem setNotif_feedback (k : Nat) (x : Notif) (s : State) : (setNotif k x s).feedback = s.feedback := rfl
@[simp] theorem setNotif_course (k : Nat) (x : Notif) (s : State) : (setNotif k x s).course = s.course := rfl
@[simp] theorem setNotif_engine (k : Nat) (x : Notif) (s : State) : (setNotif k x s).engine = s.engine := rfl
@[simp] theorem setNotif_drive (k : Nat) (x : Notif) (s : State) : (setNotif k x s).drive = s.drive := rfl
@[simp] theorem setNotif_relay (k : Nat) (x : Notif) (s : State) : (setNotif k x s).relay = s.relay := rfl
@[simp] theorem setNotif_lease (k : Nat) (x : Notif) (s : State) : (setNotif k x s).lease = s.lease := rfl
@[simp] theorem setNotif_pwm (k : Nat) (x : Notif) (s : State) : (setNotif k x s).pwm = s.pwm := rfl
@[simp] theorem setNotif_loops (k : Nat) (x : Notif) (s : State) : (setNotif k x s).loops = s.loops := rfl
@[simp] theorem setNotif_eth (k : Nat) (x : Notif) (s : State) : (setNotif k x s).eth = s.eth := rfl
@[simp] theorem setNotif_bus (k : Nat) (x : Notif) (s : State) : (setNotif k x s).bus = s.bus := rfl

@[simp] theorem begin'_pending (t : Time) (s : State) : (begin' t s).pending = s.pending := rfl
@[simp] theorem begin'_freeDraws (t : Time) (s : State) : (begin' t s).freeDraws = s.freeDraws := rfl
@[simp] theorem begin'_readData (t : Time) (s : State) : (begin' t s).readData = s.readData := rfl
@[simp] theorem begin'_hostMem (t : Time) (s : State) : (begin' t s).hostMem = s.hostMem := rfl
@[simp] theorem begin'_messageStore (t : Time) (s : State) : (begin' t s).messageStore = s.messageStore := rfl
@[simp] theorem begin'_appSram (t : Time) (s : State) : (begin' t s).appSram = s.appSram := rfl
@[simp] theorem begin'_regs (t : Time) (s : State) : (begin' t s).regs = s.regs := rfl
@[simp] theorem begin'_tallies (t : Time) (s : State) : (begin' t s).tallies = s.tallies := rfl
@[simp] theorem begin'_tallySnap (t : Time) (s : State) : (begin' t s).tallySnap = s.tallySnap := rfl
@[simp] theorem begin'_tallySnapTime (t : Time) (s : State) : (begin' t s).tallySnapTime = s.tallySnapTime := rfl
@[simp] theorem begin'_hiLatch (t : Time) (s : State) : (begin' t s).hiLatch = s.hiLatch := rfl
@[simp] theorem begin'_cister (t : Time) (s : State) : (begin' t s).cister = s.cister := rfl
@[simp] theorem begin'_ledger (t : Time) (s : State) : (begin' t s).ledger = s.ledger := rfl
@[simp] theorem begin'_aon (t : Time) (s : State) : (begin' t s).aon = s.aon := rfl
@[simp] theorem begin'_startup (t : Time) (s : State) : (begin' t s).startup = s.startup := rfl
@[simp] theorem begin'_clocks (t : Time) (s : State) : (begin' t s).clocks = s.clocks := rfl
@[simp] theorem begin'_eventLines (t : Time) (s : State) : (begin' t s).eventLines = s.eventLines := rfl
@[simp] theorem begin'_cores (t : Time) (s : State) : (begin' t s).cores = s.cores := rfl
@[simp] theorem begin'_security (t : Time) (s : State) : (begin' t s).security = s.security := rfl
@[simp] theorem begin'_feedback (t : Time) (s : State) : (begin' t s).feedback = s.feedback := rfl
@[simp] theorem begin'_course (t : Time) (s : State) : (begin' t s).course = s.course := rfl
@[simp] theorem begin'_engine (t : Time) (s : State) : (begin' t s).engine = s.engine := rfl
@[simp] theorem begin'_drive (t : Time) (s : State) : (begin' t s).drive = s.drive := rfl
@[simp] theorem begin'_relay (t : Time) (s : State) : (begin' t s).relay = s.relay := rfl
@[simp] theorem begin'_lease (t : Time) (s : State) : (begin' t s).lease = s.lease := rfl
@[simp] theorem begin'_pwm (t : Time) (s : State) : (begin' t s).pwm = s.pwm := rfl
@[simp] theorem begin'_loops (t : Time) (s : State) : (begin' t s).loops = s.loops := rfl
@[simp] theorem begin'_eth (t : Time) (s : State) : (begin' t s).eth = s.eth := rfl
@[simp] theorem begin'_bus (t : Time) (s : State) : (begin' t s).bus = s.bus := rfl

@[simp] theorem setFb_pending (n : Nat) (c : FbCh) (s : State) : (setFb n c s).pending = s.pending := rfl
@[simp] theorem setFb_now (n : Nat) (c : FbCh) (s : State) : (setFb n c s).now = s.now := rfl
@[simp] theorem setFb_freeDraws (n : Nat) (c : FbCh) (s : State) : (setFb n c s).freeDraws = s.freeDraws := rfl
@[simp] theorem setFb_out (n : Nat) (c : FbCh) (s : State) : (setFb n c s).out = s.out := rfl
@[simp] theorem setFb_readData (n : Nat) (c : FbCh) (s : State) : (setFb n c s).readData = s.readData := rfl
@[simp] theorem setFb_hostMem (n : Nat) (c : FbCh) (s : State) : (setFb n c s).hostMem = s.hostMem := rfl
@[simp] theorem setFb_messageStore (n : Nat) (c : FbCh) (s : State) : (setFb n c s).messageStore = s.messageStore := rfl
@[simp] theorem setFb_appSram (n : Nat) (c : FbCh) (s : State) : (setFb n c s).appSram = s.appSram := rfl
@[simp] theorem setFb_regs (n : Nat) (c : FbCh) (s : State) : (setFb n c s).regs = s.regs := rfl
@[simp] theorem setFb_tallies (n : Nat) (c : FbCh) (s : State) : (setFb n c s).tallies = s.tallies := rfl
@[simp] theorem setFb_tallySnap (n : Nat) (c : FbCh) (s : State) : (setFb n c s).tallySnap = s.tallySnap := rfl
@[simp] theorem setFb_tallySnapTime (n : Nat) (c : FbCh) (s : State) : (setFb n c s).tallySnapTime = s.tallySnapTime := rfl
@[simp] theorem setFb_hiLatch (n : Nat) (c : FbCh) (s : State) : (setFb n c s).hiLatch = s.hiLatch := rfl
@[simp] theorem setFb_cister (n : Nat) (c : FbCh) (s : State) : (setFb n c s).cister = s.cister := rfl
@[simp] theorem setFb_ledger (n : Nat) (c : FbCh) (s : State) : (setFb n c s).ledger = s.ledger := rfl
@[simp] theorem setFb_aon (n : Nat) (c : FbCh) (s : State) : (setFb n c s).aon = s.aon := rfl
@[simp] theorem setFb_trace (n : Nat) (c : FbCh) (s : State) : (setFb n c s).trace = s.trace := rfl
@[simp] theorem setFb_startup (n : Nat) (c : FbCh) (s : State) : (setFb n c s).startup = s.startup := rfl
@[simp] theorem setFb_clocks (n : Nat) (c : FbCh) (s : State) : (setFb n c s).clocks = s.clocks := rfl
@[simp] theorem setFb_eventLines (n : Nat) (c : FbCh) (s : State) : (setFb n c s).eventLines = s.eventLines := rfl
@[simp] theorem setFb_cores (n : Nat) (c : FbCh) (s : State) : (setFb n c s).cores = s.cores := rfl
@[simp] theorem setFb_security (n : Nat) (c : FbCh) (s : State) : (setFb n c s).security = s.security := rfl
@[simp] theorem setFb_course (n : Nat) (c : FbCh) (s : State) : (setFb n c s).course = s.course := rfl
@[simp] theorem setFb_engine (n : Nat) (c : FbCh) (s : State) : (setFb n c s).engine = s.engine := rfl
@[simp] theorem setFb_drive (n : Nat) (c : FbCh) (s : State) : (setFb n c s).drive = s.drive := rfl
@[simp] theorem setFb_relay (n : Nat) (c : FbCh) (s : State) : (setFb n c s).relay = s.relay := rfl
@[simp] theorem setFb_lease (n : Nat) (c : FbCh) (s : State) : (setFb n c s).lease = s.lease := rfl
@[simp] theorem setFb_pwm (n : Nat) (c : FbCh) (s : State) : (setFb n c s).pwm = s.pwm := rfl
@[simp] theorem setFb_loops (n : Nat) (c : FbCh) (s : State) : (setFb n c s).loops = s.loops := rfl
@[simp] theorem setFb_eth (n : Nat) (c : FbCh) (s : State) : (setFb n c s).eth = s.eth := rfl
@[simp] theorem setFb_bus (n : Nat) (c : FbCh) (s : State) : (setFb n c s).bus = s.bus := rfl

@[simp] theorem setAin_pending (n : Nat) (c : AinCh) (s : State) : (setAin n c s).pending = s.pending := rfl
@[simp] theorem setAin_now (n : Nat) (c : AinCh) (s : State) : (setAin n c s).now = s.now := rfl
@[simp] theorem setAin_freeDraws (n : Nat) (c : AinCh) (s : State) : (setAin n c s).freeDraws = s.freeDraws := rfl
@[simp] theorem setAin_out (n : Nat) (c : AinCh) (s : State) : (setAin n c s).out = s.out := rfl
@[simp] theorem setAin_readData (n : Nat) (c : AinCh) (s : State) : (setAin n c s).readData = s.readData := rfl
@[simp] theorem setAin_hostMem (n : Nat) (c : AinCh) (s : State) : (setAin n c s).hostMem = s.hostMem := rfl
@[simp] theorem setAin_messageStore (n : Nat) (c : AinCh) (s : State) : (setAin n c s).messageStore = s.messageStore := rfl
@[simp] theorem setAin_appSram (n : Nat) (c : AinCh) (s : State) : (setAin n c s).appSram = s.appSram := rfl
@[simp] theorem setAin_regs (n : Nat) (c : AinCh) (s : State) : (setAin n c s).regs = s.regs := rfl
@[simp] theorem setAin_tallies (n : Nat) (c : AinCh) (s : State) : (setAin n c s).tallies = s.tallies := rfl
@[simp] theorem setAin_tallySnap (n : Nat) (c : AinCh) (s : State) : (setAin n c s).tallySnap = s.tallySnap := rfl
@[simp] theorem setAin_tallySnapTime (n : Nat) (c : AinCh) (s : State) : (setAin n c s).tallySnapTime = s.tallySnapTime := rfl
@[simp] theorem setAin_hiLatch (n : Nat) (c : AinCh) (s : State) : (setAin n c s).hiLatch = s.hiLatch := rfl
@[simp] theorem setAin_cister (n : Nat) (c : AinCh) (s : State) : (setAin n c s).cister = s.cister := rfl
@[simp] theorem setAin_ledger (n : Nat) (c : AinCh) (s : State) : (setAin n c s).ledger = s.ledger := rfl
@[simp] theorem setAin_aon (n : Nat) (c : AinCh) (s : State) : (setAin n c s).aon = s.aon := rfl
@[simp] theorem setAin_trace (n : Nat) (c : AinCh) (s : State) : (setAin n c s).trace = s.trace := rfl
@[simp] theorem setAin_startup (n : Nat) (c : AinCh) (s : State) : (setAin n c s).startup = s.startup := rfl
@[simp] theorem setAin_clocks (n : Nat) (c : AinCh) (s : State) : (setAin n c s).clocks = s.clocks := rfl
@[simp] theorem setAin_eventLines (n : Nat) (c : AinCh) (s : State) : (setAin n c s).eventLines = s.eventLines := rfl
@[simp] theorem setAin_cores (n : Nat) (c : AinCh) (s : State) : (setAin n c s).cores = s.cores := rfl
@[simp] theorem setAin_security (n : Nat) (c : AinCh) (s : State) : (setAin n c s).security = s.security := rfl
@[simp] theorem setAin_course (n : Nat) (c : AinCh) (s : State) : (setAin n c s).course = s.course := rfl
@[simp] theorem setAin_engine (n : Nat) (c : AinCh) (s : State) : (setAin n c s).engine = s.engine := rfl
@[simp] theorem setAin_drive (n : Nat) (c : AinCh) (s : State) : (setAin n c s).drive = s.drive := rfl
@[simp] theorem setAin_relay (n : Nat) (c : AinCh) (s : State) : (setAin n c s).relay = s.relay := rfl
@[simp] theorem setAin_lease (n : Nat) (c : AinCh) (s : State) : (setAin n c s).lease = s.lease := rfl
@[simp] theorem setAin_pwm (n : Nat) (c : AinCh) (s : State) : (setAin n c s).pwm = s.pwm := rfl
@[simp] theorem setAin_loops (n : Nat) (c : AinCh) (s : State) : (setAin n c s).loops = s.loops := rfl
@[simp] theorem setAin_eth (n : Nat) (c : AinCh) (s : State) : (setAin n c s).eth = s.eth := rfl
@[simp] theorem setAin_bus (n : Nat) (c : AinCh) (s : State) : (setAin n c s).bus = s.bus := rfl

@[simp] theorem setEmu_pending (n : Nat) (c : EmuCh) (s : State) : (setEmu n c s).pending = s.pending := rfl
@[simp] theorem setEmu_now (n : Nat) (c : EmuCh) (s : State) : (setEmu n c s).now = s.now := rfl
@[simp] theorem setEmu_freeDraws (n : Nat) (c : EmuCh) (s : State) : (setEmu n c s).freeDraws = s.freeDraws := rfl
@[simp] theorem setEmu_out (n : Nat) (c : EmuCh) (s : State) : (setEmu n c s).out = s.out := rfl
@[simp] theorem setEmu_readData (n : Nat) (c : EmuCh) (s : State) : (setEmu n c s).readData = s.readData := rfl
@[simp] theorem setEmu_hostMem (n : Nat) (c : EmuCh) (s : State) : (setEmu n c s).hostMem = s.hostMem := rfl
@[simp] theorem setEmu_messageStore (n : Nat) (c : EmuCh) (s : State) : (setEmu n c s).messageStore = s.messageStore := rfl
@[simp] theorem setEmu_appSram (n : Nat) (c : EmuCh) (s : State) : (setEmu n c s).appSram = s.appSram := rfl
@[simp] theorem setEmu_regs (n : Nat) (c : EmuCh) (s : State) : (setEmu n c s).regs = s.regs := rfl
@[simp] theorem setEmu_tallies (n : Nat) (c : EmuCh) (s : State) : (setEmu n c s).tallies = s.tallies := rfl
@[simp] theorem setEmu_tallySnap (n : Nat) (c : EmuCh) (s : State) : (setEmu n c s).tallySnap = s.tallySnap := rfl
@[simp] theorem setEmu_tallySnapTime (n : Nat) (c : EmuCh) (s : State) : (setEmu n c s).tallySnapTime = s.tallySnapTime := rfl
@[simp] theorem setEmu_hiLatch (n : Nat) (c : EmuCh) (s : State) : (setEmu n c s).hiLatch = s.hiLatch := rfl
@[simp] theorem setEmu_cister (n : Nat) (c : EmuCh) (s : State) : (setEmu n c s).cister = s.cister := rfl
@[simp] theorem setEmu_ledger (n : Nat) (c : EmuCh) (s : State) : (setEmu n c s).ledger = s.ledger := rfl
@[simp] theorem setEmu_aon (n : Nat) (c : EmuCh) (s : State) : (setEmu n c s).aon = s.aon := rfl
@[simp] theorem setEmu_trace (n : Nat) (c : EmuCh) (s : State) : (setEmu n c s).trace = s.trace := rfl
@[simp] theorem setEmu_startup (n : Nat) (c : EmuCh) (s : State) : (setEmu n c s).startup = s.startup := rfl
@[simp] theorem setEmu_clocks (n : Nat) (c : EmuCh) (s : State) : (setEmu n c s).clocks = s.clocks := rfl
@[simp] theorem setEmu_eventLines (n : Nat) (c : EmuCh) (s : State) : (setEmu n c s).eventLines = s.eventLines := rfl
@[simp] theorem setEmu_cores (n : Nat) (c : EmuCh) (s : State) : (setEmu n c s).cores = s.cores := rfl
@[simp] theorem setEmu_security (n : Nat) (c : EmuCh) (s : State) : (setEmu n c s).security = s.security := rfl
@[simp] theorem setEmu_course (n : Nat) (c : EmuCh) (s : State) : (setEmu n c s).course = s.course := rfl
@[simp] theorem setEmu_engine (n : Nat) (c : EmuCh) (s : State) : (setEmu n c s).engine = s.engine := rfl
@[simp] theorem setEmu_drive (n : Nat) (c : EmuCh) (s : State) : (setEmu n c s).drive = s.drive := rfl
@[simp] theorem setEmu_relay (n : Nat) (c : EmuCh) (s : State) : (setEmu n c s).relay = s.relay := rfl
@[simp] theorem setEmu_lease (n : Nat) (c : EmuCh) (s : State) : (setEmu n c s).lease = s.lease := rfl
@[simp] theorem setEmu_pwm (n : Nat) (c : EmuCh) (s : State) : (setEmu n c s).pwm = s.pwm := rfl
@[simp] theorem setEmu_loops (n : Nat) (c : EmuCh) (s : State) : (setEmu n c s).loops = s.loops := rfl
@[simp] theorem setEmu_eth (n : Nat) (c : EmuCh) (s : State) : (setEmu n c s).eth = s.eth := rfl
@[simp] theorem setEmu_bus (n : Nat) (c : EmuCh) (s : State) : (setEmu n c s).bus = s.bus := rfl

@[simp] theorem setLatchFifo_pending (n : Nat) (l : List LatchRec) (s : State) : (setLatchFifo n l s).pending = s.pending := rfl
@[simp] theorem setLatchFifo_now (n : Nat) (l : List LatchRec) (s : State) : (setLatchFifo n l s).now = s.now := rfl
@[simp] theorem setLatchFifo_freeDraws (n : Nat) (l : List LatchRec) (s : State) : (setLatchFifo n l s).freeDraws = s.freeDraws := rfl
@[simp] theorem setLatchFifo_out (n : Nat) (l : List LatchRec) (s : State) : (setLatchFifo n l s).out = s.out := rfl
@[simp] theorem setLatchFifo_readData (n : Nat) (l : List LatchRec) (s : State) : (setLatchFifo n l s).readData = s.readData := rfl
@[simp] theorem setLatchFifo_hostMem (n : Nat) (l : List LatchRec) (s : State) : (setLatchFifo n l s).hostMem = s.hostMem := rfl
@[simp] theorem setLatchFifo_messageStore (n : Nat) (l : List LatchRec) (s : State) : (setLatchFifo n l s).messageStore = s.messageStore := rfl
@[simp] theorem setLatchFifo_appSram (n : Nat) (l : List LatchRec) (s : State) : (setLatchFifo n l s).appSram = s.appSram := rfl
@[simp] theorem setLatchFifo_regs (n : Nat) (l : List LatchRec) (s : State) : (setLatchFifo n l s).regs = s.regs := rfl
@[simp] theorem setLatchFifo_tallies (n : Nat) (l : List LatchRec) (s : State) : (setLatchFifo n l s).tallies = s.tallies := rfl
@[simp] theorem setLatchFifo_tallySnap (n : Nat) (l : List LatchRec) (s : State) : (setLatchFifo n l s).tallySnap = s.tallySnap := rfl
@[simp] theorem setLatchFifo_tallySnapTime (n : Nat) (l : List LatchRec) (s : State) : (setLatchFifo n l s).tallySnapTime = s.tallySnapTime := rfl
@[simp] theorem setLatchFifo_hiLatch (n : Nat) (l : List LatchRec) (s : State) : (setLatchFifo n l s).hiLatch = s.hiLatch := rfl
@[simp] theorem setLatchFifo_cister (n : Nat) (l : List LatchRec) (s : State) : (setLatchFifo n l s).cister = s.cister := rfl
@[simp] theorem setLatchFifo_ledger (n : Nat) (l : List LatchRec) (s : State) : (setLatchFifo n l s).ledger = s.ledger := rfl
@[simp] theorem setLatchFifo_aon (n : Nat) (l : List LatchRec) (s : State) : (setLatchFifo n l s).aon = s.aon := rfl
@[simp] theorem setLatchFifo_trace (n : Nat) (l : List LatchRec) (s : State) : (setLatchFifo n l s).trace = s.trace := rfl
@[simp] theorem setLatchFifo_startup (n : Nat) (l : List LatchRec) (s : State) : (setLatchFifo n l s).startup = s.startup := rfl
@[simp] theorem setLatchFifo_clocks (n : Nat) (l : List LatchRec) (s : State) : (setLatchFifo n l s).clocks = s.clocks := rfl
@[simp] theorem setLatchFifo_eventLines (n : Nat) (l : List LatchRec) (s : State) : (setLatchFifo n l s).eventLines = s.eventLines := rfl
@[simp] theorem setLatchFifo_cores (n : Nat) (l : List LatchRec) (s : State) : (setLatchFifo n l s).cores = s.cores := rfl
@[simp] theorem setLatchFifo_security (n : Nat) (l : List LatchRec) (s : State) : (setLatchFifo n l s).security = s.security := rfl
@[simp] theorem setLatchFifo_feedback (n : Nat) (l : List LatchRec) (s : State) : (setLatchFifo n l s).feedback = s.feedback := rfl
@[simp] theorem setLatchFifo_engine (n : Nat) (l : List LatchRec) (s : State) : (setLatchFifo n l s).engine = s.engine := rfl
@[simp] theorem setLatchFifo_drive (n : Nat) (l : List LatchRec) (s : State) : (setLatchFifo n l s).drive = s.drive := rfl
@[simp] theorem setLatchFifo_relay (n : Nat) (l : List LatchRec) (s : State) : (setLatchFifo n l s).relay = s.relay := rfl
@[simp] theorem setLatchFifo_lease (n : Nat) (l : List LatchRec) (s : State) : (setLatchFifo n l s).lease = s.lease := rfl
@[simp] theorem setLatchFifo_pwm (n : Nat) (l : List LatchRec) (s : State) : (setLatchFifo n l s).pwm = s.pwm := rfl
@[simp] theorem setLatchFifo_loops (n : Nat) (l : List LatchRec) (s : State) : (setLatchFifo n l s).loops = s.loops := rfl
@[simp] theorem setLatchFifo_eth (n : Nat) (l : List LatchRec) (s : State) : (setLatchFifo n l s).eth = s.eth := rfl
@[simp] theorem setLatchFifo_bus (n : Nat) (l : List LatchRec) (s : State) : (setLatchFifo n l s).bus = s.bus := rfl

@[simp] theorem setTileSlot_pending (i : Nat) (x : TileSlot) (s : State) : (setTileSlot i x s).pending = s.pending := rfl
@[simp] theorem setTileSlot_now (i : Nat) (x : TileSlot) (s : State) : (setTileSlot i x s).now = s.now := rfl
@[simp] theorem setTileSlot_freeDraws (i : Nat) (x : TileSlot) (s : State) : (setTileSlot i x s).freeDraws = s.freeDraws := rfl
@[simp] theorem setTileSlot_out (i : Nat) (x : TileSlot) (s : State) : (setTileSlot i x s).out = s.out := rfl
@[simp] theorem setTileSlot_readData (i : Nat) (x : TileSlot) (s : State) : (setTileSlot i x s).readData = s.readData := rfl
@[simp] theorem setTileSlot_hostMem (i : Nat) (x : TileSlot) (s : State) : (setTileSlot i x s).hostMem = s.hostMem := rfl
@[simp] theorem setTileSlot_messageStore (i : Nat) (x : TileSlot) (s : State) : (setTileSlot i x s).messageStore = s.messageStore := rfl
@[simp] theorem setTileSlot_appSram (i : Nat) (x : TileSlot) (s : State) : (setTileSlot i x s).appSram = s.appSram := rfl
@[simp] theorem setTileSlot_regs (i : Nat) (x : TileSlot) (s : State) : (setTileSlot i x s).regs = s.regs := rfl
@[simp] theorem setTileSlot_tallies (i : Nat) (x : TileSlot) (s : State) : (setTileSlot i x s).tallies = s.tallies := rfl
@[simp] theorem setTileSlot_tallySnap (i : Nat) (x : TileSlot) (s : State) : (setTileSlot i x s).tallySnap = s.tallySnap := rfl
@[simp] theorem setTileSlot_tallySnapTime (i : Nat) (x : TileSlot) (s : State) : (setTileSlot i x s).tallySnapTime = s.tallySnapTime := rfl
@[simp] theorem setTileSlot_hiLatch (i : Nat) (x : TileSlot) (s : State) : (setTileSlot i x s).hiLatch = s.hiLatch := rfl
@[simp] theorem setTileSlot_cister (i : Nat) (x : TileSlot) (s : State) : (setTileSlot i x s).cister = s.cister := rfl
@[simp] theorem setTileSlot_ledger (i : Nat) (x : TileSlot) (s : State) : (setTileSlot i x s).ledger = s.ledger := rfl
@[simp] theorem setTileSlot_aon (i : Nat) (x : TileSlot) (s : State) : (setTileSlot i x s).aon = s.aon := rfl
@[simp] theorem setTileSlot_trace (i : Nat) (x : TileSlot) (s : State) : (setTileSlot i x s).trace = s.trace := rfl
@[simp] theorem setTileSlot_startup (i : Nat) (x : TileSlot) (s : State) : (setTileSlot i x s).startup = s.startup := rfl
@[simp] theorem setTileSlot_clocks (i : Nat) (x : TileSlot) (s : State) : (setTileSlot i x s).clocks = s.clocks := rfl
@[simp] theorem setTileSlot_eventLines (i : Nat) (x : TileSlot) (s : State) : (setTileSlot i x s).eventLines = s.eventLines := rfl
@[simp] theorem setTileSlot_cores (i : Nat) (x : TileSlot) (s : State) : (setTileSlot i x s).cores = s.cores := rfl
@[simp] theorem setTileSlot_security (i : Nat) (x : TileSlot) (s : State) : (setTileSlot i x s).security = s.security := rfl
@[simp] theorem setTileSlot_feedback (i : Nat) (x : TileSlot) (s : State) : (setTileSlot i x s).feedback = s.feedback := rfl
@[simp] theorem setTileSlot_course (i : Nat) (x : TileSlot) (s : State) : (setTileSlot i x s).course = s.course := rfl
@[simp] theorem setTileSlot_drive (i : Nat) (x : TileSlot) (s : State) : (setTileSlot i x s).drive = s.drive := rfl
@[simp] theorem setTileSlot_relay (i : Nat) (x : TileSlot) (s : State) : (setTileSlot i x s).relay = s.relay := rfl
@[simp] theorem setTileSlot_lease (i : Nat) (x : TileSlot) (s : State) : (setTileSlot i x s).lease = s.lease := rfl
@[simp] theorem setTileSlot_pwm (i : Nat) (x : TileSlot) (s : State) : (setTileSlot i x s).pwm = s.pwm := rfl
@[simp] theorem setTileSlot_loops (i : Nat) (x : TileSlot) (s : State) : (setTileSlot i x s).loops = s.loops := rfl
@[simp] theorem setTileSlot_eth (i : Nat) (x : TileSlot) (s : State) : (setTileSlot i x s).eth = s.eth := rfl
@[simp] theorem setTileSlot_bus (i : Nat) (x : TileSlot) (s : State) : (setTileSlot i x s).bus = s.bus := rfl

@[simp] theorem setLane_pending (k : Nat) (l : Lane) (s : State) : (setLane k l s).pending = s.pending := rfl
@[simp] theorem setLane_now (k : Nat) (l : Lane) (s : State) : (setLane k l s).now = s.now := rfl
@[simp] theorem setLane_freeDraws (k : Nat) (l : Lane) (s : State) : (setLane k l s).freeDraws = s.freeDraws := rfl
@[simp] theorem setLane_out (k : Nat) (l : Lane) (s : State) : (setLane k l s).out = s.out := rfl
@[simp] theorem setLane_readData (k : Nat) (l : Lane) (s : State) : (setLane k l s).readData = s.readData := rfl
@[simp] theorem setLane_hostMem (k : Nat) (l : Lane) (s : State) : (setLane k l s).hostMem = s.hostMem := rfl
@[simp] theorem setLane_messageStore (k : Nat) (l : Lane) (s : State) : (setLane k l s).messageStore = s.messageStore := rfl
@[simp] theorem setLane_appSram (k : Nat) (l : Lane) (s : State) : (setLane k l s).appSram = s.appSram := rfl
@[simp] theorem setLane_regs (k : Nat) (l : Lane) (s : State) : (setLane k l s).regs = s.regs := rfl
@[simp] theorem setLane_tallies (k : Nat) (l : Lane) (s : State) : (setLane k l s).tallies = s.tallies := rfl
@[simp] theorem setLane_tallySnap (k : Nat) (l : Lane) (s : State) : (setLane k l s).tallySnap = s.tallySnap := rfl
@[simp] theorem setLane_tallySnapTime (k : Nat) (l : Lane) (s : State) : (setLane k l s).tallySnapTime = s.tallySnapTime := rfl
@[simp] theorem setLane_hiLatch (k : Nat) (l : Lane) (s : State) : (setLane k l s).hiLatch = s.hiLatch := rfl
@[simp] theorem setLane_cister (k : Nat) (l : Lane) (s : State) : (setLane k l s).cister = s.cister := rfl
@[simp] theorem setLane_ledger (k : Nat) (l : Lane) (s : State) : (setLane k l s).ledger = s.ledger := rfl
@[simp] theorem setLane_aon (k : Nat) (l : Lane) (s : State) : (setLane k l s).aon = s.aon := rfl
@[simp] theorem setLane_trace (k : Nat) (l : Lane) (s : State) : (setLane k l s).trace = s.trace := rfl
@[simp] theorem setLane_startup (k : Nat) (l : Lane) (s : State) : (setLane k l s).startup = s.startup := rfl
@[simp] theorem setLane_clocks (k : Nat) (l : Lane) (s : State) : (setLane k l s).clocks = s.clocks := rfl
@[simp] theorem setLane_eventLines (k : Nat) (l : Lane) (s : State) : (setLane k l s).eventLines = s.eventLines := rfl
@[simp] theorem setLane_cores (k : Nat) (l : Lane) (s : State) : (setLane k l s).cores = s.cores := rfl
@[simp] theorem setLane_security (k : Nat) (l : Lane) (s : State) : (setLane k l s).security = s.security := rfl
@[simp] theorem setLane_feedback (k : Nat) (l : Lane) (s : State) : (setLane k l s).feedback = s.feedback := rfl
@[simp] theorem setLane_course (k : Nat) (l : Lane) (s : State) : (setLane k l s).course = s.course := rfl
@[simp] theorem setLane_drive (k : Nat) (l : Lane) (s : State) : (setLane k l s).drive = s.drive := rfl
@[simp] theorem setLane_relay (k : Nat) (l : Lane) (s : State) : (setLane k l s).relay = s.relay := rfl
@[simp] theorem setLane_lease (k : Nat) (l : Lane) (s : State) : (setLane k l s).lease = s.lease := rfl
@[simp] theorem setLane_pwm (k : Nat) (l : Lane) (s : State) : (setLane k l s).pwm = s.pwm := rfl
@[simp] theorem setLane_loops (k : Nat) (l : Lane) (s : State) : (setLane k l s).loops = s.loops := rfl
@[simp] theorem setLane_eth (k : Nat) (l : Lane) (s : State) : (setLane k l s).eth = s.eth := rfl
@[simp] theorem setLane_bus (k : Nat) (l : Lane) (s : State) : (setLane k l s).bus = s.bus := rfl

@[simp] theorem setCaravan_pending (k : Nat) (c : Caravan) (s : State) : (setCaravan k c s).pending = s.pending := rfl
@[simp] theorem setCaravan_now (k : Nat) (c : Caravan) (s : State) : (setCaravan k c s).now = s.now := rfl
@[simp] theorem setCaravan_freeDraws (k : Nat) (c : Caravan) (s : State) : (setCaravan k c s).freeDraws = s.freeDraws := rfl
@[simp] theorem setCaravan_out (k : Nat) (c : Caravan) (s : State) : (setCaravan k c s).out = s.out := rfl
@[simp] theorem setCaravan_readData (k : Nat) (c : Caravan) (s : State) : (setCaravan k c s).readData = s.readData := rfl
@[simp] theorem setCaravan_hostMem (k : Nat) (c : Caravan) (s : State) : (setCaravan k c s).hostMem = s.hostMem := rfl
@[simp] theorem setCaravan_messageStore (k : Nat) (c : Caravan) (s : State) : (setCaravan k c s).messageStore = s.messageStore := rfl
@[simp] theorem setCaravan_appSram (k : Nat) (c : Caravan) (s : State) : (setCaravan k c s).appSram = s.appSram := rfl
@[simp] theorem setCaravan_regs (k : Nat) (c : Caravan) (s : State) : (setCaravan k c s).regs = s.regs := rfl
@[simp] theorem setCaravan_tallies (k : Nat) (c : Caravan) (s : State) : (setCaravan k c s).tallies = s.tallies := rfl
@[simp] theorem setCaravan_tallySnap (k : Nat) (c : Caravan) (s : State) : (setCaravan k c s).tallySnap = s.tallySnap := rfl
@[simp] theorem setCaravan_tallySnapTime (k : Nat) (c : Caravan) (s : State) : (setCaravan k c s).tallySnapTime = s.tallySnapTime := rfl
@[simp] theorem setCaravan_hiLatch (k : Nat) (c : Caravan) (s : State) : (setCaravan k c s).hiLatch = s.hiLatch := rfl
@[simp] theorem setCaravan_cister (k : Nat) (c : Caravan) (s : State) : (setCaravan k c s).cister = s.cister := rfl
@[simp] theorem setCaravan_ledger (k : Nat) (c : Caravan) (s : State) : (setCaravan k c s).ledger = s.ledger := rfl
@[simp] theorem setCaravan_aon (k : Nat) (c : Caravan) (s : State) : (setCaravan k c s).aon = s.aon := rfl
@[simp] theorem setCaravan_trace (k : Nat) (c : Caravan) (s : State) : (setCaravan k c s).trace = s.trace := rfl
@[simp] theorem setCaravan_startup (k : Nat) (c : Caravan) (s : State) : (setCaravan k c s).startup = s.startup := rfl
@[simp] theorem setCaravan_clocks (k : Nat) (c : Caravan) (s : State) : (setCaravan k c s).clocks = s.clocks := rfl
@[simp] theorem setCaravan_eventLines (k : Nat) (c : Caravan) (s : State) : (setCaravan k c s).eventLines = s.eventLines := rfl
@[simp] theorem setCaravan_cores (k : Nat) (c : Caravan) (s : State) : (setCaravan k c s).cores = s.cores := rfl
@[simp] theorem setCaravan_security (k : Nat) (c : Caravan) (s : State) : (setCaravan k c s).security = s.security := rfl
@[simp] theorem setCaravan_feedback (k : Nat) (c : Caravan) (s : State) : (setCaravan k c s).feedback = s.feedback := rfl
@[simp] theorem setCaravan_course (k : Nat) (c : Caravan) (s : State) : (setCaravan k c s).course = s.course := rfl
@[simp] theorem setCaravan_drive (k : Nat) (c : Caravan) (s : State) : (setCaravan k c s).drive = s.drive := rfl
@[simp] theorem setCaravan_relay (k : Nat) (c : Caravan) (s : State) : (setCaravan k c s).relay = s.relay := rfl
@[simp] theorem setCaravan_lease (k : Nat) (c : Caravan) (s : State) : (setCaravan k c s).lease = s.lease := rfl
@[simp] theorem setCaravan_pwm (k : Nat) (c : Caravan) (s : State) : (setCaravan k c s).pwm = s.pwm := rfl
@[simp] theorem setCaravan_loops (k : Nat) (c : Caravan) (s : State) : (setCaravan k c s).loops = s.loops := rfl
@[simp] theorem setCaravan_eth (k : Nat) (c : Caravan) (s : State) : (setCaravan k c s).eth = s.eth := rfl
@[simp] theorem setCaravan_bus (k : Nat) (c : Caravan) (s : State) : (setCaravan k c s).bus = s.bus := rfl

@[simp] theorem setSlotQueue_pending (p : Nat) (l : List SlotCmd) (s : State) : (setSlotQueue p l s).pending = s.pending := rfl
@[simp] theorem setSlotQueue_now (p : Nat) (l : List SlotCmd) (s : State) : (setSlotQueue p l s).now = s.now := rfl
@[simp] theorem setSlotQueue_freeDraws (p : Nat) (l : List SlotCmd) (s : State) : (setSlotQueue p l s).freeDraws = s.freeDraws := rfl
@[simp] theorem setSlotQueue_out (p : Nat) (l : List SlotCmd) (s : State) : (setSlotQueue p l s).out = s.out := rfl
@[simp] theorem setSlotQueue_readData (p : Nat) (l : List SlotCmd) (s : State) : (setSlotQueue p l s).readData = s.readData := rfl
@[simp] theorem setSlotQueue_hostMem (p : Nat) (l : List SlotCmd) (s : State) : (setSlotQueue p l s).hostMem = s.hostMem := rfl
@[simp] theorem setSlotQueue_messageStore (p : Nat) (l : List SlotCmd) (s : State) : (setSlotQueue p l s).messageStore = s.messageStore := rfl
@[simp] theorem setSlotQueue_appSram (p : Nat) (l : List SlotCmd) (s : State) : (setSlotQueue p l s).appSram = s.appSram := rfl
@[simp] theorem setSlotQueue_regs (p : Nat) (l : List SlotCmd) (s : State) : (setSlotQueue p l s).regs = s.regs := rfl
@[simp] theorem setSlotQueue_tallies (p : Nat) (l : List SlotCmd) (s : State) : (setSlotQueue p l s).tallies = s.tallies := rfl
@[simp] theorem setSlotQueue_tallySnap (p : Nat) (l : List SlotCmd) (s : State) : (setSlotQueue p l s).tallySnap = s.tallySnap := rfl
@[simp] theorem setSlotQueue_tallySnapTime (p : Nat) (l : List SlotCmd) (s : State) : (setSlotQueue p l s).tallySnapTime = s.tallySnapTime := rfl
@[simp] theorem setSlotQueue_hiLatch (p : Nat) (l : List SlotCmd) (s : State) : (setSlotQueue p l s).hiLatch = s.hiLatch := rfl
@[simp] theorem setSlotQueue_cister (p : Nat) (l : List SlotCmd) (s : State) : (setSlotQueue p l s).cister = s.cister := rfl
@[simp] theorem setSlotQueue_ledger (p : Nat) (l : List SlotCmd) (s : State) : (setSlotQueue p l s).ledger = s.ledger := rfl
@[simp] theorem setSlotQueue_aon (p : Nat) (l : List SlotCmd) (s : State) : (setSlotQueue p l s).aon = s.aon := rfl
@[simp] theorem setSlotQueue_trace (p : Nat) (l : List SlotCmd) (s : State) : (setSlotQueue p l s).trace = s.trace := rfl
@[simp] theorem setSlotQueue_startup (p : Nat) (l : List SlotCmd) (s : State) : (setSlotQueue p l s).startup = s.startup := rfl
@[simp] theorem setSlotQueue_clocks (p : Nat) (l : List SlotCmd) (s : State) : (setSlotQueue p l s).clocks = s.clocks := rfl
@[simp] theorem setSlotQueue_eventLines (p : Nat) (l : List SlotCmd) (s : State) : (setSlotQueue p l s).eventLines = s.eventLines := rfl
@[simp] theorem setSlotQueue_cores (p : Nat) (l : List SlotCmd) (s : State) : (setSlotQueue p l s).cores = s.cores := rfl
@[simp] theorem setSlotQueue_security (p : Nat) (l : List SlotCmd) (s : State) : (setSlotQueue p l s).security = s.security := rfl
@[simp] theorem setSlotQueue_feedback (p : Nat) (l : List SlotCmd) (s : State) : (setSlotQueue p l s).feedback = s.feedback := rfl
@[simp] theorem setSlotQueue_course (p : Nat) (l : List SlotCmd) (s : State) : (setSlotQueue p l s).course = s.course := rfl
@[simp] theorem setSlotQueue_drive (p : Nat) (l : List SlotCmd) (s : State) : (setSlotQueue p l s).drive = s.drive := rfl
@[simp] theorem setSlotQueue_relay (p : Nat) (l : List SlotCmd) (s : State) : (setSlotQueue p l s).relay = s.relay := rfl
@[simp] theorem setSlotQueue_lease (p : Nat) (l : List SlotCmd) (s : State) : (setSlotQueue p l s).lease = s.lease := rfl
@[simp] theorem setSlotQueue_pwm (p : Nat) (l : List SlotCmd) (s : State) : (setSlotQueue p l s).pwm = s.pwm := rfl
@[simp] theorem setSlotQueue_loops (p : Nat) (l : List SlotCmd) (s : State) : (setSlotQueue p l s).loops = s.loops := rfl
@[simp] theorem setSlotQueue_eth (p : Nat) (l : List SlotCmd) (s : State) : (setSlotQueue p l s).eth = s.eth := rfl
@[simp] theorem setSlotQueue_bus (p : Nat) (l : List SlotCmd) (s : State) : (setSlotQueue p l s).bus = s.bus := rfl

@[simp] theorem setSlotCancels_pending (p : Nat) (l : List SlotCancel) (s : State) : (setSlotCancels p l s).pending = s.pending := rfl
@[simp] theorem setSlotCancels_now (p : Nat) (l : List SlotCancel) (s : State) : (setSlotCancels p l s).now = s.now := rfl
@[simp] theorem setSlotCancels_freeDraws (p : Nat) (l : List SlotCancel) (s : State) : (setSlotCancels p l s).freeDraws = s.freeDraws := rfl
@[simp] theorem setSlotCancels_out (p : Nat) (l : List SlotCancel) (s : State) : (setSlotCancels p l s).out = s.out := rfl
@[simp] theorem setSlotCancels_readData (p : Nat) (l : List SlotCancel) (s : State) : (setSlotCancels p l s).readData = s.readData := rfl
@[simp] theorem setSlotCancels_hostMem (p : Nat) (l : List SlotCancel) (s : State) : (setSlotCancels p l s).hostMem = s.hostMem := rfl
@[simp] theorem setSlotCancels_messageStore (p : Nat) (l : List SlotCancel) (s : State) : (setSlotCancels p l s).messageStore = s.messageStore := rfl
@[simp] theorem setSlotCancels_appSram (p : Nat) (l : List SlotCancel) (s : State) : (setSlotCancels p l s).appSram = s.appSram := rfl
@[simp] theorem setSlotCancels_regs (p : Nat) (l : List SlotCancel) (s : State) : (setSlotCancels p l s).regs = s.regs := rfl
@[simp] theorem setSlotCancels_tallies (p : Nat) (l : List SlotCancel) (s : State) : (setSlotCancels p l s).tallies = s.tallies := rfl
@[simp] theorem setSlotCancels_tallySnap (p : Nat) (l : List SlotCancel) (s : State) : (setSlotCancels p l s).tallySnap = s.tallySnap := rfl
@[simp] theorem setSlotCancels_tallySnapTime (p : Nat) (l : List SlotCancel) (s : State) : (setSlotCancels p l s).tallySnapTime = s.tallySnapTime := rfl
@[simp] theorem setSlotCancels_hiLatch (p : Nat) (l : List SlotCancel) (s : State) : (setSlotCancels p l s).hiLatch = s.hiLatch := rfl
@[simp] theorem setSlotCancels_cister (p : Nat) (l : List SlotCancel) (s : State) : (setSlotCancels p l s).cister = s.cister := rfl
@[simp] theorem setSlotCancels_ledger (p : Nat) (l : List SlotCancel) (s : State) : (setSlotCancels p l s).ledger = s.ledger := rfl
@[simp] theorem setSlotCancels_aon (p : Nat) (l : List SlotCancel) (s : State) : (setSlotCancels p l s).aon = s.aon := rfl
@[simp] theorem setSlotCancels_trace (p : Nat) (l : List SlotCancel) (s : State) : (setSlotCancels p l s).trace = s.trace := rfl
@[simp] theorem setSlotCancels_startup (p : Nat) (l : List SlotCancel) (s : State) : (setSlotCancels p l s).startup = s.startup := rfl
@[simp] theorem setSlotCancels_clocks (p : Nat) (l : List SlotCancel) (s : State) : (setSlotCancels p l s).clocks = s.clocks := rfl
@[simp] theorem setSlotCancels_eventLines (p : Nat) (l : List SlotCancel) (s : State) : (setSlotCancels p l s).eventLines = s.eventLines := rfl
@[simp] theorem setSlotCancels_cores (p : Nat) (l : List SlotCancel) (s : State) : (setSlotCancels p l s).cores = s.cores := rfl
@[simp] theorem setSlotCancels_security (p : Nat) (l : List SlotCancel) (s : State) : (setSlotCancels p l s).security = s.security := rfl
@[simp] theorem setSlotCancels_feedback (p : Nat) (l : List SlotCancel) (s : State) : (setSlotCancels p l s).feedback = s.feedback := rfl
@[simp] theorem setSlotCancels_course (p : Nat) (l : List SlotCancel) (s : State) : (setSlotCancels p l s).course = s.course := rfl
@[simp] theorem setSlotCancels_drive (p : Nat) (l : List SlotCancel) (s : State) : (setSlotCancels p l s).drive = s.drive := rfl
@[simp] theorem setSlotCancels_relay (p : Nat) (l : List SlotCancel) (s : State) : (setSlotCancels p l s).relay = s.relay := rfl
@[simp] theorem setSlotCancels_lease (p : Nat) (l : List SlotCancel) (s : State) : (setSlotCancels p l s).lease = s.lease := rfl
@[simp] theorem setSlotCancels_pwm (p : Nat) (l : List SlotCancel) (s : State) : (setSlotCancels p l s).pwm = s.pwm := rfl
@[simp] theorem setSlotCancels_loops (p : Nat) (l : List SlotCancel) (s : State) : (setSlotCancels p l s).loops = s.loops := rfl
@[simp] theorem setSlotCancels_eth (p : Nat) (l : List SlotCancel) (s : State) : (setSlotCancels p l s).eth = s.eth := rfl
@[simp] theorem setSlotCancels_bus (p : Nat) (l : List SlotCancel) (s : State) : (setSlotCancels p l s).bus = s.bus := rfl

@[simp] theorem setDrvCh_pending (n : Nat) (c : DrvCh) (s : State) : (setDrvCh n c s).pending = s.pending := rfl
@[simp] theorem setDrvCh_now (n : Nat) (c : DrvCh) (s : State) : (setDrvCh n c s).now = s.now := rfl
@[simp] theorem setDrvCh_freeDraws (n : Nat) (c : DrvCh) (s : State) : (setDrvCh n c s).freeDraws = s.freeDraws := rfl
@[simp] theorem setDrvCh_out (n : Nat) (c : DrvCh) (s : State) : (setDrvCh n c s).out = s.out := rfl
@[simp] theorem setDrvCh_readData (n : Nat) (c : DrvCh) (s : State) : (setDrvCh n c s).readData = s.readData := rfl
@[simp] theorem setDrvCh_hostMem (n : Nat) (c : DrvCh) (s : State) : (setDrvCh n c s).hostMem = s.hostMem := rfl
@[simp] theorem setDrvCh_messageStore (n : Nat) (c : DrvCh) (s : State) : (setDrvCh n c s).messageStore = s.messageStore := rfl
@[simp] theorem setDrvCh_appSram (n : Nat) (c : DrvCh) (s : State) : (setDrvCh n c s).appSram = s.appSram := rfl
@[simp] theorem setDrvCh_regs (n : Nat) (c : DrvCh) (s : State) : (setDrvCh n c s).regs = s.regs := rfl
@[simp] theorem setDrvCh_tallies (n : Nat) (c : DrvCh) (s : State) : (setDrvCh n c s).tallies = s.tallies := rfl
@[simp] theorem setDrvCh_tallySnap (n : Nat) (c : DrvCh) (s : State) : (setDrvCh n c s).tallySnap = s.tallySnap := rfl
@[simp] theorem setDrvCh_tallySnapTime (n : Nat) (c : DrvCh) (s : State) : (setDrvCh n c s).tallySnapTime = s.tallySnapTime := rfl
@[simp] theorem setDrvCh_hiLatch (n : Nat) (c : DrvCh) (s : State) : (setDrvCh n c s).hiLatch = s.hiLatch := rfl
@[simp] theorem setDrvCh_cister (n : Nat) (c : DrvCh) (s : State) : (setDrvCh n c s).cister = s.cister := rfl
@[simp] theorem setDrvCh_ledger (n : Nat) (c : DrvCh) (s : State) : (setDrvCh n c s).ledger = s.ledger := rfl
@[simp] theorem setDrvCh_aon (n : Nat) (c : DrvCh) (s : State) : (setDrvCh n c s).aon = s.aon := rfl
@[simp] theorem setDrvCh_trace (n : Nat) (c : DrvCh) (s : State) : (setDrvCh n c s).trace = s.trace := rfl
@[simp] theorem setDrvCh_startup (n : Nat) (c : DrvCh) (s : State) : (setDrvCh n c s).startup = s.startup := rfl
@[simp] theorem setDrvCh_clocks (n : Nat) (c : DrvCh) (s : State) : (setDrvCh n c s).clocks = s.clocks := rfl
@[simp] theorem setDrvCh_eventLines (n : Nat) (c : DrvCh) (s : State) : (setDrvCh n c s).eventLines = s.eventLines := rfl
@[simp] theorem setDrvCh_cores (n : Nat) (c : DrvCh) (s : State) : (setDrvCh n c s).cores = s.cores := rfl
@[simp] theorem setDrvCh_security (n : Nat) (c : DrvCh) (s : State) : (setDrvCh n c s).security = s.security := rfl
@[simp] theorem setDrvCh_feedback (n : Nat) (c : DrvCh) (s : State) : (setDrvCh n c s).feedback = s.feedback := rfl
@[simp] theorem setDrvCh_course (n : Nat) (c : DrvCh) (s : State) : (setDrvCh n c s).course = s.course := rfl
@[simp] theorem setDrvCh_engine (n : Nat) (c : DrvCh) (s : State) : (setDrvCh n c s).engine = s.engine := rfl
@[simp] theorem setDrvCh_relay (n : Nat) (c : DrvCh) (s : State) : (setDrvCh n c s).relay = s.relay := rfl
@[simp] theorem setDrvCh_lease (n : Nat) (c : DrvCh) (s : State) : (setDrvCh n c s).lease = s.lease := rfl
@[simp] theorem setDrvCh_pwm (n : Nat) (c : DrvCh) (s : State) : (setDrvCh n c s).pwm = s.pwm := rfl
@[simp] theorem setDrvCh_loops (n : Nat) (c : DrvCh) (s : State) : (setDrvCh n c s).loops = s.loops := rfl
@[simp] theorem setDrvCh_eth (n : Nat) (c : DrvCh) (s : State) : (setDrvCh n c s).eth = s.eth := rfl
@[simp] theorem setDrvCh_bus (n : Nat) (c : DrvCh) (s : State) : (setDrvCh n c s).bus = s.bus := rfl

@[simp] theorem modDrvLease_pending (f : DriveLease → DriveLease) (s : State) : (modDrvLease f s).pending = s.pending := rfl
@[simp] theorem modDrvLease_now (f : DriveLease → DriveLease) (s : State) : (modDrvLease f s).now = s.now := rfl
@[simp] theorem modDrvLease_freeDraws (f : DriveLease → DriveLease) (s : State) : (modDrvLease f s).freeDraws = s.freeDraws := rfl
@[simp] theorem modDrvLease_out (f : DriveLease → DriveLease) (s : State) : (modDrvLease f s).out = s.out := rfl
@[simp] theorem modDrvLease_readData (f : DriveLease → DriveLease) (s : State) : (modDrvLease f s).readData = s.readData := rfl
@[simp] theorem modDrvLease_hostMem (f : DriveLease → DriveLease) (s : State) : (modDrvLease f s).hostMem = s.hostMem := rfl
@[simp] theorem modDrvLease_messageStore (f : DriveLease → DriveLease) (s : State) : (modDrvLease f s).messageStore = s.messageStore := rfl
@[simp] theorem modDrvLease_appSram (f : DriveLease → DriveLease) (s : State) : (modDrvLease f s).appSram = s.appSram := rfl
@[simp] theorem modDrvLease_regs (f : DriveLease → DriveLease) (s : State) : (modDrvLease f s).regs = s.regs := rfl
@[simp] theorem modDrvLease_tallies (f : DriveLease → DriveLease) (s : State) : (modDrvLease f s).tallies = s.tallies := rfl
@[simp] theorem modDrvLease_tallySnap (f : DriveLease → DriveLease) (s : State) : (modDrvLease f s).tallySnap = s.tallySnap := rfl
@[simp] theorem modDrvLease_tallySnapTime (f : DriveLease → DriveLease) (s : State) : (modDrvLease f s).tallySnapTime = s.tallySnapTime := rfl
@[simp] theorem modDrvLease_hiLatch (f : DriveLease → DriveLease) (s : State) : (modDrvLease f s).hiLatch = s.hiLatch := rfl
@[simp] theorem modDrvLease_cister (f : DriveLease → DriveLease) (s : State) : (modDrvLease f s).cister = s.cister := rfl
@[simp] theorem modDrvLease_ledger (f : DriveLease → DriveLease) (s : State) : (modDrvLease f s).ledger = s.ledger := rfl
@[simp] theorem modDrvLease_aon (f : DriveLease → DriveLease) (s : State) : (modDrvLease f s).aon = s.aon := rfl
@[simp] theorem modDrvLease_trace (f : DriveLease → DriveLease) (s : State) : (modDrvLease f s).trace = s.trace := rfl
@[simp] theorem modDrvLease_startup (f : DriveLease → DriveLease) (s : State) : (modDrvLease f s).startup = s.startup := rfl
@[simp] theorem modDrvLease_clocks (f : DriveLease → DriveLease) (s : State) : (modDrvLease f s).clocks = s.clocks := rfl
@[simp] theorem modDrvLease_eventLines (f : DriveLease → DriveLease) (s : State) : (modDrvLease f s).eventLines = s.eventLines := rfl
@[simp] theorem modDrvLease_cores (f : DriveLease → DriveLease) (s : State) : (modDrvLease f s).cores = s.cores := rfl
@[simp] theorem modDrvLease_security (f : DriveLease → DriveLease) (s : State) : (modDrvLease f s).security = s.security := rfl
@[simp] theorem modDrvLease_feedback (f : DriveLease → DriveLease) (s : State) : (modDrvLease f s).feedback = s.feedback := rfl
@[simp] theorem modDrvLease_course (f : DriveLease → DriveLease) (s : State) : (modDrvLease f s).course = s.course := rfl
@[simp] theorem modDrvLease_engine (f : DriveLease → DriveLease) (s : State) : (modDrvLease f s).engine = s.engine := rfl
@[simp] theorem modDrvLease_relay (f : DriveLease → DriveLease) (s : State) : (modDrvLease f s).relay = s.relay := rfl
@[simp] theorem modDrvLease_lease (f : DriveLease → DriveLease) (s : State) : (modDrvLease f s).lease = s.lease := rfl
@[simp] theorem modDrvLease_pwm (f : DriveLease → DriveLease) (s : State) : (modDrvLease f s).pwm = s.pwm := rfl
@[simp] theorem modDrvLease_loops (f : DriveLease → DriveLease) (s : State) : (modDrvLease f s).loops = s.loops := rfl
@[simp] theorem modDrvLease_eth (f : DriveLease → DriveLease) (s : State) : (modDrvLease f s).eth = s.eth := rfl
@[simp] theorem modDrvLease_bus (f : DriveLease → DriveLease) (s : State) : (modDrvLease f s).bus = s.bus := rfl

@[simp] theorem setLoop_pending (n : Nat) (c : LoopCh) (s : State) : (setLoop n c s).pending = s.pending := rfl
@[simp] theorem setLoop_now (n : Nat) (c : LoopCh) (s : State) : (setLoop n c s).now = s.now := rfl
@[simp] theorem setLoop_freeDraws (n : Nat) (c : LoopCh) (s : State) : (setLoop n c s).freeDraws = s.freeDraws := rfl
@[simp] theorem setLoop_out (n : Nat) (c : LoopCh) (s : State) : (setLoop n c s).out = s.out := rfl
@[simp] theorem setLoop_readData (n : Nat) (c : LoopCh) (s : State) : (setLoop n c s).readData = s.readData := rfl
@[simp] theorem setLoop_hostMem (n : Nat) (c : LoopCh) (s : State) : (setLoop n c s).hostMem = s.hostMem := rfl
@[simp] theorem setLoop_messageStore (n : Nat) (c : LoopCh) (s : State) : (setLoop n c s).messageStore = s.messageStore := rfl
@[simp] theorem setLoop_appSram (n : Nat) (c : LoopCh) (s : State) : (setLoop n c s).appSram = s.appSram := rfl
@[simp] theorem setLoop_regs (n : Nat) (c : LoopCh) (s : State) : (setLoop n c s).regs = s.regs := rfl
@[simp] theorem setLoop_tallies (n : Nat) (c : LoopCh) (s : State) : (setLoop n c s).tallies = s.tallies := rfl
@[simp] theorem setLoop_tallySnap (n : Nat) (c : LoopCh) (s : State) : (setLoop n c s).tallySnap = s.tallySnap := rfl
@[simp] theorem setLoop_tallySnapTime (n : Nat) (c : LoopCh) (s : State) : (setLoop n c s).tallySnapTime = s.tallySnapTime := rfl
@[simp] theorem setLoop_hiLatch (n : Nat) (c : LoopCh) (s : State) : (setLoop n c s).hiLatch = s.hiLatch := rfl
@[simp] theorem setLoop_cister (n : Nat) (c : LoopCh) (s : State) : (setLoop n c s).cister = s.cister := rfl
@[simp] theorem setLoop_ledger (n : Nat) (c : LoopCh) (s : State) : (setLoop n c s).ledger = s.ledger := rfl
@[simp] theorem setLoop_aon (n : Nat) (c : LoopCh) (s : State) : (setLoop n c s).aon = s.aon := rfl
@[simp] theorem setLoop_trace (n : Nat) (c : LoopCh) (s : State) : (setLoop n c s).trace = s.trace := rfl
@[simp] theorem setLoop_startup (n : Nat) (c : LoopCh) (s : State) : (setLoop n c s).startup = s.startup := rfl
@[simp] theorem setLoop_clocks (n : Nat) (c : LoopCh) (s : State) : (setLoop n c s).clocks = s.clocks := rfl
@[simp] theorem setLoop_eventLines (n : Nat) (c : LoopCh) (s : State) : (setLoop n c s).eventLines = s.eventLines := rfl
@[simp] theorem setLoop_cores (n : Nat) (c : LoopCh) (s : State) : (setLoop n c s).cores = s.cores := rfl
@[simp] theorem setLoop_security (n : Nat) (c : LoopCh) (s : State) : (setLoop n c s).security = s.security := rfl
@[simp] theorem setLoop_feedback (n : Nat) (c : LoopCh) (s : State) : (setLoop n c s).feedback = s.feedback := rfl
@[simp] theorem setLoop_course (n : Nat) (c : LoopCh) (s : State) : (setLoop n c s).course = s.course := rfl
@[simp] theorem setLoop_engine (n : Nat) (c : LoopCh) (s : State) : (setLoop n c s).engine = s.engine := rfl
@[simp] theorem setLoop_drive (n : Nat) (c : LoopCh) (s : State) : (setLoop n c s).drive = s.drive := rfl
@[simp] theorem setLoop_relay (n : Nat) (c : LoopCh) (s : State) : (setLoop n c s).relay = s.relay := rfl
@[simp] theorem setLoop_lease (n : Nat) (c : LoopCh) (s : State) : (setLoop n c s).lease = s.lease := rfl
@[simp] theorem setLoop_pwm (n : Nat) (c : LoopCh) (s : State) : (setLoop n c s).pwm = s.pwm := rfl
@[simp] theorem setLoop_eth (n : Nat) (c : LoopCh) (s : State) : (setLoop n c s).eth = s.eth := rfl
@[simp] theorem setLoop_bus (n : Nat) (c : LoopCh) (s : State) : (setLoop n c s).bus = s.bus := rfl

@[simp] theorem setPwmCh_pending (n : Nat) (c : PwmCh) (s : State) : (setPwmCh n c s).pending = s.pending := rfl
@[simp] theorem setPwmCh_now (n : Nat) (c : PwmCh) (s : State) : (setPwmCh n c s).now = s.now := rfl
@[simp] theorem setPwmCh_freeDraws (n : Nat) (c : PwmCh) (s : State) : (setPwmCh n c s).freeDraws = s.freeDraws := rfl
@[simp] theorem setPwmCh_out (n : Nat) (c : PwmCh) (s : State) : (setPwmCh n c s).out = s.out := rfl
@[simp] theorem setPwmCh_readData (n : Nat) (c : PwmCh) (s : State) : (setPwmCh n c s).readData = s.readData := rfl
@[simp] theorem setPwmCh_hostMem (n : Nat) (c : PwmCh) (s : State) : (setPwmCh n c s).hostMem = s.hostMem := rfl
@[simp] theorem setPwmCh_messageStore (n : Nat) (c : PwmCh) (s : State) : (setPwmCh n c s).messageStore = s.messageStore := rfl
@[simp] theorem setPwmCh_appSram (n : Nat) (c : PwmCh) (s : State) : (setPwmCh n c s).appSram = s.appSram := rfl
@[simp] theorem setPwmCh_regs (n : Nat) (c : PwmCh) (s : State) : (setPwmCh n c s).regs = s.regs := rfl
@[simp] theorem setPwmCh_tallies (n : Nat) (c : PwmCh) (s : State) : (setPwmCh n c s).tallies = s.tallies := rfl
@[simp] theorem setPwmCh_tallySnap (n : Nat) (c : PwmCh) (s : State) : (setPwmCh n c s).tallySnap = s.tallySnap := rfl
@[simp] theorem setPwmCh_tallySnapTime (n : Nat) (c : PwmCh) (s : State) : (setPwmCh n c s).tallySnapTime = s.tallySnapTime := rfl
@[simp] theorem setPwmCh_hiLatch (n : Nat) (c : PwmCh) (s : State) : (setPwmCh n c s).hiLatch = s.hiLatch := rfl
@[simp] theorem setPwmCh_cister (n : Nat) (c : PwmCh) (s : State) : (setPwmCh n c s).cister = s.cister := rfl
@[simp] theorem setPwmCh_ledger (n : Nat) (c : PwmCh) (s : State) : (setPwmCh n c s).ledger = s.ledger := rfl
@[simp] theorem setPwmCh_aon (n : Nat) (c : PwmCh) (s : State) : (setPwmCh n c s).aon = s.aon := rfl
@[simp] theorem setPwmCh_trace (n : Nat) (c : PwmCh) (s : State) : (setPwmCh n c s).trace = s.trace := rfl
@[simp] theorem setPwmCh_startup (n : Nat) (c : PwmCh) (s : State) : (setPwmCh n c s).startup = s.startup := rfl
@[simp] theorem setPwmCh_clocks (n : Nat) (c : PwmCh) (s : State) : (setPwmCh n c s).clocks = s.clocks := rfl
@[simp] theorem setPwmCh_eventLines (n : Nat) (c : PwmCh) (s : State) : (setPwmCh n c s).eventLines = s.eventLines := rfl
@[simp] theorem setPwmCh_cores (n : Nat) (c : PwmCh) (s : State) : (setPwmCh n c s).cores = s.cores := rfl
@[simp] theorem setPwmCh_security (n : Nat) (c : PwmCh) (s : State) : (setPwmCh n c s).security = s.security := rfl
@[simp] theorem setPwmCh_feedback (n : Nat) (c : PwmCh) (s : State) : (setPwmCh n c s).feedback = s.feedback := rfl
@[simp] theorem setPwmCh_course (n : Nat) (c : PwmCh) (s : State) : (setPwmCh n c s).course = s.course := rfl
@[simp] theorem setPwmCh_engine (n : Nat) (c : PwmCh) (s : State) : (setPwmCh n c s).engine = s.engine := rfl
@[simp] theorem setPwmCh_drive (n : Nat) (c : PwmCh) (s : State) : (setPwmCh n c s).drive = s.drive := rfl
@[simp] theorem setPwmCh_relay (n : Nat) (c : PwmCh) (s : State) : (setPwmCh n c s).relay = s.relay := rfl
@[simp] theorem setPwmCh_lease (n : Nat) (c : PwmCh) (s : State) : (setPwmCh n c s).lease = s.lease := rfl
@[simp] theorem setPwmCh_loops (n : Nat) (c : PwmCh) (s : State) : (setPwmCh n c s).loops = s.loops := rfl
@[simp] theorem setPwmCh_eth (n : Nat) (c : PwmCh) (s : State) : (setPwmCh n c s).eth = s.eth := rfl
@[simp] theorem setPwmCh_bus (n : Nat) (c : PwmCh) (s : State) : (setPwmCh n c s).bus = s.bus := rfl

@[simp] theorem setBus_pending (p : Nat) (b : BusPort) (s : State) : (setBus p b s).pending = s.pending := rfl
@[simp] theorem setBus_now (p : Nat) (b : BusPort) (s : State) : (setBus p b s).now = s.now := rfl
@[simp] theorem setBus_freeDraws (p : Nat) (b : BusPort) (s : State) : (setBus p b s).freeDraws = s.freeDraws := rfl
@[simp] theorem setBus_out (p : Nat) (b : BusPort) (s : State) : (setBus p b s).out = s.out := rfl
@[simp] theorem setBus_readData (p : Nat) (b : BusPort) (s : State) : (setBus p b s).readData = s.readData := rfl
@[simp] theorem setBus_hostMem (p : Nat) (b : BusPort) (s : State) : (setBus p b s).hostMem = s.hostMem := rfl
@[simp] theorem setBus_messageStore (p : Nat) (b : BusPort) (s : State) : (setBus p b s).messageStore = s.messageStore := rfl
@[simp] theorem setBus_appSram (p : Nat) (b : BusPort) (s : State) : (setBus p b s).appSram = s.appSram := rfl
@[simp] theorem setBus_regs (p : Nat) (b : BusPort) (s : State) : (setBus p b s).regs = s.regs := rfl
@[simp] theorem setBus_tallies (p : Nat) (b : BusPort) (s : State) : (setBus p b s).tallies = s.tallies := rfl
@[simp] theorem setBus_tallySnap (p : Nat) (b : BusPort) (s : State) : (setBus p b s).tallySnap = s.tallySnap := rfl
@[simp] theorem setBus_tallySnapTime (p : Nat) (b : BusPort) (s : State) : (setBus p b s).tallySnapTime = s.tallySnapTime := rfl
@[simp] theorem setBus_hiLatch (p : Nat) (b : BusPort) (s : State) : (setBus p b s).hiLatch = s.hiLatch := rfl
@[simp] theorem setBus_cister (p : Nat) (b : BusPort) (s : State) : (setBus p b s).cister = s.cister := rfl
@[simp] theorem setBus_ledger (p : Nat) (b : BusPort) (s : State) : (setBus p b s).ledger = s.ledger := rfl
@[simp] theorem setBus_aon (p : Nat) (b : BusPort) (s : State) : (setBus p b s).aon = s.aon := rfl
@[simp] theorem setBus_trace (p : Nat) (b : BusPort) (s : State) : (setBus p b s).trace = s.trace := rfl
@[simp] theorem setBus_startup (p : Nat) (b : BusPort) (s : State) : (setBus p b s).startup = s.startup := rfl
@[simp] theorem setBus_clocks (p : Nat) (b : BusPort) (s : State) : (setBus p b s).clocks = s.clocks := rfl
@[simp] theorem setBus_eventLines (p : Nat) (b : BusPort) (s : State) : (setBus p b s).eventLines = s.eventLines := rfl
@[simp] theorem setBus_cores (p : Nat) (b : BusPort) (s : State) : (setBus p b s).cores = s.cores := rfl
@[simp] theorem setBus_security (p : Nat) (b : BusPort) (s : State) : (setBus p b s).security = s.security := rfl
@[simp] theorem setBus_feedback (p : Nat) (b : BusPort) (s : State) : (setBus p b s).feedback = s.feedback := rfl
@[simp] theorem setBus_course (p : Nat) (b : BusPort) (s : State) : (setBus p b s).course = s.course := rfl
@[simp] theorem setBus_engine (p : Nat) (b : BusPort) (s : State) : (setBus p b s).engine = s.engine := rfl
@[simp] theorem setBus_drive (p : Nat) (b : BusPort) (s : State) : (setBus p b s).drive = s.drive := rfl
@[simp] theorem setBus_relay (p : Nat) (b : BusPort) (s : State) : (setBus p b s).relay = s.relay := rfl
@[simp] theorem setBus_lease (p : Nat) (b : BusPort) (s : State) : (setBus p b s).lease = s.lease := rfl
@[simp] theorem setBus_pwm (p : Nat) (b : BusPort) (s : State) : (setBus p b s).pwm = s.pwm := rfl
@[simp] theorem setBus_loops (p : Nat) (b : BusPort) (s : State) : (setBus p b s).loops = s.loops := rfl
@[simp] theorem setBus_eth (p : Nat) (b : BusPort) (s : State) : (setBus p b s).eth = s.eth := rfl

@[simp] theorem setEthMac_pending (m : Nat) (x : EthMac) (s : State) : (setEthMac m x s).pending = s.pending := rfl
@[simp] theorem setEthMac_now (m : Nat) (x : EthMac) (s : State) : (setEthMac m x s).now = s.now := rfl
@[simp] theorem setEthMac_freeDraws (m : Nat) (x : EthMac) (s : State) : (setEthMac m x s).freeDraws = s.freeDraws := rfl
@[simp] theorem setEthMac_out (m : Nat) (x : EthMac) (s : State) : (setEthMac m x s).out = s.out := rfl
@[simp] theorem setEthMac_readData (m : Nat) (x : EthMac) (s : State) : (setEthMac m x s).readData = s.readData := rfl
@[simp] theorem setEthMac_hostMem (m : Nat) (x : EthMac) (s : State) : (setEthMac m x s).hostMem = s.hostMem := rfl
@[simp] theorem setEthMac_messageStore (m : Nat) (x : EthMac) (s : State) : (setEthMac m x s).messageStore = s.messageStore := rfl
@[simp] theorem setEthMac_appSram (m : Nat) (x : EthMac) (s : State) : (setEthMac m x s).appSram = s.appSram := rfl
@[simp] theorem setEthMac_regs (m : Nat) (x : EthMac) (s : State) : (setEthMac m x s).regs = s.regs := rfl
@[simp] theorem setEthMac_tallies (m : Nat) (x : EthMac) (s : State) : (setEthMac m x s).tallies = s.tallies := rfl
@[simp] theorem setEthMac_tallySnap (m : Nat) (x : EthMac) (s : State) : (setEthMac m x s).tallySnap = s.tallySnap := rfl
@[simp] theorem setEthMac_tallySnapTime (m : Nat) (x : EthMac) (s : State) : (setEthMac m x s).tallySnapTime = s.tallySnapTime := rfl
@[simp] theorem setEthMac_hiLatch (m : Nat) (x : EthMac) (s : State) : (setEthMac m x s).hiLatch = s.hiLatch := rfl
@[simp] theorem setEthMac_cister (m : Nat) (x : EthMac) (s : State) : (setEthMac m x s).cister = s.cister := rfl
@[simp] theorem setEthMac_ledger (m : Nat) (x : EthMac) (s : State) : (setEthMac m x s).ledger = s.ledger := rfl
@[simp] theorem setEthMac_aon (m : Nat) (x : EthMac) (s : State) : (setEthMac m x s).aon = s.aon := rfl
@[simp] theorem setEthMac_trace (m : Nat) (x : EthMac) (s : State) : (setEthMac m x s).trace = s.trace := rfl
@[simp] theorem setEthMac_startup (m : Nat) (x : EthMac) (s : State) : (setEthMac m x s).startup = s.startup := rfl
@[simp] theorem setEthMac_clocks (m : Nat) (x : EthMac) (s : State) : (setEthMac m x s).clocks = s.clocks := rfl
@[simp] theorem setEthMac_eventLines (m : Nat) (x : EthMac) (s : State) : (setEthMac m x s).eventLines = s.eventLines := rfl
@[simp] theorem setEthMac_cores (m : Nat) (x : EthMac) (s : State) : (setEthMac m x s).cores = s.cores := rfl
@[simp] theorem setEthMac_security (m : Nat) (x : EthMac) (s : State) : (setEthMac m x s).security = s.security := rfl
@[simp] theorem setEthMac_feedback (m : Nat) (x : EthMac) (s : State) : (setEthMac m x s).feedback = s.feedback := rfl
@[simp] theorem setEthMac_course (m : Nat) (x : EthMac) (s : State) : (setEthMac m x s).course = s.course := rfl
@[simp] theorem setEthMac_engine (m : Nat) (x : EthMac) (s : State) : (setEthMac m x s).engine = s.engine := rfl
@[simp] theorem setEthMac_drive (m : Nat) (x : EthMac) (s : State) : (setEthMac m x s).drive = s.drive := rfl
@[simp] theorem setEthMac_relay (m : Nat) (x : EthMac) (s : State) : (setEthMac m x s).relay = s.relay := rfl
@[simp] theorem setEthMac_lease (m : Nat) (x : EthMac) (s : State) : (setEthMac m x s).lease = s.lease := rfl
@[simp] theorem setEthMac_pwm (m : Nat) (x : EthMac) (s : State) : (setEthMac m x s).pwm = s.pwm := rfl
@[simp] theorem setEthMac_loops (m : Nat) (x : EthMac) (s : State) : (setEthMac m x s).loops = s.loops := rfl
@[simp] theorem setEthMac_bus (m : Nat) (x : EthMac) (s : State) : (setEthMac m x s).bus = s.bus := rfl

@[simp] theorem modSec_pending (f : Security → Security) (s : State) : (modSec f s).pending = s.pending := rfl
@[simp] theorem modSec_now (f : Security → Security) (s : State) : (modSec f s).now = s.now := rfl
@[simp] theorem modSec_freeDraws (f : Security → Security) (s : State) : (modSec f s).freeDraws = s.freeDraws := rfl
@[simp] theorem modSec_out (f : Security → Security) (s : State) : (modSec f s).out = s.out := rfl
@[simp] theorem modSec_readData (f : Security → Security) (s : State) : (modSec f s).readData = s.readData := rfl
@[simp] theorem modSec_hostMem (f : Security → Security) (s : State) : (modSec f s).hostMem = s.hostMem := rfl
@[simp] theorem modSec_messageStore (f : Security → Security) (s : State) : (modSec f s).messageStore = s.messageStore := rfl
@[simp] theorem modSec_appSram (f : Security → Security) (s : State) : (modSec f s).appSram = s.appSram := rfl
@[simp] theorem modSec_regs (f : Security → Security) (s : State) : (modSec f s).regs = s.regs := rfl
@[simp] theorem modSec_tallies (f : Security → Security) (s : State) : (modSec f s).tallies = s.tallies := rfl
@[simp] theorem modSec_tallySnap (f : Security → Security) (s : State) : (modSec f s).tallySnap = s.tallySnap := rfl
@[simp] theorem modSec_tallySnapTime (f : Security → Security) (s : State) : (modSec f s).tallySnapTime = s.tallySnapTime := rfl
@[simp] theorem modSec_hiLatch (f : Security → Security) (s : State) : (modSec f s).hiLatch = s.hiLatch := rfl
@[simp] theorem modSec_cister (f : Security → Security) (s : State) : (modSec f s).cister = s.cister := rfl
@[simp] theorem modSec_ledger (f : Security → Security) (s : State) : (modSec f s).ledger = s.ledger := rfl
@[simp] theorem modSec_aon (f : Security → Security) (s : State) : (modSec f s).aon = s.aon := rfl
@[simp] theorem modSec_trace (f : Security → Security) (s : State) : (modSec f s).trace = s.trace := rfl
@[simp] theorem modSec_startup (f : Security → Security) (s : State) : (modSec f s).startup = s.startup := rfl
@[simp] theorem modSec_clocks (f : Security → Security) (s : State) : (modSec f s).clocks = s.clocks := rfl
@[simp] theorem modSec_eventLines (f : Security → Security) (s : State) : (modSec f s).eventLines = s.eventLines := rfl
@[simp] theorem modSec_cores (f : Security → Security) (s : State) : (modSec f s).cores = s.cores := rfl
@[simp] theorem modSec_feedback (f : Security → Security) (s : State) : (modSec f s).feedback = s.feedback := rfl
@[simp] theorem modSec_course (f : Security → Security) (s : State) : (modSec f s).course = s.course := rfl
@[simp] theorem modSec_engine (f : Security → Security) (s : State) : (modSec f s).engine = s.engine := rfl
@[simp] theorem modSec_drive (f : Security → Security) (s : State) : (modSec f s).drive = s.drive := rfl
@[simp] theorem modSec_relay (f : Security → Security) (s : State) : (modSec f s).relay = s.relay := rfl
@[simp] theorem modSec_lease (f : Security → Security) (s : State) : (modSec f s).lease = s.lease := rfl
@[simp] theorem modSec_pwm (f : Security → Security) (s : State) : (modSec f s).pwm = s.pwm := rfl
@[simp] theorem modSec_loops (f : Security → Security) (s : State) : (modSec f s).loops = s.loops := rfl
@[simp] theorem modSec_eth (f : Security → Security) (s : State) : (modSec f s).eth = s.eth := rfl
@[simp] theorem modSec_bus (f : Security → Security) (s : State) : (modSec f s).bus = s.bus := rfl

@[simp] theorem setCore_pending (k : Nat) (c : CoreState) (s : State) : (setCore k c s).pending = s.pending := rfl
@[simp] theorem setCore_now (k : Nat) (c : CoreState) (s : State) : (setCore k c s).now = s.now := rfl
@[simp] theorem setCore_freeDraws (k : Nat) (c : CoreState) (s : State) : (setCore k c s).freeDraws = s.freeDraws := rfl
@[simp] theorem setCore_out (k : Nat) (c : CoreState) (s : State) : (setCore k c s).out = s.out := rfl
@[simp] theorem setCore_readData (k : Nat) (c : CoreState) (s : State) : (setCore k c s).readData = s.readData := rfl
@[simp] theorem setCore_hostMem (k : Nat) (c : CoreState) (s : State) : (setCore k c s).hostMem = s.hostMem := rfl
@[simp] theorem setCore_messageStore (k : Nat) (c : CoreState) (s : State) : (setCore k c s).messageStore = s.messageStore := rfl
@[simp] theorem setCore_appSram (k : Nat) (c : CoreState) (s : State) : (setCore k c s).appSram = s.appSram := rfl
@[simp] theorem setCore_regs (k : Nat) (c : CoreState) (s : State) : (setCore k c s).regs = s.regs := rfl
@[simp] theorem setCore_tallies (k : Nat) (c : CoreState) (s : State) : (setCore k c s).tallies = s.tallies := rfl
@[simp] theorem setCore_tallySnap (k : Nat) (c : CoreState) (s : State) : (setCore k c s).tallySnap = s.tallySnap := rfl
@[simp] theorem setCore_tallySnapTime (k : Nat) (c : CoreState) (s : State) : (setCore k c s).tallySnapTime = s.tallySnapTime := rfl
@[simp] theorem setCore_hiLatch (k : Nat) (c : CoreState) (s : State) : (setCore k c s).hiLatch = s.hiLatch := rfl
@[simp] theorem setCore_cister (k : Nat) (c : CoreState) (s : State) : (setCore k c s).cister = s.cister := rfl
@[simp] theorem setCore_ledger (k : Nat) (c : CoreState) (s : State) : (setCore k c s).ledger = s.ledger := rfl
@[simp] theorem setCore_aon (k : Nat) (c : CoreState) (s : State) : (setCore k c s).aon = s.aon := rfl
@[simp] theorem setCore_trace (k : Nat) (c : CoreState) (s : State) : (setCore k c s).trace = s.trace := rfl
@[simp] theorem setCore_startup (k : Nat) (c : CoreState) (s : State) : (setCore k c s).startup = s.startup := rfl
@[simp] theorem setCore_clocks (k : Nat) (c : CoreState) (s : State) : (setCore k c s).clocks = s.clocks := rfl
@[simp] theorem setCore_eventLines (k : Nat) (c : CoreState) (s : State) : (setCore k c s).eventLines = s.eventLines := rfl
@[simp] theorem setCore_security (k : Nat) (c : CoreState) (s : State) : (setCore k c s).security = s.security := rfl
@[simp] theorem setCore_feedback (k : Nat) (c : CoreState) (s : State) : (setCore k c s).feedback = s.feedback := rfl
@[simp] theorem setCore_course (k : Nat) (c : CoreState) (s : State) : (setCore k c s).course = s.course := rfl
@[simp] theorem setCore_engine (k : Nat) (c : CoreState) (s : State) : (setCore k c s).engine = s.engine := rfl
@[simp] theorem setCore_drive (k : Nat) (c : CoreState) (s : State) : (setCore k c s).drive = s.drive := rfl
@[simp] theorem setCore_relay (k : Nat) (c : CoreState) (s : State) : (setCore k c s).relay = s.relay := rfl
@[simp] theorem setCore_lease (k : Nat) (c : CoreState) (s : State) : (setCore k c s).lease = s.lease := rfl
@[simp] theorem setCore_pwm (k : Nat) (c : CoreState) (s : State) : (setCore k c s).pwm = s.pwm := rfl
@[simp] theorem setCore_loops (k : Nat) (c : CoreState) (s : State) : (setCore k c s).loops = s.loops := rfl
@[simp] theorem setCore_eth (k : Nat) (c : CoreState) (s : State) : (setCore k c s).eth = s.eth := rfl
@[simp] theorem setCore_bus (k : Nat) (c : CoreState) (s : State) : (setCore k c s).bus = s.bus := rfl

end Sys2Proof.Machine
end

