-- ==== Sys2Proof/Laws/Ops.lean ====
section
/-! SUPPORT. What the shared operations can do: the parts of the state that each of them keeps. -/
namespace Sys2Proof.Machine

theorem KeptBut.refl (l : List Piece) (s : State) : KeptBut l s s := by intro p _; cases p <;> rfl

theorem KeptBut.trans {l : List Piece} {s u v : State} (h : KeptBut l s u) (k : KeptBut l u v) : KeptBut l s v := by
  intro p hp
  have a := h p hp
  have b := k p hp
  cases p <;> exact b.trans a

theorem KeptBut.mono {l m : List Piece} {s u : State} (h : KeptBut l s u) (hm : ∀ p, p ∈ l → p ∈ m) : KeptBut m s u :=
  fun p hp => h p (fun x => hp (hm p x))

theorem KeptBut.foldl {α : Type} {l : List Piece} {f : State → α → State} (h : ∀ s a, KeptBut l s (f s a)) (xs : List α) (s : State) :
    KeptBut l s (xs.foldl f s) := by
  induction xs generalizing s with
  | nil => exact KeptBut.refl l s
  | cons x rest ih => exact (h s x).trans (ih _)

theorem begin'_kept (t : Time) (s : State) : KeptBut begun s (begin' t s) := by
  intro p hp
  cases p <;> simp_all [begun, Piece.same]

/-- Device time after the start of a command: it never runs back. -/
@[simp] theorem begin'_now (t : Time) (s : State) : (begin' t s).now = if s.now < t then t else s.now := rfl

theorem dmaWrite_kept (c : Bool) (a : Nat) (bs : List Byte) (s : State) : KeptBut [.hostMem, .messageStore, .cister] s (dmaWrite c a bs s) := by
  unfold dmaWrite
  split
  · intro p hp; cases p <;> simp_all [Piece.same]
  · split <;> intro p hp <;> cases p <;> simp_all [Piece.same]

theorem bump_kept (k : Nat) (s : State) : KeptBut [.tallies] s (bump k s) := by
  intro p hp; cases p <;> simp_all [Piece.same, bump]

theorem bumpBy_kept (k n : Nat) (s : State) : KeptBut [.tallies] s (bumpBy k n s) := by
  intro p hp; cases p <;> simp_all [Piece.same]

theorem eventLinesSet_kept (l : Tab EventLine) (s : State) : KeptBut [.eventLines] s { s with eventLines := l } := by
  intro p hp; cases p <;> simp_all [Piece.same]

theorem setRing_kept (n : Nat) (r : Ring) (s : State) : KeptBut [.cister] s (setRing n r s) := by
  intro p hp; cases p <;> simp_all [Piece.same]

theorem modRing_kept (n : Nat) (f : Ring → Ring) (s : State) : KeptBut [.cister] s (modRing n f s) := setRing_kept n _ s

theorem setNotif_kept (k : Nat) (x : Notif) (s : State) : KeptBut [.cister] s (setNotif k x s) := by
  intro p hp; cases p <;> simp_all [Piece.same]

theorem setModeration_kept (k : Nat) (x : Moderation) (s : State) : KeptBut [.cister] s (setModeration k x s) := by
  intro p hp; cases p <;> simp_all [Piece.same]

theorem emit_kept (o : Out) (s : State) : KeptBut [.out] s (emit o s) := by
  intro p hp; cases p <;> simp_all [Piece.same]

theorem cisterSet_kept (c : Cister) (s : State) : KeptBut [.cister] s { s with cister := c } := by
  intro p hp; cases p <;> simp_all [Piece.same]

theorem sub_delivering {l : List Piece} (h : l.all (fun p => delivering.contains p) = true) : ∀ p, p ∈ l → p ∈ delivering := by
  intro p hp
  have := List.all_eq_true.mp h p hp
  simpa using this

theorem mirrorWrite_kept (n : Nat) (s : State) : KeptBut delivering s (mirrorWrite n s) := by
  unfold mirrorWrite
  extract_lets
  split
  · exact (dmaWrite_kept _ _ _ _).mono (sub_delivering rfl)
  · exact KeptBut.refl _ _

theorem mirrorFlush_kept (s : State) : KeptBut delivering s (mirrorFlush s) := by
  unfold mirrorFlush
  split
  · exact (KeptBut.foldl (fun s n => mirrorWrite_kept n s) _ _).trans ((cisterSet_kept _ _).mono (sub_delivering rfl))
  · exact KeptBut.refl _ _

theorem mirrorMark_kept (n : Nat) (s : State) : KeptBut delivering s (mirrorMark n s) := by
  unfold mirrorMark
  split
  · exact KeptBut.refl _ _
  · exact (cisterSet_kept _ _).mono (sub_delivering rfl)

theorem eventPulses_kept (k n m : Nat) (s : State) : KeptBut delivering s (eventPulses k n m s) := by
  unfold eventPulses
  split
  · exact KeptBut.refl _ _
  · dsimp only
    split
    · exact (eventLinesSet_kept _ _).mono (sub_delivering rfl)
    · exact ((eventLinesSet_kept _ _).mono (sub_delivering rfl)).trans ((bumpBy_kept _ _ _).mono (sub_delivering rfl))

theorem sendVector_kept (n : Nat) (s : State) : KeptBut delivering s (sendVector n s) := by
  unfold sendVector
  extract_lets
  split
  · exact (mirrorFlush_kept s).trans ((eventPulses_kept _ _ _ _).trans ((emit_kept _ _).mono (sub_delivering rfl)))
  · exact (mirrorFlush_kept s).trans (eventPulses_kept _ _ _ _)

theorem sendLine_kept (n : Nat) (s : State) : KeptBut delivering s (sendLine n s) := by
  unfold sendLine
  split
  · exact (emit_kept _ _).mono (sub_delivering rfl)
  · split
    · split
      · exact KeptBut.refl _ _
      · exact (cisterSet_kept _ _).mono (sub_delivering rfl)
    · exact sendVector_kept _ _

theorem signalLine_kept (n : Nat) (b : Bool) (s : State) : KeptBut delivering s (signalLine n b s) := by
  unfold signalLine
  extract_lets
  split
  · exact (sendLine_kept n s).trans ((setModeration_kept _ _ _).mono (sub_delivering rfl))
  · exact (setModeration_kept _ _ _).mono (sub_delivering rfl)

theorem signalRing_kept (n : Nat) (b : Bool) (s : State) : KeptBut delivering s (signalRing n b s) := by
  unfold signalRing
  dsimp only
  split
  · split
    · split
      · exact signalLine_kept _ _ _
      · exact KeptBut.refl _ _
    · exact signalLine_kept _ _ _
  · exact KeptBut.refl _ _

theorem putEntry_kept (n h : Nat) (r : List Byte) (b : Bool) (s : State) : KeptBut delivering s (putEntry n h r b s) :=
  ((dmaWrite_kept _ _ _ _).mono (sub_delivering rfl)).trans
    (((modRing_kept _ _ _).mono (sub_delivering rfl)).trans ((mirrorMark_kept _ _).trans (signalRing_kept _ _ _)))

theorem putPadded_kept (n k d : Nat) (r : List Byte) (z : Nat) (s : State) : KeptBut delivering s (putPadded n k d r z s) := by
  unfold putPadded
  dsimp only
  split
  · exact ((bump_kept _ _).mono (sub_delivering rfl)).trans (putEntry_kept _ _ _ _ _)
  · exact putEntry_kept _ _ _ _ _

theorem putRecord_kept (n k d : Nat) (r : List Byte) (s : State) : KeptBut delivering s (putRecord n k d r s) :=
  putPadded_kept _ _ _ _ _ _

theorem notifFlush_kept (fuel : Nat) (s : State) : KeptBut delivering s (notifFlush fuel s) := by
  induction fuel generalizing s with
  | zero => exact KeptBut.refl _ _
  | succ fuel ih =>
    unfold notifFlush
    split
    · exact KeptBut.refl _ _
    · split
      · dsimp only
        split
        · exact ((cisterSet_kept _ _).mono (sub_delivering rfl)).trans (ih _)
        · exact ((cisterSet_kept _ _).mono (sub_delivering rfl)).trans
            ((putRecord_kept _ _ _ _ _).trans (((setNotif_kept _ _ _).mono (sub_delivering rfl)).trans (ih _)))
      · exact KeptBut.refl _ _

theorem notifyAt_kept (k a b : Nat) (t : Time) (s : State) : KeptBut delivering s (notifyAt k a b t s) := by
  unfold notifyAt
  dsimp only
  split
  · exact (bump_kept _ _).mono (sub_delivering rfl)
  · split
    · exact ((bump_kept _ _).mono (sub_delivering rfl)).trans ((setNotif_kept _ _ _).mono (sub_delivering rfl))
    · exact ((bump_kept _ _).mono (sub_delivering rfl)).trans ((setNotif_kept _ _ _).mono (sub_delivering rfl))
    · exact ((setNotif_kept _ _ _).mono (sub_delivering rfl)).trans
        (((cisterSet_kept _ _).mono (sub_delivering rfl)).trans (notifFlush_kept _ _))

/-- Raising a notification moves rings, tallies, outputs and the memories that hold rings, and nothing else (R53, R54). -/
theorem notify_kept (k a b : Nat) (s : State) : KeptBut delivering s (notify k a b s) := notifyAt_kept _ _ _ _ _

end Sys2Proof.Machine
end

