-- ==== Sys2Proof/WellFormed.lean ====
section
/-! DEFINITION. Well-formed commands: operands within what an access, a frame or a time can be at all (R12, R37, R475). A meaning is total on ill-formed ones too. -/
namespace Sys2Proof

/-- A device time has 64 bits (R12). -/
def timeOk (t : Time) : Bool := decide (t < 2 ^ 64)
/-- An instant within a command has already been reached when the command reaches the device. -/
def pastOk (x t : Time) : Bool := decide (x ≤ t)
/-- A single access moves 1, 2, 4 or 8 bytes. -/
def sizeOk (n : Nat) : Bool := n = 1 || n = 2 || n = 4 || n = 8
/-- An offset within the 1 MiB of BAR0 (R37). -/
def bar0Ok (off : Nat) : Bool := decide (off < 0x100000)
/-- An offset within the 64 KiB of BAR2 (R37). -/
def bar2Ok (off : Nat) : Bool := decide (off < 0x10000)
/-- The data of a bus frame: at most 2,048 bytes and the acceptance field (R386). -/
def busDataOk (bs : List Byte) : Bool := decide (bs.length ≤ 2052)
/-- A service block has 64 bytes (R475). -/
def blockOk (bs : List Byte) : Bool := decide (bs.length = 64)
/-- Software's stores carry bytes, at 64-bit addresses. -/
def storesOk (l : List Store) : Bool := l.all (fun st => !st.bytes.isEmpty && decide (st.addr + st.bytes.length ≤ 2 ^ 64))

/-- The well-formedness check, one arm per command. -/
def Instr.wf : Instr → Bool
  | .doorbell t _ off size _ stores => timeOk t && bar2Ok off && sizeOk size && storesOk stores
  | .descriptorFetch t _ => timeOk t
  | .mirrorUpdate t _ => timeOk t
  | .ringEnable t _ _ _ => timeOk t
  | .ringDisable t _ _ _ => timeOk t
  | .ringFault t _ _ => timeOk t
  | .msixHoldoffExpiry t _ => timeOk t
  | .msixUnmask t _ _ => timeOk t
  | .busMasterRestore t => timeOk t
  | .functionLevelReset t => timeOk t
  | .hostWdogWrite t _ _ => timeOk t
  | .hostWdogExpiry t => timeOk t
  | .sweepClose t imu => timeOk t && imu.all (fun x => timeOk x.1)
  | .coastExpiry t => timeOk t
  | .hostSourceTimeout t => timeOk t
  | .hostValueStale t _ => timeOk t
  | .courseTimeLoRead t _ size => timeOk t && sizeOk size
  | .courseMcLoRead t _ size => timeOk t && sizeOk size
  | .latchedPairLoRead t _ off size => timeOk t && bar0Ok off && sizeOk size
  | .courseLatchData7Read t => timeOk t
  | .ppsEdge t => timeOk t
  | .fix t => timeOk t
  | .setPose t => timeOk t
  | .hostMotion t => timeOk t
  | .quadratureEdge t _ _ _ => timeOk t
  | .pulseEdge t _ _ => timeOk t
  | .pulseZeroTimeout t _ => timeOk t
  | .hallStep t _ _ _ => timeOk t
  | .hallInvalid t _ => timeOk t
  | .indexEdge t _ => timeOk t
  | .sincosSample t _ _ _ => timeOk t
  | .observerUpdate t _ => timeOk t
  | .calibrationUpdate t _ => timeOk t
  | .wireFault t _ _ => timeOk t
  | .fbFaultRecovery t _ => timeOk t
  | .fbTrackEntry t _ => timeOk t
  | .fbEnable t _ _ _ => timeOk t
  | .fbDisable t _ _ _ => timeOk t
  | .ainConversion t _ _ => timeOk t
  | .latchEdge t _ at' _ => timeOk t && pastOk at' t
  | .emuUpdate t _ => timeOk t
  | .emuEdge t _ => timeOk t
  | .emuRatioWrite t _ _ _ size _ => timeOk t && sizeOk size
  | .laneConfig t _ => timeOk t
  | .caravanConfig t _ => timeOk t
  | .attach t _ => timeOk t
  | .release t _ => timeOk t
  | .inhibit t _ => timeOk t
  | .setRate t _ => timeOk t
  | .setDelay t _ => timeOk t
  | .clearFault t _ => timeOk t
  | .query t _ => timeOk t
  | .mark t _ => timeOk t
  | .cancel t _ => timeOk t
  | .forwardTimeout t _ _ => timeOk t
  | .proxySilent t _ => timeOk t
  | .parentSilent t => timeOk t
  | .dispatchOnToll t => timeOk t
  | .supply t => timeOk t
  | .refuse t => timeOk t
  | .flush t => timeOk t
  | .evict t => timeOk t
  | .buffer t => timeOk t
  | .tileLoadComplete t _ => timeOk t
  | .tileWritebackComplete t _ => timeOk t
  | .ethRxFrame t _ at' _ _ => timeOk t && pastOk at' t
  | .targetPlace t => timeOk t
  | .ethSend t _ => timeOk t
  | .timeMap t _ => timeOk t
  | .ethEnable t _ _ _ => timeOk t
  | .mdioStart t _ _ => timeOk t
  | .mdioDone t _ => timeOk t
  | .event t => timeOk t
  | .retime t => timeOk t
  | .withdraw t => timeOk t
  | .write t => timeOk t
  | .time t _ => timeOk t
  | .grant t => timeOk t
  | .revoke t => timeOk t
  | .clear t => timeOk t
  | .onEventExecute t _ => timeOk t
  | .offEventExecute t _ => timeOk t
  | .rateEventExecute t _ => timeOk t
  | .phaseEnd t _ _ => timeOk t
  | .quenchEnd t _ _ => timeOk t
  | .pulseStart t _ => timeOk t
  | .pulseEnd t _ => timeOk t
  | .shotRefused t _ => timeOk t
  | .backstopExpiry t _ => timeOk t
  | .openingReport t _ _ => timeOk t
  | .closingReport t _ _ => timeOk t
  | .report t => timeOk t
  | .status t _ _ _ _ _ => timeOk t
  | .fault t => timeOk t
  | .lease t => timeOk t
  | .offsetCalGap t _ start _ => timeOk t && pastOk start t
  | .calStarvation t _ => timeOk t
  | .boostOvervoltage t _ => timeOk t
  | .boostUndervoltage t _ => timeOk t
  | .drvChannelDisable t _ _ => timeOk t
  | .profileValidate t _ _ _ => timeOk t
  | .relayRetransmit t _ => timeOk t
  | .relayLinkDown t _ => timeOk t
  | .relayTrained t _ => timeOk t
  | .farResetSeen t _ => timeOk t
  | .timeSend t => timeOk t
  | .leaseTimeout t => timeOk t
  | .leaseRepeat t => timeOk t
  | .leaseRegrant t => timeOk t
  | .leaseReq t _ _ => timeOk t
  | .thermalWindow t _ start _ _ => timeOk t && pastOk start t
  | .drvThRrefWrite t _ _ _ => timeOk t
  | .thermalUpdate t _ _ => timeOk t
  | .offStateOpenLoad t _ => timeOk t
  | .onStateOpenLoad t _ _ => timeOk t
  | .shortToBattery t _ _ => timeOk t
  | .tripComparator t _ _ => timeOk t
  | .highSideDesaturation t _ _ _ => timeOk t
  | .drvFaultClear t _ _ _ => timeOk t
  | .drvHsStatClear t _ _ _ => timeOk t
  | .pwmReload t _ => timeOk t
  | .pwmEnable t _ _ _ => timeOk t
  | .pwmDisable t _ _ _ => timeOk t
  | .pwmCmpPerWrite t _ _ _ => timeOk t
  | .pwmShadowWrite t _ _ _ _ => timeOk t
  | .pwmLaneOn t _ => timeOk t
  | .pwmLaneOff t _ => timeOk t
  | .pwmRateWrite t _ => timeOk t
  | .pwmSync t _ => timeOk t
  | .pwmModSyncGo t _ _ _ => timeOk t
  | .pwmTrip t _ _ _ => timeOk t
  | .pwmClockFault t _ => timeOk t
  | .pwmStatClear t _ _ _ => timeOk t
  | .config t => timeOk t
  | .program t => timeOk t
  | .enable t => timeOk t
  | .disable t => timeOk t
  | .resetState t => timeOk t
  | .post t => timeOk t
  | .read t => timeOk t
  | .loopSample t _ => timeOk t
  | .idleTimeout t _ => timeOk t
  | .loopBist t => timeOk t
  | .loopBistReq t _ _ => timeOk t
  | .bistResult t _ => timeOk t
  | .canPortEnable t _ _ _ => timeOk t
  | .canPortDisable t _ _ _ => timeOk t
  | .canSend t _ => timeOk t
  | .canAttemptStart t _ => timeOk t
  | .canAttemptSuccess t _ _ _ => timeOk t
  | .canAttemptError t _ _ _ _ _ => timeOk t
  | .canFrameReceived t _ _ _ data sof _ => timeOk t && busDataOk data && pastOk sof t
  | .recover t _ _ _ => timeOk t
  | .recoveryComplete t _ => timeOk t
  | .wakeUp t _ => timeOk t
  | .referenceMessage t _ _ data sof => timeOk t && busDataOk data && pastOk sof t
  | .referenceAttempt t _ sof _ => timeOk t && pastOk sof t
  | .referenceMiss t _ => timeOk t
  | .listenTimeout t _ sof _ => timeOk t && pastOk sof t
  | .ttWindowStart t _ _ _ => timeOk t
  | .slotFrameForm t _ _ => timeOk t
  | .nodeStatus t _ _ data => timeOk t && busDataOk data
  | .nodeSilent t _ _ => timeOk t
  | .admitFrame t _ _ frame => timeOk t && busDataOk frame
  | .joined t _ _ frame => timeOk t && busDataOk frame
  | .share t _ _ frame => timeOk t && busDataOk frame
  | .convoyReport t _ _ frame => timeOk t && busDataOk frame
  | .waybill t _ _ _ frame => timeOk t && busDataOk frame
  | .done t _ _ frame => timeOk t && busDataOk frame
  | .record t _ _ frame => timeOk t && busDataOk frame
  | .coldReset x => timeOk x.t
  | .warmReset t => timeOk t
  | .clockFaultReset t _ => timeOk t
  | .referenceClockFault x => timeOk x.t
  | .pllLockLost t => timeOk t
  | .pllLock t _ _ => timeOk t
  | .domainClockFault t _ => timeOk t
  | .ethLockLost t => timeOk t
  | .pipeLockLost t => timeOk t
  | .rtcClockFault x => timeOk x.t
  | .driveOscillatorFault x => timeOk x.t
  | .domainReset t _ => timeOk t
  | .domainResetRelease t _ healthy => timeOk t && pastOk healthy t
  | .perst t _ => timeOk t
  | .driveDieReset x => timeOk x.t
  | .driveDieResetRelease x => timeOk x.t
  | .alwaysOnReset x => timeOk x.t
  | .crossingFarReset t _ => timeOk t
  | .crossingRestart t _ => timeOk t
  | .coreWdogKick t _ => timeOk t
  | .coreWatchdogExpiry t _ => timeOk t
  | .regionFault t _ _ _ => timeOk t
  | .handlerException t _ => timeOk t
  | .coreRestart t _ => timeOk t
  | .hash t _ block => timeOk t && blockOk block
  | .seal t _ block => timeOk t && blockOk block
  | .unseal t _ block => timeOk t && blockOk block
  | .verify t _ block => timeOk t && blockOk block
  | .serviceAttest t _ block => timeOk t && blockOk block
  | .stage t _ _ => timeOk t
  | .activate t _ => timeOk t
  | .confirm t _ => timeOk t
  | .attest t _ => timeOk t
  | .provision t _ => timeOk t
  | .ledgerClear t _ => timeOk t
  | .voltageGlitch x => timeOk x.t
  | .clockGlitch x => timeOk x.t
  | .temperatureViolation x => timeOk x.t
  | .meshViolation t => timeOk t
  | .signatureViolation t => timeOk t
  | .regionFaultViolation t => timeOk t
  | .lockstepMismatch t => timeOk t
  | .monitorWatchdogExpiry t => timeOk t
  | .recoveryImageLoad t _ _ => timeOk t
  | .resetRelease t _ _ => timeOk t
  | .monitorStart t _ _ _ => timeOk t
  | .charterApply t => timeOk t
  | .firmwareStart t => timeOk t
  | .endpointReady t => timeOk t
  | .relayTimeout t => timeOk t
  | .startupGrant t => timeOk t
  | .ledgerEntry t _ => timeOk t
  | .ledgerFlashWrite t _ => timeOk t
  | .sig t => timeOk t
  | .rtcSet t _ _ => timeOk t
  | .ledgerCursorWrite t _ _ size _ => timeOk t && sizeOk size
  | .ledgerWindow7Read t => timeOk t
  | .ledgerRtcRead t => timeOk t
  | .ledgerExportEntry t => timeOk t
  | .operatingTimeTick t => timeOk t
  | .traceSync t => timeOk t
  | .overflow t => timeOk t
  | .tallySnap t _ _ => timeOk t
  | .registerWrite t _ off size _ => timeOk t && bar0Ok off && sizeOk size
  | .busMasterDisable t _ => timeOk t
  | .idle t _ => timeOk t
  | .relayFrameDiscard t _ _ => timeOk t
  | .canIntegrationComplete t _ => timeOk t
  | .canReceiveError t _ _ _ _ x => timeOk t && pastOk x.sof t
  | .boostVoltageRecovery t _ => timeOk t
  | .executionInstant t _ => timeOk t
  | .monitorRequestCompletion t _ => timeOk t
  | .serviceDone t _ => timeOk t
  | .ethTransmitComplete t _ at' => timeOk t && pastOk at' t

end Sys2Proof
end

