-- ==== Sys2Proof/Tests/Slice0.lean ====
section
/-! SUPPORT. Tests of single commands, the well-formedness smoke test, and witnesses: small states and operands that meet the hypotheses of the statements. -/

open Sys2Proof Sys2Proof.Machine

namespace Sys2Proof.Tests

/-! Small states that the witnesses and tests below start from. -/

/-- The n-th state of a list. -/
def nth (l : List State) (n : Nat) : State := l.getD n State.reset
/-- The descriptor at the head of ring n. -/
def headDesc (n : Nat) (s : State) : Desc := (ring s n).fetched.headD { index := 0, bytes := [] }
def base : State := { State.reset with startup := { State.reset.startup with phase := 7, released := true }, clocks := { State.reset.clocks with ethReset := false, pipeLock := true, sysLock := true, ethLock := true, fbReset := false, busReset := false }, cister := { State.reset.cister with endpointReady := true, perstHigh := true } }
def fbS (mode st : Nat) (f : FbCh → FbCh) : State :=
  let s := wr R.FB_CFG 0 (BitVec.ofNat 32 (mode * 2^28 + 2^31 + 2^23)) base
  setFb 0 (f { fb s 0 with st := st }) s
def quadratureCountsGrayStepsCases : List State := [fbS 1 3 id, fbS 1 3 (fun c => { c with lastEdge := some 0, fastEdges := 15 }), wr R.FB_LINES 0 7 (wr R.FB_CFG 0 0x82000000 (fbS 0 1 (fun c => { c with indexPos := some 5 }))), wr R.FB_OBS 0 1 (fbS 0 1 (fun c => { c with pos := 50 })), fbS 2 2 (fun c => { c with angle := some 4000, ampBad := 3 }), fbS 2 2 (fun c => { c with angle := some 1, ampBad := 4 }), fbS 0 1 id, wr R.FB_CFG 0 0x81000000 (fbS 0 2 (fun c => { c with a := true })), fbS 1 1 (fun c => { c with lastEdge := some 0, fastEdges := 15 }), fbS 1 2 (fun c => { c with lastEdge := some 0 }),
  fbS 3 1 (fun c => { c with hall := 1, hallBadAt := some 0, lastEdge := some 5 }), fbS 2 2 (fun c => { c with angle := some 3 }), fbS 2 2 (fun c => { c with angle := some 4000, calStats := some {}, calPeriods := 50000 }) ]
def withDesc (n : Nat) (op : Nat) (bs : List Byte) (s : State) : State :=
  let x : Desc := { index := 0, bytes := leBytes 2 op ++ [0,0,0,0,0,0] ++ bs }
  let r := ring s n
  setRing n { r with cfg := setFlag r.cfg 31 true, f := 1, s := 1, fetched := [x] } s
def descOf (n : Nat) (s : State) : List Desc := (ring s n).fetched
def feedbackChannelsChangeStateCases : List State := [fbS 0 1 id, wr R.FB_CFG 0 0x01000000 (fbS 0 2 (fun c => { c with a := true })), fbS 1 3 id, fbS 3 3 id,fbS 3 0 id, base]
def lat (t : Option Time) : State := let s := wr R.LATCH_CFG 0 0xE0000003 (wr R.AIN_CFG 0 0x80000000 (wr R.AIN_CFG 1 0xA0000000 base))
  { s with feedback := { s.feedback with latchEdge := tabSet none s.feedback.latchEdge 0 t } }
def analogueResultsAndLatchesCases : List State := [base, lat none, wr R.AIN_LIMIT 0 0x08000700 (wr R.AIN_CFG 0 0x80100000 (lat none)), wr R.AIN_LIMIT 0 0x08000700 (wr R.AIN_CFG 0 0x80200000 (lat none)), wr R.AIN_LIMIT 0 0x00010000 (wr R.AIN_CFG 0 0x80200000 (lat none)), wr R.AIN_CFG 0 0x81F00000 (lat none), setAin 0 { samples := [1,2], out := true, outRun := 3, inRun := 5 } (wr R.AIN_CFG 0 0x80300000 (lat none)), { lat none with course := { base.course with captures := [{ latch := 0, time := 3, position := 4 }] }},  lat (some 5), lat (some 100)]
def em (f : EmuCh → EmuCh) (cfg : W32): State := let s := wr R.EMU_CFG 0 cfg base
  setEmu 0 (f (emu s 0)) s
def emulationOwesAndEmitsEdgesCases : List State := [em id 0x80000000, em (fun c => { c with emitted := 3, total := 9 }) 0x90000000, em (fun c => { c with emitted := 3, total := 9 }) 0xA0000000, em (fun c => { c with source := some 5, den := 4, num := 8 }) 0x80000000, em (fun c => { c with num := 3, den := 2, total := 100, source := some (-500000) }) 0xA0000000, em (fun c => { c with num := 3, den := 2, total := -100, lastEdge := 7,source := some (-500000) }) 0x80008000]
def cs (f : Course → Course) : State := { base with course := f base.course }
def sweepCloseClosesTheSweepCases : List State := [cs (fun c => { c with coasting := true, set := { c.set with src := 0 }}), base, cs (fun c => { c with closed := true, set := { c.set with sweep := 1000 }}), cs (fun c => { c with coasting := true, set := { c.set with hitchCfg := 0xC0002AAB, src := 0x10000 }, hostSpeed := { c.hostSpeed with at' := some 0 }, hostYaw := { c.hostYaw with at' := some 0 }, hostHitch := { c.hostHitch with at' := some 0 }, ppsSeen := true })]
def hist : State := cs (fun c => { c with closed := true, history := [{ time := 100, course := 0, pose := {}, speed := 0, yaw := 0 }] })
def b8 (n : Nat) : List Byte := leBytes 8 n
def b4 (n : Nat) : List Byte := leBytes 4 n
def motion (v : Nat) : List Byte := b8 100 ++ b4 4000 ++ b4 3 ++ b4 7 ++ b4 100 ++ b4 200 ++ b4 300 ++ [BitVec.ofNat 8 v]++ List.replicate 24 0
def poseDescriptorsApplyStates : List State := [{ hist with course := { hist.course with fixDue := [{ index := 0, bytes := leBytes 2 1 ++ List.replicate 62 0 }] } }, { withDesc 87 1 (motion 1) hist with course := { hist.course with fixDue := (withDesc 87 1 (motion 1) hist |> descOf 87) } }, { withDesc 87 2 (motion 1) hist with course := { hist.course with fixDue := (withDesc 87 1 (motion 1) hist |> descOf 87) } }] ++ (List.range 64).flatMap (fun v => [withDesc 87 3 (motion v) hist, withDesc 87 1 (motion v) hist, withDesc 87 2 (motion v) hist]) ++ [withDesc 87 1 (motion 1) base, withDesc 87 2 (motion 1) base, withDesc 87 2 (b8 5000000 ++ motion 1) hist, withDesc 87 1 (b8 5000000 ++ motion 1) hist]
def pairReadsLatchTheHighWordCases : List State := [{ base with startup := { base.startup with phase := 8 } }, { base with startup := { base.startup with phase := 2 } }, base, { base with course := { base.course with latchFifo := [(0,[{},{}])] }}]
def rg (n : Nat) (f : Ring → Ring) (s : State) := setRing n (f (ring s n)) s
def run (n : Nat) (s : State) := rg n (fun r => { r with cfg := setFlag r.cfg 31 true }) s
def bm (s : State) : State := { s with cister := { s.cister with busMaster := true, functionMask := false } }
def st8 : State := { base with startup := { base.startup with phase := 8 } }
def st2 : State := { base with startup := { base.startup with phase := 2 } }
def onch (n : Nat) (s : State) := rg n (fun r => { r with cfg := setFlag r.cfg 30 true }) s
def doorbellsMoveTheIndexOrAreIgnoredStates : List State := [run 8 (bm base), { bm base with cister := { (bm base).cister with mirrorDue := [0] } }, { bm base with cister := { (bm base).cister with msixPending := [0,1,5], msixTable := [(3, 0), (7, 0)] } }, setModeration 64 { pending := 3 } (bm base), setModeration 1 { pending := 3 } { bm base with cister := { (bm base).cister with msixTable := [(3, 0), (7, 0)] } }, onch 85 (onch 20 (onch 0 base)), onch 0 (run 0 (wr R.CISTER_MIRROR_BASE_LO 0 1 (bm base))), { bm (rg 0 (fun r => { r with s := 2 }) (run 0 base)) with hostMem := memWrite [] 0 (leBytes 2 0x14) }, rg 32 (fun r => { r with d := 3 }) (run 32 base), rg 0 (fun r => { r with fetched := [{ index := 0, bytes := List.replicate 64 0, phase := .running }], s := 3, f := 1 }) base, st8, st2, { st2 with cister := { st2.cister with hostWdog := some 0 } }, withDesc 0 1 [] base, withDesc 85 1 [] base, rg 20 (fun r => { r with fetched := [{ index := 0, bytes := List.replicate 64 0, phase := .running }], s := 3, f := 1 }) (run 20 base), rg 16 (fun r => { r with fetched := [{ index := 0, bytes := List.replicate 64 0, phase := .running },{ index := 1, bytes := List.replicate 64 0 }], s := 3, f := 2 }) (run 16 base), rg 86 (fun r => { r with fetched := [{ index := 0, bytes := List.replicate 64 0 }], s := 3, f := 1 }) (run 86 base), run 0 base, base, run 20 base, bm (rg 0 (fun r => { r with s := 2 }) (run 0 base)), run 90 (bm base), bm (run 20 (wr R.CISTER_HOST_WDOG 0 0x80000001 base)) |> fun (s : State) => wr R.CISTER_MIRROR_BASE_LO 0 0x1 { s with cister := { s.cister with hostWdog := some 0, msixPending := [1], mirrorDue := [0] }},
  run 90 (setModeration 0 { pending := 1 } (setLStream 1 { queue := List.replicate 64 (mkRecord base 1 0x0140 0), dropping := true } base))]
def run' (n : Nat) (d s0 f : Nat) (s : State) : State := setRing n { ring s n with cfg := setFlag (ring s n).cfg 31 true, baseLo := 4096 * (n+1), d := BitVec.ofNat 32 d, s := BitVec.ofNat 32 s0, f := BitVec.ofNat 32 f } s
def own (k : Nat) (s : State) : State := { s with security := { s.security with charter := List.replicate 880 (BitVec.ofNat 8 k), fwValid := true } }
def doorbellsMoveTheIndexOrAreIgnoredStates2 : List State := [base, State.reset, run' 0 3 5 5 base, run' 90 9 3 0 base, run' 5 9 3 0 base, run' 89 9 3 0 (run' 0 0 2 1 base), own 1 (run' 0 3 5 5 base), own 15 base]
def tgt (kind k : Nat) : List Byte := b4 (kind * 2^30 + k)
def lcfg (k : Nat) (ty bind par : Nat) (res : Nat) : List Byte := tgt 0 k ++ leBytes 1 (ty + bind * 16) ++ [0] ++ leBytes 2 par ++ b4 res ++ b4 11 ++ b4 12 ++ b4 13 ++ leBytes 2 5 ++ leBytes 2 6 ++ b4 1000 ++ b4 2000 ++ b4 0x10000 ++ [1] ++ List.replicate 15 0
def wb (op : Nat) (bs : List Byte) (s : State) := withDesc 0 op (fitBytes 56 bs) s
def eng (f : LaneEngine → LaneEngine) (s : State) : State := { s with engine := f s.engine }
def lane5 (f : Lane → Lane) (s : State) : State := setLane 5 (f { configured := true, binding := .direct 3, rate := 7 }) s
def car (k : Nat) (f : Caravan → Caravan) (s : State) : State := setCaravan k (f { configured := true, ownEnable := true }) s
def ms : Milestone := { pos := 10, kind := 1, value := 0, seq := 1 }
def bmast (s : State) : State := { s with cister := { s.cister with busMaster := true, functionMask := false } }
def chart (s : State) : State := { s with security := { s.security with charter := List.replicate 144 1 ++ List.replicate 736 0 } }
def ports (s : State) : State := wr R.CAN_PORT_CFG 1 0x80000000 (wr R.CAN_IMW_CFG 1 0x80000000 (wr R.CAN_IMW_ID 1 0x05000000 s))
def prox (f : Caravan → Caravan) (s : State) : State := setCaravan 1 (f { configured := true, ownEnable := true, proxy := true, port := 1, node := 5, base := 10, span := 4 }) s
def turned (s : State) : State := { s with engine := { s.engine with ringTurn := (List.range 3000).map (fun i => (i, 7)) } }
def tgc (kind c k : Nat) : List Byte := b4 (kind * 2^30 + c * 2^16 + k)
def laneConfigMakesALaneStates : List State := [wb 0x10 (lcfg 5 1 2 0 50) base, wb 0x10 (lcfg 5 1 1 0 3) (chart base), wb 0x10 (lcfg 5 1 2 0 3) (chart base), wb 0x10 (lcfg 5 1 1 1 3) (car 1 (fun c => { c with proxy := true }) base), wb 0x10 (lcfg 5 1 0 1 3) (car 1 id base), turned (wb 0x10 (lcfg 5 1 0 1 3) (car 1 id base)), wb 0x10 (lcfg 5 1 1 0 3) base, wb 0x10 (lcfg 5 1 1 0 3) (lane5 (fun l => { l with queue := [ms,ms], on := true }) base), wb 0x10 (lcfg 5 1 1 9 3) base, wb 0x10 (lcfg 5 1 2 0 3) base, wb 0x10 (lcfg 5 1 3 0 0x30001) base, wb 0x10 (lcfg 5 1 1 0 3) (setLane 6 { configured := true, binding := .direct 3 } base)]
def ccfg (k par : Nat) (lo hi : Nat) (fl : Nat) : List Byte := tgt 1 k ++ leBytes 2 par ++ leBytes 2 0x1234 ++ leBytes 2 lo ++ leBytes 2 hi ++ leBytes 1 fl ++ [5]
def pcfg (k port node lo span : Nat) : List Byte := tgt 1 k ++ leBytes 2 0 ++ leBytes 2 0 ++ leBytes 2 10 ++ leBytes 2 20 ++ [4, 5] ++ leBytes 2 0 ++ [BitVec.ofNat 8 port, BitVec.ofNat 8 node] ++ leBytes 2 lo ++ leBytes 2 span ++ leBytes 2 9
def caravanConfigMakesACaravanStates : List State := [wb 0x11 (pcfg 1 1 5 10 4) (ports base), wb 0x11 (pcfg 1 1 5 10 4) (ports (prox id base)), wb 0x11 (pcfg 1 1 5 10 0) (ports base)] ++ [4, 0x14, 0].flatMap (fun fl => [wb 0x11 (ccfg 1 0 10 20 fl) base, wb 0x11 (ccfg 0 0 10 20 fl) base, wb 0x11 (ccfg 1 7 10 20 fl) base, wb 0x11 (ccfg 1 1 10 20 fl) base, wb 0x11 (ccfg 1 7 10 20 fl) (car 1 id (car 7 id base)), wb 0x11 (ccfg 2 1 10 12 fl) (ports (prox id base)), wb 0x11 (ccfg 1 0 10 12 fl) (ports (prox id base))]) ++ [wb 0x11 (ccfg 1 0 10 20 0x10) base, wb 0x11 (ccfg 0 0 10 20 0x10) base, wb 0x11 (ccfg 1 1 10 20 0x10) (car 1 id base), wb 0x11 (ccfg 1 0 30 20 0x10) base]
def att (kind k par : Nat) : List Byte := tgt kind k ++ leBytes 2 par
def attachMovesAMemberStates : List State := [wb 0x12 (att 1 1 7) (car 1 id base), wb 0x12 (att 1 5 1) (car 1 id base), wb 0x12 (att 1 5 1) (car 5 id (car 1 id base)), wb 0x12 (att 0 5 1) (car 1 id (lane5 id base)), wb 0x12 (att 1 1 2) (car 2 id (car 1 id base)), wb 0x12 (att 1 0 2) base, wb 0x12 (att 0 5 1) base, wb 0x12 (att 0 5 1) (lane5 id base), wb 0x12 (att 0 5 1) (car 1 (fun c => { c with proxy := true }) (lane5 id base))]
def releaseForgetsAMemberStates : List State := [wb 0x13 (tgt 1 1) base, wb 0x13 (tgt 1 5) base, wb 0x13 (tgt 0 5) (lane5 (fun l => { l with on := true }) base), wb 0x13 (tgt 0 5) (lane5 (fun l => { l with queue := [ms] }) base), wb 0x13 (tgt 0 5) base, wb 0x13 (tgt 1 1) (car 1 id base), wb 0x13 (tgt 1 1) (car 1 id (lane5 (fun l => { l with parent := 1 }) base)), wb 0x13 (tgt 1 0) base]
def laneWaybillsActOnTheirTargetStates : List State := [bmast (wb 0x18 (tgt 0 5 ++ b4 0 ++ b4 64) base), wb 0x14 (tgc 1 11 5 ++ [1]) (ports (prox id base)), wb 0x15 (tgc 0 11 5 ++ b4 1) (ports (prox id base)), wb 0x13 (tgc 0 11 5) (turned (ports (prox id base))), wb 0x14 (tgt 0 5 ++ [1]) (turned base), bmast (wb 0x18 (tgt 0 5 ++ b4 0 ++ b4 64) (lane5 id base)), bmast (wb 0x18 (tgt 1 5 ++ b4 0 ++ b4 64) (car 5 id base)), bmast (wb 0x18 (tgt 0 5 ++ b4 0 ++ b4 65) base), wb 0x16 (tgt 0 5 ++ [7,3,9,0] ++ b4 3 ++ b4 4) (lane5 id base), wb 0x17 (tgt 0 5) (lane5 (fun l => { l with binding := .direct 1, faults := 3 }) base)] ++ [base, lane5 (fun l => { l with faults := 3 }) base, lane5 (fun l => { l with faults := 4, binding := .unbound }) base, car 5 id base].flatMap (fun s => [wb 0x14 (tgt 0 5 ++ [1]) s, wb 0x14 (tgt 1 5 ++ [0]) s, wb 0x15 (tgt 0 5 ++ b4 77) s, wb 0x15 (tgt 1 5 ++ b4 7777777) s, wb 0x16 (tgt 0 5 ++ [0,3,9,0] ++ b4 3 ++ b4 4) s, wb 0x17 (tgt 0 5) s, wb 0x18 (tgt 0 5 ++ b4 0 ++ b4 64) s])
def ent (p k r v : Nat) : List Byte := leBytes 8 p ++ [BitVec.ofNat 8 k, BitVec.ofNat 8 r, 0,0] ++ b4 v
def marksArePlacedWhollyOrNotAtAllStates : List State := [wb 0x20 (tgt 0 5 ++ ent 200 4 0 0 ++ ent 100 5 0 0 ++ ent 0 0 0 0) (lane5 (fun l => { l with anchored := true }) base), wb 0x20 (tgt 0 5 ++ ent 100 4 0 0 ++ ent 200 5 0 0 ++ ent 0 0 0 0) (lane5 (fun l => { l with anchored := true }) base), wb 0x20 (tgt 0 5 ++ (leBytes 8 200 ++ [1,0,0,0,0,0,0,0] ++ leBytes 8 100 ++ [2,0,0,0,0,0,0,0] ++ List.replicate 16 0)) (lane5 (fun l => { l with anchored := true }) base), wb 0x20 (tgt 0 5 ++ (leBytes 8 200 ++ [1,0,0,0,0,0,0,0] ++ leBytes 8 100 ++ [2,0,0,0,0,0,0,0] ++ List.replicate 16 0)) base] ++ [lane5 id base, eng (fun e => { e with poolFree := 1 }) (lane5 id base), lane5 (fun l => { l with anchored := true, queue := [ms,{ ms with pos := 100 }] }) base, lane5 (fun l => { l with queue := [ms,{ ms with pos := 100 }] }) base].flatMap (fun s => [wb 0x20 (tgt 0 5 ++ ent 100 1 0 0 ++ ent 200 2 0 0 ++ ent 0 0 0 0) s, wb 0x20 (tgt 0 5 ++ ent 0 9 0 0 ++ ent 0 0 0 0) s, wb 0x21 (tgt 0 5 ++ leBytes 8 0 ++ leBytes 8 50 ++ b4 63) s, wb 0x21 (tgt 0 5 ++ leBytes 8 60 ++ leBytes 8 50 ++ b4 63) s])
def ev (k : Nat) : LaneEv := { id := 1, kind := k, tExec := 0, d := 9 }
def hp (b : Binding) (s : State) : State := eng (fun e => { e with heap := [{ lane := 5, binding := b, key := 0, body := .event (ev 1) }] }) (lane5 (fun l => { l with events := [ev 1] }) s)
def theDispatcherWaitsForATollAndHandsOnStates : List State := [{ hp (.direct 1) base with now := 50, engine := { (hp (.direct 1) base).engine with heap := [{ lane := 5, binding := .direct 1, key := 0, waited := true, body := .event (ev 1) }] } }, { hp (.direct 1) base with engine := { (hp (.direct 1) base).engine with heap := [{ lane := 5, binding := .direct 1, key := 0, kept := true, body := .event (ev 1) }] } }, base, hp (.direct 1) base, hp (.pwm 1) base, hp (.remote 1 5 0) base, hp (.direct 1) { base with drive := setDrvCh 1 { drvCh base 1 with pending := List.replicate 16 { id:=1,kind:=1,time:=0,d:=0 }} base |>.drive }]
def eventsExecuteAtTheirTimeStates : List State := [lane5 id base, lane5 (fun l => { l with binding := .pwm 1 }) base, lane5 (fun l => { l with binding := .remote 1 1 0 }) base] ++ [1,2,3].flatMap (fun k => [setSlotQueue 1 [{ lane := 5, node := 1, sub := 0, ev := ev k, sent := true }] (lane5 (fun l => { l with binding := .remote 1 1 0, events := [ev k] }) base)]) ++ [1,2,3].flatMap (fun k => [true, false].flatMap (fun on => [lane5 (fun l => { l with binding := .unbound, on := on, events := [ev k] }) base, setSlotQueue 1 [{ lane := 5, node := 1, sub := 0, ev := ev k, sent := true }] (lane5 (fun l => { l with binding := .remote 1 1 0, on := on }) base)]))
def conv (f : Convoy → Convoy) (s : State) : State := eng (fun e => { e with convoy := f e.convoy }) s
def portsE1 (s : State) : State := (fun s => setBus 1 { busPort s 1 with st := 2, tec := 0 } s) <| wr R.CAN_PORT_CFG 1 0x80000000 (wr R.CAN_IMW_CFG 1 0x80000000 (wr R.CAN_IMW_ID 1 0x05000000 s))
def P0 : Part := { proxy := 1, tag := 3, sentAt := 0, ring := 0, index := 9 }
def P1 : Part := { proxy := 1, tag := 3, sentAt := 0, ring := 0, index := 0 }
def F0 : Forwarded := { ring := 0, index := 0, opcode := 0x14 }
def stEE1 : List State := [portsE1 base, wr R.CONVOY_CFG 0 0x80010000 (portsE1 base), prox id (portsE1 base), prox (fun c => { c with silent := true }) (portsE1 base), conv (fun c => { c with joined := true, parentPort := 1 }) (lane5 id (portsE1 base)),
  conv (fun c => { c with parts := [P0] }) (prox id (portsE1 base)), conv (fun c => { c with parts := [P1], forwarded := [F0] }) (prox id (portsE1 (wb 0x14 (tgt 0 5) base))),
  conv (fun c => { c with joined := true, parentPort := 1, addr := 0, parts := (List.range 64).map (fun i => { P0 with tag := i }) }) (prox (fun c => { c with base := 0, span := 4 }) (portsE1 base)),
  conv (fun c => { c with joined := true, parentPort := 1, addr := 7, parts := (List.range 64).map (fun i => { P0 with tag := i }) }) (prox (fun c => { c with base := 0, span := 4 }) (portsE1 base))]
def joiningAConvoyStates : List State := stEE1 ++ (stEE1.map ((fun s => setBus 1 { busPort s 1 with tt := 3 } s))) ++ (stEE1.map (fun s => wr R.CAN_TT_CFG 1 0x80182800 (setBus 1 { busPort s 1 with master := 5 } s)))
def ts (i : Nat) (x : TileSlot) (s : State) : State := setTileSlot i x s
def tb (op : Nat) (bs : List Byte) (s : State) := withDesc 85 op (fitBytes 56 bs) s
def key (a b : Nat) : List Byte := b4 a ++ b4 b
def sup (a b img fl : Nat) : List Byte := key a b ++ leBytes 8 img ++ [BitVec.ofNat 8 fl, 2]
def cov (f : Coverage → Coverage) (s : State) : State := eng (fun e => { e with coverage := f e.coverage }) s
def t12 (st : SlotState) : TileSlot := { st := st, tx := 1, ty := 2 }
def loading (d : Bool) : State := ts 0 { t12 .requested with load := some { index := some 0, fill := 0, cells := [], replace := false, done := d }} base
def full : State := (List.range 256).foldl (fun s i => ts i { st := .dirty, tx := 50, ty := i } s) base
def supplyBeginsALoadStates : List State := [tb 1 (sup 1 2 64 0) (bmast (loading false)), tb 1 (sup 1 2 65 0) (bmast base), tb 1 (sup 0xFFFFFFF 2 65 2) (bmast base), tb 1 (sup 0x7FFFFFF 2 64 2) (bmast base)] ++ [base, ts 0 (t12 .clean) base, ts 0 (t12 .requested) base, full].flatMap (fun s => [tb 1 (sup 1 2 64 0) s, tb 1 (sup 1 2 64 3) s, tb 1 (sup 1 2 65 0) s, tb 1 (sup 0xFFFFFFF 2 64 0) s])
def tilesAreRefusedFlushedAndEvictedStates : List State := [tb 3 (sup 0x7FFFFFF 2 64 0) base, tb 3 (sup 0xFFFFFFF 2 64 0) base, tb 4 (sup 0x7FFFFFF 2 64 0) base, tb 4 (sup 0xFFFFFFF 2 64 0) base, tb 2 (sup 0x7FFFFFF 2 64 0) base, tb 2 (sup 0xFFFFFFF 2 64 0) base] ++ [base, ts 0 (t12 .clean) base, ts 0 (t12 .requested) base, ts 1 (t12 .dirty) (cov (fun c => { c with buffers := [(1,64),(2,128)] }) base)].flatMap (fun s => [tb 2 (sup 1 2 64 0) s, tb 3 (sup 1 2 64 3) s, tb 4 (sup 1 2 65 0) s, tb 4 (sup 1 2 0 8) s])
def buffersLoadsAndWritebacksStates : List State := [bmast (withDesc 86 1 (leBytes 8 64) base), bmast (withDesc 86 1 (leBytes 8 65) base), loading true, bmast (ts 1 { t12 .writing with marked := 7, remarked := 2, write := some { buffer := 1, addr := 64, reason := 2, forDesc := none, nextKey := none }} base), bmast (ts 1 { t12 .writing with marked := 7, remarked := 0, write := some { buffer := 1, addr := 64, reason := 1, forDesc := some 0, nextKey := some (5, 6, 1) }} (tb 3 (sup 1 2 64 3) base)), withDesc 86 1 (leBytes 8 64) base, withDesc 86 1 (leBytes 8 65) base, ts 0 { t12 .requested with load := some { index := some 0, fill := 0, cells := [], replace := false }} base, ts 1 { t12 .writing with marked := 7, remarked := 2, write := some { buffer := 1, addr := 64, reason := 2, forDesc := none, nextKey := none }} base]
def mac (s : State) : State := wr R.ETH_CFG 0 0x90000000 s
def snd (n : Nat) : List Byte := leBytes 8 0 ++ leBytes 2 n
def tmap (r : Nat) : List Byte := leBytes 8 5 ++ leBytes 8 6 ++ b4 r
def nr : Nat := ethTxRing 0
def running (s : State) : State := setRing nr { ring s nr with fetched := (ring s nr).fetched.map (fun x => { x with phase := .running }) } s
def tr : TargetRec := { mac := 0, entry := 0, camera := 1, sequence := 0, exposure := 0, alongMin := 0, alongMax := 0, latMin := 0, latMax := 0, dt := 0, id := 1, cls := 0 }
def down (s : State) : State := { s with clocks := { s.clocks with farDown := [14] } }
def framesArriveStates : List State := [wr R.ETH_CFG 0 0x80000000 (wr R.ETH_ADDR_LO 0 0x02 base), wr R.ETH_TGT_CFG 0 0x80000005 (mac base), bmast (withDesc nr 1 (snd 5) (mac base)), bmast (withDesc nr 1 (snd 64) (mac base)), bmast (withDesc nr 1 (snd 64) base), bmast (down (withDesc nr 1 (snd 64) (mac base))), bmast (running (withDesc nr 1 (snd 20) (mac base))), wr R.ETH_CAM_ID 0 0x00500000 (mac base), mac base, { mac base with eth := { base.eth with queue := [tr, { tr with id := 2 }] } }, withDesc nr 1 (snd 5) (mac base), withDesc nr 1 (snd 64) (mac base), running (withDesc nr 1 (snd 20) (mac base)), withDesc nr 2 (tmap 4) (mac base), withDesc nr 2 (tmap 0) (mac base), down (withDesc nr 2 (tmap 4) (mac base)), base, State.reset, { base with eth := { base.eth with mdioBusy := true }}, { wr R.ETH_MDIO 0 0x40000000 base with eth := { base.eth with mdioBusy := true }}, { State.reset with startup := { State.reset.startup with phase := 4 } }, { mac base with eth := { base.eth with queue := List.replicate 4096 tr }}]
def lanes (s : State) : State := setLane 1 { lane s 1 with configured := true, halfWidth := 500, x := 1000, v := 2^20, y := 100 } (setLane 0 { lane s 0 with configured := true, halfWidth := 500, x := 3000 } (wr R.ETH_CAM_LANES 0 8 s))
def histF1 (s : State) : State := { s with now := 10^9, course := { s.course with history := [{ time := 1004*10^6, course := 5, pose := { x := 5, y := 70000 }, speed := 10, yaw := 3 }, { time := 100, course := 5, pose := {}, speed := 0, yaw := 0 }] } }
def mapped (s : State) : State := setEthMac 0 { ethMac s 0 with valid := true, tAnchor := 10^9, ratio := 2^30 } s
def tq : TargetRec := { tr with dt := 5000, exposure := 10^7, alongMin := 200, alongMax := 400, latMin := -50, latMax := 80 }
def qd (s : State) : State := { s with eth := { s.eth with queue := [tq] } }
def targetsArePlacedCases : List State := [qd (mapped (histF1 (lanes (mac base)))), qd (mapped (histF1 (mac base))), qd (mapped (histF1 (lanes (wr R.ETH_TGT_CFG 0 0xA0000005 (mac base))))), { qd (mapped (histF1 (mac base))) with eth := {(qd (mapped (histF1 (mac base)))).eth with queue := [{ tq with exposure := 10^15 }, tq] }}, down (qd (mac base)), qd (mac base)]
def chans (f : PwmCh → PwmCh) (s : State) : State := setPwmCh 1 (f (pwmCh s 1)) (setPwmCh 0 (f (pwmCh s 0)) s)
def lne (s : State) : State := setLane 5 { lane s 5 with configured := true, binding := .pwm 0, on := true } s
def pwmEv (k : Nat) : LaneEv := { id := 3, kind := k, d := 0x4000, tExec := 4 }
def cfgs : List W32 := [0x80000108, 0x80000102, 0x80000100, 0x00000100, 0x80800100, 0x90000100]
def pwmChannelsReloadStartAndStopStates : List State := cfgs.flatMap (fun v =>
  let s0 := wr R.PWM_CFG 0 v (wr R.PWM_PHASE 0 7 (wr R.PWM_PER 0 300 base))
  [s0, chans (fun c => { c with started := true }) s0])
def pwmLanes : List State := cfgs.flatMap (fun v => [1,2,3].flatMap (fun k => [ {} , { started := true, safe := false }, { started := true, tripHold := true } ].map (fun c => setPwmCh 0 c (setPwmCh 1 c (let s := wr R.PWM_CFG 1 v (wr R.PWM_CFG 0 v base); { s with engine := { s.engine with heap := [{ lane := 0, binding := .pwm 0, key := 4, body := .event (pwmEv k) }] } })))))
def laneEventsActOnPwmStates : List State := pwmLanes ++ pwmLanes.map (fun s => setLane 3 { configured := true, binding := .pwm 0, events := [pwmEv 1] } s) ++ pwmLanes.map (fun s => setLane 3 { configured := true, binding := .pwm 0, events := [pwmEv 2] } s) ++ pwmLanes.map (fun s => setLane 3 { configured := true, binding := .pwm 0, events := [pwmEv 3] } s)
def pwmChannelsReloadStartAndStopStates2 : List State := [wr R.PWM_CFG 0 0x90000100 base, setPwmCh 1 { tripHold := true } (wr R.PWM_CFG 0 0x90000100 base)] ++ (pwmLanes.take 6).map (fun s => { s with startup := { s.startup with phase := 5 } }) ++ pwmLanes ++ (pwmLanes.map (fun s => { s with pwm := { s.pwm with clockBad := true } }))
def compareWritesMoveShadowsStates : List State := pwmChannelsReloadStartAndStopStates.flatMap (fun s => [1,2,3].map (fun k => let s := lne s; { s with engine := { s.engine with heap := [{ lane := 0, binding := .pwm 0, key := 4, body := .event (pwmEv k) }] } }))
def syncsLoadThePhaseCases : List State := (pwmChannelsReloadStartAndStopStates ++ pwmChannelsReloadStartAndStopStates.map (wr R.PWM_MOD_CFG 0 0) ++ pwmChannelsReloadStartAndStopStates.map (wr R.PWM_MOD_CFG 0 0x40000000))
def tripsClockFaultsAndClearsStates : List State := pwmChannelsReloadStartAndStopStates2 ++ (pwmChannelsReloadStartAndStopStates2.take 60).map (fun s => wr R.PWM_TRIP_IN_CFG 0 0xC0000000 (wr R.PWM_TRIP_IN_CFG 2 0xC0000000 (wr R.PWM_TRIP 0 0xFFF00000 s))) ++ [{ wr R.PWM_GLOBAL 0 0x80000005 base with pwm := { base.pwm with clockBad := true } }]
def img : List Byte := (List.replicate 128 0).set 39 0x10
def lp (op n first count at' : Nat) (s : State) : State := withDesc 88 op ([BitVec.ofNat 8 n, 0, BitVec.ofNat 8 first, BitVec.ofNat 8 count] ++ b4 77 ++ leBytes 8 at' ++ List.replicate 32 5) s
def lc (f : LoopCh → LoopCh) (s : State) : State := setLoop 1 (f (loop s 1)) s
def loopBases : List State := [base, lc (fun c => { c with enabled := true, image := img }) base, lc (fun c => { c with image := img }) base, lc (fun c => { c with image := img.set 72 16, enabled := true }) base, setLoop 0 { loop base 0 with enabled := true, image := img } (lc (fun c => { c with image := img }) base),
  lc (fun c => { c with image := (List.replicate 128 0).set 0 16, enabled := true, st := tabSet 0 [] 15 5 }) base, lc (fun c => { c with image := (List.replicate 128 0), enabled := true }) base,
  lc (fun c => { c with image := (List.replicate 128 0).set 3 16, enabled := true }) base, lc (fun c => { c with image := (List.replicate 128 0).set 4 16, enabled := true }) base]
def loopParametersAreTakenStates : List State := loopBases.flatMap (fun s => [1,2,3,4,5,6,7].flatMap (fun op => [lp op 1 0 0 64 s, bmast (lp op 1 0 0 64 s), bmast (lp op 1 3 2 64 s), bmast (lp op 1 0 0 65 s), { bmast (lp op 1 0 0 64 s) with hostMem := memWrite [] 64 [2] }, lp op 1 3 2 64 s, lp op 1 63 2 64 s, lp op 1 250 8 65 s]))
def i0 : List Byte := List.replicate 128 0
def im : List (List Byte) := [[], i0, i0.set 2 16, i0.set 18 1, (i0.set 18 1).set 39 0x10, i0.set 39 0x10, i0.set 23 0x60, i0.set 39 0x40, (i0.set 18 1).set 70 16 ]
def loopImages : List State := im.flatMap (fun i => [false, true].flatMap (fun e => let s := lc (fun c => { c with image := i, enabled := e }) base; ([3, 4].flatMap (fun op => [lp op 1 0 0 0 s, lp op 1 0 0 0 (setLoop 0 { loop base 0 with enabled := true, image := i } s)]))))
def loopsStartStopAndIdleStates : List State := loopImages.flatMap (fun s => [s, { s with security := { s.security with charter := (List.replicate 512 0).set 64 1 } }])
def loopsSampleOrSkipStates : List State := [0,1,2].flatMap (fun tr => [none, some 4].flatMap (fun p => [[], [(5, 4)], [(20000000000,4)]].map (fun d => { lc (fun c => { c with image := (i0.set 39 0x10).set 1 (BitVec.ofNat 8 tr), enabled := true, primed := p, due := d }) base with feedback := { base.feedback with latchEdge := tabSet none [] 0 (some 7) } }))) ++ [i0, i0.set 1 1, i0.set 1 2, i0.set 0 1, (i0.set 1 2).set 39 0x10].flatMap (fun i => [none, some 9999999].flatMap (fun l => let s := lc (fun c => { c with image := i, enabled := true, primed := some 4, due := [(5, 4)], lastAt := l }) base;
  [s, { s with feedback := { s.feedback with latchEdge := tabSet none [] 0 (some 7) } }, { s with loops := { s.loops with fallback := false } }, lc (fun c => { c with enabled := false }) s]))
def selfTestsSwitchThePathStates : List State := [base, { base with startup := { base.startup with phase := 6 } }].flatMap (fun s => [false, true].flatMap (fun a => [false, true].flatMap (fun f => [0, 1].map (fun stay => { s with loops := { s.loops with bistActive := a, fallback := f, stay := stay, bistReq := true, ch := [(1, { image := i0, st := tabSet 0 [] 1 7 })] } }))))
def good (s : State) : State := wr R.CAN_NBT 0 (BitVec.ofNat 32 (0 * 2^23 + 62 * 2^15 + 15 * 256 + 4)) (wr R.CAN_DBT 0 (BitVec.ofNat 32 (14 * 65536 + 3 * 256)) s)
def en (s : State) : State := wr R.CAN_PORT_CFG 0 0x80000000 s
def enw (s : State) : State := wr R.CAN_PORT_CFG 0 0x8D000000 s
def pb (f : BusPort → BusPort) (s : State) : State := setBus 0 (f (busPort s 0)) s
def at0 : BusAttempt := { src := .prio 0, frame := {}, sof := 3 }
def xl (s : State) : State := wr R.CAN_TDC 0 0x80000000 s
def busPortsStartStopAndWakeStates : List State := [{ good base with startup := { base.startup with phase := 5 } }, wr R.CAN_PORT_CFG 0 0x01000000 base, good base, wr R.CAN_NBT 0 0 base, wr R.CAN_PORT_CFG 0 0x01000000 (good base), base, en (good base), en (pb (fun b => { b with attempt := some at0, st := 2 }) base), pb (fun b => { b with busOff := true, st := 4 }) (good base), pb (fun b => { b with st := 1 }) base, pb (fun b => { b with st := 1, passive := true }) base,
  wr R.CAN_TT_CFG 0 0x80000000 (wr R.CAN_TT_CYCLE 0 (BitVec.ofNat 32 (1000 * 65536 + 1)) (good base))]
def busErrorsAreCountedStates : List State := [pb (fun b => { b with st := 4, busOff := true }) (en base), pb (fun b => { b with st := 5, busOff := true, tt := 4, master := 2, tec := 256 }) (en base), pb (fun b => { b with st := 2, recErr := 120 }) (en base),pb (fun b => { b with st := 2, recErr := 127 }) (enw base), pb (fun b => { b with st := 3, passive := true, recErr := 128 }) (en base), pb (fun b => { b with st := 2, recErr := 5 }) (wr R.CAN_PORT_CFG 0 0x92000000 base), pb (fun b => { b with st := 2, recErr := 0 }) (wr R.CAN_RX_CFG 0 0x80000000 (en base))]
def sendBody (n id : Nat) : List Byte := b4 id ++ b4 (n * 65536) ++ leBytes 8 0 ++ List.replicate 40 7
def q : BusEntry := { index := 0, frame := { id := 5, ctrl := 0x20000000 } }
def dat : BusFrame := { id := 5, ctrl := 0x68080000, data := List.replicate 8 1 }
def inAttempt (f : BusAttempt → BusAttempt) (g : BusPort → BusPort) (s : State) : State := pb (fun b => g { b with st := 2, attempt := some (f { at0 with frame := dat }), queue := [{ q with frame := dat }] }) s
def attempts : List State := [0, 120, 200, 248, 255].flatMap (fun n => [true, false].flatMap (fun o => [en base, wr R.CAN_TDC 0 0x80000000 (en (good base)), wr R.CAN_PORT_CFG 0 0x92000000 (good base), wr R.CAN_NBT 0 1 (en base), wr R.CAN_TDC 0 0xFF7F0000 (en (good base))].map (fun s => inAttempt (fun a => { a with orphan := o }) (fun b => { b with tec := n }) s)))
def win (e : Nat) : BusWindow := { kind := 1, source := 2, ends := e }
def tt0 (s : State) : State := wr R.CAN_TT_CFG 0 (BitVec.ofNat 32 (2^31 + 0x100 * 2^11 + 2 * 2^26)) s
def lb (s : State) : State := wr R.CAN_PORT_CFG 0 0xB0000000 s
def fd : BusFrame := { id := 5, ctrl := 0x00080005, data := List.replicate 8 1 }
def framesStartStates : List State := attempts ++ [pb (fun b => { b with st := 2, tt := 2, queue := [{ q with frame := dat }], window := some (win 1) }) (tt0 (en base)), pb (fun b => { b with st := 2, tt := 3, window := some { win 60000000 with source := 0 }, formed := [{ xl := false, base := 7 }] }) (wr R.CAN_TT_CFG 0 (BitVec.ofNat 32 (2^31 + 0x1FD * 2^11 + 2 * 2^26)) (en base)), pb (fun b => { b with st := 2, attempt := some { at0 with frame := dat }}) (lb base), pb (fun b => { b with st := 2, attempt := some { at0 with frame := fd }}) (wr R.CAN_TDC 0 0xFFFFFFFF (en (good base))), pb (fun b => { b with st := 3, passive := true, attempt := some { at0 with src := .convoy, convoy := some (1, [1]) }, tec := 128 }) (en base), pb (fun b => { b with st := 2, attempt := some { at0 with src := .slot, slot := some { xl := false, base := 0 }}, tec := 3 }) (en base), withDesc 16 1 (sendBody 8 3) (pb (fun b => { b with st := 2 }) (en base)), withDesc 16 1 (sendBody 9 3) (pb (fun b => { b with st := 2 }) (en base)),
  withDesc 16 1 (sendBody 8 3) (pb (fun b => { b with st := 2, attempt := some at0, queue := [q] }) (en base)),
  withDesc 16 1 (sendBody 8 3) (pb (fun b => { b with st := 2, attempt := some at0, queue := [{ q with frame := {}}], tec := 5 }) (en base)),
  withDesc 16 1 (sendBody 8 3) (pb (fun b => { b with st := 2, queue := [q], tec := 119 }) (en base)),
  pb (fun b => { b with st := 2, attempt := some at0, queue := [q], tec := 250 }) (en base), pb (fun b => { b with st := 2, attempt := some at0, queue := [q], tec := 200, tt := 2 }) (en base),  pb (fun b => { b with st := 2, attempt := some at0, queue := [q], tec := 255, tt := 2 }) (wr R.CAN_RX_CFG 0 0x80000000 (en base))]
def ttPort (v : W32) (s : State) : State := wr R.CAN_PORT_CFG 0 0x80000000 (wr R.CAN_TT_CFG 0 v (wr R.CAN_TT_SYNC 0 (BitVec.ofNat 32 (1 * 2^24 + 5 * 256)) (wr R.CAN_TT_CYCLE 0 (BitVec.ofNat 32 (1000 * 65536 + 2 * 8192 + 3)) s)))
def col (k : Nat) (s : State) : State := wr R.CAN_IMW_CFG 0 0x80000001 (wr2 R.CAN_TT_COL 0 1 (BitVec.ofNat 32 (k + 300)) (wr2 R.CAN_TT_COL 0 2 (BitVec.ofNat 32 (k + 600)) (wr2 R.CAN_TT_ROWS_LO 0 1 0xFFFFFFFF s)))
def c1 : W32 := BitVec.ofNat 32 (2^31 + 2 * 2^26)
def c2 : W32 := BitVec.ofNat 32 (2^31 + 2^30 + 2 * 2^26)
def cr : W32 := BitVec.ofNat 32 (2^31 + 0x600 * 2^11 + 2 * 2^26)
def ttBases : List State := [c1, c2, BitVec.ofNat 32 (2^31 + 9 * 2^26)].map (fun c => ttPort c base)
def referencesBeginCyclesStates : List State := ttBases.flatMap (fun s => [1,2,3].flatMap (fun k => [0,3,7].flatMap (fun m => [pb (fun b => { b with st := 2, tt := k, misses := m, master := 3, tec := 4 }) s, pb (fun b => { b with st := 2, tt := k, misses := m, master := 3, candidate := true, stamp := some 9, first := false }) s])))
def rem (s : State) : State := setLane 5 { lane s 5 with configured := true, binding := .remote 0 7 3 } s
def cmd : SlotCmd := { lane := 5, node := 7, sub := 3, ev := { id := 1, kind := 1, tExec := 1000000 } }
def windowsOpenAndFramesFormStates : List State := [col 0x40000000 (ttPort cr base)] ++ [0x40000000, 0x50000000, 0x80000000, 0].flatMap (fun k => ttBases.flatMap (fun s => [2,3].flatMap (fun w => let s := col k (pb (fun b => { b with st := 2, tt := w, good := 9 }) s); [s, rem s, setSlotQueue 0 [cmd] (rem s), setSlotQueue 0 [cmd] (rem (col (k+100) s)), setSlotCancels 0 [{ node := 7, sub := 3, tag := 1, time := 5 }] s, setSlotCancels 0 [{ node := 7, sub := 3, tag := 1, time := 500000000 }] s] )))
def evn (k : Nat) (d : Nat := 9) : DrvEv := { id := 1, kind := k, time := 0, d := d }
def chS (f : DrvCh → DrvCh) (s : State) : State := setDrvCh 0 (f (drvCh s 0)) s
def prof (src : Nat) (s : State) : State :=
  let s := dset R.DRV_PROF_HDR 0 0x80010010 s
  let s := { s with drive := { s.drive with regs := tabSet R.DRV_PH_CTRL.reset s.drive.regs (regOff R.DRV_PH_CTRL 0 0) (BitVec.ofNat 32 (src * 2^30)) } }
  { s with drive := { s.drive with regs := tabSet R.DRV_PH_CTRL.reset s.drive.regs (regOff R.DRV_PH_CTRL 0 1) (BitVec.ofNat 32 (2^30 + 3 * 2^26)) } }
def chcfg (v : W32) (s : State) : State := dset R.DRV_CH_CFG 0 v s
def drvBases : List State := [1,2].flatMap (fun src => [0x80140064#32, 0xC0140064#32].map (fun v => chcfg v (prof src { base with drive := { base.drive with lease := { base.drive.lease with e := 1, last := 1 }, inReset := false } })))
def peak1 (s : State) : State := setDrvCh 1 { drvCh s 1 with st := 2, shot := some { ev := 9, pulse := false, due := 0, ready := 0, gateOn := some 0 }, on := true } s
def sh0 : Shot := { ev := 4, pulse := false, due := 0, ready := 0, gateOn := some 0 }
def shW : Shot := { ev := 4, pulse := false, due := 0, ready := 0 }
def onEventsStartShotsStates : List State := drvBases.flatMap (fun s => ([1,2,3].flatMap (fun k => [chS (fun c => { c with pending := [evn k, evn k 0] }) s, chS (fun c => { c with pending := [evn k 0] }) s, chS (fun c => { c with pending := [evn k], on := true, st := 3, shot := some sh0 }) s, chS (fun c => { c with pending := [evn k], on := true, st := 2, shot := some sh0 }) s, chS (fun c => { c with pending := [evn k], on := true, st := 1, shot := some shW }) s,
   chS (fun c => { c with pending := [evn k], gateOff := some 10, st := 4 }) s, peak1 (chS (fun c => { c with pending := [evn k] }) s), dset R.DRV_FAULT 0 8 (chS (fun c => { c with pending := [evn k] }) s)])))
def bind0 (s : State) : State := setLane 3 { configured := true, binding := .direct 0, events := [{ id := 1, kind := 1, tExec := 0, d := 9 }] } s
def onEventsStartShotsStates2 : List State := onEventsStartShotsStates.map bind0 ++ (onEventsStartShotsStates.map (fun s => bind0 (dset R.DRV_PROF_HDR 0 0 s))) ++ (onEventsStartShotsStates.map (dset R.DRV_PROF_HDR 0 0))
def dset2 (r : Reg) (i j : Nat) (v : W32) (s : State) : State := { s with drive := { s.drive with regs := tabSet r.reset s.drive.regs (regOff r i j) v } }
def nat (n : Nat) : W32 := BitVec.ofNat 32 n
def phasesAndQuenchesEndStates : List State := [0,1,2,3].flatMap (fun et => [0,1,2].flatMap (fun src => [0,1].flatMap (fun reg => [0,100000].flatMap (fun en => [(true,0),(false,0),(false,1),(true,2)].map (fun lp =>
  let s := drvBases.getD ((et+src+reg)%4) base
  let s := dset2 R.DRV_PH_CTRL 0 lp.2 (nat (src * 2^30 + reg * 2^29 + et * 2^26 + (src+reg)%2 * 2^28 + 1000)) s
  let s := dset2 R.DRV_PH_CTRL 0 (lp.2+1) (nat ((src+1)%3 * 2^30 + 500)) s
  let s := dset2 R.DRV_PH_CURRENT 0 lp.2 (nat (100 * 2^16 + 2000)) s
  let s := dset2 R.DRV_PH_END 0 lp.2 (nat en) s
  chS (fun c => { c with st := if src = 2 then 2 else 3, on := true, shot := some { sh0 with phase := lp.2 }, low := lp.1, cfg := drd s R.DRV_CH_CFG 0 }) s)))))
def phasesAndQuenchesEndStates2 : List State := drvBases.flatMap (fun s => [chS (fun c => { c with st := 3, on := true, shot := some sh0, pulseEnd := some 5, cfg := drd s R.DRV_CH_CFG 0 }) s, chS (fun c => { c with st := 2, on := true, shot := some sh0, pulseEnd := some 5 }) s, chS (fun c => { c with st := 4, gateOff := some 3 }) s, chS (fun c => { c with st := 4, shot := some shW }) s, chS (fun c => { c with st := 5, on := true, nextPulse := some 4, d := 77, cfg := drd s R.DRV_CH_CFG 0 }) s, chS (fun c => { c with st := 5, on := true, nextPulse := some 4, d := 0, cfg := drd s R.DRV_CH_CFG 0 }) s])
def waitingShots : List State := drvBases.flatMap (fun s => [chS (fun c => { c with st := 1, on := true, shot := some shW }) s, chS (fun c => { c with st := 1, on := true, shot := some { shW with delayed := true }}) s, peak1 (chS (fun c => { c with st := 1, on := true, shot := some { shW with delayed := true }}) s)])
def waitingShotsAreRefusedOrStartStates : List State := waitingShots ++ waitingShots.map (dset R.DRV_PROF_HDR 0 0) ++ waitingShots.map (dset R.DRV_FAULT 0 8)
def rp : Report := { channel := 0, closing := false, flags := 0, gate := 5 }
def armatureReportsAreSentStates : List State := [base, dset R.DRV_FAULT 0 4 base].flatMap (fun s => [true,false].flatMap (fun d => [chS (fun c => { c with opening := [{ ends := 3, det := d, rep := rp }, { ends := 4, det := d, rep := rp }] }) s, chS (fun c => { c with closing := [{ ends := 3, det := d, rep := rp }] }) s]))
def calibrationAndBoostActStates : List State := drvBases.flatMap (fun s => let s := dset R.DRV_CAL 0 0x80000005 s; [s, chS (fun c => { c with calibrated := true, gapAt := 3 }) s, chS (fun c => { c with st := 3, shot := some sh0 }) s, chS (fun c => { c with calibrated := true }) s, dset R.DRV_CH_OFS 0 0x7FFF (chS (fun c => { c with calibrated := true }) s)])
def rel (f : Relay → Relay) (s : State) : State := { s with relay := f s.relay }
def lsd : State := chcfg 0x80140064 (prof 1 { base with drive := { base.drive with lease := { base.drive.lease with e := 1, last := 1 }, inReset := false } })
def unl : State := { lsd with drive := { lsd.drive with lease := { lsd.drive.lease with e := 0, last := 1 } } }
def inDown (b : FrameBody) (s : State) (le : Nat) : State := rel (fun r => { r with trained := true, down := { r.down with flight := [{ seq := 0, epoch := 0, ack := 0, leaseEpoch := le, body := b }], next := 1, unacked := [{ seq := 0, epoch := 0, ack := 0, leaseEpoch := le, body := b }] } }) s
def inUp (b : FrameBody) (s : State) : State := rel (fun r => { r with trained := true, up := { r.up with flight := [{ seq := 0, epoch := 0, ack := 0, leaseEpoch := 0, body := b }], next := 1, unacked := [{ seq := 0, epoch := 0, ack := 0, leaseEpoch := 0, body := b }] } }) s
def ev5 (id : Nat) (t : Nat) : DrvEv := { id := id, kind := 1, time := t, d := 3 }
def pend (s : State) : State := chS (fun c => { c with pending := [ev5 1 100, ev5 2 200], on := true }) s
def wait1 (s : State) : State := chS (fun c => { c with shot := some { shW with ev := 1 }, st := 1, on := true }) s
def eventFramesReachTheStoreStates : List State := [lsd, pend lsd, wait1 lsd, chcfg 0x140064 lsd, pend (chcfg 0x140064 lsd)].flatMap (fun s => [inDown (.event 0 (ev5 5 150)) s 1, inDown (.retime 0 1 4) s 1, inDown (.withdraw 0 1) s 1]) ++ [inDown (.event 0 (ev5 5 150)) unl 0, inDown (.retime 0 1 4) unl 0, inDown (.withdraw 0 1) unl 0, inDown (.withdraw 0 7) lsd 1]
def wr1 : List (Nat × W32) := [(regOff R.DRV_CH_CFG 0 0, 0x00140064), (regOff R.DRV_PROF_HDR 0 0, 0x80010020), (regOff R.DRV_PROF_HDR 0 0, 0x80020020), (regOff R.DRV_TH_RREF 0 0, 5), (regOff R.DRV_TH_RREF 0 0, 0), (regOff R.DRV_FAULT 0 0, 8), (regOff R.DRV_TRIP 0 0, 0x12345678)]
def registerAndTimeFramesActStates : List State := wr1.map (fun p => inDown (.write p.1 p.2) (dset R.DRV_FAULT 0 0xFF (pend lsd)) 1) ++ [inDown (.write (regOff R.DRV_CH_CFG 0 0) 0x80140064) (chcfg 0x140064 lsd) 1, inDown (.write (regOff R.DRV_CH_CFG 0 0) 0x80140065) lsd 1, inDown (.write R.LEASE_CFG.base 0x3F) lsd 1] ++ [inDown (.clear 0 8) (dset R.DRV_FAULT 0 0xFF lsd) 1, inDown (.clear 64 1) (dset R.DRV_HS_STAT 0 1 lsd) 1, inDown (.time 4) lsd 1, inDown (.time 4) { lsd with drive := { lsd.drive with synced := true, skew := 2^30, rate := 7 }} 1, inDown (.time 4) { lsd with drive := { lsd.drive with synced := true, skew := -2^20, rate := 7 }} 1]
def ls2 (s : State) : State := { s with drive := { s.drive with boostRun := true } }
def leasesAreGrantedAndLapseStates : List State := [inDown .revoke unl 0, inDown (.grant 4) unl 0, inDown (.grant 1) unl 0, inDown (.grant 0) unl 0, inDown (.grant 4) lsd 1, inDown .revoke (ls2 (pend lsd)) 1, inDown .revoke (peak1 (wait1 (pend lsd))) 1, inDown .revoke (peak1 (wait1 (pend lsd))) 4, rel (fun r => { r with trained := true }) unl, peak1 lsd]
def lanD (s : State) : State := setLane 5 { configured := true, binding := .direct 0, faults := 1 } s
def upFramesReachTheControlDieStates : List State := [inUp (.report { channel := 0, closing := false, flags := 0, gate := 5 }) lsd, inUp (.fault 0 8) (lanD lsd), inUp (.fault 0 0x66) (lanD lsd), inUp (.fault 64 1) (lanD lsd), inUp (.lease true 4 3 0) lsd, inUp (.lease false 4 3 2) lsd, inUp (.lease false 4 3 2) { lsd with lease := { lsd.lease with held := true, epoch := 9 }}, rel (fun r => { r with trained := true }) lsd]
def unlT : State := rel (fun r => { r with trained := true }) unl
def lsdT : State := rel (fun r => { r with trained := true }) { lsd with lease := { lsd.lease with held := true, epoch := 1 }}
def theLinkKeepsItsFramesStates : List State := [rel (fun r => { r with trained := false }) unl, inDown (.time 3) (rel (fun r => { r with down := { r.down with expect := 9 }}) lsdT) 1, unlT, lsdT, inDown (.time 3) lsdT 1, inDown (.time 3) (rel (fun r => { r with epoch := 3 }) lsdT) 1, inUp (.status 3 [1,2]) (rel (fun r => { r with epoch := 3 }) lsdT), rel (fun r => { r with down := { r.down with discards := 8 }}) lsdT]
def tr0 (s : State) : State := { rel (fun r => { r with driveReset := false, renew := true }) s with startup := { s.startup with phase := 4 } }
def trainingAndResetsOfTheFarDieStates : List State := [rel (fun r => { r with controlSeen := false }) unlT, tr0 unl, tr0 lsd, rel (fun r => { r with driveReset := false, rewriteDue := true }) unl, rel (fun r => { r with driveSeen := false }) lsdT, rel (fun r => { r with controlSeen := false }) (peak1 (pend lsdT)), eng (fun e => { e with heap := [{ lane := 5, binding := .direct 3, key := 0, body := .retime 1 2 }, { lane := 5, binding := .pwm 3, key := 0, body := .retime 1 2 }] }) (rel (fun r => { r with driveSeen := false }) unl)]
def gr (f : ControlLease → ControlLease) (s : State) : State := { unlT with lease := f { unlT.lease with known := true, startupDone := true, epoch := 65535 } }
def grantsFollowTheRulesStates : List State := [gr id base, wr R.LEASE_CFG 0 0 (gr id base), wr R.LEASE_CFG 0 0 (gr (fun l => { l with requests := 2 }) base)]
def thw : Shot := { ev := 4, pulse := false, due := 0, ready := 0, gateOn := some 0, phase := 1 }
def thp (s : State) : State := { s with drive := { s.drive with regs := tabSet R.DRV_PH_CTRL.reset s.drive.regs (regOff R.DRV_PH_CTRL 0 1) 0x6C000000 } }
def diag (s : State) : State := dset R.DRV_DIAG_CFG 0 0xC0640500 s
def wnd (s : State) : State := chS (fun c => { c with closings := [5, 500005], coolBefore := 10 ^ 14 }) s
def learn (s : State) : State := dset R.DRV_TH_CFG 0 0xC0010001 s
def temperatureAndOpenLoadsStates : List State := [wnd lsd, wnd (learn lsd), wnd (dset R.DRV_TH_RREF 0 0x80000005 (learn lsd)), wnd (dset R.DRV_TH_AMB 0 0x8000 (learn lsd)), chS (fun c => { c with st := 3, shot := some thw, on := true }) (thp lsd), dset R.DRV_TH_CFG 0 0xC0010001 (chS (fun c => { c with st := 3, shot := some thw, on := true }) (thp lsd)), dset R.DRV_TH_CFG 0 0xC0010001 lsd, dset R.DRV_TH_CFG 0 0xC0010001 (chS (fun c => { c with level := 3, temp := some (2^31) }) lsd), dset R.DRV_TH_CFG 0 0xC0010001 (chS (fun c => { c with level := 3, temp := some 0 }) lsd), diag lsd, diag (chS (fun c => { c with st := 3, shot := some thw, on := true }) (thp lsd)), dset R.DRV_TH_CFG 0 0xC0010001 (chS (fun c => { c with level := 0, temp := some (2^28*200) }) lsd)]
def tripsLatchStates : List State := [chS (fun c => { c with low := true }) (diag (chS (fun c => { c with st := 3, shot := some thw, on := true }) lsd)), diag (chS (fun c => { c with st := 3, shot := some thw, on := true }) lsd), diag (chS (fun c => { c with st := 2, shot := some thw, on := true }) lsd), peak1 (diag (chS (fun c => { c with st := 3, shot := some thw, on := true }) lsd))]
def driveWritesGoToTheDriveDieStates : List State := [base, setDrvCh 0 { drvCh lsd 0 with st := 5 } lsd, rel (fun r => { r with trained := true }) base]
def cl (f : Clocks → Clocks) (s : State) : State := { s with clocks := f s.clocks }
def sec (f : Security → Security) (s : State) : State := { s with security := f s.security }
def crossingsDiscardAndRestartStates : List State := (List.range 18).flatMap (fun k => [cl (fun c => { c with farDown := [k], discarding := [] }) base, cl (fun c => { c with farDown := [k], discarding := [k], busReset := false }) base, cl (fun c => { c with farDown := [k], discarding := [k], fbReset := false, ethReset := false, pipeLock := true }) { base with cister := { base.cister with perstHigh := true } }, base])
def ch (src lv : Nat) : List Byte := (List.replicate 880 0).set (292 + src) (BitVec.ofNat 8 lv)
def violationsAreAnsweredAtTheirLevelStates : List State := [0,1,2,3].flatMap (fun lv => [0,1,3,5,6].map (fun src => sec (fun x => { x with charter := ch src lv, faultSecond := 0, faultsInSecond := 50 }) { base with aon := { base.aon with sigFails := 8 + lv - 1 } })) ++ [base, State.reset]
def chc (k hal wd mx : Nat) : List Byte := ((((((List.replicate 880 0).set (304 + 144*k + 6) (BitVec.ofNat 8 hal)).set (304 + 144*k + 4) (BitVec.ofNat 8 wd)).set (304 + 144*k + 7) (BitVec.ofNat 8 mx)).set (64 + 3) (BitVec.ofNat 8 (k+1))).set (304+144*k+16+7) 0x80).set (304+144*k+16+4) 22 |>.set (304+144*k+16+5) 3
def coresAreHaltedAndRestartedStates : List State := [0, 1, 2, 129, 130].flatMap (fun h => [0, 1].flatMap (fun mx => [1,2].map (fun r => sec (fun x => { x with charter := chc 0 h 1 mx, fwValid := true, keysPresent := true }) (setCore 0 { run := r, service := List.replicate 64 3 } base))))
def servicesAnswerTheirCoreStates : List State := [setCore 0 { run := 1, service := List.replicate 64 3 } base, sec (fun x => { x with charter := chc 0 0 1 1, fwValid := true, keysPresent := true }) (setCore 0 { run := 1, service := List.replicate 64 3 } base), sec (fun x => { x with charter := chc 0 0 1 1, fwValid := true, keysPresent := true }) (setCore 0 { run := 1, service := List.replicate 64 3, serving := some 5 } base)]
def k1 (x : Security) : Security := { x with keysPresent := true }
def stagd (k len img : Nat) : List Byte := [BitVec.ofNat 8 k, 0,0,0] ++ b4 len ++ leBytes 8 img
def secBases : List State := [sec k1 base, base, sec (fun x => { k1 x with charter := List.replicate 880 0 }) base, sec (fun x => { k1 x with trial := 2, validB := 7, validA := 7, active := 1 }) base,
  sec (fun x => { k1 x with requests := [{ ring := 0, index := 0, opcode := 0x40, status := 3, types := 2 }] }) base, sec (fun x => { k1 x with requests := [{ ring := 0, index := 0, opcode := 0x41, status := 0, types := 4, restart := true }] }) base, sec (fun x => { k1 x with oemHash := 5, deadBits := 0xFF }) base, sec (fun x => { k1 x with oemHash := 5, deviceId := 0x0707070707070707 }) base]
def updatesMoveTheSlotsStates : List State := secBases.flatMap (fun s => [wb 0x40 (stagd 2 100 64) s, wb 0x40 (stagd 2 0x10001 64) s, wb 0x40 (stagd 7 1 64) s, wb 0x40 (stagd 1 100 64) s, wb 0x41 [2, 0] s, wb 0x41 [2, 1] s, wb 0x41 [7, 1] s, wb 0x41 [0,1] s, wb 0x42 [2, 0] s, wb 0x42 [6, 1] s])
def requestsAttestProvisionAndClearStates : List State := secBases.flatMap (fun s => [wb 0x43 (leBytes 8 64 ++ List.replicate 32 8) s, wb 0x43 (leBytes 8 65) s, wb 0x44 (List.replicate 32 8) s, wb 0x45 (leBytes 8 64) s, wb 0x45 (leBytes 8 63) s]) ++ [{ base with startup := { base.startup with phase := 8 } }, { base with startup := { base.startup with phase := 8 }, cister := { base.cister with busMaster := true, endpointReady := true, perstHigh := true }, clocks := { base.clocks with pipeLock := true } }]
def ph (p : Nat) (s : State) : State := { s with startup := { s.startup with phase := p } }
def lck (s : State) : State := { s with clocks := { s.clocks with sysLock := true } }
def startUpGoesStateByStateStates : List State := [State.reset, { State.reset with aon := { State.reset.aon with rtcValid := true } }] ++ secBases.flatMap (fun s => [lck (ph 0 s), lck { ph 0 s with aon := { s.aon with killLatch := true } }, ph 1 s, ph 3 s, ph 3 { s with startup := { s.startup with defaultCharter := true } }])
def startUpReachesTheHostAndTheDriveStates : List State := [State.reset, { base with cister := { base.cister with perstHigh := true } }, base, ph 4 base, ph 5 { base with relay := { base.relay with trained := true }, lease := { base.lease with known := true } }, ph 6 { base with relay := { base.relay with trained := true }, lease := { base.lease with known := true }, startup := { base.startup with warm := true } }]
def image (k ver : Nat) (body : List Byte) : List Byte := b4 0x4D494759 ++ [BitVec.ofNat 8 k, 1, 0, 0] ++ b4 ver ++ b4 body.length ++ (List.replicate 176 0).set 47 5 ++ body
def chb : List Byte := ((List.replicate 880 0).set (144 + 3) 0x81).set 309 1 |>.set (284+1) 3
def slotImg (k : Nat) : List Byte := if k = 2 then image 2 9 chb else image k 9 (List.replicate 20 7)
def provd (x : Security) : Security := { x with oemHash := 5, slots := [(2, slotImg 1), (3, slotImg 1), (4, slotImg 2), (5, slotImg 2), (6, slotImg 3), (7, slotImg 3)], validA := 7, validB := 7 }
def hm (at' : Nat) (b : List Byte) (s : State) : State := { s with hostMem := memWrite s.hostMem at' b }
def linked (s : State) : State := { s with cister := { s.cister with busMaster := true, endpointReady := true, perstHigh := true }, clocks := { s.clocks with pipeLock := true } }
def provisionedStates : List State := [sec (k1 ∘ provd) base, sec (fun x => { k1 (provd x) with trial := 7, trialRan := 7, active := 2 }) base, sec (fun x => { k1 (provd x) with slots := [(4, slotImg 2), (3, slotImg 1), (7, slotImg 3)], floorFw := 3 }) base, sec (fun x => { k1 (provd x) with floorCharter := 30, floorFw := 30 , floorMon := 30 }) base]
def updatesMoveTheSlotsStates2 : List State := [wb 0x40 (stagd 2 100 64) (linked base)] ++ provisionedStates.flatMap (fun s => let s := linked (hm 64 (slotImg 2) s); [wb 0x40 (stagd 2 (slotImg 2).length 64) s, wb 0x40 (stagd 2 100 64) s, wb 0x41 [2, 0] s, wb 0x42 [6, 1] s, wb 0x42 [7,1] s, wb 0x42 [7,0] s])
def tok (mask : Nat) (up : List Nat) : List Byte := b4 0x52434C59 ++ [BitVec.ofNat 8 mask, 0,0,0] ++ leBytes 8 77 ++ up.flatMap b4 ++ List.replicate 140 0
def led (s : State) : State := { s with aon := { s.aon with nextPos := [(0, 10), (1, 20), (2, 200), (3, 4)] } }
def requestsAttestProvisionAndClearStates2 : List State := [wb 0x45 (leBytes 8 63) (linked base)] ++ (secBases ++ provisionedStates).flatMap (fun s => [wb 0x43 (leBytes 8 64 ++ List.replicate 32 8) (linked s), wb 0x43 (leBytes 8 65) (linked s)]) ++ provisionedStates.flatMap (fun s => let s := led (linked (sec (fun x => { x with deviceId := 77 }) s)); [wb 0x45 (leBytes 8 64) (hm 64 (tok 15 [3, 4, 69, 2]) s), wb 0x45 (leBytes 8 64) (hm 64 (tok 15 [3, 4, 68, 2]) s), wb 0x45 (leBytes 8 64) (hm 64 (tok 4 [3, 4, 139, 2]) s)]) ++ [hm (0x40) (slotImg 1) (ph 8 (linked (sec (fun x => { provd x with recoveryLo := 0x40 }) base)))]
def rec1 (k : Nat) : LedgerRec := { code := 0x0123, stream := k, stamp := 5, payload := 7 }
def withLedger (f : Ledger → Ledger) (s : State) : State := { s with ledger := f s.ledger }
def np (k p : Nat) (s : State) : State := { s with aon := { s.aon with nextPos := tabSet 0 s.aon.nextPos k p } }
def l0 (k : Nat) (f : LStream → LStream) (s : State) : State := setLStream k (f (lstream s k)) s
def fl (s : State) : State := sec (fun x => { x with flashLog2 := 24 }) s
def ledgerRecordsMoveStates : List State := [np 1 5 (l0 1 (fun l => { l with queue := [rec1 1] }) (sec (fun x => { x with deadBits := 0xFF }) base))] ++ [0,1,2,3].flatMap (fun k => [0, 63, 133].flatMap (fun p => [0, 4].map (fun d => np k p (l0 k (fun l => { l with queue := [rec1 k], lostDue := d }) base))))
def bf (k p : Nat) (g : LStream → LStream) (s : State) : State := fl (np k (p+1) (l0 k (fun l => g { l with buffer := tabSet {} l.buffer p (rec1 k), flashNext := p }) s))
def ledgerRecordsMoveStates2 : List State := [0,1,2,3].flatMap (fun k => [bf k 5 id base, bf k (2 ^ 21) (fun l => { l with flash := [(0, rec1 k)] }) base])
def ledgerRecordsMoveStates3 : List State := [withLedger (fun l => { l with blocksOpen := [0, 1] }) base, withLedger (fun l => { l with blocksOpen := [2] }) base]
def ex (s : State) : State := wr R.LEDGER_EXPORT 0 0x8000000F (setRing 89 { ring s 89 with cfg := setFlag (ring s 89).cfg 31 true } s)
def onchip (s : State) : State := setRing 89 { ring s 89 with cfg := setFlag (setFlag (ring s 89).cfg 31 true) 30 true } s
def ledgerRecordsMoveStates4 : List State := [0,1,2,3].map (fun k => onchip (ex (np k 70 (l0 k (fun l => { l with buffer := [(0, rec1 k), (69, rec1 k)] }) base))))
def theClockIsSetAndTheWindowMovesStates : List State := [base, np 1 5 (l0 1 (fun l => { l with buffer := [(1, rec1 1), (3, rec1 1)] }) (withLedger (fun l => { l with cursorStream := 1, cursorIndex := 2, window := rec1 0, cursorHeld := some 3 }) base)), { base with aon := { base.aon with rtcValid := true, rtcMillis := 123456789 } }]
def traced (f : Trace → Trace) (s : State) : State := wr R.TRACE_CFG 0 0x80000000 { s with trace := f s.trace }
def traceSyncsAndTallyCapturesStates : List State := [base, traced id base, traced (fun t => { t with fifo := [[1,2,3],[4]], sent := 1 }) base, traced (fun t => { t with lost := 5 , fifo := [[1,2,3]] }) base, bump 5 (bump 600 base)]
def impl (s : State) : State := setLane 5 { lane s 5 with configured := true, implement := true, on := true } s
def registerWritesPassTheirGateStates : List State := [base, { base with startup := { base.startup with phase := 5 } }, impl base, sec (fun x => { x with badAcc := 0x80000000 }) base, { base with clocks := { base.clocks with faults := 63, causeWarm := true } }, { base with startup := { base.startup with phase := 2 } }, { base with startup := { base.startup with phase := 8 } }]
def ring0 (s : State) : State := setRing 0 { ring s 0 with cfg := setFlag (ring s 0).cfg 31 true, baseLo := 4096, s := 2 } s
def undefinedUseStopsStates : List State := [base, impl base, ring0 base, wr R.CAN_PORT_CFG 0 0x80000000 (wr R.CAN_TT_CFG 0 0x80000000 base), dset R.DRV_CH_CFG 0 0x80000000 { base with drive := { base.drive with ch := [(0, { on := true, cfg := 0x80000000, shot := some { ev := 4, pulse := false, due := 0, ready := 0, gateOn := some 0 }, st := 3 })] } }]
def entryToOperationalCases : List State := [{ base with startup := { base.startup with phase := 6 }, loops := { base.loops with bistActive := true } }]
def farDown (k : Nat) (s : State) : State := { s with clocks := { s.clocks with farDown := [k] } }
def coreRuns (s : State) : State := { s with cores := [(0, { run := 1 })] }
def inPhase (k : Nat) (s : State) : State := { s with startup := { s.startup with phase := k } }
def coreStores : List State := [coreRuns base]
def heldPulse : List State := [let s := setModeration 0 { pending := 1 } base; { s with now := 1000, cister := { s.cister with busMaster := true, functionMask := false, msixTable := [(3, 0), (7, 0)] }, eventLines := [(0, { since := some 1000, pends := true })] }]
def crossingFourDown : List State := [farDown 4 (wr R.LATCH_CFG 0 0xE0000003 base)]
def mixedMark : List State := [wb 0x20 (tgt 0 5 ++ ent 100 4 1 0 ++ ent 200 5 0 0 ++ ent 0 0 0 0) (lane5 (fun l => { l with anchored := true }) base)]
def classifier (s : State) : State := wr R.ETH_TGT_CFG 0 0x80000005 (wr R.ETH_CAM_ID 0 0x80000005 (mac s))
def arrivals : List State := [classifier base, farDown 15 (mac base)]
def fullQueue : List State := [{ setEthMac 1 { ethMac base 1 with dropped := 3 } base with eth := { (setEthMac 1 { ethMac base 1 with dropped := 3 } base).eth with queue := List.replicate 4096 tr } }]
def histX1 (s : State) : State := { s with now := 10^9, course := { s.course with histFloor := 1000000, history := [{ time := 1004000000, course := 5, pose := { x := 5, y := 70000 }, speed := 10, yaw := 3 }, { time := 100, course := 5, pose := {}, speed := 0, yaw := 0 }] } }
def queued (l : List TargetRec) (s : State) : State := { s with eth := { s.eth with queue := l } }
def spotted : TargetRec := { tr with dt := 5000, exposure := 10^7, alongMin := 200, alongMax := 400, latMin := -50, latMax := 80 }
def targetLane (s : State) : State := setLane 0 { lane s 0 with configured := true, halfWidth := 500, x := 3000 } (wr R.ETH_CAM_LANES 0 8 s)
def placements : List State := [farDown 15 (queued [tr] base), queued [spotted] (mapped (histX1 base)), queued [{ spotted with dt := -5100000 }] (mapped (histX1 base)), queued [{ spotted with dt := 50000000 }] (mapped (histX1 base)), (let s := targetLane base; { s with engine := { s.engine with poolFree := 1 } })]
def allLive (s : State) : State := (List.range 48).foldl (fun s n => setPwmCh n { pwmCh s n with safe := false, started := true } s) s
def pwmClocks : List State := [allLive base, (let s := wr R.PWM_GLOBAL 0 0x80000000 (allLive base); { s with pwm := { s.pwm with clockBad := true } })]
def portOf (f : BusPort → BusPort) (s : State) : State := setBus 0 (f (busPort s 0)) s
def rates (s : State) : State := wr R.CAN_NBT 0 (BitVec.ofNat 32 (62 * 2^15 + 15 * 256 + 4)) (wr R.CAN_DBT 0 (BitVec.ofNat 32 (14 * 65536 + 3 * 256)) s)
def busPortsStartStopAndWakeStates2 : List State := [portOf (fun b => { b with stopping := true, st := 2 }) (rates base), portOf (fun b => { b with stoppedAt := some 1000 }) (wr R.CAN_PORT_CFG 0 0x0D000000 (rates base))]
def sndBody : List Byte := b4 3 ++ b4 (8 * 65536) ++ leBytes 8 0 ++ List.replicate 40 7
def sendsLost : List State := [farDown 12 (withDesc 16 1 sndBody base)]
def imwald (s : State) : State := setBus 1 { busPort s 1 with st := 2 } (wr R.CAN_PORT_CFG 1 0x80000000 (wr R.CAN_IMW_CFG 1 0x80000000 (wr R.CAN_IMW_ID 1 0x05000000 s)))
def refAt (id : Nat) (s : State) : State := wr R.CAN_TT_CFG 1 (BitVec.ofNat 32 (2^31 + id * 2^11)) s
def ownReferences : List State := [refAt 0x305 (imwald base), refAt 0x405 (imwald base), refAt 0x605 (imwald base)]
def ledgerRecordsMoveStates5 : List State := [inPhase 1 (setLStream 1 { lstream base 1 with queue := [{ code := 0x0123, stream := 1, stamp := 5, payload := 7 }] } base)]
set_option maxRecDepth 20000


/-! Well-formedness: one ill-formed command for each check, which the check refuses, and a well-formed one. -/
theorem test_wf_time : (Instr.sweepClose (2 ^ 64) none).wf = false := by decide
theorem test_wf_past : (Instr.latchEdge 5 0 6 ⟨true, false, 0, 0, 0⟩).wf = false := by decide
theorem test_wf_size : (Instr.registerWrite 0 .host 0 3 0).wf = false := by decide
theorem test_wf_bar0 : (Instr.registerWrite 0 .host 0x100000 4 0).wf = false := by decide
theorem test_wf_bar2 : (Instr.doorbell 0 .host 0x10000 4 0 []).wf = false := by decide
theorem test_wf_bus_data : (Instr.nodeStatus 0 0 0 (List.replicate 2053 0)).wf = false := by
  set_option maxRecDepth 20000 in decide
theorem test_wf_block : (Instr.hash 0 0 (List.replicate 63 0)).wf = false := by decide
theorem test_wf_stores : (Instr.doorbell 0 .host 0 4 0 [{ space := .hostMem, addr := 2 ^ 64 - 1, bytes := [0, 0] }]).wf = false := by decide
theorem test_wf_good : (Instr.doorbell 0 .host 8 4 0 [{ space := .hostMem, addr := 2 ^ 64 - 2, bytes := [0, 0] }]).wf = true := by decide

/-! Single steps. `after c s` is the state that command `c` leaves (the same state where it stops). -/
/-- Ring 0 runs with D 3 and S and F 5. -/
def ringAt : State := run' 0 3 5 5 base
/-- Ring 0 enabled at address 4096 with two entries handed over. -/
def ringOf (n : Nat) (s : State) : State := setRing n { ring s n with cfg := setFlag (ring s n).cfg 31 true, baseLo := 4096, s := 2 } s
/-- The start-up self-test runs. -/
def selfTest : State := { base with startup := { base.startup with phase := 6 }, loops := { base.loops with bistActive := true } }
def after (c : Instr) (s : State) : State :=
  match exec c s with
  | .next u => u
  | _ => s
/-- A command stops. -/
def stops (c : Instr) (s : State) : Bool :=
  match exec c s with
  | .fault _ => true
  | _ => false

theorem test_step_idles : step base = .next base := rfl
theorem test_step_takes_the_front (s : State) :
    step { s with pending := [.ppsEdge 3, .fix 4] } = exec (.ppsEdge 3) { s with pending := [.fix 4] } := rfl
theorem test_time_advances : (after (.ppsEdge 9) base).now = 9 := by decide
theorem test_time_never_back : (after (.ppsEdge 3) { base with now := 9 }).now = 9 := by decide
/-- R58: S moves to a value in range. -/
theorem test_doorbell_moves_s : (ring (after (.doorbell 0 .host 0 4 6 []) ringAt) 0).s = 6 := by decide
/-- R58: a value out of range leaves S and is counted. -/
theorem test_doorbell_out_of_range :
    (let u := after (.doorbell 0 .host 0 4 2 []) ringAt; (ring u 0).s = 5 ∧ tally u T.doorbellReject = 1) := by decide
/-- R76: software's store into an entry it has handed over is undefined use. -/
theorem test_store_into_owned_entry_stops :
    stops (.doorbell 0 .host 0 4 2 [{ space := .hostMem, addr := 4096, bytes := [1] }]) (ringOf 0 base) = true := by decide
/-- R65: a write of enable 0 disables the ring. -/
theorem test_ring_disable : (ring (after (.ringDisable 0 .host 90 0) (run 90 base)) 90).enable = false := by decide
/-- R67: nothing is sent while bus master enable is 0; R63: a masked vector stays pending. -/
theorem test_masked_vector_pends : (after (.msixUnmask 0 (some 3) true) base).out = [] := by decide
/-- R17, R37: a write to an offset without a register is ignored and counted as a bad access of cause 1. -/
theorem test_unassigned_write_is_ignored :
    (let u := after (.registerWrite 0 .host 0xFFC 4 1) base; u.regs = base.regs ∧ u.security.badAcc ≠ base.security.badAcc) := by decide
/-- R12, R438: device time is 0 after a cold reset; R492: the power-cycle count goes up by one. -/
theorem test_cold_reset : (let u := after (.coldReset ⟨7, 700, 1800, 3300, 100, 0⟩) { base with now := 7 }; u.now = 0 ∧ u.aon.powerCycles = base.aon.powerCycles + 1) := by decide
/-- R492: an always-on reset clears both counters. -/
theorem test_always_on_reset :
    (let u := after (.alwaysOnReset ⟨7, 1700, 2900, 100⟩) { base with aon := { base.aon with opSeconds := 5, powerCycles := 6 } }; u.aon.opSeconds = 0 ∧ u.aon.powerCycles = 0) := by decide
theorem test_operating_second : (after (.operatingTimeTick 200000000) base).aon.opSeconds = 1 := by decide
/-- R522: the device enters operational with the passed self-test. -/
theorem test_operational : (after (.bistResult 10000000 true) selfTest).startup.phase = 7 := by decide
/-- R77: a read of the low word returns it and latches the high word for the same reader. -/
theorem test_time_pair :
    (let u := after (.courseTimeLoRead 0x200000003 .host 4) base; u.readData = 3 ∧ regRead u .host (R.COURSE_TIME_LO.base + 4) = 2) := by decide
/-- R119: A before B counts up, B before A counts down, and a change of both is an error that counts nothing. -/
theorem test_quadrature_up : (fb (after (.quadratureEdge 0 0 ⟨true, 100⟩ ⟨false, 100⟩) (fbS 0 2 id)) 0).pos = 1 := by decide
theorem test_quadrature_down : (fb (after (.quadratureEdge 0 0 ⟨false, 100⟩ ⟨true, 100⟩) (fbS 0 2 id)) 0).pos = -1 := by decide
theorem test_quadrature_both : (fb (after (.quadratureEdge 0 0 ⟨true, 100⟩ ⟨true, 100⟩) (fbS 0 2 id)) 0).pos = 0 := by decide
/-- R117: a low level shorter than the filter is not taken, so a low level accepted before lets the pulse count, and a high one does not. -/
theorem test_pulse_after_glitch : (fb (after (.pulseEdge 0 0 ⟨900, 1, 100⟩) (fbS 1 2 id)) 0).pos = 1 := by decide
theorem test_pulse_without_low : (fb (after (.pulseEdge 0 0 ⟨900, 1, 100⟩) (fbS 1 2 (fun c => { c with a := true }))) 0).pos = 0 := by decide
/-- R122: from Hall code 5 to 4 the position goes up by one; a code skipped is an error that counts nothing. -/
theorem test_hall_step : (fb (after (.hallStep 0 0 4 ⟨900, 100, 100, 100⟩) (fbS 3 2 (fun c => { c with hall := 5 }))) 0).pos = 1 := by decide
theorem test_hall_skip : (fb (after (.hallStep 0 0 6 ⟨900, 100, 100, 100⟩) (fbS 3 2 (fun c => { c with hall := 5 }))) 0).pos = 0 := by decide
/-- R133: a disabled channel is off. -/
theorem test_feedback_disable : (fb (after (.fbDisable 0 .host 0 0) (fbS 0 2 id)) 0).st = 0 := by decide
/-- LANE_CONFIG binds the lane to its drive channel; a binding out of range configures nothing. -/
theorem test_lane_config : (lane (after (.laneConfig 0 0) (wb 0x10 (lcfg 5 1 1 0 3) base)) 5).binding = .direct 3 := by decide
theorem test_lane_config_refused : (lane (after (.laneConfig 0 0) (wb 0x10 (lcfg 5 1 1 9 3) base)) 5).configured = false := by decide
/-- R202: both milestones are placed, or none where the pool has room for one. -/
theorem test_mark_places_both : (lane (after (.mark 0 0) (wb 0x20 (tgt 0 5 ++ ent 100 1 0 0 ++ ent 200 2 0 0 ++ ent 0 0 0 0) (lane5 id base))) 5).queue.length = 2 := by decide
theorem test_mark_all_or_nothing : (lane (after (.mark 0 0) (wb 0x20 (tgt 0 5 ++ ent 100 1 0 0 ++ ent 200 2 0 0 ++ ent 0 0 0 0) (eng (fun e => { e with poolFree := 1 }) (lane5 id base)))) 5).queue.length = 0 := by decide
theorem test_set_rate : (lane (after (.setRate 0 0) (wb 0x15 (tgt 0 5 ++ b4 77) (lane5 id base))) 5).rate = 77 := by decide
/-- A supplied tile takes a cache slot. -/
theorem test_supply_takes_a_slot : (after (.supply 0) (bmast (tb 1 (sup 1 2 64 0) base))).engine.coverage.slots.length = 1 := by decide
/-- R355: a reload copies the shadows; R346: an enabled channel is started at its reload. -/
theorem test_pwm_disable : (pwmCh (after (.pwmDisable 0 .host 0 0) (chans (fun c => { c with started := true }) base)) 0).safe = true := by decide
/-- R396, R398: a transmit error adds 8 to the transmit error count, and above 255 the port is bus-off. -/
theorem test_bus_off :
    (busPort (after (.canAttemptError 0 0 2 false 20 { exempt := false, wrong := (0, 100000), phase := 0, delay := none }) (pb (fun b => { b with st := 2, tec := 250, attempt := some at0, queue := [q] }) (en base))) 0).busOff = true := by decide
/-- R310: an accepted GRANT gives the drive die the lease epoch; a REVOKE takes it away. -/
theorem test_grant : (after (.grant 0) (inDown (.grant 4) unl 0)).drive.lease.e = 4 := by decide
theorem test_revoke : (after (.revoke 0) (inDown .revoke lsd 1)).drive.lease.e = 0 := by decide
/-- R301: a profile in use takes no write. -/
theorem test_profile_in_use_stops : stops (.profileValidate 0 .host 0 0) (nth undefinedUseStopsStates 4) = true := by decide
/-- R302: the CRC-32 of IEEE 802.3 over the nine digits is its published check value. -/
theorem test_crc32_check_value : crc32 [0x31, 0x32, 0x33, 0x34, 0x35, 0x36, 0x37, 0x38, 0x39] = 0xCBF43926 := by decide
/-- R302: a frame as sent passes its check sum, and one flipped bit fails it. -/
theorem test_wire_flip :
    (let f : Frame := { seq := 1, epoch := 2, ack := 3, leaseEpoch := 4, body := .grant 5 }; wireOk f.wire = true ∧ wireOk (flipBits f.wire [1]) = false) := by decide

/-! Witnesses: states and operands that meet the hypotheses of the statements, clause by clause. -/
theorem witness_StepTakesTheFrontCommand_1 : { base with pending := [Instr.ppsEdge 3] }.pending = Instr.ppsEdge 3 :: [] := rfl
theorem witness_StepTakesTheFrontCommand_2 : base.pending = [] := rfl
theorem witness_CommandsLeaveTheQueue_1 : ∃ u, exec (.ppsEdge 3) base = .next u := ⟨_, rfl⟩
theorem witness_EveryStepKeepsMemoriesCanonical_1 :
    Canonical { base with pending := [Instr.ppsEdge 3] } ∧ ∃ u, step { base with pending := [Instr.ppsEdge 3] } = .next u :=
  ⟨⟨by decide, by decide, by decide⟩, _, rfl⟩
theorem witness_TimeAndErasedKeysNeverComeBack_1 : (∃ u, exec (.ppsEdge 3) base = .next u) ∧ ∀ x, Instr.ppsEdge 3 ≠ .coldReset x :=
  ⟨⟨_, rfl⟩, fun _ h => nomatch h⟩
theorem witness_TimeAndErasedKeysNeverComeBack_2 :
    (∃ u, exec (.ppsEdge 3) { base with security := { base.security with deadBits := 255 } } = .next u) ∧
      ({ base with security := { base.security with deadBits := 255 } } : State).security.keysDead = true :=
  ⟨⟨_, rfl⟩, by decide⟩
theorem witness_TheCountersOfLife_1 :
    ∃ u, exec (.ppsEdge 3) base = .next u ∧ (∀ t, Instr.ppsEdge 3 ≠ .operatingTimeTick t) ∧ (∀ x, Instr.ppsEdge 3 ≠ .coldReset x) ∧
      ∀ x, Instr.ppsEdge 3 ≠ .alwaysOnReset x :=
  ⟨_, rfl, (fun _ h => nomatch h), (fun _ h => nomatch h), (fun _ h => nomatch h)⟩
theorem witness_TheCountersOfLife_2 :
    (base.startup.released = true ∧ base.aon.opAt + secUnits ≤ (begin' 200000000 base).now) ∧ ((700 < 740 ∨ 1800 < 1650 ∨ 3300 < 3000) ∧ 100 ≤ 100) ∧
      1700 < 1800 ∧ 2900 < 3000 := by decide
theorem witness_LatchedPairsHoldTheirHighWord_1 :
    latchesAt R.COURSE_PPS_LO.base = true ∧ R.COURSE_PPS_LO.base < 2 ^ 20 ∧ readable base .host R.COURSE_PPS_LO.base = true ∧
      readable base .host (R.COURSE_PPS_LO.base + 4) = true := by decide
theorem witness_LatchedPairsHoldTheirHighWord_2 :
    (∃ u, exec (.ppsEdge 3) base = .next u) ∧ (∀ t a n, Instr.ppsEdge 3 ≠ .courseTimeLoRead t a n) ∧ (∀ t a n, Instr.ppsEdge 3 ≠ .courseMcLoRead t a n) ∧
      ∀ t a off n, Instr.ppsEdge 3 ≠ .latchedPairLoRead t a off n :=
  ⟨⟨_, rfl⟩, (fun _ _ _ h => nomatch h), (fun _ _ _ h => nomatch h), (fun _ _ _ _ h => nomatch h)⟩

set_option linter.unusedVariables false

theorem witness_UndefinedUseStops :
    (let t : Time := 1;
     let a : Actor := Actor.host;
     let s : State := nth undefinedUseStopsStates 2;
     let stores : List Store := [{ space := Space.hostMem, addr := 4096, bytes := [1#8, 0#8, 2#8] : Store }];
     storesMisuse (begin' t s) (List.filter (storeAllowed (begin' t s) a) stores) = true) ∧
    (let a : Actor := Actor.host;
     let s : State := nth registerWritesPassTheirGateStates 2;
     gateWrite s a R.COURSE_HITCH_GEOM.base 4 = Gate.allow ∧ implementOn s = true) ∧
    (let a : Actor := Actor.host;
     let s : State := nth undefinedUseStopsStates 4;
     let slot : Fin 32 := 0;
     slotInUse s ↑slot = true ∧ gateWrite s a (regOff R.DRV_PROF_HDR (↑slot) 0) 4 = Gate.allow) ∧
    (let a : Actor := Actor.host;
     let s : State := nth undefinedUseStopsStates 3;
     let p : Fin 32 := 0;
     let c : Fin 64 := 0;
     portEnabled s ↑p = true ∧ ttOn s ↑p = true ∧ gateWrite s a (R.CAN_TT_COL.base + 1024 * ↑p + 16 * ↑c) 4 = Gate.allow) := by and_intros <;> decide

theorem witness_EntryToOperational :
    let s : State := nth entryToOperationalCases 0;
    s.startup.phase = 6 ∧ s.loops.bistActive = true := by decide

theorem witness_DoorbellsMoveTheIndexOrAreIgnored :
    (let a : Actor := Actor.host;
     a = Actor.host) ∧
    (let t : Time := 0;
     let a : Actor := Actor.core 0;
     let stores : List Store := [];
     let s : State := nth coreStores 0;
     let b : State := begin' t s;
     let made : List Store := List.filter (storeAllowed b a) stores;
     let k : Fin 4 := 0;
     a = Actor.core k ∧ reaches b a = true ∧ made = stores) ∧
    (let t : Time := 0;
     let a : Actor := Actor.core 0;
     let s : State := base;
     let b : State := begin' t s;
     let k : Fin 4 := 0;
     a = Actor.core k ∧ reaches b a = false) ∧
    (let t : Time := 0;
     let a : Actor := Actor.core 0;
     let stores : List Store := [{ space := Space.hostMem, addr := 5, bytes := [1#8, 0#8, 2#8] : Store }];
     let s : State := nth coreStores 0;
     let b : State := begin' t s;
     let k : Fin 4 := 0;
     let x : Store := { space := Space.hostMem, addr := 5, bytes := [1#8, 0#8, 2#8] : Store };
     a = Actor.core k ∧ stores = [x] ∧ reaches b a = true ∧ storeAllowed b a x = false) ∧
    (let t : Time := 1;
     let a : Actor := Actor.host;
     let stores : List Store := [{ space := Space.hostMem, addr := 4096, bytes := [1#8, 0#8, 2#8] : Store }];
     let s : State := State.reset;
     let b : State := begin' t s;
     let made : List Store := List.filter (storeAllowed b a) stores;
     let z : State := actorStores a stores b;
     storesMisuse b made = false ∧ reaches z a = false) ∧
    (let t : Time := 3;
     let a : Actor := Actor.host;
     let off : Nat := 1000000;
     let stores : List Store := [{ space := Space.hostMem, addr := 5, bytes := [1#8, 0#8, 2#8] : Store }];
     let s : State := nth doorbellsMoveTheIndexOrAreIgnoredStates 1;
     let b : State := begin' t s;
     let made : List Store := List.filter (storeAllowed b a) stores;
     let z : State := actorStores a stores b;
     storesMisuse b made = false ∧ reaches z a = true ∧ 1024 ≤ off) ∧
    (let t : Time := 1;
     let a : Actor := Actor.host;
     let off : Nat := 0;
     let size : Nat := 2;
     let stores : List Store := [{ space := Space.hostMem, addr := 4096, bytes := [1#8, 0#8, 2#8] : Store }];
     let s : State := nth doorbellsMoveTheIndexOrAreIgnoredStates 0;
     let b : State := begin' t s;
     let made : List Store := List.filter (storeAllowed b a) stores;
     let z : State := actorStores a stores b;
     let fits : Prop := size = 4 ∧ off % 4 = 0 ∨ size = 8 ∧ off % 8 = 0;
     storesMisuse b made = false ∧ reaches z a = true ∧ off < 1024 ∧ ¬fits) ∧
    (let t : Time := 1;
     let a : Actor := Actor.host;
     let off : Nat := 0;
     let size : Nat := 4;
     let stores : List Store := [];
     let s : State := nth pairReadsLatchTheHighWordCases 0;
     let b : State := begin' t s;
     let made : List Store := List.filter (storeAllowed b a) stores;
     let z : State := actorStores a stores b;
     let fits : Prop := size = 4 ∧ off % 4 = 0 ∨ size = 8 ∧ off % 8 = 0;
     storesMisuse b made = false ∧ reaches z a = true ∧ off < 1024 ∧ fits ∧ setupOpen z = false) ∧
    (let t : Time := 1;
     let a : Actor := Actor.host;
     let off : Nat := 4;
     let size : Nat := 4;
     let stores : List Store := [{ space := Space.hostMem, addr := 4096, bytes := [1#8, 0#8, 2#8] : Store }];
     let s : State := nth doorbellsMoveTheIndexOrAreIgnoredStates 0;
     let b : State := begin' t s;
     let made : List Store := List.filter (storeAllowed b a) stores;
     let z : State := actorStores a stores b;
     let fits : Prop := size = 4 ∧ off % 4 = 0 ∨ size = 8 ∧ off % 8 = 0;
     storesMisuse b made = false ∧ reaches z a = true ∧ off < 1024 ∧ fits ∧ setupOpen z = true ∧ off % 8 ≠ 0) ∧
    (let t : Time := 0;
     let a : Actor := Actor.host;
     let off : Nat := 0;
     let size : Nat := 8;
     let stores : List Store := [{ space := Space.hostMem, addr := 4096, bytes := [1#8, 0#8, 2#8] : Store }];
     let s : State := nth doorbellsMoveTheIndexOrAreIgnoredStates2 6;
     let n : Nat := off / 8;
     let b : State := begin' t s;
     let made : List Store := List.filter (storeAllowed b a) stores;
     let z : State := actorStores a stores b;
     let fits : Prop := size = 4 ∧ off % 4 = 0 ∨ size = 8 ∧ off % 8 = 0;
     storesMisuse b made = false ∧ reaches z a = true ∧ off < 1024 ∧ fits ∧ setupOpen z = true ∧ off % 8 = 0 ∧ ringOwner z n ≠ actorCode a) ∧
    (let t : Time := 1;
     let a : Actor := Actor.host;
     let off : Nat := 0;
     let size : Nat := 4;
     let stores : List Store := [];
     let s : State := nth doorbellsMoveTheIndexOrAreIgnoredStates 0;
     let n : Nat := off / 8;
     let b : State := begin' t s;
     let made : List Store := List.filter (storeAllowed b a) stores;
     let z : State := actorStores a stores b;
     let r : Ring := ring z n;
     let fits : Prop := size = 4 ∧ off % 4 = 0 ∨ size = 8 ∧ off % 8 = 0;
     storesMisuse b made = false ∧
       reaches z a = true ∧ off < 1024 ∧ fits ∧ setupOpen z = true ∧ off % 8 = 0 ∧ ringOwner z n = actorCode a ∧ r.running = false) ∧
    (let t : Time := 1;
     let a : Actor := Actor.host;
     let off : Nat := 0;
     let size : Nat := 4;
     let v : W64 := 0;
     let stores : List Store := [];
     let s : State := nth doorbellsMoveTheIndexOrAreIgnoredStates 7;
     let n : Nat := off / 8;
     let w : W32 := BitVec.setWidth 32 v;
     let b : State := begin' t s;
     let made : List Store := List.filter (storeAllowed b a) stores;
     let z : State := actorStores a stores b;
     let r : Ring := ring z n;
     let fits : Prop := size = 4 ∧ off % 4 = 0 ∨ size = 8 ∧ off % 8 = 0;
     storesMisuse b made = false ∧
       reaches z a = true ∧ off < 1024 ∧ fits ∧ setupOpen z = true ∧ off % 8 = 0 ∧ ringOwner z n = actorCode a ∧ r.running = true ∧ doorbellOk r w = false) ∧
    (let t : Time := 1;
     let a : Actor := Actor.host;
     let off : Nat := 0;
     let size : Nat := 4;
     let v : W64 := 0;
     let stores : List Store := [];
     let s : State := nth doorbellsMoveTheIndexOrAreIgnoredStates 6;
     let n : Nat := off / 8;
     let w : W32 := BitVec.setWidth 32 v;
     let b : State := begin' t s;
     let made : List Store := List.filter (storeAllowed b a) stores;
     let z : State := actorStores a stores b;
     let r : Ring := ring z n;
     let fits : Prop := size = 4 ∧ off % 4 = 0 ∨ size = 8 ∧ off % 8 = 0;
     storesMisuse b made = false ∧
       reaches z a = true ∧
         off < 1024 ∧ fits ∧ setupOpen z = true ∧ off % 8 = 0 ∧ ringOwner z n = actorCode a ∧ r.running = true ∧ doorbellOk r w = true ∧ r.isPost = true) := by and_intros <;> decide

theorem witness_FetchAndMirrorFollowTheIndices_FetchReadsTheNextEntry :
    (let n : Fin 128 := 100;
     let s : State := nth doorbellsMoveTheIndexOrAreIgnoredStates 0;
     mayFetch s ↑n = false ∨ proxyFull s ↑n = true) ∧
    (let n : Fin 128 := 0;
     let s : State := nth doorbellsMoveTheIndexOrAreIgnoredStates 7;
     let r : Ring := ring s ↑n;
     let x : Desc := { index := r.f, bytes := dmaRead s r.onChip (r.entryAddr r.f) r.entryBytes : Desc };
     mayFetch s ↑n = true ∧
       proxyFull s ↑n = false ∧ fetchMisuse s ↑n = false ∧ ∀ (y : Desc), y ∈ r.fetched ++ [x] → knownOpcode r.kind (u16 y.bytes 0) = true) ∧
    (let n : Fin 128 := 0;
     let s : State := nth doorbellsMoveTheIndexOrAreIgnoredStates 21;
     let r : Ring := ring s ↑n;
     let x : Desc := { index := r.f, bytes := dmaRead s r.onChip (r.entryAddr r.f) r.entryBytes : Desc };
     mayFetch s ↑n = true ∧ proxyFull s ↑n = false ∧ fetchMisuse s ↑n = false ∧ r.fetched = [] ∧ knownOpcode r.kind (u16 x.bytes 0) = false) := by and_intros <;> decide

theorem witness_FetchAndMirrorFollowTheIndices_MirrorHoldsTheIndexAndTheDrops :
    (let n : Fin 128 := 100;
     let s : State := nth doorbellsMoveTheIndexOrAreIgnoredStates 0;
     s.cister.mirrorDue.contains ↑n = false ∨ busOk s = false) ∧
    (let n : Fin 128 := 0;
     let s : State := nth doorbellsMoveTheIndexOrAreIgnoredStates 23;
     let lo : W32 := rd s R.CISTER_MIRROR_BASE_LO 0;
     s.cister.mirrorDue.contains ↑n = true ∧ busOk s = true ∧ flag lo 0 = true ∧ (ring s ↑n).onChip = false) ∧
    (let n : Fin 128 := 0;
     let s : State := nth doorbellsMoveTheIndexOrAreIgnoredStates 1;
     let lo : W32 := rd s R.CISTER_MIRROR_BASE_LO 0;
     s.cister.mirrorDue.contains ↑n = true ∧ busOk s = true ∧ (flag lo 0 = false ∨ (ring s ↑n).onChip = true)) := by and_intros <;> decide

theorem witness_RingsStartStopAndFault_RingEnableStartsTheRing :
    (let v : W32 := 5;
     flag v 31 = false) ∧
    (let a : Actor := Actor.host;
     let n : Fin 128 := 8;
     let v : W32 := 3221225731;
     let s : State := nth pairReadsLatchTheHighWordCases 1;
     let off : Nat := regOff R.CISTER_RING_CFG (↑n) 0;
     let k : Nat := 4;
     flag v 31 = true ∧ ringsMisuse s = false ∧ gateWrite s a off 4 = Gate.bad k) ∧
    (let a : Actor := Actor.host;
     let n : Fin 128 := 100;
     let v : W32 := 2147483907;
     let s : State := nth pairReadsLatchTheHighWordCases 0;
     let off : Nat := regOff R.CISTER_RING_CFG (↑n) 0;
     flag v 31 = true ∧ ringsMisuse s = false ∧ gateWrite s a off 4 = Gate.ignore) ∧
    (let a : Actor := Actor.host;
     let n : Fin 128 := 8;
     let v : W32 := 2147483648;
     let s : State := nth doorbellsMoveTheIndexOrAreIgnoredStates 0;
     let off : Nat := regOff R.CISTER_RING_CFG (↑n) 0;
     let o : Ring := ring s ↑n;
     flag v 31 = true ∧ ringsMisuse s = false ∧ gateWrite s a off 4 = Gate.allow ∧ o.enable = true) ∧
    (let t : Time := 1;
     let a : Actor := Actor.host;
     let n : Fin 128 := 8;
     let v : W32 := 2147483648;
     let s : State := nth doorbellsMoveTheIndexOrAreIgnoredStates 1;
     let b : State := begin' t s;
     let off : Nat := regOff R.CISTER_RING_CFG (↑n) 0;
     let o : Ring := ring s ↑n;
     let r : Ring :=
       { baseLo := o.baseLo, baseHi := o.baseHi, cfg := if o.idle = true then cfgMerge (↑n) o.cfg v else setFlag o.cfg 31 true, fault := o.fault,
         cause := o.cause, stop := o.stop, fwOwner := o.fwOwner, s := o.s, d := o.d, f := o.f, drops := o.drops, episode := o.episode,
         fetched := o.fetched, backlog := o.backlog, leftover := o.leftover : Ring };
     let r' : Ring :=
       { baseLo := r.baseLo, baseHi := r.baseHi, cfg := r.cfg, fault := r.fault, cause := r.cause, fwOwner := r.fwOwner, drops := r.drops,
         fetched := r.fetched, backlog := r.backlog, leftover := !o.fetched.isEmpty : Ring };
     let u : State := enableEffects (↑n) ((if o.d ≠ 0 then mirrorMark ↑n else id) (setTally (↑n) 0 (setRing (↑n) r' b)));
     let m : Nat := 0;
     flag v 31 = true ∧
       gateWrite s a off 4 = Gate.allow ∧
         o.enable = false ∧ enableCause s (↑n) r = 0 ∧ ringsMisuse u = false ∧ r.kind ≠ 13 ∧ r.kind ≠ 7 ∧ r.kind ≠ 12 ∧ m ≠ ↑n) ∧
    (let t : Time := 1;
     let a : Actor := Actor.host;
     let n : Fin 128 := 100;
     let v : W32 := 2147483907;
     let s : State := nth doorbellsMoveTheIndexOrAreIgnoredStates 0;
     let b : State := begin' t s;
     let off : Nat := regOff R.CISTER_RING_CFG (↑n) 0;
     let o : Ring := ring s ↑n;
     let r : Ring :=
       { baseLo := o.baseLo, baseHi := o.baseHi, cfg := if o.idle = true then cfgMerge (↑n) o.cfg v else setFlag o.cfg 31 true, fault := o.fault,
         cause := o.cause, stop := o.stop, fwOwner := o.fwOwner, s := o.s, d := o.d, f := o.f, drops := o.drops, episode := o.episode,
         fetched := o.fetched, backlog := o.backlog, leftover := o.leftover : Ring };
     let no : State :=
       notify 1 (↑n) (enableCause s (↑n) r)
         (setRing ↑n
           { baseLo := r.baseLo, baseHi := r.baseHi, cfg := setFlag r.cfg 31 false, fault := true, cause := enableCause s (↑n) r, stop := r.stop,
             fwOwner := r.fwOwner, s := r.s, d := r.d, f := r.f, drops := r.drops, episode := r.episode, fetched := r.fetched, backlog := r.backlog,
             leftover := r.leftover : Ring }
           b);
     flag v 31 = true ∧ gateWrite s a off 4 = Gate.allow ∧ o.enable = false ∧ enableCause s (↑n) r ≠ 0 ∧ ringsMisuse no = false) := by and_intros <;> decide

theorem witness_RingsStartStopAndFault_RingDisableClearsTheEnable :
    (let v : W32 := 2147483907;
     flag v 31 = true) ∧
    (let a : Actor := Actor.host;
     let n : Fin 128 := 100;
     let v : W32 := 5;
     let s : State := nth doorbellsMoveTheIndexOrAreIgnoredStates 12;
     let off : Nat := regOff R.CISTER_RING_CFG (↑n) 0;
     let k : Nat := 4;
     flag v 31 = false ∧ gateWrite s a off 4 = Gate.bad k) ∧
    (let a : Actor := Actor.host;
     let n : Fin 128 := 100;
     let v : W32 := 5;
     let s : State := nth pairReadsLatchTheHighWordCases 0;
     let off : Nat := regOff R.CISTER_RING_CFG (↑n) 0;
     flag v 31 = false ∧ gateWrite s a off 4 = Gate.ignore) ∧
    (let a : Actor := Actor.host;
     let n : Fin 128 := 90;
     let v : W32 := 5;
     let s : State := nth doorbellsMoveTheIndexOrAreIgnoredStates 22;
     let off : Nat := regOff R.CISTER_RING_CFG (↑n) 0;
     let r : Ring := ring s ↑n;
     flag v 31 = false ∧ gateWrite s a off 4 = Gate.allow ∧ r.enable = true ∧ r.isPost = false ∧ r.kind ≠ 2) ∧
    (let a : Actor := Actor.host;
     let n : Fin 128 := 8;
     let v : W32 := 5;
     let s : State := nth doorbellsMoveTheIndexOrAreIgnoredStates 0;
     let off : Nat := regOff R.CISTER_RING_CFG (↑n) 0;
     let r : Ring := ring s ↑n;
     flag v 31 = false ∧ gateWrite s a off 4 = Gate.allow ∧ r.enable = true ∧ r.kind = 2) ∧
    (let a : Actor := Actor.host;
     let n : Fin 128 := 32;
     let v : W32 := 0;
     let s : State := nth doorbellsMoveTheIndexOrAreIgnoredStates 8;
     let off : Nat := regOff R.CISTER_RING_CFG (↑n) 0;
     let r : Ring := ring s ↑n;
     flag v 31 = false ∧ gateWrite s a off 4 = Gate.allow ∧ r.enable = true ∧ r.kind = 3) ∧
    (let a : Actor := Actor.host;
     let n : Fin 128 := 86;
     let v : W32 := 5;
     let s : State := nth doorbellsMoveTheIndexOrAreIgnoredStates 17;
     let off : Nat := regOff R.CISTER_RING_CFG (↑n) 0;
     let r : Ring := ring s ↑n;
     flag v 31 = false ∧ gateWrite s a off 4 = Gate.allow ∧ r.enable = true ∧ r.kind = 9) ∧
    (let a : Actor := Actor.host;
     let n : Fin 128 := 85;
     let v : W32 := 5;
     let s : State := nth doorbellsMoveTheIndexOrAreIgnoredStates 14;
     let off : Nat := regOff R.CISTER_RING_CFG (↑n) 0;
     let r : Ring := ring s ↑n;
     flag v 31 = false ∧ gateWrite s a off 4 = Gate.allow ∧ r.enable = true ∧ r.isPost = true ∧ r.kind ≠ 3 ∧ r.kind ≠ 9) ∧
    (let a : Actor := Actor.host;
     let n : Fin 128 := 100;
     let v : W32 := 5;
     let s : State := nth doorbellsMoveTheIndexOrAreIgnoredStates 0;
     let off : Nat := regOff R.CISTER_RING_CFG (↑n) 0;
     let r : Ring := ring s ↑n;
     flag v 31 = false ∧ gateWrite s a off 4 = Gate.allow ∧ r.enable = false ∧ r.idle = true) ∧
    (let a : Actor := Actor.host;
     let n : Fin 128 := 0;
     let v : W32 := 0;
     let s : State := nth doorbellsMoveTheIndexOrAreIgnoredStates 9;
     let off : Nat := regOff R.CISTER_RING_CFG (↑n) 0;
     let r : Ring := ring s ↑n;
     flag v 31 = false ∧ gateWrite s a off 4 = Gate.allow ∧ r.enable = false ∧ r.idle = false) := by and_intros <;> decide

theorem witness_RingsStartStopAndFault_RingFaultStopsTheRing :
    (let n : Fin 128 := 90;
     let s : State := nth doorbellsMoveTheIndexOrAreIgnoredStates 22;
     let r : Ring := ring s ↑n;
     r.running = true ∧ r.isPost = false ∧ r.kind ≠ 2) ∧
    (let n : Fin 128 := 100;
     let s : State := nth doorbellsMoveTheIndexOrAreIgnoredStates 0;
     let r : Ring := ring s ↑n;
     r.running = false) ∧
    (let t : Time := 0;
     let n : Fin 128 := 85;
     let s : State := nth doorbellsMoveTheIndexOrAreIgnoredStates 14;
     let r : Ring := ring s ↑n;
     let b : State := begin' t s;
     let i : W32 := 0;
     let x : Desc := headDesc 0 (nth doorbellsMoveTheIndexOrAreIgnoredStates 13);
     let z : State := complete (↑n) x 6 0 (if r.kind = 8 then dropLoad i b else b);
     descAt s (↑n) i = some x ∧ stillReading s (↑n) x = true ∧ ∀ (y : Desc), nextDesc z ↑n = some y → knownOpcode (ring z ↑n).kind (u16 y.bytes 0) = true) ∧
    (let n : Fin 128 := 20;
     let s : State := nth doorbellsMoveTheIndexOrAreIgnoredStates 15;
     let i : W32 := 0;
     let x : Desc := headDesc 0 (nth doorbellsMoveTheIndexOrAreIgnoredStates 9);
     descAt s (↑n) i = some x ∧ stillReading s (↑n) x = false) ∧
    (let n : Fin 128 := 100;
     let s : State := nth doorbellsMoveTheIndexOrAreIgnoredStates 0;
     let i : W32 := 2147483907;
     descAt s (↑n) i = none) := by and_intros <;> decide

theorem witness_InterruptsAndHostResets_WithheldMessagesAreSentOnce :
    (let t : Time := 1;
     let s : State := nth doorbellsMoveTheIndexOrAreIgnoredStates 3;
     let b : State := begin' t s;
     let line : Fin 68 := 64;
     let m : Moderation := moderation s ↑line;
     let due : Prop := 0 < m.pending ∧ modHoldoff s ↑line ≤ nowUs b - m.first;
     due ∧ 64 ≤ ↑line) ∧
    (let t : Time := 1;
     let s : State := nth doorbellsMoveTheIndexOrAreIgnoredStates 4;
     let b : State := begin' t s;
     let seen : Nat → Prop := fun v => (eventPulse b.now (phaseUnits v) (tabGet { : EventLine } s.eventLines v)).snd = true;
     let line : Fin 68 := 1;
     let m : Moderation := moderation s ↑line;
     let due : Prop := 0 < m.pending ∧ modHoldoff s ↑line ≤ nowUs b - m.first;
     due ∧ ↑line < 64 ∧ withheld s ↑line = false ∧ seen ↑line) ∧
    (let t : Time := 0;
     let s : State := nth heldPulse 0;
     let b : State := begin' t s;
     let seen : Nat → Prop := fun v => (eventPulse b.now (phaseUnits v) (tabGet { : EventLine } s.eventLines v)).snd = true;
     let line : Fin 68 := 0;
     let m : Moderation := moderation s ↑line;
     let due : Prop := 0 < m.pending ∧ modHoldoff s ↑line ≤ nowUs b - m.first;
     due ∧ ↑line < 64 ∧ withheld s ↑line = false ∧ ¬seen ↑line) ∧
    (let t : Time := 3;
     let s : State := nth doorbellsMoveTheIndexOrAreIgnoredStates 24;
     let b : State := begin' t s;
     let line : Fin 68 := 0;
     let m : Moderation := moderation s ↑line;
     let due : Prop := 0 < m.pending ∧ modHoldoff s ↑line ≤ nowUs b - m.first;
     due ∧ ↑line < 64 ∧ withheld s ↑line = true) ∧
    (let t : Time := 1;
     let s : State := nth doorbellsMoveTheIndexOrAreIgnoredStates 0;
     let b : State := begin' t s;
     let line : Fin 68 := 32;
     let m : Moderation := moderation s ↑line;
     let due : Prop := 0 < m.pending ∧ modHoldoff s ↑line ≤ nowUs b - m.first;
     ¬due) := by and_intros <;> decide

theorem witness_InterruptsAndHostResets_FunctionLevelResetClearsTheHostSide :
    (let s : State := nth doorbellsMoveTheIndexOrAreIgnoredStates 0;
     (ring s 86).onChip = false) ∧
    (let s : State := nth doorbellsMoveTheIndexOrAreIgnoredStates 0;
     (lstream s streamSafety).queue.length < 64) := by and_intros <;> decide

theorem witness_InterruptsAndHostResets_HostWatchdogInhibitsTheMachine :
    (let a : Actor := Actor.host;
     let s : State := nth doorbellsMoveTheIndexOrAreIgnoredStates 0;
     let off : Nat := R.CISTER_HOST_WDOG.base;
     gateWrite s a off 4 = Gate.allow) ∧
    (let a : Actor := Actor.host;
     let s : State := nth pairReadsLatchTheHighWordCases 0;
     let off : Nat := R.CISTER_HOST_WDOG.base;
     gateWrite s a off 4 = Gate.ignore) ∧
    (let a : Actor := Actor.host;
     let s : State := nth pairReadsLatchTheHighWordCases 1;
     let off : Nat := R.CISTER_HOST_WDOG.base;
     let k : Nat := 4;
     gateWrite s a off 4 = Gate.bad k) ∧
    (let t : Time := 20000000000;
     let s : State := nth doorbellsMoveTheIndexOrAreIgnoredStates 23;
     let b : State := begin' t s;
     hostWdogDue b = true ∧ rb s R.CISTER_HOST_WDOG 0 31 = true) ∧
    (let t : Time := 1;
     let s : State := nth doorbellsMoveTheIndexOrAreIgnoredStates 0;
     let b : State := begin' t s;
     hostWdogDue b = false) := by and_intros <;> decide

theorem witness_SweepCloseAndCourseTimers_SweepCloseClosesTheSweep :
    (let t : Time := 200000;
     let s : State := nth sweepCloseClosesTheSweepCases 0;
     let b : State := begin' t s;
     setupOpen s = true ∧ (s.course.closed = true → sweepDue s ≤ b.now) ∧ s.engine.convoy.waiting = []) ∧
    (let t : Time := 200000;
     let imu : Option (Time × W32) := some (20000000, 1#32);
     let s : State := nth sweepCloseClosesTheSweepCases 0;
     let b : State := begin' t s;
     let z : Bool × State := drainForwarded 128 (false, sweep imu b);
     setupOpen s = true ∧ (s.course.closed = true → sweepDue s ≤ b.now) ∧ z.fst = false) ∧
    (let t : Time := 200000;
     let s : State := State.reset;
     let b : State := begin' t s;
     setupOpen s = false ∨ s.course.closed = true ∧ b.now < sweepDue s) := by and_intros <;> decide

theorem witness_SweepCloseAndCourseTimers_CourseTimersAct :
    (let t : Time := 200000;
     let s : State := nth sweepCloseClosesTheSweepCases 3;
     let b : State := begin' t s;
     let c : Course := s.course;
     c.coasting = true ∧ c.coastAt + c.set.coastTime ≤ b.now ∧ c.rested = false ∧ flag c.set.src 16 = true) ∧
    (let t : Time := 200000;
     let s : State := nth sweepCloseClosesTheSweepCases 0;
     let b : State := begin' t s;
     let c : Course := s.course;
     c.coasting = true ∧ c.coastAt + c.set.coastTime ≤ b.now ∧ c.rested = false ∧ flag c.set.src 16 = false) ∧
    (let t : Time := 200000;
     let s : State := base;
     let b : State := begin' t s;
     let c : Course := s.course;
     c.coasting = false ∨ b.now < c.coastAt + c.set.coastTime ∨ c.rested = true) ∧
    (let t : Time := 200000;
     let s : State := nth sweepCloseClosesTheSweepCases 0;
     let b : State := begin' t s;
     let c : Course := s.course;
     let soon : Prop := c.ppsSeen = true ∧ b.now - c.ppsTime < 20000000;
     ¬soon) ∧
    (let t : Time := 200000;
     let s : State := nth sweepCloseClosesTheSweepCases 3;
     let b : State := begin' t s;
     let c : Course := s.course;
     let soon : Prop := c.ppsSeen = true ∧ b.now - c.ppsTime < 20000000;
     soon) := by and_intros <;> decide

theorem witness_PoseDescriptorsApply :
    (let x : Desc := headDesc 87 (nth poseDescriptorsApplyStates 15);
     let s : State := nth poseDescriptorsApplyStates 15;
     Ready s 87 3 x ∧ poseValid x 2 = true) ∧
    (let x : Desc := headDesc 87 (nth poseDescriptorsApplyStates 3);
     let s : State := nth poseDescriptorsApplyStates 3;
     Ready s 87 3 x ∧ poseValid x 2 = false) ∧
    (let x : Desc := headDesc 87 (nth poseDescriptorsApplyStates 1);
     let s : State := nth poseDescriptorsApplyStates 1;
     Ready s 87 1 x) ∧
    (let x : Desc := headDesc 87 (nth poseDescriptorsApplyStates 1);
     let s : State := nth poseDescriptorsApplyStates 1;
     s.course.fixDue = [x]) ∧
    (let x : Desc := headDesc 87 (nth poseDescriptorsApplyStates 1);
     let s : State := State.reset;
     lookupAt s (u64 x.bytes 8) = Lookup.expired) ∧
    (let x : Desc := headDesc 87 (nth poseDescriptorsApplyStates 197);
     let s : State := nth poseDescriptorsApplyStates 180;
     lookupAt s (u64 x.bytes 8) = Lookup.future) ∧
    (let x : Desc := headDesc 87 (nth poseDescriptorsApplyStates 2);
     let s : State := nth poseDescriptorsApplyStates 196;
     Ready s 87 2 x ∧ s.course.fixDue = [] ∧ lookupAt s (u64 x.bytes 8) = Lookup.expired) ∧
    (let x : Desc := headDesc 87 (nth poseDescriptorsApplyStates 197);
     let s : State := nth poseDescriptorsApplyStates 197;
     Ready s 87 2 x ∧ s.course.fixDue = [] ∧ lookupAt s (u64 x.bytes 8) = Lookup.future) ∧
    (let x : Desc := headDesc 87 (nth poseDescriptorsApplyStates 1);
     let s : State := nth poseDescriptorsApplyStates 0;
     let d : Int := 0;
     let px : Int := 0;
     let py : Int := 0;
     let ph : Int := 0;
     let w : Int := 0;
     let ex : Int := i32 x.bytes 16 - px;
     let ey : Int := i32 x.bytes 20 - py;
     let gate : Int := ↑(fld s.course.set.pose 15 0);
     lookupAt s (u64 x.bytes 8) = Lookup.found d px py ph w ∧ poseValid x 0 = true ∧ poseValid x 5 = false ∧ gate ≠ 0 ∧ gate * gate < ex * ex + ey * ey) ∧
    (let x : Desc := headDesc 87 (nth poseDescriptorsApplyStates 102);
     let s : State := nth poseDescriptorsApplyStates 0;
     let d : Int := 0;
     let px : Int := 0;
     let py : Int := 0;
     let ph : Int := 0;
     let w : Int := 0;
     let ex : Int := i32 x.bytes 16 - px;
     let ey : Int := i32 x.bytes 20 - py;
     let gate : Int := ↑(fld s.course.set.pose 15 0);
     lookupAt s (u64 x.bytes 8) = Lookup.found d px py ph w ∧ poseValid x 0 = true ∧ (poseValid x 5 = true ∨ gate = 0 ∨ ex * ex + ey * ey ≤ gate * gate)) ∧
    (let x : Desc := headDesc 87 (nth poseDescriptorsApplyStates 3);
     let s : State := nth poseDescriptorsApplyStates 0;
     let d : Int := 0;
     let px : Int := 0;
     let py : Int := 0;
     let ph : Int := 0;
     let w : Int := 0;
     lookupAt s (u64 x.bytes 8) = Lookup.found d px py ph w ∧ poseValid x 0 = false) ∧
    (let x : Desc := headDesc 87 (nth poseDescriptorsApplyStates 2);
     let s : State := nth poseDescriptorsApplyStates 8;
     let d : Int := 0;
     let px : Int := 0;
     let py : Int := 0;
     let ph : Int := 0;
     let w : Int := 0;
     lookupAt s (u64 x.bytes 8) = Lookup.found d px py ph w ∧ Ready s 87 2 x ∧ s.course.fixDue = []) := by and_intros <;> decide

theorem witness_LatchedPairsHoldTheirHighWord_PairReadsLatchTheHighWord :
    (let a : Actor := Actor.host;
     let size : Nat := 8;
     let s : State := nth pairReadsLatchTheHighWordCases 1;
     let fits : Prop := size = 4 ∨ size = 8;
     readable s a R.COURSE_TIME_LO.base = true ∧ fits) ∧
    (let a : Actor := Actor.host;
     let size : Nat := 32840;
     let s : State := nth pairReadsLatchTheHighWordCases 1;
     let fits : Prop := size = 4 ∨ size = 8;
     readable s a R.COURSE_TIME_LO.base = true ∧ ¬fits) ∧
    (let a : Actor := Actor.host;
     let s : State := nth pairReadsLatchTheHighWordCases 0;
     readable s a R.COURSE_TIME_LO.base = false) ∧
    (let a : Actor := Actor.host;
     let size : Nat := 8;
     let s : State := nth pairReadsLatchTheHighWordCases 1;
     let fits : Prop := size = 4 ∨ size = 8;
     readable s a R.COURSE_MC_LO.base = true ∧ fits) ∧
    (let a : Actor := Actor.host;
     let size : Nat := 32840;
     let s : State := nth pairReadsLatchTheHighWordCases 1;
     let fits : Prop := size = 4 ∨ size = 8;
     readable s a R.COURSE_MC_LO.base = true ∧ ¬fits) ∧
    (let a : Actor := Actor.host;
     let s : State := nth pairReadsLatchTheHighWordCases 0;
     readable s a R.COURSE_MC_LO.base = false) ∧
    (let a : Actor := Actor.host;
     let off : Nat := 32832;
     let size : Nat := 8;
     let s : State := nth pairReadsLatchTheHighWordCases 1;
     let fits : Prop := size = 4 ∨ size = 8;
     latchesAt off = true ∧ readable s a off = true ∧ readable s a (off + 4) = true ∧ fits) ∧
    (let a : Actor := Actor.host;
     let off : Nat := 32832;
     let size : Nat := 2;
     let s : State := nth pairReadsLatchTheHighWordCases 1;
     let fits : Prop := size = 4 ∨ size = 8;
     latchesAt off = true ∧ readable s a off = true ∧ ¬fits) ∧
    (let a : Actor := Actor.core 1;
     let off : Nat := 32840;
     let s : State := nth pairReadsLatchTheHighWordCases 0;
     latchesAt off = true ∧ readable s a off = false) ∧
    (let a : Actor := Actor.host;
     let off : Nat := 20536;
     let size : Nat := 32840;
     let s : State := nth pairReadsLatchTheHighWordCases 1;
     let plain : Prop := off < 2 ^ 20 ∧ latchesAt off = false ∧ ¬(readsApart off = true ∧ size = 4);
     plain ∧ readable s a off = true) ∧
    (let a : Actor := Actor.host;
     let off : Nat := 20536;
     let size : Nat := 32840;
     let s : State := nth pairReadsLatchTheHighWordCases 0;
     let plain : Prop := off < 2 ^ 20 ∧ latchesAt off = false ∧ ¬(readsApart off = true ∧ size = 4);
     plain ∧ readable s a off = false) ∧
    (let off : Nat := 20536;
     let size : Nat := 4;
     off < 2 ^ 20 ∧ readsApart off = true ∧ size = 4) ∧
    (let a : Actor := Actor.core 2;
     let off : Nat := 20000000000;
     let s : State := nth pairReadsLatchTheHighWordCases 0;
     2 ^ 20 ≤ off ∧ reaches s a = false) ∧
    (let a : Actor := Actor.host;
     let off : Nat := 20000000000;
     let s : State := nth pairReadsLatchTheHighWordCases 0;
     let k : Nat := off - 2 ^ 20;
     2 ^ 20 ≤ off ∧ reaches s a = true ∧ 1024 ≤ k) ∧
    (let a : Actor := Actor.host;
     let off : Nat := 1048584;
     let size : Nat := 1048576;
     let s : State := base;
     let word : Prop := size = 4 ∧ off % 4 = 0;
     let k : Nat := off - 2 ^ 20;
     2 ^ 20 ≤ off ∧ reaches s a = true ∧ k < 1024 ∧ ¬word) ∧
    (let a : Actor := Actor.host;
     let off : Nat := 1048584;
     let size : Nat := 4;
     let s : State := base;
     let word : Prop := size = 4 ∧ off % 4 = 0;
     let k : Nat := off - 2 ^ 20;
     2 ^ 20 ≤ off ∧ reaches s a = true ∧ k < 1024 ∧ word) ∧
    (let s : State := nth pairReadsLatchTheHighWordCases 0;
     inRecovery s = true) ∧
    (let s : State := nth pairReadsLatchTheHighWordCases 1;
     inRecovery s = false) := by and_intros <;> decide

theorem witness_FeedbackChannelsCount_QuadratureCountsGraySteps :
    (let n : Fin 16 := 0;
     let a : Bool := false;
     let b : Bool := true;
     let heldA : Nat := 2;
     let heldB : Nat := 5;
     let s : State := nth quadratureCountsGrayStepsCases 7;
     let c : FbCh := fb s ↑n;
     let filt : Nat := rf s R.FB_FILT (↑n) 7 0;
     let a' : Bool := if filt ≤ heldA then a else c.a;
     let b' : Bool := if filt ≤ heldB then b else c.b;
     fbMode s ↑n = 0 ∧ c.st ≠ 0 ∧ a' = !c.b ∧ b' = c.a) ∧
    (let n : Fin 16 := 0;
     let a : Bool := false;
     let b : Bool := false;
     let heldA : Nat := 4;
     let heldB : Nat := 6;
     let s : State := nth quadratureCountsGrayStepsCases 7;
     let c : FbCh := fb s ↑n;
     let filt : Nat := rf s R.FB_FILT (↑n) 7 0;
     let a' : Bool := if filt ≤ heldA then a else c.a;
     let b' : Bool := if filt ≤ heldB then b else c.b;
     fbMode s ↑n = 0 ∧ c.st ≠ 0 ∧ a' = c.b ∧ b' = !c.a) ∧
    (let n : Fin 16 := 0;
     let a : Bool := false;
     let b : Bool := false;
     let heldA : Nat := 1;
     let heldB : Nat := 900;
     let s : State := nth quadratureCountsGrayStepsCases 2;
     let c : FbCh := fb s ↑n;
     let filt : Nat := rf s R.FB_FILT (↑n) 7 0;
     let a' : Bool := if filt ≤ heldA then a else c.a;
     let b' : Bool := if filt ≤ heldB then b else c.b;
     fbMode s ↑n = 0 ∧ c.st ≠ 0 ∧ a' = c.a ∧ b' = c.b) ∧
    (let n : Fin 16 := 0;
     let a : Bool := true;
     let b : Bool := true;
     let heldA : Nat := 5;
     let heldB : Nat := 6;
     let s : State := nth quadratureCountsGrayStepsCases 2;
     let c : FbCh := fb s ↑n;
     let filt : Nat := rf s R.FB_FILT (↑n) 7 0;
     let a' : Bool := if filt ≤ heldA then a else c.a;
     let b' : Bool := if filt ≤ heldB then b else c.b;
     fbMode s ↑n = 0 ∧ c.st ≠ 0 ∧ (a' = !c.a ∧ b' = !c.b) ∧ rb s R.FB_CFG (↑n) 24 = false) ∧
    (let n : Fin 16 := 0;
     let a : Bool := false;
     let b : Bool := true;
     let heldA : Nat := 5;
     let heldB : Nat := 4;
     let s : State := nth quadratureCountsGrayStepsCases 7;
     let c : FbCh := fb s ↑n;
     let filt : Nat := rf s R.FB_FILT (↑n) 7 0;
     let a' : Bool := if filt ≤ heldA then a else c.a;
     let b' : Bool := if filt ≤ heldB then b else c.b;
     fbMode s ↑n = 0 ∧ c.st ≠ 0 ∧ (a' = !c.a ∧ b' = !c.b) ∧ rb s R.FB_CFG (↑n) 24 = true) ∧
    (let n : Fin 16 := 0;
     let s : State := nth quadratureCountsGrayStepsCases 0;
     let c : FbCh := fb s ↑n;
     fbMode s ↑n ≠ 0 ∨ c.st = 0) := by and_intros <;> decide

theorem witness_FeedbackChannelsCount_PulsesCountAndMeasure :
    (let n : Fin 16 := 0;
     let clocks : Nat := 900;
     let low : Nat := 900;
     let high : Nat := 6;
     let s : State := nth quadratureCountsGrayStepsCases 8;
     let c : FbCh := fb s ↑n;
     let filt : Nat := rf s R.FB_FILT (↑n) 7 0;
     let was : Bool := if filt ≤ low then false else c.a;
     let taken : Prop := filt ≤ high ∧ was = false;
     let fast : Prop := c.lastEdge ≠ none ∧ clocks < 800;
     let counting : Prop := c.st = 1 ∨ c.st = 2;
     fbMode s ↑n = 1 ∧ taken ∧ counting ∧ ¬fast) ∧
    (let n : Fin 16 := 0;
     let clocks : Nat := 4;
     let low : Nat := 20000000000;
     let high : Nat := 4;
     let s : State := nth quadratureCountsGrayStepsCases 9;
     let c : FbCh := fb s ↑n;
     let filt : Nat := rf s R.FB_FILT (↑n) 7 0;
     let was : Bool := if filt ≤ low then false else c.a;
     let taken : Prop := filt ≤ high ∧ was = false;
     let fast : Prop := c.lastEdge ≠ none ∧ clocks < 800;
     let counting : Prop := c.st = 1 ∨ c.st = 2;
     fbMode s ↑n = 1 ∧ taken ∧ counting ∧ fast ∧ c.fastEdges < 15) ∧
    (let n : Fin 16 := 0;
     let clocks : Nat := 4;
     let low : Nat := 20000000000;
     let high : Nat := 4;
     let s : State := nth quadratureCountsGrayStepsCases 8;
     let c : FbCh := fb s ↑n;
     let filt : Nat := rf s R.FB_FILT (↑n) 7 0;
     let was : Bool := if filt ≤ low then false else c.a;
     let taken : Prop := filt ≤ high ∧ was = false;
     let fast : Prop := c.lastEdge ≠ none ∧ clocks < 800;
     let counting : Prop := c.st = 1 ∨ c.st = 2;
     fbMode s ↑n = 1 ∧ taken ∧ counting ∧ fast ∧ 15 ≤ c.fastEdges) ∧
    (let n : Fin 16 := 0;
     let low : Nat := 20000000000;
     let high : Nat := 4;
     let s : State := nth quadratureCountsGrayStepsCases 0;
     let c : FbCh := fb s ↑n;
     let filt : Nat := rf s R.FB_FILT (↑n) 7 0;
     let was : Bool := if filt ≤ low then false else c.a;
     let taken : Prop := filt ≤ high ∧ was = false;
     fbMode s ↑n = 1 ∧ taken ∧ c.st = 3) ∧
    (let n : Fin 16 := 0;
     let low : Nat := 20000000000;
     let high : Nat := 1;
     let s : State := nth quadratureCountsGrayStepsCases 0;
     let c : FbCh := fb s ↑n;
     let filt : Nat := rf s R.FB_FILT (↑n) 7 0;
     let was : Bool := if filt ≤ low then false else c.a;
     let taken : Prop := filt ≤ high ∧ was = false;
     fbMode s ↑n ≠ 1 ∨ c.st = 0 ∨ ¬taken) ∧
    (let t : Time := 20000000000;
     let n : Fin 16 := 0;
     let s : State := nth quadratureCountsGrayStepsCases 8;
     let b : State := begin' t s;
     let c : FbCh := fb s ↑n;
     let counting : Prop := c.st = 1 ∨ c.st = 2;
     let quiet : Prop :=
       (fbMode s ↑n = 1 ∨ fbMode s ↑n = 3) ∧ counting ∧ Option.any (fun t0 => decide (rf s R.FB_PULSE (↑n) 15 0 * msUnits ≤ b.now - t0)) c.lastEdge = true;
     quiet) ∧
    (let t : Time := 1;
     let n : Fin 16 := 0;
     let s : State := nth quadratureCountsGrayStepsCases 0;
     let b : State := begin' t s;
     let c : FbCh := fb s ↑n;
     let counting : Prop := c.st = 1 ∨ c.st = 2;
     let quiet : Prop :=
       (fbMode s ↑n = 1 ∨ fbMode s ↑n = 3) ∧ counting ∧ Option.any (fun t0 => decide (rf s R.FB_PULSE (↑n) 15 0 * msUnits ≤ b.now - t0)) c.lastEdge = true;
     ¬quiet) := by and_intros <;> decide

theorem witness_FeedbackChannelsCount_HallStepsCount :
    (let n : Fin 16 := 0;
     let s : State := nth quadratureCountsGrayStepsCases 0;
     let c : FbCh := fb s ↑n;
     fbMode s ↑n ≠ 3 ∨ c.st = 0) ∧
    (let n : Fin 16 := 0;
     let heldU : Nat := 20000000000;
     let heldV : Nat := 1;
     let heldW : Nat := 1;
     let code : BitVec 3 := 2;
     let s : State := nth quadratureCountsGrayStepsCases 10;
     let c : FbCh := fb s ↑n;
     let filt : Nat := rf s R.FB_FILT (↑n) 7 0;
     let bit : Nat → Nat → Nat := fun i held => if filt ≤ held then code.toNat / 2 ^ i % 2 else c.hall / 2 ^ i % 2;
     let next : Nat := 4 * bit 2 heldU + 2 * bit 1 heldV + bit 0 heldW;
     let i : Nat := 4;
     let j : Nat := 4;
     fbMode s ↑n = 3 ∧ c.st ≠ 0 ∧ hallPlace c.hall = some i ∧ hallPlace next = some j ∧ j = i) ∧
    (let n : Fin 16 := 0;
     let heldU : Nat := 5;
     let heldV : Nat := 4;
     let heldW : Nat := 1;
     let code : BitVec 3 := 4;
     let s : State := nth quadratureCountsGrayStepsCases 10;
     let c : FbCh := fb s ↑n;
     let filt : Nat := rf s R.FB_FILT (↑n) 7 0;
     let bit : Nat → Nat → Nat := fun i held => if filt ≤ held then code.toNat / 2 ^ i % 2 else c.hall / 2 ^ i % 2;
     let next : Nat := 4 * bit 2 heldU + 2 * bit 1 heldV + bit 0 heldW;
     let i : Nat := 4;
     let j : Nat := 5;
     fbMode s ↑n = 3 ∧ c.st ≠ 0 ∧ hallPlace c.hall = some i ∧ hallPlace next = some j ∧ j = (i + 1) % 6) ∧
    (let n : Fin 16 := 0;
     let heldU : Nat := 900;
     let heldV : Nat := 6;
     let heldW : Nat := 0;
     let code : BitVec 3 := 2;
     let s : State := nth quadratureCountsGrayStepsCases 10;
     let c : FbCh := fb s ↑n;
     let filt : Nat := rf s R.FB_FILT (↑n) 7 0;
     let bit : Nat → Nat → Nat := fun i held => if filt ≤ held then code.toNat / 2 ^ i % 2 else c.hall / 2 ^ i % 2;
     let next : Nat := 4 * bit 2 heldU + 2 * bit 1 heldV + bit 0 heldW;
     let i : Nat := 4;
     let j : Nat := 3;
     fbMode s ↑n = 3 ∧ c.st ≠ 0 ∧ hallPlace c.hall = some i ∧ hallPlace next = some j ∧ j = (i + 5) % 6) ∧
    (let n : Fin 16 := 0;
     let heldU : Nat := 20000000000;
     let heldV : Nat := 4;
     let heldW : Nat := 6;
     let code : BitVec 3 := 2;
     let s : State := nth quadratureCountsGrayStepsCases 10;
     let c : FbCh := fb s ↑n;
     let filt : Nat := rf s R.FB_FILT (↑n) 7 0;
     let bit : Nat → Nat → Nat := fun i held => if filt ≤ held then code.toNat / 2 ^ i % 2 else c.hall / 2 ^ i % 2;
     let next : Nat := 4 * bit 2 heldU + 2 * bit 1 heldV + bit 0 heldW;
     let i : Nat := 4;
     let j : Nat := 2;
     fbMode s ↑n = 3 ∧ c.st ≠ 0 ∧ hallPlace c.hall = some i ∧ hallPlace next = some j ∧ j ≠ i ∧ j ≠ (i + 1) % 6 ∧ j ≠ (i + 5) % 6) ∧
    (let n : Fin 16 := 0;
     let heldU : Nat := 20000000000;
     let heldV : Nat := 1;
     let heldW : Nat := 900;
     let code : BitVec 3 := 0;
     let s : State := nth quadratureCountsGrayStepsCases 10;
     let c : FbCh := fb s ↑n;
     let filt : Nat := rf s R.FB_FILT (↑n) 7 0;
     let bit : Nat → Nat → Nat := fun i held => if filt ≤ held then code.toNat / 2 ^ i % 2 else c.hall / 2 ^ i % 2;
     let next : Nat := 4 * bit 2 heldU + 2 * bit 1 heldV + bit 0 heldW;
     fbMode s ↑n = 3 ∧ c.st ≠ 0 ∧ (hallPlace c.hall = none ∨ hallPlace next = none)) ∧
    (let t : Time := 900;
     let n : Fin 16 := 0;
     let s : State := nth quadratureCountsGrayStepsCases 10;
     let b : State := begin' t s;
     let c : FbCh := fb s ↑n;
     let lasted : Prop := Option.any (fun t0 => decide (wireWindow s ↑n < b.now - t0)) c.hallBadAt = true;
     let out : Prop := fbMode s ↑n = 3 ∧ c.st ≠ 0 ∧ lasted;
     out) ∧
    (let t : Time := 1;
     let n : Fin 16 := 0;
     let s : State := nth quadratureCountsGrayStepsCases 0;
     let b : State := begin' t s;
     let c : FbCh := fb s ↑n;
     let lasted : Prop := Option.any (fun t0 => decide (wireWindow s ↑n < b.now - t0)) c.hallBadAt = true;
     let out : Prop := fbMode s ↑n = 3 ∧ c.st ≠ 0 ∧ lasted;
     ¬out) := by and_intros <;> decide

theorem witness_FeedbackChannelsCount_IndexAndInterpolationKeepTheCount :
    (let n : Fin 16 := 0;
     let low : Nat := 4;
     let high : Nat := 20000000000;
     let s : State := nth quadratureCountsGrayStepsCases 3;
     let c : FbCh := fb s ↑n;
     let filt : Nat := rf s R.FB_FILT (↑n) 7 0;
     let was : Bool := if filt ≤ low then false else c.z;
     let taken : Prop := filt ≤ high ∧ was = false;
     (fbMode s ↑n = 0 ∨ fbMode s ↑n = 2) ∧ c.st ≠ 0 ∧ taken ∧ indexOk s (↑n) c.indexPos c.pos = true) ∧
    (let n : Fin 16 := 0;
     let low : Nat := 4;
     let high : Nat := 20000000000;
     let s : State := nth quadratureCountsGrayStepsCases 2;
     let c : FbCh := fb s ↑n;
     let filt : Nat := rf s R.FB_FILT (↑n) 7 0;
     let was : Bool := if filt ≤ low then false else c.z;
     let taken : Prop := filt ≤ high ∧ was = false;
     (fbMode s ↑n = 0 ∨ fbMode s ↑n = 2) ∧ c.st ≠ 0 ∧ taken ∧ indexOk s (↑n) c.indexPos c.pos = false) ∧
    (let n : Fin 16 := 0;
     let low : Nat := 4;
     let high : Nat := 20000000000;
     let s : State := nth quadratureCountsGrayStepsCases 0;
     let c : FbCh := fb s ↑n;
     let filt : Nat := rf s R.FB_FILT (↑n) 7 0;
     let was : Bool := if filt ≤ low then false else c.z;
     let taken : Prop := filt ≤ high ∧ was = false;
     fbMode s ↑n ≠ 0 ∧ fbMode s ↑n ≠ 2 ∨ c.st = 0 ∨ ¬taken) ∧
    (let t : Time := 1;
     let n : Fin 16 := 0;
     let sine : Int := 5;
     let cosine : Int := 5;
     let s : State := nth quadratureCountsGrayStepsCases 11;
     let b : State := begin' t s;
     let c : FbCh := fb s ↑n;
     let x : SinCos := sinCosOf b (↑n) (clampInt (-8192) 8191 sine) (clampInt (-8192) 8191 cosine);
     let inside : Prop := rf s R.FB_SC_WIN (↑n) 15 0 ≤ lineAmp b x ∧ lineAmp b x ≤ rf s R.FB_SC_WIN (↑n) 31 16;
     let bad : Nat := if inside then 0 else c.ampBad + 1;
     let d : Int :=
       match c.angle with
       | none => 0
       | some a0 => signed 12 (wrapU 12 (↑(lineAngle b x) - ↑a0));
     fbMode s ↑n = 2 ∧ c.st ≠ 0 ∧ d.natAbs ≤ 1024 ∧ bad < 4) ∧
    (let t : Time := 1;
     let n : Fin 16 := 0;
     let sine : Int := 5;
     let cosine : Int := 5;
     let s : State := nth quadratureCountsGrayStepsCases 4;
     let b : State := begin' t s;
     let c : FbCh := fb s ↑n;
     let x : SinCos := sinCosOf b (↑n) (clampInt (-8192) 8191 sine) (clampInt (-8192) 8191 cosine);
     let inside : Prop := rf s R.FB_SC_WIN (↑n) 15 0 ≤ lineAmp b x ∧ lineAmp b x ≤ rf s R.FB_SC_WIN (↑n) 31 16;
     let bad : Nat := if inside then 0 else c.ampBad + 1;
     let d : Int :=
       match c.angle with
       | none => 0
       | some a0 => signed 12 (wrapU 12 (↑(lineAngle b x) - ↑a0));
     fbMode s ↑n = 2 ∧ c.st ≠ 0 ∧ (1024 < d.natAbs ∨ 4 ≤ bad)) ∧
    (let t : Time := 1;
     let n : Fin 16 := 0;
     let sine : Int := 5;
     let cosine : Int := -3000;
     let s : State := nth quadratureCountsGrayStepsCases 4;
     let b : State := begin' t s;
     let c : FbCh := fb s ↑n;
     let x : SinCos := sinCosOf b (↑n) (clampInt (-8192) 8191 sine) (clampInt (-8192) 8191 cosine);
     let d : Int :=
       match c.angle with
       | none => 0
       | some a0 => signed 12 (wrapU 12 (↑(lineAngle b x) - ↑a0));
     fbMode s ↑n = 2 ∧ c.st ≠ 0 ∧ 1024 < d.natAbs) ∧
    (let t : Time := 1;
     let n : Fin 16 := 0;
     let sine : Int := 5;
     let cosine : Int := 5;
     let s : State := nth quadratureCountsGrayStepsCases 4;
     let b : State := begin' t s;
     let c : FbCh := fb s ↑n;
     let x : SinCos := sinCosOf b (↑n) (clampInt (-8192) 8191 sine) (clampInt (-8192) 8191 cosine);
     let inside : Prop := rf s R.FB_SC_WIN (↑n) 15 0 ≤ lineAmp b x ∧ lineAmp b x ≤ rf s R.FB_SC_WIN (↑n) 31 16;
     let bad : Nat := if inside then 0 else c.ampBad + 1;
     fbMode s ↑n = 2 ∧ c.st ≠ 0 ∧ 4 ≤ bad) ∧
    (let n : Fin 16 := 0;
     let s : State := nth quadratureCountsGrayStepsCases 0;
     let c : FbCh := fb s ↑n;
     fbMode s ↑n ≠ 2 ∨ c.st = 0) := by and_intros <;> decide

theorem witness_FeedbackChannelsEstimateAndChangeState_EstimatesNeverMoveTheCount :
    (let n : Fin 16 := 0;
     let s : State := nth quadratureCountsGrayStepsCases 2;
     let c : FbCh := fb s ↑n;
     let e : Int := wrapS 64 (c.pos * 2 ^ 16 - c.pEst);
     let errMax : Nat := rf s R.FB_OBS (↑n) 15 0;
     (fbMode s ↑n = 0 ∨ fbMode s ↑n = 2) ∧ (c.st = 1 ∨ c.st = 2) ∧ (errMax = 0 ∨ e.natAbs ≤ errMax * 2 ^ 16)) ∧
    (let n : Fin 16 := 0;
     let s : State := nth quadratureCountsGrayStepsCases 3;
     let c : FbCh := fb s ↑n;
     let e : Int := wrapS 64 (c.pos * 2 ^ 16 - c.pEst);
     let errMax : Nat := rf s R.FB_OBS (↑n) 15 0;
     (fbMode s ↑n = 0 ∨ fbMode s ↑n = 2) ∧ (c.st = 1 ∨ c.st = 2) ∧ errMax ≠ 0 ∧ errMax * 2 ^ 16 < e.natAbs) ∧
    (let n : Fin 16 := 0;
     let s : State := nth quadratureCountsGrayStepsCases 0;
     let c : FbCh := fb s ↑n;
     fbMode s ↑n ≠ 0 ∧ fbMode s ↑n ≠ 2 ∨ c.st ≠ 1 ∧ c.st ≠ 2) ∧
    (let n : Fin 16 := 0;
     let s : State := nth quadratureCountsGrayStepsCases 12;
     let c : FbCh := fb s ↑n;
     let st : CalStats := { : CalStats };
     c.calStats = some st ∧ c.st = 2 ∧ rb s R.FB_CAL (↑n) 31 = true ∧ calNeeded s ↑n ≤ c.calPeriods) ∧
    (let n : Fin 16 := 0;
     let s : State := nth quadratureCountsGrayStepsCases 0;
     let c : FbCh := fb s ↑n;
     c.calStats = none ∨ c.st ≠ 2 ∨ rb s R.FB_CAL (↑n) 31 = false ∨ c.calPeriods < calNeeded s ↑n) := by and_intros <;> decide

theorem witness_FeedbackChannelsEstimateAndChangeState_FeedbackChannelsChangeState :
    (let n : Fin 16 := 0;
     let s : State := nth quadratureCountsGrayStepsCases 6;
     let c : FbCh := fb s ↑n;
     let pair : Fin 3 := 0;
     let held : Nat := 900;
     let checked : Prop :=
       rb s R.FB_CFG (↑n) 23 = true ∧
         c.st ≠ 0 ∧ wireWindow s ↑n < held ∧ (fbMode s ↑n = 0 ∨ fbMode s ↑n = 1 ∧ ↑pair = 0 ∧ rb s R.FB_CFG (↑n) 27 = false ∨ fbMode s ↑n = 2 ∧ ↑pair = 2);
     checked) ∧
    (let n : Fin 16 := 0;
     let s : State := nth quadratureCountsGrayStepsCases 6;
     let c : FbCh := fb s ↑n;
     let pair : Fin 3 := 0;
     let held : Nat := 1;
     let checked : Prop :=
       rb s R.FB_CFG (↑n) 23 = true ∧
         c.st ≠ 0 ∧ wireWindow s ↑n < held ∧ (fbMode s ↑n = 0 ∨ fbMode s ↑n = 1 ∧ ↑pair = 0 ∧ rb s R.FB_CFG (↑n) 27 = false ∨ fbMode s ↑n = 2 ∧ ↑pair = 2);
     ¬checked) ∧
    (let t : Time := 20000000000;
     let n : Fin 16 := 0;
     let s : State := nth quadratureCountsGrayStepsCases 0;
     let b : State := begin' t s;
     let c : FbCh := fb s ↑n;
     c.st = 3 ∧ 2000000 ≤ b.now - c.faultAt ∧ (fbMode s ↑n = 3 → c.hallBadAt = none)) ∧
    (let t : Time := 1;
     let n : Fin 16 := 0;
     let s : State := nth quadratureCountsGrayStepsCases 6;
     let b : State := begin' t s;
     let c : FbCh := fb s ↑n;
     c.st ≠ 3 ∨ b.now - c.faultAt < 2000000 ∨ fbMode s ↑n = 3 ∧ c.hallBadAt ≠ none) ∧
    (let t : Time := 20000000000;
     let n : Fin 16 := 0;
     let s : State := nth quadratureCountsGrayStepsCases 6;
     let b : State := begin' t s;
     let c : FbCh := fb s ↑n;
     c.st = 1 ∧ acquireTime s ↑n ≤ b.now - c.stAt) ∧
    (let t : Time := 1;
     let n : Fin 16 := 0;
     let s : State := nth quadratureCountsGrayStepsCases 6;
     let b : State := begin' t s;
     let c : FbCh := fb s ↑n;
     c.st ≠ 1 ∨ b.now - c.stAt < acquireTime s ↑n) ∧
    (let n : Fin 16 := 0;
     let s : State := nth quadratureCountsGrayStepsCases 6;
     let a : Actor := Actor.host;
     let v : W32 := 3221225472;
     gateWrite s a (regOff R.FB_CFG (↑n) 0) 4 = Gate.allow ∧ crossDown s 5 = false ∧ flag v 31 = true ∧ rb s R.FB_CFG (↑n) 31 = true) ∧
    (let n : Fin 16 := 0;
     let s : State := nth feedbackChannelsChangeStateCases 1;
     let a : Actor := Actor.host;
     let v : W32 := 2415919104;
     gateWrite s a (regOff R.FB_CFG (↑n) 0) 4 = Gate.allow ∧
       crossDown s 5 = false ∧ flag v 31 = true ∧ rb s R.FB_CFG (↑n) 31 = false ∧ fld (regMerge R.FB_CFG 0 v) 30 28 < 4) ∧
    (let n : Fin 16 := 0;
     let s : State := nth feedbackChannelsChangeStateCases 1;
     let a : Actor := Actor.host;
     let v : W32 := 4294967295;
     gateWrite s a (regOff R.FB_CFG (↑n) 0) 4 = Gate.allow ∧
       crossDown s 5 = false ∧ flag v 31 = true ∧ rb s R.FB_CFG (↑n) 31 = false ∧ 4 ≤ fld (regMerge R.FB_CFG 0 v) 30 28) ∧
    (let n : Fin 16 := 0;
     let s : State := nth quadratureCountsGrayStepsCases 6;
     let a : Actor := Actor.host;
     let v : W32 := 1;
     gateWrite s a (regOff R.FB_CFG (↑n) 0) 4 = Gate.allow ∧ crossDown s 5 = false ∧ flag v 31 = false ∧ rb s R.FB_CFG (↑n) 31 = true) ∧
    (let n : Fin 16 := 1;
     let s : State := nth quadratureCountsGrayStepsCases 0;
     let a : Actor := Actor.host;
     let v : W32 := 1;
     gateWrite s a (regOff R.FB_CFG (↑n) 0) 4 = Gate.allow ∧ crossDown s 5 = false ∧ flag v 31 = false ∧ rb s R.FB_CFG (↑n) 31 = false) := by and_intros <;> decide

theorem witness_AnalogueLatchesAndEmulationAct_AnalogueResultsAndLatches :
    (let s : State := nth analogueResultsAndLatchesCases 1;
     let n : Fin 16 := 1;
     let uvolt : Int := 0;
     let c : AinCh := ain s ↑n;
     let l : List Nat := List.take 64 (ainCode uvolt :: c.samples);
     let w : Nat := ainWindow s ↑n;
     rb s R.AIN_CFG (↑n) 31 = true ∧ l.length < w) ∧
    (let s : State := nth analogueResultsAndLatchesCases 1;
     let n : Fin 16 := 0;
     let uvolt : Int := 0;
     let c : AinCh := ain s ↑n;
     let l : List Nat := List.take 64 (ainCode uvolt :: c.samples);
     let w : Nat := ainWindow s ↑n;
     let hold : Nat := rf s R.AIN_CFG (↑n) 27 20;
     rb s R.AIN_CFG (↑n) 31 = true ∧ w ≤ l.length ∧ hold = 0) ∧
    (let s : State := nth analogueResultsAndLatchesCases 2;
     let n : Fin 16 := 0;
     let uvolt : Int := 0;
     let c : AinCh := ain s ↑n;
     let l : List Nat := List.take 64 (ainCode uvolt :: c.samples);
     let w : Nat := ainWindow s ↑n;
     let res : Nat := roundDivNat (List.foldl (fun x1 x2 => x1 + x2) 0 (List.take w l)) w;
     let hold : Nat := rf s R.AIN_CFG (↑n) 27 20;
     let low : Nat := rf s R.AIN_LIMIT (↑n) 11 0;
     let high : Nat := rf s R.AIN_LIMIT (↑n) 27 16;
     rb s R.AIN_CFG (↑n) 31 = true ∧ w ≤ l.length ∧ hold ≠ 0 ∧ (res < low ∨ high < res)) ∧
    (let s : State := nth analogueResultsAndLatchesCases 4;
     let n : Fin 16 := 0;
     let uvolt : Int := 0;
     let c : AinCh := ain s ↑n;
     let l : List Nat := List.take 64 (ainCode uvolt :: c.samples);
     let w : Nat := ainWindow s ↑n;
     let res : Nat := roundDivNat (List.foldl (fun x1 x2 => x1 + x2) 0 (List.take w l)) w;
     let hold : Nat := rf s R.AIN_CFG (↑n) 27 20;
     let low : Nat := rf s R.AIN_LIMIT (↑n) 11 0;
     let high : Nat := rf s R.AIN_LIMIT (↑n) 27 16;
     rb s R.AIN_CFG (↑n) 31 = true ∧ w ≤ l.length ∧ hold ≠ 0 ∧ low ≤ res ∧ res ≤ high) ∧
    (let s : State := base;
     let n : Fin 16 := 0;
     rb s R.AIN_CFG (↑n) 31 = false) ∧
    (let s : State := base;
     let n : Fin 8 := 0;
     let z : Bool := true;
     z ≠ rb s R.LATCH_CFG (↑n) 28) ∧
    (let s : State := nth analogueResultsAndLatchesCases 1;
     let n : Fin 8 := 0;
     let at' : Time := 100000;
     let rising : Bool := false;
     let z : Bool := false;
     let before : Nat := 100;
     let held : Nat := 100000;
     let waiting : Nat := 1;
     let filt : Nat := rf s R.LATCH_CFG (↑n) 23 16;
     let was : Bool := if filt ≤ before then !rising else tabGet false s.feedback.latchLevel ↑n;
     let taken : Prop := rb s R.LATCH_CFG (↑n) 31 = true ∧ filt ≤ held ∧ was = !rising ∧ rb s R.LATCH_CFG (↑n) (if rising = true then 29 else 30) = true;
     let last : Option Time := tabGet none s.feedback.latchEdge ↑n;
     let soon : Prop := Option.any (fun t0 => decide (at' - t0 < rf s R.LATCH_CFG (↑n) 15 0 * usUnits)) last = true;
     z = rb s R.LATCH_CFG (↑n) 28 ∧ taken ∧ ¬soon ∧ waiting < 2 ∧ crossDown s 4 = false) ∧
    (let s : State := nth crossingFourDown 0;
     let n : Fin 8 := 0;
     let at' : Time := 100;
     let rising : Bool := false;
     let z : Bool := false;
     let before : Nat := 1;
     let held : Nat := 100000;
     let waiting : Nat := 0;
     let filt : Nat := rf s R.LATCH_CFG (↑n) 23 16;
     let was : Bool := if filt ≤ before then !rising else tabGet false s.feedback.latchLevel ↑n;
     let taken : Prop := rb s R.LATCH_CFG (↑n) 31 = true ∧ filt ≤ held ∧ was = !rising ∧ rb s R.LATCH_CFG (↑n) (if rising = true then 29 else 30) = true;
     let last : Option Time := tabGet none s.feedback.latchEdge ↑n;
     let soon : Prop := Option.any (fun t0 => decide (at' - t0 < rf s R.LATCH_CFG (↑n) 15 0 * usUnits)) last = true;
     z = rb s R.LATCH_CFG (↑n) 28 ∧ taken ∧ ¬soon ∧ waiting < 2 ∧ crossDown s 4 = true) ∧
    (let s : State := nth analogueResultsAndLatchesCases 1;
     let n : Fin 8 := 0;
     let at' : Time := 100000;
     let rising : Bool := false;
     let z : Bool := false;
     let before : Nat := 100;
     let held : Nat := 101;
     let waiting : Nat := 800;
     let filt : Nat := rf s R.LATCH_CFG (↑n) 23 16;
     let was : Bool := if filt ≤ before then !rising else tabGet false s.feedback.latchLevel ↑n;
     let taken : Prop := rb s R.LATCH_CFG (↑n) 31 = true ∧ filt ≤ held ∧ was = !rising ∧ rb s R.LATCH_CFG (↑n) (if rising = true then 29 else 30) = true;
     let last : Option Time := tabGet none s.feedback.latchEdge ↑n;
     let soon : Prop := Option.any (fun t0 => decide (at' - t0 < rf s R.LATCH_CFG (↑n) 15 0 * usUnits)) last = true;
     z = rb s R.LATCH_CFG (↑n) 28 ∧ taken ∧ ¬soon ∧ 2 ≤ waiting) ∧
    (let s : State := nth analogueResultsAndLatchesCases 8;
     let n : Fin 8 := 0;
     let at' : Time := 100;
     let rising : Bool := false;
     let z : Bool := false;
     let before : Nat := 800;
     let held : Nat := 0;
     let filt : Nat := rf s R.LATCH_CFG (↑n) 23 16;
     let was : Bool := if filt ≤ before then !rising else tabGet false s.feedback.latchLevel ↑n;
     let taken : Prop := rb s R.LATCH_CFG (↑n) 31 = true ∧ filt ≤ held ∧ was = !rising ∧ rb s R.LATCH_CFG (↑n) (if rising = true then 29 else 30) = true;
     let last : Option Time := tabGet none s.feedback.latchEdge ↑n;
     let soon : Prop := Option.any (fun t0 => decide (at' - t0 < rf s R.LATCH_CFG (↑n) 15 0 * usUnits)) last = true;
     z = rb s R.LATCH_CFG (↑n) 28 ∧ taken ∧ soon) ∧
    (let s : State := base;
     let n : Fin 8 := 0;
     let rising : Bool := false;
     let z : Bool := false;
     let before : Nat := 5;
     let held : Nat := 700;
     let filt : Nat := rf s R.LATCH_CFG (↑n) 23 16;
     let was : Bool := if filt ≤ before then !rising else tabGet false s.feedback.latchLevel ↑n;
     let taken : Prop := rb s R.LATCH_CFG (↑n) 31 = true ∧ filt ≤ held ∧ was = !rising ∧ rb s R.LATCH_CFG (↑n) (if rising = true then 29 else 30) = true;
     z = rb s R.LATCH_CFG (↑n) 28 ∧ ¬taken) := by and_intros <;> decide

theorem witness_AnalogueLatchesAndEmulationAct_EmulationOwesAndEmitsEdges :
    (let t : Time := 0;
     let n : Fin 4 := 0;
     let s : State := nth emulationOwesAndEmitsEdgesCases 0;
     let b : State := begin' t s;
     let c : EmuCh := emu s ↑n;
     let x : Int := 0;
     rb s R.EMU_CFG (↑n) 31 = true ∧ emuSource b ↑n = some x ∧ c.source = none) ∧
    (let t : Time := 0;
     let n : Fin 4 := 0;
     let s : State := nth emulationOwesAndEmitsEdgesCases 1;
     let b : State := begin' t s;
     rb s R.EMU_CFG (↑n) 31 = true ∧ emuSource b ↑n = none) ∧
    (let n : Fin 4 := 0;
     let s : State := State.reset;
     rb s R.EMU_CFG (↑n) 31 = false) ∧
    (let t : Time := 0;
     let n : Fin 4 := 0;
     let s : State := nth emulationOwesAndEmitsEdgesCases 4;
     let b : State := begin' t s;
     let c : EmuCh := emu s ↑n;
     let owed : Int := emuOwedTotal s (↑n) c - c.emitted;
     let due : Prop := rb s R.EMU_CFG (↑n) 31 = true ∧ (emuRatio s (↑n) c).snd ≠ 0 ∧ owed ≠ 0 ∧ (c.lastEdge = 0 ∨ 100 ≤ b.now - c.lastEdge);
     due) ∧
    (let t : Time := 0;
     let n : Fin 4 := 0;
     let s : State := nth emulationOwesAndEmitsEdgesCases 0;
     let b : State := begin' t s;
     let c : EmuCh := emu s ↑n;
     let owed : Int := emuOwedTotal s (↑n) c - c.emitted;
     let due : Prop := rb s R.EMU_CFG (↑n) 31 = true ∧ (emuRatio s (↑n) c).snd ≠ 0 ∧ owed ≠ 0 ∧ (c.lastEdge = 0 ∨ 100 ≤ b.now - c.lastEdge);
     ¬due) ∧
    (let n : Fin 4 := 0;
     let s : State := nth emulationOwesAndEmitsEdgesCases 0;
     let a : Actor := Actor.host;
     crossDown s 5 = false ∧ gateWrite s a (regOff R.EMU_NUM (↑n) 0) 8 = Gate.allow) ∧
    (let n : Fin 4 := 0;
     let s : State := nth emulationOwesAndEmitsEdgesCases 0;
     let a : Actor := Actor.host;
     crossDown s 5 = false ∧ gateWrite s a (regOff R.EMU_NUM (↑n) 0) 4 = Gate.allow) ∧
    (let n : Fin 4 := 0;
     let s : State := nth emulationOwesAndEmitsEdgesCases 0;
     let a : Actor := Actor.host;
     crossDown s 5 = false ∧ gateWrite s a (regOff R.EMU_DEN (↑n) 0) 4 = Gate.allow) := by and_intros <;> decide

theorem witness_LanesAndCaravansAreConfiguredAndMoved_LaneConfigMakesALane :
    (let t : Time := 5;
     let n : Fin 128 := 0;
     let k : Nat := 5;
     let x : Desc := headDesc 0 (nth laneConfigMakesALaneStates 1);
     let s : State := nth laneConfigMakesALaneStates 6;
     let b : Binding := bindingOf x.bytes;
     let parent : Nat := bits (u16 x.bytes 14) 10 0;
     let old : Lane := lane s k;
     let granted : Prop := bindingOwner s b = none ∨ bindingOwner s b = some (ringOwner s ↑n);
     let noPwm : Prop := b.code = 2 ∧ 48 ≤ b.field;
     let unused : Prop := b = Binding.unbound ∨ ((lanesOf s).all fun j => decide (j = k) || decide ((lane s j).binding ≠ b)) = true;
     Waybill s (↑n) 16 x 0 k ∧
       misuse180 s (waybillCmd (↑n) 16 (begin' t s)) = false ∧
         granted ∧
           ¬noPwm ∧
             (caravan s parent).configured = true ∧
               (caravan s parent).proxy = false ∧ unused ∧ (old.configured = true ∨ memberCount s < 8192) ∧ old.configured = false) ∧
    (let t : Time := 5;
     let n : Fin 128 := 0;
     let k : Nat := 5;
     let x : Desc := headDesc 0 (nth laneConfigMakesALaneStates 0);
     let s : State := nth laneConfigMakesALaneStates 0;
     let b : Binding := bindingOf x.bytes;
     let noPwm : Prop := b.code = 2 ∧ 48 ≤ b.field;
     Waybill s (↑n) 16 x 0 k ∧ misuse180 s (waybillCmd (↑n) 16 (begin' t s)) = false ∧ noPwm) ∧
    (let t : Time := 5;
     let n : Fin 128 := 0;
     let k : Nat := 5;
     let x : Desc := headDesc 0 (nth laneConfigMakesALaneStates 1);
     let s : State := nth laneConfigMakesALaneStates 1;
     let b : Binding := bindingOf x.bytes;
     let granted : Prop := bindingOwner s b = none ∨ bindingOwner s b = some (ringOwner s ↑n);
     let noPwm : Prop := b.code = 2 ∧ 48 ≤ b.field;
     Waybill s (↑n) 16 x 0 k ∧ misuse180 s (waybillCmd (↑n) 16 (begin' t s)) = false ∧ ¬noPwm ∧ ¬granted) ∧
    (let t : Time := 5;
     let n : Fin 128 := 0;
     let k : Nat := 5;
     let x : Desc := headDesc 0 (nth laneConfigMakesALaneStates 8);
     let s : State := nth laneConfigMakesALaneStates 8;
     let b : Binding := bindingOf x.bytes;
     let parent : Nat := bits (u16 x.bytes 14) 10 0;
     let granted : Prop := bindingOwner s b = none ∨ bindingOwner s b = some (ringOwner s ↑n);
     let noPwm : Prop := b.code = 2 ∧ 48 ≤ b.field;
     Waybill s (↑n) 16 x 0 k ∧ misuse180 s (waybillCmd (↑n) 16 (begin' t s)) = false ∧ ¬noPwm ∧ granted ∧ (caravan s parent).configured = false) ∧
    (let t : Time := 5;
     let n : Fin 128 := 0;
     let k : Nat := 5;
     let x : Desc := headDesc 0 (nth laneConfigMakesALaneStates 1);
     let s : State := nth laneConfigMakesALaneStates 11;
     let b : Binding := bindingOf x.bytes;
     let parent : Nat := bits (u16 x.bytes 14) 10 0;
     let granted : Prop := bindingOwner s b = none ∨ bindingOwner s b = some (ringOwner s ↑n);
     let noPwm : Prop := b.code = 2 ∧ 48 ≤ b.field;
     let unused : Prop := b = Binding.unbound ∨ ((lanesOf s).all fun j => decide (j = k) || decide ((lane s j).binding ≠ b)) = true;
     Waybill s (↑n) 16 x 0 k ∧ misuse180 s (waybillCmd (↑n) 16 (begin' t s)) = false ∧ ¬noPwm ∧ granted ∧ (caravan s parent).configured = true ∧ ¬unused) ∧
    (let t : Time := 5;
     let n : Fin 128 := 0;
     let k : Nat := 5;
     let x : Desc := headDesc 0 (nth laneConfigMakesALaneStates 3);
     let s : State := nth laneConfigMakesALaneStates 3;
     let b : Binding := bindingOf x.bytes;
     let parent : Nat := bits (u16 x.bytes 14) 10 0;
     let old : Lane := lane s k;
     let granted : Prop := bindingOwner s b = none ∨ bindingOwner s b = some (ringOwner s ↑n);
     let noPwm : Prop := b.code = 2 ∧ 48 ≤ b.field;
     let unused : Prop := b = Binding.unbound ∨ ((lanesOf s).all fun j => decide (j = k) || decide ((lane s j).binding ≠ b)) = true;
     Waybill s (↑n) 16 x 0 k ∧
       misuse180 s (waybillCmd (↑n) 16 (begin' t s)) = false ∧
         ¬noPwm ∧
           granted ∧ (caravan s parent).configured = true ∧ unused ∧ (old.configured = true ∨ memberCount s < 8192) ∧ (caravan s parent).proxy = true) := by and_intros <;> decide

theorem witness_LanesAndCaravansAreConfiguredAndMoved_CaravanConfigMakesACaravan :
    (let t : Time := 100;
     let n : Fin 128 := 0;
     let k : Nat := 1;
     let x : Desc := headDesc 0 (nth caravanConfigMakesACaravanStates 0);
     let s : State := nth caravanConfigMakesACaravanStates 0;
     let parent : Nat := bits (u16 x.bytes 12) 10 0;
     let lo : Int := i16 x.bytes 16;
     let hi : Int := i16 x.bytes 18;
     let flags : Nat := u8 x.bytes 20;
     let policy : Nat := u8 x.bytes 21;
     let proxy : Bool := bitOf flags 2;
     let port : Nat := bits (u8 x.bytes 24) 4 0;
     let base : Nat := bits (u16 x.bytes 26) 11 0;
     let span : Nat := bits (u16 x.bytes 28) 12 0;
     let order : Prop := bits policy 3 2 ≠ 3 ∧ 0 ≤ lo ∧ lo ≤ hi;
     let home : Prop :=
       k = 0 ∨ (caravan s parent).configured = true ∧ (caravan s parent).proxy = false ∧ ((caravan s k).configured = true ∨ memberCount s < 8192);
     Waybill s (↑n) 17 x 1 k ∧
       k < 2048 ∧
         misuse180 s (waybillCmd (↑n) 17 (begin' t s)) = false ∧
           order ∧
             home ∧
               (proxy = true → k ≠ 0 ∧ hasMembers s k = false ∧ proxyStatus (some (ringOwner s ↑n)) k port base span s = 0) ∧
                 proxy = true ∧ (caravan s k).proxy = false) ∧
    (let t : Time := 100;
     let n : Fin 128 := 0;
     let k : Nat := 1;
     let x : Desc := headDesc 0 (nth caravanConfigMakesACaravanStates 27);
     let s : State := nth caravanConfigMakesACaravanStates 27;
     let lo : Int := i16 x.bytes 16;
     let hi : Int := i16 x.bytes 18;
     let policy : Nat := u8 x.bytes 21;
     let order : Prop := bits policy 3 2 ≠ 3 ∧ 0 ≤ lo ∧ lo ≤ hi;
     Waybill s (↑n) 17 x 1 k ∧ k < 2048 ∧ misuse180 s (waybillCmd (↑n) 17 (begin' t s)) = false ∧ ¬order) ∧
    (let t : Time := 1;
     let n : Fin 128 := 0;
     let k : Nat := 0;
     let x : Desc := headDesc 0 (nth caravanConfigMakesACaravanStates 4);
     let s : State := nth caravanConfigMakesACaravanStates 4;
     let lo : Int := i16 x.bytes 16;
     let hi : Int := i16 x.bytes 18;
     let flags : Nat := u8 x.bytes 20;
     let policy : Nat := u8 x.bytes 21;
     let proxy : Bool := bitOf flags 2;
     let order : Prop := bits policy 3 2 ≠ 3 ∧ 0 ≤ lo ∧ lo ≤ hi;
     Waybill s (↑n) 17 x 1 k ∧ k < 2048 ∧ misuse180 s (waybillCmd (↑n) 17 (begin' t s)) = false ∧ order ∧ k = 0 ∧ proxy = true) ∧
    (let t : Time := 100;
     let n : Fin 128 := 0;
     let k : Nat := 1;
     let x : Desc := headDesc 0 (nth caravanConfigMakesACaravanStates 5);
     let s : State := nth caravanConfigMakesACaravanStates 5;
     let parent : Nat := bits (u16 x.bytes 12) 10 0;
     let lo : Int := i16 x.bytes 16;
     let hi : Int := i16 x.bytes 18;
     let policy : Nat := u8 x.bytes 21;
     let order : Prop := bits policy 3 2 ≠ 3 ∧ 0 ≤ lo ∧ lo ≤ hi;
     Waybill s (↑n) 17 x 1 k ∧ k < 2048 ∧ misuse180 s (waybillCmd (↑n) 17 (begin' t s)) = false ∧ order ∧ k ≠ 0 ∧ (caravan s parent).configured = false) := by and_intros <;> decide

theorem witness_LanesAndCaravansAreConfiguredAndMoved_AttachMovesAMember :
    (let t : Time := 5;
     let n : Fin 128 := 0;
     let k : Nat := 5;
     let x : Desc := headDesc 0 (nth attachMovesAMemberStates 3);
     let s : State := nth attachMovesAMemberStates 3;
     let parent : Nat := bits (u16 x.bytes 12) 10 0;
     misuse180 s (waybillCmd (↑n) 18 (begin' t s)) = false ∧
       Waybill s (↑n) 18 x 0 k ∧ (lane s k).configured = true ∧ (caravan s parent).configured = true ∧ (caravan s parent).proxy = false) ∧
    (let t : Time := 5;
     let n : Fin 128 := 0;
     let k : Nat := 5;
     let x : Desc := headDesc 0 (nth attachMovesAMemberStates 1);
     let s : State := nth attachMovesAMemberStates 2;
     let parent : Nat := bits (u16 x.bytes 12) 10 0;
     misuse180 s (waybillCmd (↑n) 18 (begin' t s)) = false ∧
       Waybill s (↑n) 18 x 1 k ∧
         0 < k ∧ k < 2048 ∧ (caravan s k).configured = true ∧ (caravan s parent).configured = true ∧ (caravan s parent).proxy = false) ∧
    (let t : Time := 1;
     let n : Fin 128 := 0;
     let x : Desc := headDesc 0 (nth attachMovesAMemberStates 5);
     let s : State := nth attachMovesAMemberStates 5;
     misuse180 s (waybillCmd (↑n) 18 (begin' t s)) = false ∧ Waybill s (↑n) 18 x 1 0) ∧
    (let t : Time := 5;
     let n : Fin 128 := 0;
     let k : Nat := 5;
     let x : Desc := headDesc 0 (nth attachMovesAMemberStates 3);
     let s : State := nth attachMovesAMemberStates 6;
     let parent : Nat := bits (u16 x.bytes 12) 10 0;
     misuse180 s (waybillCmd (↑n) 18 (begin' t s)) = false ∧
       Waybill s (↑n) 18 x 0 k ∧ ((lane s k).configured = false ∨ (caravan s parent).configured = false)) ∧
    (let t : Time := 5;
     let n : Fin 128 := 0;
     let k : Nat := 5;
     let x : Desc := headDesc 0 (nth attachMovesAMemberStates 1);
     let s : State := nth attachMovesAMemberStates 1;
     let parent : Nat := bits (u16 x.bytes 12) 10 0;
     misuse180 s (waybillCmd (↑n) 18 (begin' t s)) = false ∧
       Waybill s (↑n) 18 x 1 k ∧ 0 < k ∧ k < 2048 ∧ ((caravan s k).configured = false ∨ (caravan s parent).configured = false)) ∧
    (let t : Time := 5;
     let n : Fin 128 := 0;
     let k : Nat := 5;
     let x : Desc := headDesc 0 (nth attachMovesAMemberStates 3);
     let s : State := nth attachMovesAMemberStates 8;
     let parent : Nat := bits (u16 x.bytes 12) 10 0;
     misuse180 s (waybillCmd (↑n) 18 (begin' t s)) = false ∧
       Waybill s (↑n) 18 x 0 k ∧ (lane s k).configured = true ∧ (caravan s parent).configured = true ∧ (caravan s parent).proxy = true) := by and_intros <;> decide

theorem witness_LanesAndCaravansAreConfiguredAndMoved_ReleaseForgetsAMember :
    (let n : Fin 128 := 0;
     let k : Nat := 5;
     let x : Desc := headDesc 0 (nth releaseForgetsAMemberStates 2);
     let s : State := nth releaseForgetsAMemberStates 3;
     let l : Lane := lane s k;
     Waybill s (↑n) 19 x 0 k ∧ l.configured = true ∧ l.events = [] ∧ l.on = false) ∧
    (let n : Fin 128 := 0;
     let k : Nat := 5;
     let x : Desc := headDesc 0 (nth releaseForgetsAMemberStates 2);
     let s : State := nth releaseForgetsAMemberStates 4;
     let l : Lane := lane s k;
     Waybill s (↑n) 19 x 0 k ∧ l.configured = false) ∧
    (let n : Fin 128 := 0;
     let k : Nat := 1;
     let x : Desc := headDesc 0 (nth releaseForgetsAMemberStates 0);
     let s : State := nth releaseForgetsAMemberStates 5;
     Waybill s (↑n) 19 x 1 k ∧ 0 < k ∧ k < 2048 ∧ (caravan s k).configured = true ∧ hasMembers s k = false) ∧
    (let n : Fin 128 := 0;
     let k : Nat := 1;
     let x : Desc := headDesc 0 (nth releaseForgetsAMemberStates 0);
     let s : State := nth releaseForgetsAMemberStates 6;
     Waybill s (↑n) 19 x 1 k ∧ 0 < k ∧ k < 2048 ∧ (caravan s k).configured = true ∧ hasMembers s k = true) ∧
    (let n : Fin 128 := 0;
     let k : Nat := 5;
     let x : Desc := headDesc 0 (nth releaseForgetsAMemberStates 1);
     let s : State := nth releaseForgetsAMemberStates 1;
     Waybill s (↑n) 19 x 1 k ∧ 0 < k ∧ k < 2048 ∧ (caravan s k).configured = false) ∧
    (let n : Fin 128 := 0;
     let x : Desc := headDesc 0 (nth releaseForgetsAMemberStates 7);
     let s : State := nth releaseForgetsAMemberStates 7;
     Waybill s (↑n) 19 x 1 0) := by and_intros <;> decide

theorem witness_LaneWaybillsActOnTheirTarget_LaneWaybillsActOnTheirTarget :
    (let n : Fin 128 := 0;
     let k : Nat := 5;
     let x : Desc := headDesc 0 (nth laneWaybillsActOnTheirTargetStates 4);
     let s : State := nth laneWaybillsActOnTheirTargetStates 17;
     let l : Lane := lane s k;
     l.configured = true ∧ Waybill s (↑n) 20 x 0 k) ∧
    (let n : Fin 128 := 0;
     let k : Nat := 5;
     let x : Desc := headDesc 0 (nth laneWaybillsActOnTheirTargetStates 12);
     let s : State := nth laneWaybillsActOnTheirTargetStates 19;
     let l : Lane := lane s k;
     l.configured = true ∧ Waybill s (↑n) 21 x 0 k) ∧
    (let n : Fin 128 := 0;
     let k : Nat := 5;
     let x : Desc := headDesc 0 (nth laneWaybillsActOnTheirTargetStates 14);
     let s : State := nth laneWaybillsActOnTheirTargetStates 21;
     let l : Lane := lane s k;
     l.configured = true ∧ Waybill s (↑n) 22 x 0 k ∧ u8 x.bytes 12 = 0) ∧
    (let n : Fin 128 := 0;
     let k : Nat := 5;
     let x : Desc := headDesc 0 (nth laneWaybillsActOnTheirTargetStates 8);
     let s : State := nth laneWaybillsActOnTheirTargetStates 8;
     let l : Lane := lane s k;
     l.configured = true ∧ Waybill s (↑n) 22 x 0 k ∧ 1 < u8 x.bytes 12) ∧
    (let n : Fin 128 := 0;
     let k : Nat := 5;
     let x : Desc := headDesc 0 (nth laneWaybillsActOnTheirTargetStates 0);
     let s : State := nth laneWaybillsActOnTheirTargetStates 5;
     let l : Lane := lane s k;
     l.configured = true ∧ Waybill s (↑n) 24 x 0 k ∧ u64 x.bytes 16 % 64 = 0) ∧
    (let n : Fin 128 := 0;
     let k : Nat := 5;
     let x : Desc := headDesc 0 (nth laneWaybillsActOnTheirTargetStates 9);
     let s : State := nth laneWaybillsActOnTheirTargetStates 29;
     let l : Lane := lane s k;
     l.configured = true ∧ Waybill s (↑n) 23 x 0 k ∧ l.binding.isDirect = false) ∧
    (let n : Fin 128 := 0;
     let k : Nat := 5;
     let x : Desc := headDesc 0 (nth laneWaybillsActOnTheirTargetStates 7);
     let s : State := nth laneWaybillsActOnTheirTargetStates 7;
     Waybill s (↑n) 24 x 0 k ∧ u64 x.bytes 16 % 64 ≠ 0) ∧
    (let n : Fin 128 := 0;
     let k : Nat := 5;
     let x : Desc := headDesc 0 (nth laneWaybillsActOnTheirTargetStates 11);
     let s : State := nth laneWaybillsActOnTheirTargetStates 32;
     k < 2048 ∧ (caravan s k).configured = true ∧ Waybill s (↑n) 20 x 1 k) ∧
    (let n : Fin 128 := 0;
     let k : Nat := 5;
     let x : Desc := headDesc 0 (nth laneWaybillsActOnTheirTargetStates 13);
     let s : State := nth laneWaybillsActOnTheirTargetStates 34;
     k < 2048 ∧ (caravan s k).configured = true ∧ Waybill s (↑n) 21 x 1 k) ∧
    (let n : Fin 128 := 0;
     let k : Nat := 5;
     let x : Desc := headDesc 0 (nth laneWaybillsActOnTheirTargetStates 4);
     let s : State := nth laneWaybillsActOnTheirTargetStates 10;
     let l : Lane := lane s k;
     l.configured = false ∧ Waybill s (↑n) 20 x 0 k) ∧
    (let n : Fin 128 := 0;
     let k : Nat := 5;
     let x : Desc := headDesc 0 (nth laneWaybillsActOnTheirTargetStates 12);
     let s : State := nth laneWaybillsActOnTheirTargetStates 12;
     let l : Lane := lane s k;
     l.configured = false ∧ Waybill s (↑n) 21 x 0 k) ∧
    (let n : Fin 128 := 0;
     let k : Nat := 5;
     let x : Desc := headDesc 0 (nth laneWaybillsActOnTheirTargetStates 14);
     let s : State := nth laneWaybillsActOnTheirTargetStates 14;
     let l : Lane := lane s k;
     l.configured = false ∧ Waybill s (↑n) 22 x 0 k) ∧
    (let n : Fin 128 := 0;
     let k : Nat := 5;
     let x : Desc := headDesc 0 (nth laneWaybillsActOnTheirTargetStates 9);
     let s : State := nth laneWaybillsActOnTheirTargetStates 15;
     let l : Lane := lane s k;
     l.configured = false ∧ Waybill s (↑n) 23 x 0 k) ∧
    (let n : Fin 128 := 0;
     let k : Nat := 5;
     let x : Desc := headDesc 0 (nth laneWaybillsActOnTheirTargetStates 0);
     let s : State := nth laneWaybillsActOnTheirTargetStates 0;
     let l : Lane := lane s k;
     l.configured = false ∧ Waybill s (↑n) 24 x 0 k ∧ u64 x.bytes 16 % 64 = 0) := by and_intros <;> decide

theorem witness_LaneWaybillsActOnTheirTarget_WaybillsAreCarriedOut :
    (let t : Time := 1;
     let n : Fin 128 := 0;
     let x : Desc := headDesc 0 (nth laneWaybillsActOnTheirTargetStates 4);
     let s : State := nth laneWaybillsActOnTheirTargetStates 4;
     let b : State := begin' t s;
     let keys : List Nat := reachKeys s x.bytes;
     let r : Ring := ring s ↑n;
     let careful : List (Nat × Instr) := [(16, Instr.laneConfig t n), (17, Instr.caravanConfig t n), (18, Instr.attach t n)];
     let others : List (Nat × Instr) :=
       [(19, Instr.release t n), (20, Instr.inhibit t n), (21, Instr.setRate t n), (22, Instr.setDelay t n), (23, Instr.clearFault t n),
         (24, Instr.query t n), (32, Instr.mark t n), (33, Instr.cancel t n)];
     let c : Nat × Instr := (20, Instr.inhibit 1 0);
     let free : Bool := canForward s (partsOf c.fst (some 0) x.bytes s);
     c ∈ careful ++ others ∧
       Ready s (↑n) c.fst x ∧ r.kind = 1 ∧ (c.fst ≤ 18 → misuse180 s (waybillCmd (↑n) c.fst b) = false) ∧ (turnOk s (↑n) keys = false ∨ free = false)) ∧
    (let t : Time := 1;
     let n : Fin 128 := 0;
     let x : Desc := headDesc 0 (nth laneWaybillsActOnTheirTargetStates 0);
     let s : State := nth laneWaybillsActOnTheirTargetStates 0;
     let b : State := begin' t s;
     let keys : List Nat := reachKeys s x.bytes;
     let r : Ring := ring s ↑n;
     let careful : List (Nat × Instr) := [(16, Instr.laneConfig t n), (17, Instr.caravanConfig t n), (18, Instr.attach t n)];
     let others : List (Nat × Instr) :=
       [(19, Instr.release t n), (20, Instr.inhibit t n), (21, Instr.setRate t n), (22, Instr.setDelay t n), (23, Instr.clearFault t n),
         (24, Instr.query t n), (32, Instr.mark t n), (33, Instr.cancel t n)];
     let c : Nat × Instr := (24, Instr.query 1 0);
     let w : WbResult := waybill c.fst (some (ringOwner s ↑n)) (some 0) x.bytes b;
     let free : Bool := canForward s (partsOf c.fst (some 0) x.bytes s);
     c ∈ careful ++ others ∧
       Ready s (↑n) c.fst x ∧
         r.kind = 1 ∧ (c.fst ≤ 18 → misuse180 s (waybillCmd (↑n) c.fst b) = false) ∧ turnOk s (↑n) keys = true ∧ free = true ∧ w.parts = [] ∧ w.due = none) ∧
    (let t : Time := 1;
     let n : Fin 128 := 0;
     let x : Desc := headDesc 0 (nth laneWaybillsActOnTheirTargetStates 1);
     let s : State := nth laneWaybillsActOnTheirTargetStates 1;
     let b : State := begin' t s;
     let keys : List Nat := reachKeys s x.bytes;
     let r : Ring := ring s ↑n;
     let careful : List (Nat × Instr) := [(16, Instr.laneConfig t n), (17, Instr.caravanConfig t n), (18, Instr.attach t n)];
     let others : List (Nat × Instr) :=
       [(19, Instr.release t n), (20, Instr.inhibit t n), (21, Instr.setRate t n), (22, Instr.setDelay t n), (23, Instr.clearFault t n),
         (24, Instr.query t n), (32, Instr.mark t n), (33, Instr.cancel t n)];
     let c : Nat × Instr := (20, Instr.inhibit 1 0);
     let w : WbResult := waybill c.fst (some (ringOwner s ↑n)) (some 0) x.bytes b;
     let free : Bool := canForward s (partsOf c.fst (some 0) x.bytes s);
     c ∈ careful ++ others ∧
       Ready s (↑n) c.fst x ∧
         r.kind = 1 ∧
           (c.fst ≤ 18 → misuse180 s (waybillCmd (↑n) c.fst b) = false) ∧ turnOk s (↑n) keys = true ∧ free = true ∧ (w.parts ≠ [] ∨ w.due ≠ none)) := by and_intros <;> decide

theorem witness_MarksArePlacedWhollyOrNotAtAll :
    (let t : Time := 5;
     let n : Fin 128 := 0;
     let k : Nat := 5;
     let x : Desc := headDesc 0 (nth marksArePlacedWhollyOrNotAtAllStates 4);
     let s : State := nth marksArePlacedWhollyOrNotAtAllStates 8;
     let b : State := begin' t s;
     let l : Lane := lane s k;
     let es : List MarkEntry := List.map (markEntry x.bytes 0) (List.range 3);
     let used : Nat := (List.filter (fun e => decide (e.kind ≠ 0)) es).length;
     let pairs : List ((Nat × Int) × Nat × Int) := spotPairsOf es;
     let mixed : Bool := pairs.any fun y => y.fst.fst != y.snd.fst;
     l.configured = true ∧
       Waybill s (↑n) 32 x 0 k ∧
         markStatus es = 0 ∧ (mixed = true ∨ spotsOrdered b l pairs = true) ∧ (laneCap s < l.entries + used ∨ s.engine.poolFree < used)) ∧
    (let t : Time := 5;
     let n : Fin 128 := 0;
     let k : Nat := 5;
     let x : Desc := headDesc 0 (nth marksArePlacedWhollyOrNotAtAllStates 1);
     let s : State := nth marksArePlacedWhollyOrNotAtAllStates 1;
     let b : State := begin' t s;
     let l : Lane := lane s k;
     let es : List MarkEntry := List.map (markEntry x.bytes 0) (List.range 3);
     let used : Nat := (List.filter (fun e => decide (e.kind ≠ 0)) es).length;
     let pairs : List ((Nat × Int) × Nat × Int) := spotPairsOf es;
     let mixed : Bool := pairs.any fun y => y.fst.fst != y.snd.fst;
     l.configured = true ∧
       Waybill s (↑n) 32 x 0 k ∧
         markStatus es = 0 ∧ (mixed = true ∨ spotsOrdered b l pairs = true) ∧ l.entries + used ≤ laneCap s ∧ used ≤ s.engine.poolFree ∧ mixed = false) ∧
    (let t : Time := 0;
     let n : Fin 128 := 0;
     let k : Nat := 5;
     let x : Desc := headDesc 0 (nth mixedMark 0);
     let s : State := nth mixedMark 0;
     let b : State := begin' t s;
     let l : Lane := lane s k;
     let es : List MarkEntry := List.map (markEntry x.bytes 0) (List.range 3);
     let used : Nat := (List.filter (fun e => decide (e.kind ≠ 0)) es).length;
     let pairs : List ((Nat × Int) × Nat × Int) := spotPairsOf es;
     let mixed : Bool := pairs.any fun y => y.fst.fst != y.snd.fst;
     l.configured = true ∧
       Waybill s (↑n) 32 x 0 k ∧
         markStatus es = 0 ∧ (mixed = true ∨ spotsOrdered b l pairs = true) ∧ l.entries + used ≤ laneCap s ∧ used ≤ s.engine.poolFree ∧ mixed = true) ∧
    (let n : Fin 128 := 0;
     let k : Nat := 5;
     let x : Desc := headDesc 0 (nth marksArePlacedWhollyOrNotAtAllStates 5);
     let s : State := nth marksArePlacedWhollyOrNotAtAllStates 5;
     let l : Lane := lane s k;
     let es : List MarkEntry := List.map (markEntry x.bytes 0) (List.range 3);
     l.configured = true ∧ Waybill s (↑n) 32 x 0 k ∧ markStatus es ≠ 0) ∧
    (let t : Time := 5;
     let n : Fin 128 := 0;
     let k : Nat := 5;
     let x : Desc := headDesc 0 (nth marksArePlacedWhollyOrNotAtAllStates 0);
     let s : State := nth marksArePlacedWhollyOrNotAtAllStates 0;
     let b : State := begin' t s;
     let l : Lane := lane s k;
     let es : List MarkEntry := List.map (markEntry x.bytes 0) (List.range 3);
     let pairs : List ((Nat × Int) × Nat × Int) := spotPairsOf es;
     let mixed : Bool := pairs.any fun y => y.fst.fst != y.snd.fst;
     l.configured = true ∧ Waybill s (↑n) 32 x 0 k ∧ markStatus es = 0 ∧ mixed = false ∧ spotsOrdered b l pairs = false) ∧
    (let k : Nat := 5;
     let x : Desc := headDesc 0 (nth marksArePlacedWhollyOrNotAtAllStates 1);
     let s : State := nth marksArePlacedWhollyOrNotAtAllStates 0;
     let l : Lane := lane s k;
     let es : List MarkEntry := List.map (markEntry x.bytes 0) (List.range 3);
     let pairs : List ((Nat × Int) × Nat × Int) := spotPairsOf es;
     l.configured = true ∧ spotsOrdered s (laneMotion s l) pairs = true) ∧
    (let k : Nat := 5;
     let x : Desc := headDesc 0 (nth marksArePlacedWhollyOrNotAtAllStates 0);
     let s : State := nth marksArePlacedWhollyOrNotAtAllStates 0;
     let l : Lane := lane s k;
     let es : List MarkEntry := List.map (markEntry x.bytes 0) (List.range 3);
     let pairs : List ((Nat × Int) × Nat × Int) := spotPairsOf es;
     l.configured = true ∧ spotsOrdered s (laneMotion s l) pairs = false) ∧
    (let n : Fin 128 := 0;
     let k : Nat := 5;
     let x : Desc := headDesc 0 (nth marksArePlacedWhollyOrNotAtAllStates 7);
     let s : State := nth marksArePlacedWhollyOrNotAtAllStates 7;
     let l : Lane := lane s k;
     let lo : Int := wrapS 48 (signed 48 (u64 x.bytes 12 % 2 ^ 48) + 0);
     let hi : Int := wrapS 48 (signed 48 (u64 x.bytes 20 % 2 ^ 48) + 0);
     l.configured = true ∧ Waybill s (↑n) 33 x 0 k ∧ ahead lo hi = true) ∧
    (let n : Fin 128 := 0;
     let k : Nat := 5;
     let x : Desc := headDesc 0 (nth marksArePlacedWhollyOrNotAtAllStates 6);
     let s : State := nth marksArePlacedWhollyOrNotAtAllStates 6;
     let l : Lane := lane s k;
     let lo : Int := wrapS 48 (signed 48 (u64 x.bytes 12 % 2 ^ 48) + 0);
     let hi : Int := wrapS 48 (signed 48 (u64 x.bytes 20 % 2 ^ 48) + 0);
     let goes : Milestone → Bool := cancels l lo hi (u8 x.bytes 28 % 64);
     l.configured = true ∧ Waybill s (↑n) 33 x 0 k ∧ ahead lo hi = false ∧ l.queue.any goes = false) ∧
    (let n : Fin 128 := 0;
     let k : Nat := 5;
     let x : Desc := headDesc 0 (nth marksArePlacedWhollyOrNotAtAllStates 6);
     let s : State := nth marksArePlacedWhollyOrNotAtAllStates 6;
     let l : Lane := lane s k;
     let lo : Int := wrapS 48 (signed 48 (u64 x.bytes 12 % 2 ^ 48) + 0);
     let hi : Int := wrapS 48 (signed 48 (u64 x.bytes 20 % 2 ^ 48) + 0);
     l.configured = true ∧ Waybill s (↑n) 33 x 0 k ∧ ahead lo hi = false ∧ l.events = []) := by and_intros <;> decide

theorem witness_TheDispatcherHandsOnAndEventsExecute_TheDispatcherWaitsForATollAndHandsOn :
    (let s : State := base;
     s.engine.heap = []) ∧
    (let t : Time := 1;
     let x : DispItem :=
       { lane := 5, binding := Binding.direct 1, key := 0, body := DispBody.event { id := 1, kind := 1, tExec := 0, d := 9 : LaneEv }, waited := true :
         DispItem };
     let e : LaneEv := { id := 1, kind := 1, tExec := 0, d := 9 : LaneEv };
     let s : State := nth theDispatcherWaitsForATollAndHandsOnStates 0;
     let b : State := begin' t s;
     s.engine.heap = [x] ∧ x.kept = false ∧ tollReady s x = true ∧ x.body = DispBody.event e ∧ x.lateAt b.now = true) ∧
    (let x : DispItem :=
       { lane := 5, binding := Binding.direct 1, key := 0, body := DispBody.event { id := 1, kind := 1, tExec := 0, d := 9 : LaneEv } : DispItem };
     let s : State := nth theDispatcherWaitsForATollAndHandsOnStates 6;
     s.engine.heap = [x] ∧ x.kept = false ∧ tollReady s x = false) ∧
    (let t : Time := 1;
     let x : DispItem :=
       { lane := 5, binding := Binding.direct 1, key := 0, body := DispBody.event { id := 1, kind := 1, tExec := 0, d := 9 : LaneEv }, kept := true :
         DispItem };
     let e : LaneEv := { id := 1, kind := 1, tExec := 0, d := 9 : LaneEv };
     let s : State := nth theDispatcherWaitsForATollAndHandsOnStates 1;
     let b : State := begin' t s;
     let y : DispItem :=
       { lane := x.lane, binding := x.binding, key := x.key, body := x.body, waited := decide (x.binding.code ≠ 2) || decide (e.tExec ≤ b.now) :
         DispItem };
     s.engine.heap = [x] ∧ x.kept = true ∧ x.body = DispBody.event e ∧ tollReady s y = true) := by and_intros <;> decide

theorem witness_TheDispatcherHandsOnAndEventsExecute_EventsExecuteAtTheirTime :
    (let t : Time := 0;
     let k : Fin 4096 := 5;
     let s : State := nth eventsExecuteAtTheirTimeStates 6;
     let b : State := begin' t s;
     let l : Lane := lane s ↑k;
     let due : Option LaneEv := List.find? (fun y => !y.executed && decide (y.tExec ≤ b.now)) l.events;
     let e : LaneEv := { id := 1, kind := 1, tExec := 0, d := 9 : LaneEv };
     l.binding = Binding.unbound ∧ due = some e ∧ e.kind = 1) ∧
    (let t : Time := 0;
     let k : Fin 4096 := 5;
     let s : State := nth eventsExecuteAtTheirTimeStates 10;
     let b : State := begin' t s;
     let l : Lane := lane s ↑k;
     let due : Option LaneEv := List.find? (fun y => !y.executed && decide (y.tExec ≤ b.now)) l.events;
     let e : LaneEv := { id := 1, kind := 2, tExec := 0, d := 9 : LaneEv };
     l.binding = Binding.unbound ∧ due = some e ∧ e.kind = 2) ∧
    (let t : Time := 0;
     let k : Fin 4096 := 5;
     let s : State := nth eventsExecuteAtTheirTimeStates 14;
     let b : State := begin' t s;
     let l : Lane := lane s ↑k;
     let due : Option LaneEv := List.find? (fun y => !y.executed && decide (y.tExec ≤ b.now)) l.events;
     let e : LaneEv := { id := 1, kind := 3, tExec := 0, d := 9 : LaneEv };
     l.binding = Binding.unbound ∧ due = some e ∧ e.kind ≠ 1 ∧ e.kind ≠ 2) ∧
    (let t : Time := 0;
     let k : Fin 4096 := 5;
     let s : State := State.reset;
     let b : State := begin' t s;
     let l : Lane := lane s ↑k;
     let due : Option LaneEv := List.find? (fun y => !y.executed && decide (y.tExec ≤ b.now)) l.events;
     l.binding = Binding.unbound ∧ due = none) ∧
    (let k : Fin 4096 := 5;
     let s : State := nth eventsExecuteAtTheirTimeStates 0;
     let l : Lane := lane s ↑k;
     l.binding.isDirect = true) ∧
    (let k : Fin 4096 := 5;
     let s : State := nth eventsExecuteAtTheirTimeStates 1;
     let l : Lane := lane s ↑k;
     l.binding.code = 2) ∧
    (let t : Time := 0;
     let k : Fin 4096 := 5;
     let s : State := nth eventsExecuteAtTheirTimeStates 2;
     let b : State := begin' t s;
     let l : Lane := lane s ↑k;
     let p : Nat := 1;
     let m : Nat := 1;
     let j : Nat := 0;
     let sent : Option SlotCmd := List.find? (fun c => decide (c.lane = ↑k) && c.sent && !c.cancelled && decide (c.ev.tExec ≤ b.now)) (slotQueue s p);
     l.binding = Binding.remote p m j ∧ sent = none) ∧
    (let t : Time := 0;
     let k : Fin 4096 := 5;
     let s : State := nth eventsExecuteAtTheirTimeStates 3;
     let b : State := begin' t s;
     let l : Lane := lane s ↑k;
     let p : Nat := 1;
     let m : Nat := 1;
     let j : Nat := 0;
     let sent : Option SlotCmd := List.find? (fun c => decide (c.lane = ↑k) && c.sent && !c.cancelled && decide (c.ev.tExec ≤ b.now)) (slotQueue s p);
     let c : SlotCmd := { lane := 5, node := 1, sub := 0, ev := { id := 1, kind := 1, tExec := 0, d := 9 : LaneEv }, sent := true : SlotCmd };
     let y : LaneEv := { id := 1, kind := 1, tExec := 0, d := 9 : LaneEv };
     l.binding = Binding.remote p m j ∧ sent = some c ∧ List.find? (fun e => decide (e.id = c.ev.id) && !e.executed) l.events = some y ∧ y.kind = 1) ∧
    (let t : Time := 0;
     let k : Fin 4096 := 5;
     let s : State := nth eventsExecuteAtTheirTimeStates 4;
     let b : State := begin' t s;
     let l : Lane := lane s ↑k;
     let p : Nat := 1;
     let m : Nat := 1;
     let j : Nat := 0;
     let sent : Option SlotCmd := List.find? (fun c => decide (c.lane = ↑k) && c.sent && !c.cancelled && decide (c.ev.tExec ≤ b.now)) (slotQueue s p);
     let c : SlotCmd := { lane := 5, node := 1, sub := 0, ev := { id := 1, kind := 2, tExec := 0, d := 9 : LaneEv }, sent := true : SlotCmd };
     let y : LaneEv := { id := 1, kind := 2, tExec := 0, d := 9 : LaneEv };
     l.binding = Binding.remote p m j ∧ sent = some c ∧ List.find? (fun e => decide (e.id = c.ev.id) && !e.executed) l.events = some y ∧ y.kind = 2) ∧
    (let t : Time := 0;
     let k : Fin 4096 := 5;
     let s : State := nth eventsExecuteAtTheirTimeStates 11;
     let b : State := begin' t s;
     let l : Lane := lane s ↑k;
     let p : Nat := 1;
     let m : Nat := 1;
     let j : Nat := 0;
     let sent : Option SlotCmd := List.find? (fun c => decide (c.lane = ↑k) && c.sent && !c.cancelled && decide (c.ev.tExec ≤ b.now)) (slotQueue s p);
     let c : SlotCmd := { lane := 5, node := 1, sub := 0, ev := { id := 1, kind := 2, tExec := 0, d := 9 : LaneEv }, sent := true : SlotCmd };
     l.binding = Binding.remote p m j ∧ sent = some c ∧ l.events = [] ∧ c.ev.kind = 2) ∧
    (let t : Time := 0;
     let k : Fin 4096 := 5;
     let s : State := nth eventsExecuteAtTheirTimeStates 7;
     let b : State := begin' t s;
     let l : Lane := lane s ↑k;
     let p : Nat := 1;
     let m : Nat := 1;
     let j : Nat := 0;
     let sent : Option SlotCmd := List.find? (fun c => decide (c.lane = ↑k) && c.sent && !c.cancelled && decide (c.ev.tExec ≤ b.now)) (slotQueue s p);
     let c : SlotCmd := { lane := 5, node := 1, sub := 0, ev := { id := 1, kind := 1, tExec := 0, d := 9 : LaneEv }, sent := true : SlotCmd };
     l.binding = Binding.remote p m j ∧ sent = some c ∧ l.events = [] ∧ c.ev.kind = 1) := by and_intros <;> decide

theorem witness_ConvoysJoinShareAndReport_JoiningAConvoy :
    (let p : Fin 32 := 1;
     let node : BitVec 8 := 5;
     let frame : List Byte := [1, 3] ++ List.replicate 10 0;
     let s : State := nth stEE1 0;
     let base : Nat := bits (u16 frame 8) 11 0;
     let span : Nat := bits (u16 frame 10) 12 0;
     let fits : Bool := rb s R.CONVOY_CFG 0 31 && decide (rf s R.CONVOY_CFG 0 20 16 = ↑p) && proxiesFit s base span;
     let heard : Prop := imwaldOn s ↑p = true ∧ hears s ↑p = true;
     let down : Bool := isReference s (↑p) (768 + node.toNat);
     heard ∧ down = false ∧ node.toNat = ownNode s ↑p ∧ crossDown s 12 = false ∧ (fits = false ∨ (busPort s ↑p).tt ≠ 3)) ∧
    (let p : Fin 32 := 1;
     let node : BitVec 8 := 5;
     let frame : List Byte := [1, 3] ++ List.replicate 10 0;
     let s : State := nth joiningAConvoyStates 10;
     let base : Nat := bits (u16 frame 8) 11 0;
     let span : Nat := bits (u16 frame 10) 12 0;
     let fits : Bool := rb s R.CONVOY_CFG 0 31 && decide (rf s R.CONVOY_CFG 0 20 16 = ↑p) && proxiesFit s base span;
     let heard : Prop := imwaldOn s ↑p = true ∧ hears s ↑p = true;
     let down : Bool := isReference s (↑p) (768 + node.toNat);
     heard ∧ down = false ∧ node.toNat = ownNode s ↑p ∧ crossDown s 12 = false ∧ fits = true ∧ (busPort s ↑p).tt = 3) ∧
    (let p : Fin 32 := 1;
     let node : BitVec 8 := 20;
     let s : State := nth stEE1 0;
     let heard : Prop := imwaldOn s ↑p = true ∧ hears s ↑p = true;
     let down : Bool := isReference s (↑p) (768 + node.toNat);
     heard ∧ down = false ∧ node.toNat ≠ ownNode s ↑p) ∧
    (let p : Fin 32 := 1;
     let node : BitVec 8 := 5;
     let s : State := nth joiningAConvoyStates 18;
     let heard : Prop := imwaldOn s ↑p = true ∧ hears s ↑p = true;
     let down : Bool := isReference s (↑p) (768 + node.toNat);
     heard ∧ down = true) ∧
    (let p : Fin 32 := 1;
     let node : BitVec 8 := 5;
     let frame : List Byte := [1, 3] ++ List.replicate 10 0;
     let s : State := nth stEE1 2;
     let heard : Prop := imwaldOn s ↑p = true ∧ hears s ↑p = true;
     let up : Bool := isReference s (↑p) (1024 + node.toNat);
     let k : Nat := 1;
     heard ∧ up = false ∧ proxyAt s (↑p) node.toNat = some k ∧ u8 frame 8 = 0) ∧
    (let p : Fin 32 := 1;
     let node : BitVec 8 := 5;
     let frame : List Byte := [2, 3, 1, 0, 1, 0, 0, 0, 1, 1, 0, 16, 2, 0, 0];
     let s : State := nth stEE1 2;
     let heard : Prop := imwaldOn s ↑p = true ∧ hears s ↑p = true;
     let up : Bool := isReference s (↑p) (1024 + node.toNat);
     let k : Nat := 1;
     heard ∧ up = false ∧ proxyAt s (↑p) node.toNat = some k ∧ u8 frame 8 ≠ 0) ∧
    (let p : Fin 32 := 1;
     let node : BitVec 8 := 5;
     let s : State := nth stEE1 0;
     let heard : Prop := imwaldOn s ↑p = true ∧ hears s ↑p = true;
     let up : Bool := isReference s (↑p) (1024 + node.toNat);
     heard ∧ up = false ∧ proxyAt s (↑p) node.toNat = none) ∧
    (let p : Fin 32 := 1;
     let node : BitVec 8 := 5;
     let s : State := nth ownReferences 1;
     let heard : Prop := imwaldOn s ↑p = true ∧ hears s ↑p = true;
     let up : Bool := isReference s (↑p) (1024 + node.toNat);
     heard ∧ up = true) ∧
    (let p : Fin 32 := 1;
     let s : State := State.reset;
     let heard : Prop := imwaldOn s ↑p = true ∧ hears s ↑p = true;
     ¬heard) := by and_intros <;> decide

theorem witness_ConvoysJoinShareAndReport_SharesAndReportsArrive :
    (let p : Fin 32 := 1;
     let node : BitVec 8 := 5;
     let s : State := nth stEE1 4;
     let heard : Prop := imwaldOn s ↑p = true ∧ hears s ↑p = true;
     let down : Bool := isReference s (↑p) (768 + node.toNat);
     heard ∧ down = false ∧ fromParent s (↑p) node.toNat = true) ∧
    (let p : Fin 32 := 1;
     let node : BitVec 8 := 5;
     let s : State := nth stEE1 0;
     let heard : Prop := imwaldOn s ↑p = true ∧ hears s ↑p = true;
     let down : Bool := isReference s (↑p) (768 + node.toNat);
     heard ∧ down = false ∧ fromParent s (↑p) node.toNat = false) ∧
    (let p : Fin 32 := 1;
     let node : BitVec 8 := 5;
     let s : State := nth stEE1 2;
     let heard : Prop := imwaldOn s ↑p = true ∧ hears s ↑p = true;
     let up : Bool := isReference s (↑p) (1024 + node.toNat);
     let k : Nat := 1;
     heard ∧ up = false ∧ proxyAt s (↑p) node.toNat = some k) ∧
    (let p : Fin 32 := 1;
     let node : BitVec 8 := 5;
     let s : State := nth stEE1 0;
     let heard : Prop := imwaldOn s ↑p = true ∧ hears s ↑p = true;
     let up : Bool := isReference s (↑p) (1024 + node.toNat);
     heard ∧ up = false ∧ proxyAt s (↑p) node.toNat = none) ∧
    (let p : Fin 32 := 1;
     let node : BitVec 8 := 5;
     let s : State := nth joiningAConvoyStates 18;
     let heard : Prop := imwaldOn s ↑p = true ∧ hears s ↑p = true;
     let down : Bool := isReference s (↑p) (768 + node.toNat);
     heard ∧ down = true) ∧
    (let p : Fin 32 := 1;
     let node : BitVec 8 := 5;
     let s : State := nth ownReferences 1;
     let heard : Prop := imwaldOn s ↑p = true ∧ hears s ↑p = true;
     let up : Bool := isReference s (↑p) (1024 + node.toNat);
     heard ∧ up = true) ∧
    (let p : Fin 32 := 1;
     let s : State := State.reset;
     let heard : Prop := imwaldOn s ↑p = true ∧ hears s ↑p = true;
     ¬heard) := by and_intros <;> decide

theorem witness_ConvoySilenceAndForwarding_SilenceIsNoticed :
    (let t : Time := 2000000000;
     let s : State := nth stEE1 2;
     let b : State := begin' t s;
     let k : Fin 2048 := 1;
     let c : Caravan := caravan s ↑k;
     let due : Prop := c.configured = true ∧ c.proxy = true ∧ c.silent = false ∧ c.reportAt + max 5 c.timeout * msUnits ≤ b.now;
     due) ∧
    (let t : Time := 20;
     let s : State := nth stEE1 0;
     let b : State := begin' t s;
     let k : Fin 2048 := 1;
     let c : Caravan := caravan s ↑k;
     let due : Prop := c.configured = true ∧ c.proxy = true ∧ c.silent = false ∧ c.reportAt + max 5 c.timeout * msUnits ≤ b.now;
     ¬due) ∧
    (let t : Time := 2000000000;
     let s : State := nth stEE1 4;
     let b : State := begin' t s;
     let c : Convoy := s.engine.convoy;
     let due : Prop := c.joined = true ∧ c.parentSilent = false ∧ c.shareAt + max 5 (rf s R.CONVOY_CFG 0 15 0) * msUnits ≤ b.now;
     due) ∧
    (let t : Time := 20;
     let s : State := nth stEE1 0;
     let b : State := begin' t s;
     let c : Convoy := s.engine.convoy;
     let due : Prop := c.joined = true ∧ c.parentSilent = false ∧ c.shareAt + max 5 (rf s R.CONVOY_CFG 0 15 0) * msUnits ≤ b.now;
     ¬due) := by and_intros <;> decide

theorem witness_ConvoySilenceAndForwarding_ForwardedWaybillsAreAnswered :
    (let p : Fin 32 := 1;
     let s : State := State.reset;
     let heard : Prop := imwaldOn s ↑p = true ∧ hears s ↑p = true;
     ¬heard) ∧
    (let p : Fin 32 := 1;
     let node : BitVec 8 := 5;
     let s : State := nth joiningAConvoyStates 18;
     let heard : Prop := imwaldOn s ↑p = true ∧ hears s ↑p = true;
     let down : Bool := isReference s (↑p) (768 + node.toNat);
     heard ∧ down = true) ∧
    (let p : Fin 32 := 1;
     let node : BitVec 8 := 5;
     let s : State := nth stEE1 0;
     let heard : Prop := imwaldOn s ↑p = true ∧ hears s ↑p = true;
     let down : Bool := isReference s (↑p) (768 + node.toNat);
     heard ∧ down = false ∧ fromParent s (↑p) node.toNat = false) ∧
    (let t : Time := 20;
     let p : Fin 32 := 1;
     let node : BitVec 8 := 5;
     let frame : List Byte := [1, 3] ++ List.replicate 10 0;
     let s : State := nth stEE1 4;
     let b : State := begin' t s;
     let tag : Nat := u8 frame 1 % 64;
     let heard : Prop := imwaldOn s ↑p = true ∧ hears s ↑p = true;
     let down : Bool := isReference s (↑p) (768 + node.toNat);
     let op : Nat := 5;
     let bytes : List Byte := leBytes 2 op ++ leBytes 6 0 ++ List.take 56 (List.drop 8 frame);
     let held : State :=
       modConvoy
         (fun c =>
           { joined := c.joined, addr := c.addr, span := c.span, depth := c.depth, parentPort := c.parentPort, parentNode := c.parentNode,
             share := c.share, shareDue := c.shareDue, shareAt := c.shareAt, parentSilent := c.parentSilent, courseOffset := c.courseOffset,
             outbox := c.outbox, forwarded := c.forwarded, parts := c.parts, waiting := c.waiting ++ [(tag, op, bytes)] : Convoy })
         b;
     let z : Bool × State := drainForwarded 128 (false, held);
     heard ∧ down = false ∧ fromParent s (↑p) node.toNat = true ∧ z.fst = false) ∧
    (let t : Time := 20;
     let p : Fin 32 := 1;
     let node : BitVec 8 := 5;
     let frame : List Byte := [1, 3] ++ List.replicate 10 0;
     let s : State := nth stEE1 8;
     let b : State := begin' t s;
     let c : Convoy := s.engine.convoy;
     let heard : Prop := imwaldOn s ↑p = true ∧ hears s ↑p = true;
     let down : Bool := isReference s (↑p) (768 + node.toNat);
     let op : Nat := 1;
     let bytes : List Byte := leBytes 2 op ++ leBytes 6 0 ++ List.take 56 (List.drop 8 frame);
     heard ∧ down = false ∧ fromParent s (↑p) node.toNat = true ∧ c.waiting = [] ∧ canApply op bytes b = false) ∧
    (let t : Time := 20;
     let p : Fin 32 := 1;
     let node : BitVec 8 := 5;
     let frame : List Byte := [5, 3] ++ List.replicate 6 0 ++ [5, 0, 0, 0, 1] ++ List.replicate 51 0;
     let s : State := nth joiningAConvoyStates 13;
     let b : State := begin' t s;
     let c : Convoy := s.engine.convoy;
     let tag : Nat := u8 frame 1 % 64;
     let heard : Prop := imwaldOn s ↑p = true ∧ hears s ↑p = true;
     let down : Bool := isReference s (↑p) (768 + node.toNat);
     let op : Nat := 20;
     let bytes : List Byte := leBytes 2 op ++ leBytes 6 0 ++ List.take 56 (List.drop 8 frame);
     let held : State :=
       modConvoy
         (fun c =>
           { joined := c.joined, addr := c.addr, span := c.span, depth := c.depth, parentPort := c.parentPort, parentNode := c.parentNode,
             share := c.share, shareDue := c.shareDue, shareAt := c.shareAt, parentSilent := c.parentSilent, courseOffset := c.courseOffset,
             outbox := c.outbox, forwarded := c.forwarded, parts := c.parts, waiting := c.waiting ++ [(tag, op, bytes)] : Convoy })
         b;
     let z : Bool × State := drainForwarded 128 (false, held);
     let k : Nat := 5;
     heard ∧
       down = false ∧
         fromParent s (↑p) node.toNat = true ∧
           c.waiting = [] ∧
             z.fst = false ∧
               canApply op bytes b = true ∧
                 op = 20 ∧ targetOf bytes = { kind := 0, convoy := c.addr, index := k : Target } ∧ (lane s k).configured = true ∧ crossDown s 12 = false) ∧
    (let p : Fin 32 := 1;
     let node : BitVec 8 := 5;
     let frame : List Byte := [1, 3] ++ List.replicate 10 0;
     let s : State := nth stEE1 8;
     let c : Convoy := s.engine.convoy;
     let tag : Nat := u8 frame 1 % 64;
     let heard : Prop := imwaldOn s ↑p = true ∧ hears s ↑p = true;
     let up : Bool := isReference s (↑p) (1024 + node.toNat);
     let k : Nat := 1;
     let y : Part := { proxy := 1, tag := 3, sentAt := 0, ring := 0, index := 9#32 : Part };
     heard ∧
       up = false ∧
         proxyAt s (↑p) node.toNat = some k ∧
           partOf s k tag = some y ∧ c.waiting = [] ∧ (c.forwarded.all fun f => !(decide (f.ring = y.ring) && decide (f.index = y.index))) = true) ∧
    (let p : Fin 32 := 1;
     let node : BitVec 8 := 5;
     let frame : List Byte := [1, 3] ++ List.replicate 10 0;
     let s : State := nth stEE1 0;
     let tag : Nat := u8 frame 1 % 64;
     let heard : Prop := imwaldOn s ↑p = true ∧ hears s ↑p = true;
     let up : Bool := isReference s (↑p) (1024 + node.toNat);
     heard ∧ up = false ∧ ∀ (k : Nat), proxyAt s (↑p) node.toNat = some k → partOf s k tag = none) ∧
    (let p : Fin 32 := 1;
     let node : BitVec 8 := 5;
     let s : State := nth stEE1 0;
     let heard : Prop := imwaldOn s ↑p = true ∧ hears s ↑p = true;
     let up : Bool := isReference s (↑p) (1024 + node.toNat);
     heard ∧ up = false ∧ proxyAt s (↑p) node.toNat = none) ∧
    (let p : Fin 32 := 1;
     let node : BitVec 8 := 5;
     let s : State := nth ownReferences 1;
     let heard : Prop := imwaldOn s ↑p = true ∧ hears s ↑p = true;
     let up : Bool := isReference s (↑p) (1024 + node.toNat);
     heard ∧ up = true) ∧
    (let t : Time := 2000000000;
     let s : State := nth stEE1 5;
     let b : State := begin' t s;
     let c : Convoy := s.engine.convoy;
     let k : Fin 2048 := 1;
     let tag : Fin 64 := 3;
     let y : Part := { proxy := 1, tag := 3, sentAt := 0, ring := 0, index := 9#32 : Part };
     partOf s ↑k ↑tag = some y ∧ y.sentAt + 250 * msUnits ≤ b.now ∧ c.waiting = []) ∧
    (let t : Time := 20;
     let s : State := nth stEE1 5;
     let b : State := begin' t s;
     let k : Fin 2048 := 1;
     let tag : Fin 64 := 3;
     let y : Part := { proxy := 1, tag := 3, sentAt := 0, ring := 0, index := 9#32 : Part };
     partOf s ↑k ↑tag = some y ∧ b.now < y.sentAt + 250 * msUnits) ∧
    (let s : State := nth stEE1 0;
     let k : Fin 2048 := 1;
     let tag : Fin 64 := 1;
     partOf s ↑k ↑tag = none) := by and_intros <;> decide

theorem witness_TilesAreSuppliedAndReturned_SupplyBeginsALoad :
    (let t : Time := 0;
     let x : Desc := headDesc 85 (nth supplyBeginsALoadStates 0);
     let s : State := nth supplyBeginsALoadStates 0;
     let b : State := begin' t s;
     let tx : Int := i32 x.bytes 8;
     let ty : Int := i32 x.bytes 12;
     Ready s 85 1 x ∧ ringBusy s 85 = false ∧ tilesMisuse (tileCmd 1 supplyDesc b) = false ∧ loadPending s tx ty = true) ∧
    (let t : Time := 0;
     let x : Desc := headDesc 85 (nth supplyBeginsALoadStates 5);
     let i : Nat := 0;
     let s : State := nth supplyBeginsALoadStates 5;
     let b : State := begin' t s;
     let tx : Int := i32 x.bytes 8;
     let ty : Int := i32 x.bytes 12;
     let fill : Bool := descFlag x 1;
     Ready s 85 1 x ∧
       ringBusy s 85 = false ∧
         tilesMisuse (tileCmd 1 supplyDesc b) = false ∧
           loadPending s tx ty = false ∧
             keyOk x = true ∧
               (fill = true ∨ u64 x.bytes 16 % 64 = 0) ∧
                 (slotOf s tx ty = some i ∨ slotOf s tx ty = none ∧ keyOnItsWay s tx ty = false ∧ freeSlot s = some i) ∧
                   (tileSlot s i).st ≠ SlotState.writing ∧ slotOf s tx ty = none) ∧
    (let t : Time := 0;
     let x : Desc := headDesc 85 (nth supplyBeginsALoadStates 5);
     let i : Nat := 0;
     let s : State := nth supplyBeginsALoadStates 9;
     let b : State := begin' t s;
     let tx : Int := i32 x.bytes 8;
     let ty : Int := i32 x.bytes 12;
     let fill : Bool := descFlag x 1;
     Ready s 85 1 x ∧
       ringBusy s 85 = false ∧
         tilesMisuse (tileCmd 1 supplyDesc b) = false ∧
           loadPending s tx ty = false ∧
             keyOk x = true ∧
               (fill = true ∨ u64 x.bytes 16 % 64 = 0) ∧
                 (slotOf s tx ty = some i ∨ slotOf s tx ty = none ∧ keyOnItsWay s tx ty = false ∧ freeSlot s = some i) ∧
                   (tileSlot s i).st ≠ SlotState.writing ∧ slotOf s tx ty = some i ∧ (tileSlot s i).resident = true) ∧
    (let t : Time := 0;
     let x : Desc := headDesc 85 (nth supplyBeginsALoadStates 1);
     let s : State := nth supplyBeginsALoadStates 1;
     let b : State := begin' t s;
     let tx : Int := i32 x.bytes 8;
     let ty : Int := i32 x.bytes 12;
     let fill : Bool := descFlag x 1;
     Ready s 85 1 x ∧
       ringBusy s 85 = false ∧
         tilesMisuse (tileCmd 1 supplyDesc b) = false ∧ loadPending s tx ty = false ∧ (keyOk x = false ∨ fill = false ∧ u64 x.bytes 16 % 64 ≠ 0)) ∧
    (let t : Time := 0;
     let x : Desc := headDesc 85 (nth supplyBeginsALoadStates 5);
     let s : State := nth supplyBeginsALoadStates 17;
     let b : State := begin' t s;
     let tx : Int := i32 x.bytes 8;
     let ty : Int := i32 x.bytes 12;
     let fill : Bool := descFlag x 1;
     Ready s 85 1 x ∧
       ringBusy s 85 = false ∧
         tilesMisuse (tileCmd 1 supplyDesc b) = false ∧
           keyOk x = true ∧ (fill = true ∨ u64 x.bytes 16 % 64 = 0) ∧ slotOf s tx ty = none ∧ keyOnItsWay s tx ty = false ∧ allocSlot tx ty 0 b = none) := by and_intros <;> decide

theorem witness_TilesAreSuppliedAndReturned_TilesAreRefusedFlushedAndEvicted :
    (let x : Desc := headDesc 85 (nth tilesAreRefusedFlushedAndEvictedStates 4);
     let s : State := nth tilesAreRefusedFlushedAndEvictedStates 4;
     ringBusy s 85 = false ∧ loadPending s (i32 x.bytes 8) (i32 x.bytes 12) = false ∧ keyOk x = false ∧ Ready s 85 2 x) ∧
    (let x : Desc := headDesc 85 (nth tilesAreRefusedFlushedAndEvictedStates 0);
     let s : State := nth tilesAreRefusedFlushedAndEvictedStates 0;
     ringBusy s 85 = false ∧ loadPending s (i32 x.bytes 8) (i32 x.bytes 12) = false ∧ keyOk x = false ∧ Ready s 85 3 x) ∧
    (let x : Desc := headDesc 85 (nth tilesAreRefusedFlushedAndEvictedStates 2);
     let s : State := nth tilesAreRefusedFlushedAndEvictedStates 2;
     ringBusy s 85 = false ∧
       loadPending s (i32 x.bytes 8) (i32 x.bytes 12) = false ∧ keyOk x = false ∧ Ready s 85 4 x ∧ descFlag x 2 = false ∧ s.engine.coverage.evicting = none) ∧
    (let x : Desc := headDesc 85 (nth tilesAreRefusedFlushedAndEvictedStates 6);
     let i : Nat := 0;
     let s : State := nth tilesAreRefusedFlushedAndEvictedStates 10;
     let y : TileSlot := tileSlot s i;
     let at' : Option Nat := slotOf s (i32 x.bytes 8) (i32 x.bytes 12);
     ringBusy s 85 = false ∧ loadPending s (i32 x.bytes 8) (i32 x.bytes 12) = false ∧ keyOk x = true ∧ Ready s 85 2 x ∧ at' = some i ∧ y.resident = true) ∧
    (let x : Desc := headDesc 85 (nth tilesAreRefusedFlushedAndEvictedStates 6);
     let i : Nat := 0;
     let s : State := nth tilesAreRefusedFlushedAndEvictedStates 14;
     let y : TileSlot := tileSlot s i;
     let at' : Option Nat := slotOf s (i32 x.bytes 8) (i32 x.bytes 12);
     ringBusy s 85 = false ∧ loadPending s (i32 x.bytes 8) (i32 x.bytes 12) = false ∧ keyOk x = true ∧ Ready s 85 2 x ∧ at' = some i ∧ y.resident = false) ∧
    (let x : Desc := headDesc 85 (nth tilesAreRefusedFlushedAndEvictedStates 6);
     let i : Nat := 0;
     let s : State := nth tilesAreRefusedFlushedAndEvictedStates 6;
     let at' : Option Nat := slotOf s (i32 x.bytes 8) (i32 x.bytes 12);
     ringBusy s 85 = false ∧
       loadPending s (i32 x.bytes 8) (i32 x.bytes 12) = false ∧
         keyOk x = true ∧ Ready s 85 2 x ∧ at' = none ∧ keyOnItsWay s (i32 x.bytes 8) (i32 x.bytes 12) = false ∧ freeSlot s = some i) ∧
    (let x : Desc := headDesc 85 (nth tilesAreRefusedFlushedAndEvictedStates 7);
     let s : State := nth tilesAreRefusedFlushedAndEvictedStates 7;
     let at' : Option Nat := slotOf s (i32 x.bytes 8) (i32 x.bytes 12);
     ringBusy s 85 = false ∧ loadPending s (i32 x.bytes 8) (i32 x.bytes 12) = false ∧ keyOk x = true ∧ Ready s 85 3 x ∧ at' = none) ∧
    (let x : Desc := headDesc 85 (nth tilesAreRefusedFlushedAndEvictedStates 7);
     let i : Nat := 0;
     let s : State := nth tilesAreRefusedFlushedAndEvictedStates 11;
     let y : TileSlot := tileSlot s i;
     let at' : Option Nat := slotOf s (i32 x.bytes 8) (i32 x.bytes 12);
     ringBusy s 85 = false ∧
       loadPending s (i32 x.bytes 8) (i32 x.bytes 12) = false ∧ keyOk x = true ∧ Ready s 85 3 x ∧ at' = some i ∧ y.st = SlotState.clean) ∧
    (let x : Desc := headDesc 85 (nth tilesAreRefusedFlushedAndEvictedStates 7);
     let i : Nat := 1;
     let s : State := nth tilesAreRefusedFlushedAndEvictedStates 19;
     let y : TileSlot := tileSlot s i;
     let at' : Option Nat := slotOf s (i32 x.bytes 8) (i32 x.bytes 12);
     let b : W32 := 1;
     let a : Nat := 64;
     let rest : List (W32 × Nat) := [(2#32, 128)];
     ringBusy s 85 = false ∧
       loadPending s (i32 x.bytes 8) (i32 x.bytes 12) = false ∧
         keyOk x = true ∧ s.engine.coverage.buffers = (b, a) :: rest ∧ Ready s 85 3 x ∧ at' = some i ∧ y.st = SlotState.dirty) ∧
    (let x : Desc := headDesc 85 (nth tilesAreRefusedFlushedAndEvictedStates 8);
     let s : State := nth tilesAreRefusedFlushedAndEvictedStates 8;
     let at' : Option Nat := slotOf s (i32 x.bytes 8) (i32 x.bytes 12);
     ringBusy s 85 = false ∧
       loadPending s (i32 x.bytes 8) (i32 x.bytes 12) = false ∧
         keyOk x = true ∧ Ready s 85 4 x ∧ descFlag x 2 = false ∧ at' = none ∧ s.engine.coverage.evicting = none) ∧
    (let x : Desc := headDesc 85 (nth tilesAreRefusedFlushedAndEvictedStates 8);
     let i : Nat := 0;
     let s : State := nth tilesAreRefusedFlushedAndEvictedStates 12;
     let y : TileSlot := tileSlot s i;
     let at' : Option Nat := slotOf s (i32 x.bytes 8) (i32 x.bytes 12);
     ringBusy s 85 = false ∧
       loadPending s (i32 x.bytes 8) (i32 x.bytes 12) = false ∧
         keyOk x = true ∧
           Ready s 85 4 x ∧ at' = some i ∧ descFlag x 2 = false ∧ y.load = none ∧ (y.st = SlotState.clean ∨ y.st = SlotState.dirty ∧ descFlag x 3 = true)) := by and_intros <;> decide

theorem witness_TilesAreSuppliedAndReturned_BuffersLoadsAndWritebacks :
    (let t : Time := 0;
     let s : State := nth buffersLoadsAndWritebacksStates 0;
     let b : State := begin' t s;
     let x : Desc := headDesc 86 (nth buffersLoadsAndWritebacksStates 0);
     Ready s 86 1 x ∧ s.engine.coverage.evicting = none ∧ tilesMisuse (runDesc 86 1 bufferDesc b) = false ∧ u64 x.bytes 8 % 64 = 0) ∧
    (let t : Time := 0;
     let s : State := nth buffersLoadsAndWritebacksStates 1;
     let b : State := begin' t s;
     let x : Desc := headDesc 86 (nth buffersLoadsAndWritebacksStates 1);
     Ready s 86 1 x ∧ s.engine.coverage.evicting = none ∧ tilesMisuse (runDesc 86 1 bufferDesc b) = false ∧ u64 x.bytes 8 % 64 ≠ 0) ∧
    (let s : State := nth buffersLoadsAndWritebacksStates 7;
     let i : Fin 256 := 0;
     let y : TileSlot := tileSlot s ↑i;
     let ld : TileLoad := { fill := 0, cells := [], replace := false, index := some 0#32 : TileLoad };
     y.load = some ld ∧ ld.done = false) ∧
    (let s : State := nth buffersLoadsAndWritebacksStates 2;
     let i : Fin 256 := 0;
     let y : TileSlot := tileSlot s ↑i;
     let ld : TileLoad := { fill := 0, cells := [], replace := false, index := some 0#32, done := true : TileLoad };
     y.load = some ld ∧ ld.done = true) ∧
    (let s : State := nth buffersLoadsAndWritebacksStates 0;
     let i : Fin 256 := 0;
     let y : TileSlot := tileSlot s ↑i;
     y.load = none) ∧
    (let s : State := nth buffersLoadsAndWritebacksStates 0;
     let i : Fin 256 := 0;
     let y : TileSlot := tileSlot s ↑i;
     y.write = none) ∧
    (let s : State := nth buffersLoadsAndWritebacksStates 8;
     let i : Fin 256 := 1;
     let y : TileSlot := tileSlot s ↑i;
     let w : TileWrite := { buffer := 1#32, addr := 64, reason := 2 : TileWrite };
     let r : Ring := ring s 86;
     y.write = some w ∧ reachable s r = false) ∧
    (let s : State := nth buffersLoadsAndWritebacksStates 3;
     let i : Fin 256 := 1;
     let y : TileSlot := tileSlot s ↑i;
     let w : TileWrite := { buffer := 1#32, addr := 64, reason := 2 : TileWrite };
     let r : Ring := ring s 86;
     y.write = some w ∧ reachable s r = true ∧ w.nextKey = none ∧ s.engine.coverage.evicting = none) := by and_intros <;> decide

theorem witness_FramesArriveAndTargetsArePlaced_FramesArrive :
    (let m : Fin 2 := 0;
     let s : State := nth framesArriveStates 4;
     ethRuns s ↑m = false) ∧
    (let m : Fin 2 := 0;
     let fcs : Bool := false;
     let frame : List Byte := List.replicate 60 255;
     let s : State := nth framesArriveStates 0;
     let sized : Prop := 60 ≤ frame.length ∧ frame.length ≤ 2044;
     ethRuns s ↑m = true ∧ (fcs = false ∨ ¬sized)) ∧
    (let m : Fin 2 := 0;
     let fcs : Bool := true;
     let frame : List Byte := List.replicate 60 0;
     let s : State := nth framesArriveStates 0;
     let sized : Prop := 60 ≤ frame.length ∧ frame.length ≤ 2044;
     ethRuns s ↑m = true ∧ fcs = true ∧ sized ∧ addressOk s (↑m) frame = false) ∧
    (let m : Fin 2 := 0;
     let fcs : Bool := true;
     let frame : List Byte :=
       List.replicate 12 0 ++ [8, 0, 69] ++ List.replicate 8 0 ++ [17, 186, 238] ++ List.replicate 11 0 ++ [5, 0, 40, 0, 0, 71, 89, 1, 1, 5] ++
         List.replicate 27 0;
     let s : State := nth arrivals 1;
     let sized : Prop := 60 ≤ frame.length ∧ frame.length ≤ 2044;
     ethRuns s ↑m = true ∧ fcs = true ∧ sized ∧ addressOk s (↑m) frame = true ∧ crossDown s 15 = true) ∧
    (let m : Fin 2 := 0;
     let fcs : Bool := true;
     let frame : List Byte := List.replicate 60 0;
     let s : State := nth framesArriveStates 1;
     let sized : Prop := 60 ≤ frame.length ∧ frame.length ≤ 2044;
     ethRuns s ↑m = true ∧ fcs = true ∧ sized ∧ addressOk s (↑m) frame = true ∧ crossDown s 15 = false ∧ isTarget s (↑m) frame = false) ∧
    (let m : Fin 2 := 0;
     let fcs : Bool := true;
     let frame : List Byte :=
       List.replicate 12 0 ++ [8, 0, 69] ++ List.replicate 8 0 ++ [17, 186, 238] ++ List.replicate 11 0 ++ [5] ++ List.replicate 64 0;
     let s : State := nth framesArriveStates 1;
     let sized : Prop := 60 ≤ frame.length ∧ frame.length ≤ 2044;
     let udp : Nat := ipAt frame + 20;
     let p : List Byte := List.drop (udp + 8) frame;
     let count : Nat := u8 p 3;
     let camera : Nat := u16 p 4;
     let known : Prop := u16 p 0 = 22855 ∧ u8 p 2 = 1;
     let entry : Option Nat := List.find? (fun k => rb s R.ETH_CAM_ID k 31 && decide (rf s R.ETH_CAM_ID k 15 0 = camera)) (List.range 64);
     let recs : List (List Byte) := List.map (fun i => List.drop (16 + 16 * i) p) (List.range count);
     let inOrder : Prop := (recs.all fun r => decide (i16 r 0 ≤ i16 r 2) && decide (i16 r 4 ≤ i16 r 6)) = true;
     let fits : Prop := net16 frame (udp + 4) = 24 + 16 * count ∧ 16 + 16 * count ≤ p.length;
     let good : Prop := known ∧ 1 ≤ count ∧ count ≤ 64 ∧ fits ∧ entry ≠ none ∧ inOrder;
     ethRuns s ↑m = true ∧ fcs = true ∧ sized ∧ addressOk s (↑m) frame = true ∧ crossDown s 15 = false ∧ isTarget s (↑m) frame = true ∧ ¬good) ∧
    (let m : Fin 2 := 0;
     let fcs : Bool := true;
     let frame : List Byte :=
       List.replicate 12 0 ++ [8, 0, 69] ++ List.replicate 8 0 ++ [17, 186, 238] ++ List.replicate 11 0 ++ [5, 0, 40, 0, 0, 71, 89, 1, 1, 5] ++
         List.replicate 27 0;
     let s : State := nth arrivals 0;
     let sized : Prop := 60 ≤ frame.length ∧ frame.length ≤ 2044;
     let udp : Nat := ipAt frame + 20;
     let p : List Byte := List.drop (udp + 8) frame;
     let count : Nat := u8 p 3;
     let camera : Nat := u16 p 4;
     let known : Prop := u16 p 0 = 22855 ∧ u8 p 2 = 1;
     let entry : Option Nat := List.find? (fun k => rb s R.ETH_CAM_ID k 31 && decide (rf s R.ETH_CAM_ID k 15 0 = camera)) (List.range 64);
     let recs : List (List Byte) := List.map (fun i => List.drop (16 + 16 * i) p) (List.range count);
     let inOrder : Prop := (recs.all fun r => decide (i16 r 0 ≤ i16 r 2) && decide (i16 r 4 ≤ i16 r 6)) = true;
     let fits : Prop := net16 frame (udp + 4) = 24 + 16 * count ∧ 16 + 16 * count ≤ p.length;
     let good : Prop := known ∧ 1 ≤ count ∧ count ≤ 64 ∧ fits ∧ entry ≠ none ∧ inOrder;
     ethRuns s ↑m = true ∧ fcs = true ∧ sized ∧ addressOk s (↑m) frame = true ∧ crossDown s 15 = false ∧ isTarget s (↑m) frame = true ∧ good) := by and_intros <;> decide

theorem witness_FramesArriveAndTargetsArePlaced_TargetsAreQueued :
    (let r : TargetRec :=
       { mac := 0, entry := 0, camera := 1, sequence := 0, exposure := 0, alongMin := 0, alongMax := 0, latMin := 0, latMax := 0, dt := 0, id := 1,
         cls := 0 : TargetRec };
     let conf : Nat := 0;
     let s : State := nth framesArriveStates 7;
     let low : Prop := conf < rf s R.ETH_CAM_ID r.entry 23 16;
     low) ∧
    (let r : TargetRec :=
       { mac := 0, entry := 0, camera := 1, sequence := 0, exposure := 0, alongMin := 0, alongMax := 0, latMin := 0, latMax := 0, dt := 0, id := 1,
         cls := 0 : TargetRec };
     let conf : Nat := 0;
     let s : State := nth framesArriveStates 0;
     let low : Prop := conf < rf s R.ETH_CAM_ID r.entry 23 16;
     let room : Prop := s.eth.queue.length < 4096;
     ¬low ∧ room) ∧
    (let r : TargetRec :=
       { mac := 0, entry := 0, camera := 1, sequence := 0, exposure := 0, alongMin := 0, alongMax := 0, latMin := 0, latMax := 0, dt := 0, id := 1,
         cls := 0 : TargetRec };
     let conf : Nat := 0;
     let s : State := nth framesArriveStates 21;
     let low : Prop := conf < rf s R.ETH_CAM_ID r.entry 23 16;
     let room : Prop := s.eth.queue.length < 4096;
     let first : Prop := (ethMac s 0).dropped = 0 ∧ (ethMac s 1).dropped = 0;
     ¬low ∧ ¬room ∧ first) ∧
    (let r : TargetRec :=
       { mac := 0, entry := 0, camera := 1, sequence := 0, exposure := 0, alongMin := 0, alongMax := 0, latMin := 0, latMax := 0, dt := 0, id := 1,
         cls := 0 : TargetRec };
     let conf : Nat := 0;
     let s : State := nth fullQueue 0;
     let low : Prop := conf < rf s R.ETH_CAM_ID r.entry 23 16;
     let room : Prop := s.eth.queue.length < 4096;
     let first : Prop := (ethMac s 0).dropped = 0 ∧ (ethMac s 1).dropped = 0;
     ¬low ∧ ¬room ∧ ¬first) := by and_intros <;> decide

theorem witness_FramesArriveAndTargetsArePlaced_TargetsArePlaced :
    (let s : State := State.reset;
     s.eth.queue = []) ∧
    (let s : State := nth placements 0;
     let r : TargetRec :=
       { mac := 0, entry := 0, camera := 1, sequence := 0, exposure := 0, alongMin := 0, alongMax := 0, latMin := 0, latMax := 0, dt := 0, id := 1,
         cls := 0 : TargetRec };
     let rest : List TargetRec := [];
     s.eth.queue = r :: rest ∧ crossDown s 15 = true) ∧
    (let t : Time := 0;
     let s : State := nth targetsArePlacedCases 3;
     let b : State := begin' t s;
     let r : TargetRec :=
       { mac := 0, entry := 0, camera := 1, sequence := 0, exposure := 1000000000000000, alongMin := 200, alongMax := 400, latMin := -50, latMax := 80,
         dt := 5000, id := 1, cls := 0 : TargetRec };
     let rest : List TargetRec :=
       [{ mac := 0, entry := 0, camera := 1, sequence := 0, exposure := 10000000, alongMin := 200, alongMax := 400, latMin := -50, latMax := 80,
           dt := 5000, id := 1, cls := 0 : TargetRec }];
     s.eth.queue = r :: rest ∧ crossDown s 15 = false ∧ mapTime b r.mac r.exposure = none) ∧
    (let t : Time := 0;
     let s : State := nth placements 2;
     let b : State := begin' t s;
     let r : TargetRec :=
       { mac := 0, entry := 0, camera := 1, sequence := 0, exposure := 10000000, alongMin := 200, alongMax := 400, latMin := -50, latMax := 80,
         dt := -5100000, id := 1, cls := 0 : TargetRec };
     let rest : List TargetRec := [];
     let te : Int := 1002000000;
     let time : Int := te + 200 * r.dt;
     s.eth.queue = r :: rest ∧ crossDown s 15 = false ∧ mapTime b r.mac r.exposure = some te ∧ (time < 0 ∨ lookupAt b time.toNat = Lookup.expired)) ∧
    (let t : Time := 0;
     let s : State := nth placements 3;
     let b : State := begin' t s;
     let r : TargetRec :=
       { mac := 0, entry := 0, camera := 1, sequence := 0, exposure := 10000000, alongMin := 200, alongMax := 400, latMin := -50, latMax := 80,
         dt := 50000000, id := 1, cls := 0 : TargetRec };
     let rest : List TargetRec := [];
     let te : Int := 1002000000;
     let time : Int := te + 200 * r.dt;
     s.eth.queue = r :: rest ∧ crossDown s 15 = false ∧ mapTime b r.mac r.exposure = some te ∧ 0 ≤ time ∧ lookupAt b time.toNat = Lookup.future) ∧
    (let t : Time := 0;
     let s : State := nth placements 1;
     let b : State := begin' t s;
     let r : TargetRec :=
       { mac := 0, entry := 0, camera := 1, sequence := 0, exposure := 10000000, alongMin := 200, alongMax := 400, latMin := -50, latMax := 80, dt := 5000,
         id := 1, cls := 0 : TargetRec };
     let rest : List TargetRec := [];
     let te : Int := 1002000000;
     let time : Int := te + 200 * r.dt;
     let d : Int := 0;
     let x : Int := 0;
     let y : Int := 1;
     let h : Int := 0;
     let φ : Int := 0;
     s.eth.queue = r :: rest ∧ crossDown s 15 = false ∧ mapTime b r.mac r.exposure = some te ∧ 0 ≤ time ∧ lookupAt b time.toNat = Lookup.found d x y h φ) ∧
    (let s : State := nth targetsArePlacedCases 0;
     let r : TargetRec :=
       { mac := 0, entry := 0, camera := 1, sequence := 0, exposure := 10000000, alongMin := 200, alongMax := 400, latMin := -50, latMax := 80, dt := 5000,
         id := 1, cls := 0 : TargetRec };
     let fx : Int := 45875200;
     let fy : Int := 45875200;
     let k : Nat := 0;
     let l : Lane := lane s k;
     let c : Pose := s.course.pose;
     let p : Int :=
       if l.implement = true then (bodyFrame s l fx fy).fst else roundDiv ((fx - c.x) * cosQ c.heading 48 + (fy - c.y) * sinQ c.heading 48) (2 ^ 30);
     let q : Int :=
       if l.implement = true then (bodyFrame s l fx fy).snd else roundDiv ((fy - c.y) * cosQ c.heading 48 - (fx - c.x) * sinQ c.heading 48) (2 ^ 30);
     let g : W32 := rd s R.ETH_CAM_MARGIN r.entry;
     let d : Int := p - l.foreAft * 2 ^ 16;
     let yaw : Int := if l.implement = true then s.course.yawT else s.course.yaw;
     let bend : Int := if 6400 * 2 ^ 8 ≤ l.v.natAbs then roundDiv (yaw * ↑twoPi * d * d * if 0 < l.v then 1 else -1) (l.v.natAbs * 2 ^ 64) else 0;
     let path : Int := l.y * 2 ^ 16 + bend;
     let half : Int := ↑l.halfWidth * 2 ^ 16;
     let hl : Int := (r.latMax - r.latMin) * 2 ^ 15;
     let side : Int := ↑(fld g 7 0) * 2 ^ 16;
     let meets : Prop := path - half < q + hl + side ∧ q - hl - side < path + half;
     ¬meets) ∧
    (let s : State := nth targetsArePlacedCases 0;
     let r : TargetRec :=
       { mac := 0, entry := 0, camera := 1, sequence := 0, exposure := 10000000, alongMin := 200, alongMax := 400, latMin := -50, latMax := 80, dt := 5000,
         id := 1, cls := 0 : TargetRec };
     let fx : Int := 45875200;
     let fy : Int := 0;
     let k : Nat := 0;
     let l : Lane := lane s k;
     let c : Pose := s.course.pose;
     let p : Int :=
       if l.implement = true then (bodyFrame s l fx fy).fst else roundDiv ((fx - c.x) * cosQ c.heading 48 + (fy - c.y) * sinQ c.heading 48) (2 ^ 30);
     let q : Int :=
       if l.implement = true then (bodyFrame s l fx fy).snd else roundDiv ((fy - c.y) * cosQ c.heading 48 - (fx - c.x) * sinQ c.heading 48) (2 ^ 30);
     let g : W32 := rd s R.ETH_CAM_MARGIN r.entry;
     let d : Int := p - l.foreAft * 2 ^ 16;
     let yaw : Int := if l.implement = true then s.course.yawT else s.course.yaw;
     let bend : Int := if 6400 * 2 ^ 8 ≤ l.v.natAbs then roundDiv (yaw * ↑twoPi * d * d * if 0 < l.v then 1 else -1) (l.v.natAbs * 2 ^ 64) else 0;
     let path : Int := l.y * 2 ^ 16 + bend;
     let half : Int := ↑l.halfWidth * 2 ^ 16;
     let hl : Int := (r.latMax - r.latMin) * 2 ^ 15;
     let ha : Int := (r.alongMax - r.alongMin) * 2 ^ 15;
     let side : Int := ↑(fld g 7 0) * 2 ^ 16;
     let meets : Prop := path - half < q + hl + side ∧ q - hl - side < path + half;
     let off : Int := wrapS 48 (courseFor s l + roundDiv (d + ha + ↑(fld g 15 8) * 2 ^ 16) (2 ^ 10));
     meets ∧ ahead off (courseFor s l) = false) ∧
    (let s : State := nth placements 4;
     let r : TargetRec :=
       { mac := 0, entry := 0, camera := 1, sequence := 0, exposure := 0, alongMin := 0, alongMax := 0, latMin := 0, latMax := 0, dt := 0, id := 1,
         cls := 0 : TargetRec };
     let fx : Int := 1002000000;
     let fy : Int := 0;
     let k : Nat := 0;
     let l : Lane := lane s k;
     let c : Pose := s.course.pose;
     let p : Int :=
       if l.implement = true then (bodyFrame s l fx fy).fst else roundDiv ((fx - c.x) * cosQ c.heading 48 + (fy - c.y) * sinQ c.heading 48) (2 ^ 30);
     let q : Int :=
       if l.implement = true then (bodyFrame s l fx fy).snd else roundDiv ((fy - c.y) * cosQ c.heading 48 - (fx - c.x) * sinQ c.heading 48) (2 ^ 30);
     let g : W32 := rd s R.ETH_CAM_MARGIN r.entry;
     let d : Int := p - l.foreAft * 2 ^ 16;
     let yaw : Int := if l.implement = true then s.course.yawT else s.course.yaw;
     let bend : Int := if 6400 * 2 ^ 8 ≤ l.v.natAbs then roundDiv (yaw * ↑twoPi * d * d * if 0 < l.v then 1 else -1) (l.v.natAbs * 2 ^ 64) else 0;
     let path : Int := l.y * 2 ^ 16 + bend;
     let half : Int := ↑l.halfWidth * 2 ^ 16;
     let hl : Int := (r.latMax - r.latMin) * 2 ^ 15;
     let ha : Int := (r.alongMax - r.alongMin) * 2 ^ 15;
     let side : Int := ↑(fld g 7 0) * 2 ^ 16;
     let meets : Prop := path - half < q + hl + side ∧ q - hl - side < path + half;
     let off : Int := wrapS 48 (courseFor s l + roundDiv (d + ha + ↑(fld g 15 8) * 2 ^ 16) (2 ^ 10));
     let full : Prop := laneCap s < l.entries + 2 ∨ s.engine.poolFree < 2;
     meets ∧ ahead off (courseFor s l) = true ∧ full) ∧
    (let s : State := nth targetsArePlacedCases 0;
     let r : TargetRec :=
       { mac := 0, entry := 0, camera := 1, sequence := 0, exposure := 10000000, alongMin := 200, alongMax := 400, latMin := -50, latMax := 80, dt := 5000,
         id := 1, cls := 0 : TargetRec };
     let fx : Int := 45875200;
     let fy : Int := 0;
     let k : Nat := 20000000000;
     let l : Lane := lane s k;
     let c : Pose := s.course.pose;
     let p : Int :=
       if l.implement = true then (bodyFrame s l fx fy).fst else roundDiv ((fx - c.x) * cosQ c.heading 48 + (fy - c.y) * sinQ c.heading 48) (2 ^ 30);
     let q : Int :=
       if l.implement = true then (bodyFrame s l fx fy).snd else roundDiv ((fy - c.y) * cosQ c.heading 48 - (fx - c.x) * sinQ c.heading 48) (2 ^ 30);
     let g : W32 := rd s R.ETH_CAM_MARGIN r.entry;
     let d : Int := p - l.foreAft * 2 ^ 16;
     let yaw : Int := if l.implement = true then s.course.yawT else s.course.yaw;
     let bend : Int := if 6400 * 2 ^ 8 ≤ l.v.natAbs then roundDiv (yaw * ↑twoPi * d * d * if 0 < l.v then 1 else -1) (l.v.natAbs * 2 ^ 64) else 0;
     let path : Int := l.y * 2 ^ 16 + bend;
     let half : Int := ↑l.halfWidth * 2 ^ 16;
     let hl : Int := (r.latMax - r.latMin) * 2 ^ 15;
     let ha : Int := (r.alongMax - r.alongMin) * 2 ^ 15;
     let side : Int := ↑(fld g 7 0) * 2 ^ 16;
     let meets : Prop := path - half < q + hl + side ∧ q - hl - side < path + half;
     let off : Int := wrapS 48 (courseFor s l + roundDiv (d + ha + ↑(fld g 15 8) * 2 ^ 16) (2 ^ 10));
     let full : Prop := laneCap s < l.entries + 2 ∨ s.engine.poolFree < 2;
     meets ∧ ahead off (courseFor s l) = true ∧ ¬full) ∧
    (let s : State := nth targetsArePlacedCases 2;
     let r : TargetRec :=
       { mac := 0, entry := 0, camera := 1, sequence := 0, exposure := 10000000, alongMin := 200, alongMax := 400, latMin := -50, latMax := 80, dt := 5000,
         id := 1, cls := 0 : TargetRec };
     let o : Fin 8 := 0;
     let m : Nat := r.mac;
     let mode : Nat := rf s R.ETH_TGT_CFG m 29 28;
     mode = 2 ∨ mode ≠ 0 ∧ ↑o ≠ 0) ∧
    (let s : State := nth targetsArePlacedCases 0;
     let r : TargetRec :=
       { mac := 0, entry := 0, camera := 1, sequence := 0, exposure := 10000000, alongMin := 200, alongMax := 400, latMin := -50, latMax := 80, dt := 5000,
         id := 1, cls := 0 : TargetRec };
     let o : Fin 8 := 0;
     let m : Nat := r.mac;
     let mode : Nat := rf s R.ETH_TGT_CFG m 29 28;
     ¬(mode = 2 ∨ mode ≠ 0 ∧ ↑o ≠ 0)) := by and_intros <;> decide

theorem witness_EthernetSendsMapsTimeAndTakesWrites_FramesAreSentAndTimesMapped :
    (let m : Fin 2 := 0;
     let s : State := nth framesArriveStates 4;
     let n : Nat := ethTxRing ↑m;
     let down : Bool := crossDown s 14;
     txBusy s n = true ∨ ethRuns s ↑m = false ∧ down = false) ∧
    (let m : Fin 2 := 0;
     let s : State := nth framesArriveStates 6;
     let n : Nat := ethTxRing ↑m;
     txBusy s n = true) ∧
    (let m : Fin 2 := 0;
     let x : Desc := headDesc 80 (nth framesArriveStates 3);
     let s : State := nth framesArriveStates 3;
     let n : Nat := ethTxRing ↑m;
     let down : Bool := crossDown s 14;
     txBusy s n = false ∧ ethRuns s ↑m = true ∧ down = false ∧ Ready s n 1 x ∧ 14 ≤ u16 x.bytes 16 ∧ u16 x.bytes 16 ≤ 2044) ∧
    (let m : Fin 2 := 0;
     let x : Desc := headDesc 80 (nth framesArriveStates 2);
     let s : State := nth framesArriveStates 2;
     let n : Nat := ethTxRing ↑m;
     let down : Bool := crossDown s 14;
     txBusy s n = false ∧ ethRuns s ↑m = true ∧ down = false ∧ Ready s n 1 x ∧ (u16 x.bytes 16 < 14 ∨ 2044 < u16 x.bytes 16)) ∧
    (let m : Fin 2 := 0;
     let x : Desc := headDesc 80 (nth framesArriveStates 3);
     let s : State := nth framesArriveStates 5;
     let n : Nat := ethTxRing ↑m;
     let down : Bool := crossDown s 14;
     txBusy s n = false ∧ down = true ∧ Ready s n 1 x) ∧
    (let m : Fin 2 := 0;
     let x : Desc := headDesc 80 (nth framesArriveStates 13);
     let s : State := nth framesArriveStates 15;
     let n : Nat := ethTxRing ↑m;
     let down : Bool := crossDown s 14;
     txBusy s n = false ∧ down = true ∧ Ready s n 2 x) ∧
    (let m : Fin 2 := 0;
     let x : Desc := headDesc 80 (nth framesArriveStates 6);
     let s : State := nth framesArriveStates 6;
     let n : Nat := ethTxRing ↑m;
     let r : Ring := ring s n;
     List.find? (fun y => decide (y.phase = DescPhase.running)) r.fetched = some x) ∧
    (let m : Fin 2 := 0;
     let s : State := nth framesArriveStates 0;
     let n : Nat := ethTxRing ↑m;
     let r : Ring := ring s n;
     List.find? (fun y => decide (y.phase = DescPhase.running)) r.fetched = none) ∧
    (let m : Fin 2 := 0;
     let x : Desc := headDesc 80 (nth framesArriveStates 13);
     let s : State := nth framesArriveStates 13;
     let n : Nat := ethTxRing ↑m;
     let down : Bool := crossDown s 14;
     txBusy s n = false ∧ down = false ∧ Ready s n 2 x ∧ u32 x.bytes 24 ≠ 0) ∧
    (let m : Fin 2 := 0;
     let x : Desc := headDesc 80 (nth framesArriveStates 14);
     let s : State := nth framesArriveStates 14;
     let n : Nat := ethTxRing ↑m;
     let down : Bool := crossDown s 14;
     txBusy s n = false ∧ down = false ∧ Ready s n 2 x ∧ u32 x.bytes 24 = 0) := by and_intros <;> decide

theorem witness_EthernetSendsMapsTimeAndTakesWrites_EthernetRegistersAct :
    (let v : W32 := 0;
     flag v 31 = false) ∧
    (let a : Actor := Actor.host;
     let v : W32 := 4294967295;
     let s : State := nth framesArriveStates 4;
     let m : Fin 2 := 0;
     flag v 31 = true ∧
       gateWrite s a (regOff R.ETH_CFG (↑m) 0) 4 = Gate.allow ∧ operational s = true ∧ crossDown s 14 = false ∧ rb s R.ETH_CFG (↑m) 31 = false) ∧
    (let a : Actor := Actor.host;
     let v : W32 := 4294967295;
     let s : State := nth framesArriveStates 0;
     let m : Fin 2 := 0;
     flag v 31 = true ∧
       gateWrite s a (regOff R.ETH_CFG (↑m) 0) 4 = Gate.allow ∧ operational s = true ∧ crossDown s 14 = false ∧ rb s R.ETH_CFG (↑m) 31 = true) ∧
    (let a : Actor := Actor.host;
     let v : W32 := 2147483648;
     let s : State := nth registerWritesPassTheirGateStates 1;
     let m : Fin 2 := 0;
     flag v 31 = true ∧ gateWrite s a (regOff R.ETH_CFG (↑m) 0) 4 = Gate.allow ∧ operational s = false) ∧
    (let a : Actor := Actor.host;
     let s : State := nth framesArriveStates 0;
     gateWrite s a R.ETH_MDIO.base 4 = Gate.allow ∧ crossDown s 14 = false ∧ s.eth.mdioBusy = false) ∧
    (let a : Actor := Actor.host;
     let s : State := nth framesArriveStates 18;
     gateWrite s a R.ETH_MDIO.base 4 = Gate.allow ∧ crossDown s 14 = false ∧ s.eth.mdioBusy = true) ∧
    (let s : State := nth framesArriveStates 18;
     s.eth.mdioBusy = true ∧ rb s R.ETH_MDIO 0 30 = false) ∧
    (let s : State := nth framesArriveStates 19;
     s.eth.mdioBusy = true ∧ rb s R.ETH_MDIO 0 30 = true) ∧
    (let s : State := nth framesArriveStates 0;
     s.eth.mdioBusy = false) := by and_intros <;> decide

theorem witness_PwmChannelsReloadStartAndStop :
    (let t : Time := 16777216;
     let n : Fin 48 := 0;
     let s : State := nth pwmChannelsReloadStartAndStopStates 1;
     let b : State := begin' t s;
     let c : PwmCh := pwmCh s ↑n;
     let w : Nat := (nextReload s ↑n).fst;
     let due : Prop := c.started = true ∧ s.pwm.clockBad = false ∧ pwmOdd s ↑n = false ∧ w + 5 ≤ 12 * b.now;
     due ∧ rb s R.PWM_CFG (↑n) 22 = false ∧ fld (rd s R.PWM_LIMIT ↑n) 9 0 = 0) ∧
    (let t : Time := 16777216;
     let n : Fin 48 := 0;
     let s : State := nth pwmChannelsReloadStartAndStopStates 1;
     let b : State := begin' t s;
     let c : PwmCh := pwmCh s ↑n;
     let w : Nat := (nextReload s ↑n).fst;
     let due : Prop := c.started = true ∧ s.pwm.clockBad = false ∧ pwmOdd s ↑n = false ∧ w + 5 ≤ 12 * b.now;
     due ∧ rb s R.PWM_CFG (↑n) 31 = true ∧ c.tripHold = false ∧ c.clockHold = false ∧ c.haltHold = false) ∧
    (let t : Time := 16777216;
     let n : Fin 48 := 0;
     let s : State := nth pwmChannelsReloadStartAndStopStates 1;
     let b : State := begin' t s;
     let c : PwmCh := pwmCh s ↑n;
     let w : Nat := (nextReload s ↑n).fst;
     let unarmed : Prop := ∀ (m : Fin 48), (pwmCh s ↑m).armed = [];
     let due : Prop := c.started = true ∧ s.pwm.clockBad = false ∧ pwmOdd s ↑n = false ∧ w + 5 ≤ 12 * b.now;
     due ∧ unarmed) ∧
    (let t : Time := 5;
     let n : Fin 48 := 0;
     let s : State := nth pwmChannelsReloadStartAndStopStates 0;
     let b : State := begin' t s;
     let c : PwmCh := pwmCh s ↑n;
     let w : Nat := (nextReload s ↑n).fst;
     let due : Prop := c.started = true ∧ s.pwm.clockBad = false ∧ pwmOdd s ↑n = false ∧ w + 5 ≤ 12 * b.now;
     ¬due) ∧
    (let n : Fin 48 := 0;
     let s : State := nth pwmChannelsReloadStartAndStopStates 6;
     let unarmed : Prop := ∀ (m : Fin 48), (pwmCh s ↑m).armed = [];
     let a : Actor := Actor.host;
     let v : W32 := 3221225472;
     let on : Bool := rb s R.PWM_CFG (↑n) 31;
     gateWrite s a (regOff R.PWM_CFG (↑n) 0) 4 = Gate.allow ∧ crossDown s 10 = false ∧ flag v 31 = true ∧ operational s = true ∧ on = false ∧ unarmed) ∧
    (let n : Fin 48 := 0;
     let s : State := nth pwmChannelsReloadStartAndStopStates 0;
     let a : Actor := Actor.host;
     let v : W32 := 4294967295;
     let on : Bool := rb s R.PWM_CFG (↑n) 31;
     gateWrite s a (regOff R.PWM_CFG (↑n) 0) 4 = Gate.allow ∧ crossDown s 10 = false ∧ flag v 31 = true ∧ operational s = true ∧ on = true) ∧
    (let n : Fin 48 := 0;
     let s : State := nth pwmChannelsReloadStartAndStopStates2 2;
     let a : Actor := Actor.host;
     let v : W32 := 3221225472;
     gateWrite s a (regOff R.PWM_CFG (↑n) 0) 4 = Gate.allow ∧ crossDown s 10 = false ∧ flag v 31 = true ∧ operational s = false) ∧
    (let n : Fin 48 := 0;
     let s : State := nth pwmChannelsReloadStartAndStopStates 0;
     let a : Actor := Actor.host;
     let v : W32 := 0;
     let on : Bool := rb s R.PWM_CFG (↑n) 31;
     gateWrite s a (regOff R.PWM_CFG (↑n) 0) 4 = Gate.allow ∧ crossDown s 10 = false ∧ flag v 31 = false ∧ on = true) ∧
    (let n : Fin 48 := 0;
     let s : State := nth pwmChannelsReloadStartAndStopStates 6;
     let a : Actor := Actor.host;
     let v : W32 := 0;
     let on : Bool := rb s R.PWM_CFG (↑n) 31;
     gateWrite s a (regOff R.PWM_CFG (↑n) 0) 4 = Gate.allow ∧ crossDown s 10 = false ∧ flag v 31 = false ∧ on = false) := by and_intros <;> decide

theorem witness_CompareWritesAndLaneEventsAct_CompareWritesMoveShadows :
    (let n : Fin 48 := 0;
     let a : Actor := Actor.host;
     let s : State := nth pwmChannelsReloadStartAndStopStates 0;
     crossDown s 10 = false ∧ gateWrite s a (regOff R.PWM_CMP (↑n) 0) 8 = Gate.allow ∧ laneOfPwm s ↑n = none) ∧
    (let n : Fin 48 := 0;
     let a : Actor := Actor.host;
     let s : State := nth compareWritesMoveShadowsStates 0;
     crossDown s 10 = false ∧ gateWrite s a (regOff R.PWM_CMP (↑n) 0) 8 = Gate.allow ∧ laneOfPwm s ↑n ≠ none ∧ flag s.security.badAcc 31 = false) ∧
    (let n : Fin 48 := 0;
     let a : Actor := Actor.host;
     let s : State := nth pwmChannelsReloadStartAndStopStates 0;
     crossDown s 10 = false ∧ gateWrite s a (regOff R.PWM_PER (↑n) 0) 4 = Gate.allow) ∧
    (let n : Fin 48 := 0;
     let a : Actor := Actor.host;
     let s : State := nth pwmChannelsReloadStartAndStopStates 0;
     crossDown s 10 = false ∧ gateWrite s a (regOff R.PWM_CMP (↑n) 0) 4 = Gate.allow ∧ laneOfPwm s ↑n = none) ∧
    (let n : Fin 48 := 0;
     let a : Actor := Actor.host;
     let s : State := nth compareWritesMoveShadowsStates 0;
     crossDown s 10 = false ∧ gateWrite s a (regOff R.PWM_CMP (↑n) 0) 4 = Gate.allow ∧ laneOfPwm s ↑n ≠ none) := by and_intros <;> decide

theorem witness_CompareWritesAndLaneEventsAct_LaneEventsActOnPwm :
    (let t : Time := 4;
     let n : Fin 48 := 0;
     let s : State := nth pwmLanes 0;
     let b : State := begin' t s;
     let y : DispItem :=
       { lane := 0, binding := Binding.pwm 0, key := 4, body := DispBody.event { id := 3, kind := 1, tExec := 4, d := 16384 : LaneEv } : DispItem };
     let e : LaneEv := { id := 3, kind := 1, tExec := 4, d := 16384 : LaneEv };
     let z : State := heapTake e.id (if y.lateAt b.now = true then missed y.lane y.binding e b else b);
     crossDown s 10 = false ∧
       List.find? (fun x => (x.pwmEvent ↑n).isSome) b.engine.heap = some y ∧ y.pwmEvent ↑n = some e ∧ e.tExec ≤ b.now ∧ laneOfPwm z ↑n = none ∧ e.kind = 1) ∧
    (let t : Time := 4;
     let n : Fin 48 := 0;
     let s : State := nth pwmLanes 6;
     let b : State := begin' t s;
     let y : DispItem :=
       { lane := 0, binding := Binding.pwm 0, key := 4, body := DispBody.event { id := 3, kind := 3, tExec := 4, d := 16384 : LaneEv } : DispItem };
     let e : LaneEv := { id := 3, kind := 3, tExec := 4, d := 16384 : LaneEv };
     let z : State := heapTake e.id (if y.lateAt b.now = true then missed y.lane y.binding e b else b);
     crossDown s 10 = false ∧
       List.find? (fun x => (x.pwmEvent ↑n).isSome) b.engine.heap = some y ∧ y.pwmEvent ↑n = some e ∧ e.tExec ≤ b.now ∧ laneOfPwm z ↑n = none ∧ e.kind = 3) ∧
    (let t : Time := 4;
     let n : Fin 48 := 0;
     let s : State := nth pwmLanes 3;
     let b : State := begin' t s;
     let y : DispItem :=
       { lane := 0, binding := Binding.pwm 0, key := 4, body := DispBody.event { id := 3, kind := 2, tExec := 4, d := 16384 : LaneEv } : DispItem };
     let e : LaneEv := { id := 3, kind := 2, tExec := 4, d := 16384 : LaneEv };
     let z : State := heapTake e.id (if y.lateAt b.now = true then missed y.lane y.binding e b else b);
     crossDown s 10 = false ∧
       List.find? (fun x => (x.pwmEvent ↑n).isSome) b.engine.heap = some y ∧ y.pwmEvent ↑n = some e ∧ e.tExec ≤ b.now ∧ laneOfPwm z ↑n = none ∧ e.kind = 2) ∧
    (let t : Time := 4;
     let n : Fin 48 := 0;
     let s : State := nth laneEventsActOnPwmStates 90;
     let b : State := begin' t s;
     let y : DispItem :=
       { lane := 0, binding := Binding.pwm 0, key := 4, body := DispBody.event { id := 3, kind := 1, tExec := 4, d := 16384 : LaneEv } : DispItem };
     let e : LaneEv := { id := 3, kind := 1, tExec := 4, d := 16384 : LaneEv };
     let z : State := heapTake e.id (if y.lateAt b.now = true then missed y.lane y.binding e b else b);
     let k : Nat := 3;
     crossDown s 10 = false ∧
       List.find? (fun x => (x.pwmEvent ↑n).isSome) b.engine.heap = some y ∧
         y.pwmEvent ↑n = some e ∧ e.tExec ≤ b.now ∧ laneOfPwm z ↑n = some k ∧ e.kind = 1 ∧ rb s R.PWM_CFG (↑n) 23 = true) ∧
    (let t : Time := 4;
     let n : Fin 48 := 0;
     let s : State := nth laneEventsActOnPwmStates 54;
     let b : State := begin' t s;
     let y : DispItem :=
       { lane := 0, binding := Binding.pwm 0, key := 4, body := DispBody.event { id := 3, kind := 1, tExec := 4, d := 16384 : LaneEv } : DispItem };
     let e : LaneEv := { id := 3, kind := 1, tExec := 4, d := 16384 : LaneEv };
     let z : State := heapTake e.id (if y.lateAt b.now = true then missed y.lane y.binding e b else b);
     let c : PwmCh := pwmCh s ↑n;
     let k : Nat := 3;
     crossDown s 10 = false ∧
       List.find? (fun x => (x.pwmEvent ↑n).isSome) b.engine.heap = some y ∧
         y.pwmEvent ↑n = some e ∧
           e.tExec ≤ b.now ∧ laneOfPwm z ↑n = some k ∧ e.kind = 1 ∧ rb s R.PWM_CFG (↑n) 23 = false ∧ (s.pwm.clockBad || !c.started || pwmOdd s ↑n) = true) ∧
    (let t : Time := 4;
     let n : Fin 48 := 0;
     let s : State := nth laneEventsActOnPwmStates 55;
     let b : State := begin' t s;
     let y : DispItem :=
       { lane := 0, binding := Binding.pwm 0, key := 4, body := DispBody.event { id := 3, kind := 1, tExec := 4, d := 16384 : LaneEv } : DispItem };
     let e : LaneEv := { id := 3, kind := 1, tExec := 4, d := 16384 : LaneEv };
     let z : State := heapTake e.id (if y.lateAt b.now = true then missed y.lane y.binding e b else b);
     let c : PwmCh := pwmCh s ↑n;
     let k : Nat := 3;
     crossDown s 10 = false ∧
       List.find? (fun x => (x.pwmEvent ↑n).isSome) b.engine.heap = some y ∧
         y.pwmEvent ↑n = some e ∧
           e.tExec ≤ b.now ∧ laneOfPwm z ↑n = some k ∧ e.kind = 1 ∧ rb s R.PWM_CFG (↑n) 23 = false ∧ (s.pwm.clockBad || !c.started || pwmOdd s ↑n) = false) ∧
    (let t : Time := 4;
     let n : Fin 48 := 0;
     let s : State := nth laneEventsActOnPwmStates 54;
     let b : State := begin' t s;
     let y : DispItem :=
       { lane := 0, binding := Binding.pwm 0, key := 4, body := DispBody.event { id := 3, kind := 1, tExec := 4, d := 16384 : LaneEv } : DispItem };
     let e : LaneEv := { id := 3, kind := 1, tExec := 4, d := 16384 : LaneEv };
     let z : State := heapTake e.id (if y.lateAt b.now = true then missed y.lane y.binding e b else b);
     let c : PwmCh := pwmCh s ↑n;
     let k : Nat := 3;
     let known : Prop :=
       c.armed = [] ∧
         Option.any (fun y => decide (y.kind = e.kind) && decide (y.d = e.d))
             (List.find? (fun y => decide (y.id = e.id) && !y.executed) (lane z k).events) =
           true;
     crossDown s 10 = false ∧
       List.find? (fun x => (x.pwmEvent ↑n).isSome) b.engine.heap = some y ∧
         y.pwmEvent ↑n = some e ∧ e.tExec ≤ b.now ∧ laneOfPwm z ↑n = some k ∧ e.kind = 1 ∧ rb s R.PWM_CFG (↑n) 23 = false ∧ known) ∧
    (let t : Time := 4;
     let n : Fin 48 := 0;
     let s : State := nth laneEventsActOnPwmStates 111;
     let b : State := begin' t s;
     let y : DispItem :=
       { lane := 0, binding := Binding.pwm 0, key := 4, body := DispBody.event { id := 3, kind := 2, tExec := 4, d := 16384 : LaneEv } : DispItem };
     let e : LaneEv := { id := 3, kind := 2, tExec := 4, d := 16384 : LaneEv };
     let z : State := heapTake e.id (if y.lateAt b.now = true then missed y.lane y.binding e b else b);
     let c : PwmCh := pwmCh s ↑n;
     let k : Nat := 3;
     let known : Prop :=
       c.armed = [] ∧
         Option.any (fun y => decide (y.kind = e.kind) && decide (y.d = e.d))
             (List.find? (fun y => decide (y.id = e.id) && !y.executed) (lane z k).events) =
           true;
     crossDown s 10 = false ∧
       List.find? (fun x => (x.pwmEvent ↑n).isSome) b.engine.heap = some y ∧
         y.pwmEvent ↑n = some e ∧ e.tExec ≤ b.now ∧ laneOfPwm z ↑n = some k ∧ e.kind = 2 ∧ known) ∧
    (let t : Time := 4;
     let n : Fin 48 := 0;
     let s : State := nth laneEventsActOnPwmStates 168;
     let b : State := begin' t s;
     let y : DispItem :=
       { lane := 0, binding := Binding.pwm 0, key := 4, body := DispBody.event { id := 3, kind := 3, tExec := 4, d := 16384 : LaneEv } : DispItem };
     let e : LaneEv := { id := 3, kind := 3, tExec := 4, d := 16384 : LaneEv };
     let z : State := heapTake e.id (if y.lateAt b.now = true then missed y.lane y.binding e b else b);
     let c : PwmCh := pwmCh s ↑n;
     let k : Nat := 3;
     let known : Prop :=
       c.armed = [] ∧
         Option.any (fun y => decide (y.kind = e.kind) && decide (y.d = e.d))
             (List.find? (fun y => decide (y.id = e.id) && !y.executed) (lane z k).events) =
           true;
     crossDown s 10 = false ∧
       List.find? (fun x => (x.pwmEvent ↑n).isSome) b.engine.heap = some y ∧
         y.pwmEvent ↑n = some e ∧ e.tExec ≤ b.now ∧ laneOfPwm z ↑n = some k ∧ e.kind = 3 ∧ known) ∧
    (let t : Time := 4;
     let n : Fin 48 := 0;
     let s : State := nth pwmLanes 3;
     let b : State := begin' t s;
     crossDown s 10 = false ∧ pwmTake b (↑n) 1 = none) ∧
    (let t : Time := 4;
     let n : Fin 48 := 0;
     let s : State := nth pwmLanes 0;
     let b : State := begin' t s;
     crossDown s 10 = false ∧ pwmTake b (↑n) 2 = none) ∧
    (let t : Time := 4;
     let n : Fin 48 := 0;
     let s : State := nth pwmLanes 0;
     let b : State := begin' t s;
     crossDown s 10 = false ∧ pwmTake b (↑n) 3 = none) := by and_intros <;> decide

theorem witness_CompareWritesAndLaneEventsAct_BallsShowPolarityAndSafeLevel :
    (let n : Fin 48 := 0;
     let s : State := nth pwmChannelsReloadStartAndStopStates2 0;
     let c : PwmCh := pwmCh s ↑n;
     c.safe = true) ∧
    (let n : Fin 48 := 0;
     let s : State := nth pwmChannelsReloadStartAndStopStates2 6;
     let c : PwmCh := pwmCh s ↑n;
     let k : Nat := 0;
     c.safe = false ∧
       pwmOdd s ↑n = false ∧
         fld c.timing 9 0 = 0 ∧ c.centre = false ∧ 0 < c.tickLen ∧ 0 < c.per ∧ c.tick = 0 ∧ c.c ≤ c.per ∧ k < c.per ∧ 12 * s.now = c.at' + k * c.tickLen) := by and_intros <;> decide

theorem witness_SyncsTripsAndClockFaultsAct_SyncsLoadThePhase :
    (let n : Fin 48 := 0;
     let s : State := nth syncsLoadThePhaseCases 21;
     let m : Fin 6 := (⟨↑n / 8, by omega⟩ : Fin 6);
     let src : Nat := rf s R.PWM_MOD_CFG (↑m) 31 30;
     let syncs : Prop := rb s R.PWM_CFG (↑n) 23 = true ∧ pwmOdd s ↑n = false ∧ (pwmCh s ↑n).started = true ∧ s.pwm.clockBad = false;
     (src = 1 ∨ m = 0 ∧ src = 0) ∧ syncs) ∧
    (let n : Fin 48 := 0;
     let s : State := nth pwmChannelsReloadStartAndStopStates 0;
     rb s R.PWM_CFG (↑n) 23 = false) ∧
    (let n : Fin 48 := 0;
     let s : State := nth pwmChannelsReloadStartAndStopStates 9;
     let m : Fin 6 := (⟨↑n / 8, by omega⟩ : Fin 6);
     let syncs : Prop := rb s R.PWM_CFG (↑n) 23 = true ∧ pwmOdd s ↑n = false ∧ (pwmCh s ↑n).started = true ∧ s.pwm.clockBad = false;
     let a : Actor := Actor.host;
     let v : W32 := 4294967295;
     gateWrite s a (regOff R.PWM_MOD_SYNC (↑m) 0) 4 = Gate.allow ∧ crossDown s 10 = false ∧ flag v 0 = true ∧ syncs) ∧
    (let n : Fin 48 := 0;
     let s : State := nth pwmChannelsReloadStartAndStopStates 0;
     let m : Fin 6 := (⟨↑n / 8, by omega⟩ : Fin 6);
     let a : Actor := Actor.host;
     let v : W32 := 4294967295;
     gateWrite s a (regOff R.PWM_MOD_SYNC (↑m) 0) 4 = Gate.allow ∧ crossDown s 10 = false ∧ flag v 0 = true ∧ rb s R.PWM_CFG (↑n) 23 = false) ∧
    (let n : Fin 48 := 0;
     let s : State := nth pwmChannelsReloadStartAndStopStates 0;
     let m : Fin 6 := (⟨↑n / 8, by omega⟩ : Fin 6);
     let a : Actor := Actor.host;
     let v : W32 := 0;
     gateWrite s a (regOff R.PWM_MOD_SYNC (↑m) 0) 4 = Gate.allow ∧ crossDown s 10 = false ∧ flag v 0 = false) := by and_intros <;> decide

theorem witness_SyncsTripsAndClockFaultsAct_TripsClockFaultsAndClears :
    (let t : Time := 4;
     let s : State := nth tripsClockFaultsAndClearsStates 116;
     let b : State := begin' t s;
     let pins : BitVec 12 := 3000;
     let held : Nat := 3000;
     let p : State :=
       { pending := b.pending, now := b.now, freeDraws := b.freeDraws, out := b.out, readData := b.readData, hostMem := b.hostMem,
         messageStore := b.messageStore, appSram := b.appSram, regs := b.regs, tallies := b.tallies, tallySnap := b.tallySnap,
         tallySnapTime := b.tallySnapTime, hiLatch := b.hiLatch, cister := b.cister, ledger := b.ledger, aon := b.aon, trace := b.trace,
         startup := b.startup, clocks := b.clocks, eventLines := b.eventLines, cores := b.cores, security := b.security, feedback := b.feedback,
         course := b.course, engine := b.engine, drive := b.drive, relay := b.relay, lease := b.lease,
         pwm :=
           have __src : Pwm := s.pwm;
           { ch := __src.ch, pins := pins.toNat, tripSince := __src.tripSince, clockBad := __src.clockBad : Pwm },
         loops := b.loops, eth := b.eth, bus := b.bus : State };
     let risen : Nat → Bool := fun i => bitOf (tripAsserted p) i && !bitOf (tripAsserted s) i;
     let since : Nat → Nat := fun i => if risen i = true then 12 * b.now - 5 * held else tabGet 0 s.pwm.tripSince i;
     let trips : Fin 48 → Prop := fun n =>
       ((List.range 12).any fun i =>
           bitOf (tripMasked p ↑n) i &&
             Option.any (fun x => decide (rf s R.PWM_TRIP (↑n) 7 0 + 1 ≤ min ((12 * b.now - since i) / 5) x)) (unblanked p ↑n)) =
         true;
     let n : Fin 48 := 0;
     trips n ∧ ∀ (m : Fin 48), m ≠ n → tripMasked p ↑m = 0) ∧
    (let t : Time := 4;
     let s : State := nth pwmChannelsReloadStartAndStopStates2 0;
     let b : State := begin' t s;
     let pins : BitVec 12 := 485;
     let p : State :=
       { pending := b.pending, now := b.now, freeDraws := b.freeDraws, out := b.out, readData := b.readData, hostMem := b.hostMem,
         messageStore := b.messageStore, appSram := b.appSram, regs := b.regs, tallies := b.tallies, tallySnap := b.tallySnap,
         tallySnapTime := b.tallySnapTime, hiLatch := b.hiLatch, cister := b.cister, ledger := b.ledger, aon := b.aon, trace := b.trace,
         startup := b.startup, clocks := b.clocks, eventLines := b.eventLines, cores := b.cores, security := b.security, feedback := b.feedback,
         course := b.course, engine := b.engine, drive := b.drive, relay := b.relay, lease := b.lease,
         pwm :=
           have __src : Pwm := s.pwm;
           { ch := __src.ch, pins := pins.toNat, tripSince := __src.tripSince, clockBad := __src.clockBad : Pwm },
         loops := b.loops, eth := b.eth, bus := b.bus : State };
     ∀ (m : Fin 48), tripMasked p ↑m = 0) ∧
    (let s : State := nth pwmClocks 0;
     let edges : Nat := 0;
     let off : Bool := edgesOff edges 480 1;
     s.pwm.clockBad = false ∧ off = true ∧ (∀ (n : Fin 48), (pwmCh s ↑n).safe = false) ∧ tabGet { : EventLine } s.eventLines 64 = { : EventLine }) ∧
    (let s : State := nth pwmChannelsReloadStartAndStopStates2 62;
     let edges : Nat := 480;
     let off : Bool := edgesOff edges 480 1;
     s.pwm.clockBad = true ∧ off = false ∧ ∀ (m : Fin 6), 0 < ↑m → rf s R.PWM_MOD_CFG (↑m) 31 30 ≠ 0) ∧
    (let s : State := nth pwmClocks 1;
     let edges : Nat := 480;
     let off : Bool := edgesOff edges 480 1;
     let outOf : Nat := min (rf s R.PWM_GLOBAL 0 2 0) 5;
     s.pwm.clockBad = true ∧ off = false ∧ rb s R.PWM_GLOBAL 0 31 = true ∧ (pwmCh s (refCh s outOf)).started = true) ∧
    (let s : State := nth pwmChannelsReloadStartAndStopStates2 62;
     let edges : Nat := 480;
     let off : Bool := edgesOff edges 480 1;
     s.pwm.clockBad = true ∧ off = false ∧ ∀ (m : Fin 48), (pwmCh s ↑m).armed = []) ∧
    (let s : State := nth pwmChannelsReloadStartAndStopStates2 0;
     let edges : Nat := 480;
     let off : Bool := edgesOff edges 480 1;
     s.pwm.clockBad = off) ∧
    (let s : State := nth pwmChannelsReloadStartAndStopStates2 0;
     let a : Actor := Actor.host;
     let n : Fin 48 := 0;
     gateWrite s a (regOff R.PWM_STAT (↑n) 0) 4 = Gate.allow ∧ crossDown s 10 = false) := by and_intros <;> decide

theorem witness_LoopParametersAreTaken :
    (let x : Desc := headDesc 88 (nth loopParametersAreTakenStates 0);
     let s : State := nth loopParametersAreTakenStates 57;
     let n : Nat := u8 x.bytes 8;
     let c : LoopCh := loop s n;
     Ready s 88 1 x ∧ c.enabled = true) ∧
    (let x : Desc := headDesc 88 (nth loopParametersAreTakenStates 3);
     let s : State := nth loopParametersAreTakenStates 3;
     let n : Nat := u8 x.bytes 8;
     let c : LoopCh := loop s n;
     let at' : Nat := u64 x.bytes 16;
     Ready s 88 1 x ∧ c.enabled = false ∧ at' % 64 ≠ 0) ∧
    (let x : Desc := headDesc 88 (nth loopParametersAreTakenStates 0);
     let s : State := nth loopParametersAreTakenStates 4;
     let n : Nat := u8 x.bytes 8;
     let c : LoopCh := loop s n;
     let at' : Nat := u64 x.bytes 16;
     let img : List Byte := dmaRead s (ring s 88).onChip at' 128;
     Ready s 88 1 x ∧
       c.enabled = false ∧
         at' % 64 = 0 ∧
           imageStatus s
               { image := img, terms := c.terms, enabled := c.enabled, enabledAt := c.enabledAt, primed := c.primed, refs := c.refs, c0 := c.c0,
                 due := c.due, latchSeen := c.latchSeen, lastAt := c.lastAt, skips := c.skips, samples := c.samples, skipping := c.skipping,
                 skipNoted := c.skipNoted, st := c.st, y := c.y, waiting := c.waiting, lastFallback := c.lastFallback, limited := c.limited,
                 idle := c.idle, sinceRecord := c.sinceRecord : LoopCh } ≠
             0) ∧
    (let x : Desc := headDesc 88 (nth loopParametersAreTakenStates 0);
     let s : State := nth loopParametersAreTakenStates 1;
     let n : Nat := u8 x.bytes 8;
     let c : LoopCh := loop s n;
     let at' : Nat := u64 x.bytes 16;
     let img : List Byte := dmaRead s (ring s 88).onChip at' 128;
     Ready s 88 1 x ∧
       c.enabled = false ∧
         at' % 64 = 0 ∧
           imageStatus s
               { image := img, terms := c.terms, enabled := c.enabled, enabledAt := c.enabledAt, primed := c.primed, refs := c.refs, c0 := c.c0,
                 due := c.due, latchSeen := c.latchSeen, lastAt := c.lastAt, skips := c.skips, samples := c.samples, skipping := c.skipping,
                 skipNoted := c.skipNoted, st := c.st, y := c.y, waiting := c.waiting, lastFallback := c.lastFallback, limited := c.limited,
                 idle := c.idle, sinceRecord := c.sinceRecord : LoopCh } =
             0) ∧
    (let x : Desc := headDesc 88 (nth loopParametersAreTakenStates 8);
     let s : State := nth loopParametersAreTakenStates 9;
     let at' : Nat := u64 x.bytes 16;
     let first : Nat := u8 x.bytes 10;
     let count : Nat := u8 x.bytes 11;
     Ready s 88 2 x ∧ (count = 0 ∨ 64 < first + count ∨ at' % 64 ≠ 0)) ∧
    (let x : Desc := headDesc 88 (nth loopParametersAreTakenStates 10);
     let s : State := nth loopParametersAreTakenStates 10;
     let at' : Nat := u64 x.bytes 16;
     let first : Nat := u8 x.bytes 10;
     let count : Nat := u8 x.bytes 11;
     Ready s 88 2 x ∧ 0 < count ∧ first + count ≤ 64 ∧ at' % 64 = 0) ∧
    (let x : Desc := headDesc 88 (nth loopParametersAreTakenStates 32);
     let s : State := nth loopParametersAreTakenStates 32;
     Ready s 88 5 x) ∧
    (let x : Desc := headDesc 88 (nth loopParametersAreTakenStates 40);
     let s : State := nth loopParametersAreTakenStates 40;
     let first : Nat := u8 x.bytes 10;
     let count : Nat := u8 x.bytes 11;
     Ready s 88 6 x ∧ (count = 0 ∨ 8 < count ∨ 256 < first + count)) ∧
    (let x : Desc := headDesc 88 (nth loopParametersAreTakenStates 42);
     let s : State := nth loopParametersAreTakenStates 42;
     let first : Nat := u8 x.bytes 10;
     let count : Nat := u8 x.bytes 11;
     Ready s 88 6 x ∧ 0 < count ∧ count ≤ 8 ∧ first + count ≤ 256) ∧
    (let x : Desc := headDesc 88 (nth loopParametersAreTakenStates 51);
     let s : State := nth loopParametersAreTakenStates 51;
     let at' : Nat := u64 x.bytes 16;
     Ready s 88 7 x ∧ at' % 64 ≠ 0) ∧
    (let x : Desc := headDesc 88 (nth loopParametersAreTakenStates 48);
     let s : State := nth loopParametersAreTakenStates 49;
     let at' : Nat := u64 x.bytes 16;
     Ready s 88 7 x ∧ at' % 64 = 0) := by and_intros <;> decide

theorem witness_LoopsStartStopAndIdle :
    (let s : State := nth loopImages 4;
     let x : Desc := headDesc 88 (nth loopImages 0);
     let n : Nat := u8 x.bytes 8;
     let c : LoopCh := loop s n;
     Ready s 88 3 x ∧ c.enabled = true) ∧
    (let s : State := nth loopImages 0;
     let x : Desc := headDesc 88 (nth loopImages 0);
     let n : Nat := u8 x.bytes 8;
     let c : LoopCh := loop s n;
     Ready s 88 3 x ∧ c.enabled = false ∧ (c.image = [] ∨ loopDangling s c = true)) ∧
    (let s : State := nth loopsStartStopAndIdleStates 65;
     let x : Desc := headDesc 88 (nth loopImages 0);
     let n : Nat := u8 x.bytes 8;
     let c : LoopCh := loop s n;
     Ready s 88 3 x ∧ c.enabled = false ∧ c.image ≠ [] ∧ loopDangling s c = false ∧ loopGranted s c = false) ∧
    (let s : State := nth loopImages 33;
     let x : Desc := headDesc 88 (nth loopImages 0);
     let n : Nat := u8 x.bytes 8;
     let c : LoopCh := loop s n;
     let taken : Bool := (enabledLoops s).any fun m => sameTarget c.out (loop s m).out;
     Ready s 88 3 x ∧ c.enabled = false ∧ c.image ≠ [] ∧ loopDangling s c = false ∧ loopGranted s c = true ∧ taken = true) ∧
    (let s : State := nth loopImages 8;
     let x : Desc := headDesc 88 (nth loopImages 0);
     let n : Nat := u8 x.bytes 8;
     let c : LoopCh := loop s n;
     let taken : Bool := (enabledLoops s).any fun m => sameTarget c.out (loop s m).out;
     Ready s 88 3 x ∧ c.enabled = false ∧ c.image ≠ [] ∧ loopDangling s c = false ∧ loopGranted s c = true ∧ taken = false) ∧
    (let s : State := nth loopImages 2;
     let x : Desc := headDesc 88 (nth loopImages 2);
     let n : Nat := u8 x.bytes 8;
     let c : LoopCh := loop s n;
     Ready s 88 4 x ∧ c.enabled = false) ∧
    (let s : State := nth loopImages 6;
     let x : Desc := headDesc 88 (nth loopImages 2);
     let n : Nat := u8 x.bytes 8;
     let c : LoopCh := loop s n;
     Ready s 88 4 x ∧ c.enabled = true ∧ c.flag 4 = false) ∧
    (let s : State := nth loopImages 22;
     let x : Desc := headDesc 88 (nth loopImages 2);
     let n : Nat := u8 x.bytes 8;
     let c : LoopCh := loop s n;
     Ready s 88 4 x ∧ c.enabled = true ∧ c.flag 4 = true) ∧
    (let t : Time := 1000000000;
     let s : State := nth loopImages 25;
     let b : State := begin' t s;
     let n : Fin 256 := 0;
     let c : LoopCh := loop s ↑n;
     let due : Prop := c.enabled = true ∧ c.idle = false ∧ c.idleMs ≠ 0 ∧ max (c.lastAt.getD 0) c.enabledAt + c.idleMs * msUnits ≤ b.now;
     due) ∧
    (let t : Time := 4;
     let s : State := nth loopImages 0;
     let b : State := begin' t s;
     let n : Fin 256 := 0;
     let c : LoopCh := loop s ↑n;
     let due : Prop := c.enabled = true ∧ c.idle = false ∧ c.idleMs ≠ 0 ∧ max (c.lastAt.getD 0) c.enabledAt + c.idleMs * msUnits ≤ b.now;
     ¬due) := by and_intros <;> decide

theorem witness_LoopsSampleSkipAndTestThemselves_LoopsSampleOrSkip :
    (let n : Fin 256 := 1;
     let s : State := nth loopsSampleOrSkipStates 42;
     let c : LoopCh := loop s ↑n;
     c.enabled = true ∧ noEnd c = true) ∧
    (let n : Fin 256 := 0;
     let s : State := nth loopsSampleOrSkipStates 0;
     let c : LoopCh := loop s ↑n;
     c.enabled = false) ∧
    (let n : Fin 256 := 1;
     let s : State := nth loopsSampleOrSkipStates 0;
     let c : LoopCh := loop s ↑n;
     c.enabled = true ∧ noEnd c = false ∧ c.primed = none) ∧
    (let t : Time := 10000000;
     let n : Fin 256 := 1;
     let s : State := nth loopsSampleOrSkipStates 3;
     let c : LoopCh := loop s ↑n;
     let b : State := begin' t s;
     let now : Time := b.now;
     let periodic : Time → Prop := fun p => p < now ∧ (↑now - 200 * ↑(u32 c.image 8)) % (200 * ↑c.period) = 0 ∧ c.lastAt ≠ some now;
     let p : Time := 4;
     c.enabled = true ∧ noEnd c = false ∧ c.primed = some p ∧ c.trigger = 0 ∧ periodic p) ∧
    (let t : Time := 5;
     let n : Fin 256 := 1;
     let s : State := nth loopsSampleOrSkipStates 4;
     let c : LoopCh := loop s ↑n;
     let b : State := begin' t s;
     let now : Time := b.now;
     let periodic : Time → Prop := fun p => p < now ∧ (↑now - 200 * ↑(u32 c.image 8)) % (200 * ↑c.period) = 0 ∧ c.lastAt ≠ some now;
     let p : Time := 4;
     c.enabled = true ∧ noEnd c = false ∧ c.primed = some p ∧ c.trigger = 0 ∧ ¬periodic p) ∧
    (let n : Fin 256 := 1;
     let s : State := nth loopsSampleOrSkipStates 10;
     let c : LoopCh := loop s ↑n;
     let p : Time := 4;
     let w : Time := 5;
     let m : Int := 4;
     let rest : List (Time × Int) := [];
     c.enabled = true ∧ noEnd c = false ∧ c.primed = some p ∧ c.trigger = 1 ∧ c.due = (w, m) :: rest) ∧
    (let n : Fin 256 := 1;
     let s : State := nth loopsSampleOrSkipStates 9;
     let c : LoopCh := loop s ↑n;
     let p : Time := 4;
     c.enabled = true ∧ noEnd c = false ∧ c.primed = some p ∧ c.trigger = 1 ∧ c.due = []) ∧
    (let n : Fin 256 := 1;
     let s : State := nth loopsSampleOrSkipStates 39;
     let c : LoopCh := loop s ↑n;
     let p : Time := 4;
     let e : Time := 7;
     c.enabled = true ∧ noEnd c = false ∧ c.primed = some p ∧ 2 ≤ c.trigger ∧ latchDue s c p = some e) ∧
    (let n : Fin 256 := 1;
     let s : State := nth loopsSampleOrSkipStates 34;
     let c : LoopCh := loop s ↑n;
     let p : Time := 4;
     c.enabled = true ∧ noEnd c = false ∧ c.primed = some p ∧ 2 ≤ c.trigger ∧ latchDue s c p = none) ∧
    (let t : Time := 5;
     let n : Fin 256 := 1;
     let s : State := nth loopsSampleOrSkipStates 30;
     let c : LoopCh := loop s ↑n;
     let b : State := begin' t s;
     let now : Time := b.now;
     let periodic : Time → Prop := fun p => p < now ∧ (↑now - 200 * ↑(u32 c.image 8)) % (200 * ↑c.period) = 0 ∧ c.lastAt ≠ some now;
     let late : Bool := Option.any (fun l => decide (now < l + 50 * usUnits)) c.lastAt;
     let p : Time := 4;
     c.enabled = true ∧
       noEnd c = false ∧
         c.primed = some p ∧
           (c.trigger = 0 ∧ periodic p ∨
               c.trigger = 1 ∧ Option.any (fun d => decide (d.fst ≤ now)) c.due.head? = true ∨ 2 ≤ c.trigger ∧ (latchDue s c p).isSome = true) ∧
             late = true) ∧
    (let t : Time := 5;
     let n : Fin 256 := 1;
     let s : State := nth loopsSampleOrSkipStates 10;
     let c : LoopCh := loop s ↑n;
     let b : State := begin' t s;
     let now : Time := b.now;
     let periodic : Time → Prop := fun p => p < now ∧ (↑now - 200 * ↑(u32 c.image 8)) % (200 * ↑c.period) = 0 ∧ c.lastAt ≠ some now;
     let late : Bool := Option.any (fun l => decide (now < l + 50 * usUnits)) c.lastAt;
     let p : Time := 4;
     c.enabled = true ∧
       noEnd c = false ∧
         c.primed = some p ∧
           (c.trigger = 0 ∧ periodic p ∨
               c.trigger = 1 ∧ Option.any (fun d => decide (d.fst ≤ now)) c.due.head? = true ∨ 2 ≤ c.trigger ∧ (latchDue s c p).isSome = true) ∧
             late = false) := by and_intros <;> decide

theorem witness_LoopsSampleSkipAndTestThemselves_SelfTestsSwitchThePath :
    (let t : Time := 0;
     let s : State := nth selfTestsSwitchThePathStates 0;
     let b : State := begin' t s;
     s.loops.bistActive = false ∧ bistDue b = true) ∧
    (let t : Time := 0;
     let s : State := nth selfTestsSwitchThePathStates 4;
     let b : State := begin' t s;
     s.loops.bistActive = true ∨ bistDue b = false) ∧
    (let s : State := nth selfTestsSwitchThePathStates 0;
     let a : Actor := Actor.host;
     gateWrite s a R.LOOP_BIST_REQ.base 4 = Gate.allow) ∧
    (let s : State := nth selfTestsSwitchThePathStates 4;
     s.loops.bistActive = true ∧ s.startup.phase ≠ 6) ∧
    (let s : State := nth selfTestsSwitchThePathStates 12;
     s.loops.bistActive = true ∧ s.startup.phase = 6) ∧
    (let s : State := nth selfTestsSwitchThePathStates 4;
     let pass : Bool := true;
     s.loops.bistActive = true ∧ pass = true) ∧
    (let s : State := nth selfTestsSwitchThePathStates 4;
     let pass : Bool := false;
     s.loops.bistActive = true ∧ pass = false) := by and_intros <;> decide

theorem witness_BusPortsStartStopAndWake :
    (let p : Fin 32 := 0;
     let s : State := nth busPortsStartStopAndWakeStates 2;
     let a : Actor := Actor.host;
     let v : W32 := 4294967295;
     let w : W32 := v &&& R.CAN_PORT_CFG.rw;
     gateWrite s a (regOff R.CAN_PORT_CFG (↑p) 0) 4 = Gate.allow ∧
       crossDown s 12 = false ∧ flag v 31 = true ∧ operational s = true ∧ portEnabled s ↑p = false ∧ cfgBad s (↑p) w = true) ∧
    (let p : Fin 32 := 0;
     let s : State := nth busPortsStartStopAndWakeStates2 0;
     let b : BusPort := busPort s ↑p;
     let a : Actor := Actor.host;
     let v : W32 := 2147483648;
     let w : W32 := v &&& R.CAN_PORT_CFG.rw;
     gateWrite s a (regOff R.CAN_PORT_CFG (↑p) 0) 4 = Gate.allow ∧
       crossDown s 12 = false ∧ flag v 31 = true ∧ operational s = true ∧ portEnabled s ↑p = false ∧ cfgBad s (↑p) w = false ∧ b.stopping = true) ∧
    (let p : Fin 32 := 0;
     let s : State := nth busPortsStartStopAndWakeStates 1;
     let b : BusPort := busPort s ↑p;
     let a : Actor := Actor.host;
     let v : W32 := 2147483648;
     let w : W32 := v &&& R.CAN_PORT_CFG.rw;
     gateWrite s a (regOff R.CAN_PORT_CFG (↑p) 0) 4 = Gate.allow ∧
       crossDown s 12 = false ∧
         flag v 31 = true ∧
           operational s = true ∧
             portEnabled s ↑p = false ∧ cfgBad s (↑p) w = false ∧ b.stopping = false ∧ b.tec ≤ 127 ∧ b.recErr ≤ 127 ∧ b.passive = false) ∧
    (let p : Fin 32 := 0;
     let s : State := nth busPortsStartStopAndWakeStates 6;
     let a : Actor := Actor.host;
     let v : W32 := 2365587458;
     gateWrite s a (regOff R.CAN_PORT_CFG (↑p) 0) 4 = Gate.allow ∧
       crossDown s 12 = false ∧ flag v 31 = true ∧ operational s = true ∧ portEnabled s ↑p = true) ∧
    (let p : Fin 32 := 0;
     let s : State := nth busPortsStartStopAndWakeStates 0;
     let a : Actor := Actor.host;
     let v : W32 := 4294967295;
     gateWrite s a (regOff R.CAN_PORT_CFG (↑p) 0) 4 = Gate.allow ∧ crossDown s 12 = false ∧ flag v 31 = true ∧ operational s = false) ∧
    (let p : Fin 32 := 0;
     let s : State := nth busPortsStartStopAndWakeStates 7;
     let b : BusPort := busPort s ↑p;
     let a : Actor := Actor.host;
     let v : W32 := 0;
     gateWrite s a (regOff R.CAN_PORT_CFG (↑p) 0) 4 = Gate.allow ∧ crossDown s 12 = false ∧ flag v 31 = false ∧ portEnabled s ↑p = true ∧ b.attempt ≠ none) ∧
    (let p : Fin 32 := 0;
     let s : State := nth busPortsStartStopAndWakeStates 6;
     let b : BusPort := busPort s ↑p;
     let a : Actor := Actor.host;
     let v : W32 := 0;
     gateWrite s a (regOff R.CAN_PORT_CFG (↑p) 0) 4 = Gate.allow ∧ crossDown s 12 = false ∧ flag v 31 = false ∧ portEnabled s ↑p = true ∧ b.attempt = none) ∧
    (let p : Fin 32 := 0;
     let s : State := nth busPortsStartStopAndWakeStates 0;
     let a : Actor := Actor.host;
     let v : W32 := 0;
     gateWrite s a (regOff R.CAN_PORT_CFG (↑p) 0) 4 = Gate.allow ∧ crossDown s 12 = false ∧ flag v 31 = false ∧ portEnabled s ↑p = false) ∧
    (let p : Fin 32 := 0;
     let s : State := nth busPortsStartStopAndWakeStates 9;
     let b : BusPort := busPort s ↑p;
     b.st = 1) ∧
    (let p : Fin 32 := 0;
     let s : State := nth busPortsStartStopAndWakeStates 0;
     let b : BusPort := busPort s ↑p;
     b.st ≠ 1) ∧
    (let p : Fin 32 := 0;
     let s : State := nth busPortsStartStopAndWakeStates 1;
     let b : BusPort := busPort s ↑p;
     let low : Nat := 20000000000;
     let wakes : Prop := b.st = 0 ∧ rb s R.CAN_PORT_CFG (↑p) 24 = true ∧ b.woke = false ∧ 5 * usUnits ≤ low;
     wakes) ∧
    (let p : Fin 32 := 0;
     let s : State := nth busPortsStartStopAndWakeStates 0;
     let b : BusPort := busPort s ↑p;
     let low : Nat := 20;
     let wakes : Prop := b.st = 0 ∧ rb s R.CAN_PORT_CFG (↑p) 24 = true ∧ b.woke = false ∧ 5 * usUnits ≤ low;
     ¬wakes) := by and_intros <;> decide

theorem witness_BusErrorsAreCounted_BusErrorsAreCounted :
    (let p : Fin 32 := 1;
     let s : State := nth busErrorsAreCountedStates 0;
     let a : Actor := Actor.host;
     gateWrite s a (regOff R.CAN_PORT_CTRL (↑p) 0) 4 = Gate.allow ∧ crossDown s 12 = false) ∧
    (let p : Fin 32 := 0;
     let s : State := nth busErrorsAreCountedStates 1;
     let b : BusPort := busPort s ↑p;
     b.st = 5) ∧
    (let p : Fin 32 := 1;
     let s : State := nth busErrorsAreCountedStates 0;
     let b : BusPort := busPort s ↑p;
     b.st ≠ 5) ∧
    (let p : Fin 32 := 1;
     let s : State := nth busErrorsAreCountedStates 0;
     let type : Fin 10 := 3;
     let dp : Bool := false;
     let h : HeardError := { eights := 2, wrong := (0, 100000), phase := 1, sof := 50, xl := true : HeardError };
     let err : Prop := 1 ≤ ↑type ∧ ↑type ≤ 4 ∧ takenWrong s (↑p) dp h.wrong h.phase = true;
     let exception : Prop := type = 9 ∧ rb s R.CAN_PORT_CFG (↑p) 25 = true;
     hearsFrame s (↑p) h.sof = false ∨ ¬(err ∨ exception)) ∧
    (let p : Fin 32 := 0;
     let s : State := nth busErrorsAreCountedStates 5;
     let b : BusPort := busPort s ↑p;
     let type : Fin 10 := 9;
     let h : HeardError := { eights := 0, wrong := (0, 0), phase := 0 : HeardError };
     let exception : Prop := type = 9 ∧ rb s R.CAN_PORT_CFG (↑p) 25 = true;
     hearsFrame s (↑p) h.sof = true ∧ exception ∧ b.st ≠ 0 ∧ b.busOff = false ∧ b.tec ≤ 255) ∧
    (let p : Fin 32 := 0;
     let s : State := nth busErrorsAreCountedStates 2;
     let b : BusPort := busPort s ↑p;
     let type : Fin 10 := 1;
     let dp : Bool := false;
     let h : HeardError := { eights := 0, wrong := (0, 100000), phase := 0 : HeardError };
     let err : Prop := 1 ≤ ↑type ∧ ↑type ≤ 4 ∧ takenWrong s (↑p) dp h.wrong h.phase = true;
     hearsFrame s (↑p) h.sof = true ∧ err ∧ b.busOff = false ∧ b.tec ≤ 255 ∧ b.st ≠ 0 ∧ b.st = if b.passive = true then 3 else 2) ∧
    (let p : Fin 32 := 0;
     let s : State := nth busPortsStartStopAndWakeStates2 1;
     let b : BusPort := busPort s ↑p;
     let type : Fin 10 := 1;
     let dp : Bool := false;
     let h : HeardError := { eights := 2, wrong := (0, 100000), phase := 1, sof := 50, xl := true : HeardError };
     let err : Prop := 1 ≤ ↑type ∧ ↑type ≤ 4 ∧ takenWrong s (↑p) dp h.wrong h.phase = true;
     hearsFrame s (↑p) h.sof = true ∧ err ∧ b.busOff = false ∧ b.tec ≤ 255 ∧ b.st = 0) ∧
    (let p : Fin 32 := 0;
     let s : State := nth busErrorsAreCountedStates 2;
     let b : BusPort := busPort s ↑p;
     let type : Fin 10 := 1;
     let dp : Bool := false;
     let h : HeardError := { eights := 0, wrong := (0, 100000), phase := 0 : HeardError };
     let err : Prop := 1 ≤ ↑type ∧ ↑type ≤ 4 ∧ takenWrong s (↑p) dp h.wrong h.phase = true;
     hearsFrame s (↑p) h.sof = true ∧
       err ∧ b.busOff = false ∧ b.tec ≤ 255 ∧ rf s R.CAN_PORT_CFG (↑p) 30 28 = 0 ∧ (dp && h.xl && rb s R.CAN_XL_PWM (↑p) 0) = false) ∧
    (let p : Fin 32 := 1;
     let s : State := nth busErrorsAreCountedStates 0;
     let id : W32 := 2147483648;
     let ctrl : W32 := 4294967295;
     let data : List Byte := [];
     let sof : Time := 4;
     let f : BusFrame := { id := id, ctrl := ctrl : BusFrame }.heard;
     let known : Prop := f.fmt = 0 ∨ f.fmt = 1 ∧ rb s R.CAN_PORT_CFG (↑p) 27 = true ∨ f.fmt = 2 ∧ rb s R.CAN_PORT_CFG (↑p) 26 = true;
     let on : Prop := hearsFrame s (↑p) sof = true ∧ known;
     ¬on) ∧
    (let p : Fin 32 := 0;
     let s : State := nth busErrorsAreCountedStates 5;
     let id : W32 := 4294967295;
     let ctrl : W32 := 2147483648;
     let data : List Byte := [];
     let sof : Time := 20;
     let f : BusFrame := { id := id, ctrl := ctrl : BusFrame }.heard;
     let known : Prop := f.fmt = 0 ∨ f.fmt = 1 ∧ rb s R.CAN_PORT_CFG (↑p) 27 = true ∨ f.fmt = 2 ∧ rb s R.CAN_PORT_CFG (↑p) 26 = true;
     let on : Prop := hearsFrame s (↑p) sof = true ∧ known;
     on ∧ counts s ↑p = false) ∧
    (let p : Fin 32 := 0;
     let s : State := nth busErrorsAreCountedStates 2;
     let b : BusPort := busPort s ↑p;
     let id : W32 := 0;
     let ctrl : W32 := 2147483648;
     let data : List Byte := [];
     let sof : Time := 20000000000;
     let f : BusFrame := { ctrl := ctrl : BusFrame }.heard;
     let known : Prop := f.fmt = 0 ∨ f.fmt = 1 ∧ rb s R.CAN_PORT_CFG (↑p) 27 = true ∨ f.fmt = 2 ∧ rb s R.CAN_PORT_CFG (↑p) 26 = true;
     let on : Prop := hearsFrame s (↑p) sof = true ∧ known;
     on ∧ counts s ↑p = true ∧ b.recErr ≤ 127) ∧
    (let p : Fin 32 := 0;
     let s : State := nth busErrorsAreCountedStates 5;
     let b : BusPort := busPort s ↑p;
     let id : W32 := 4294967295;
     let ctrl : W32 := 2147483648;
     let data : List Byte := [];
     let sof : Time := 20;
     let f : BusFrame := { id := id, ctrl := ctrl : BusFrame }.heard;
     let known : Prop := f.fmt = 0 ∨ f.fmt = 1 ∧ rb s R.CAN_PORT_CFG (↑p) 27 = true ∨ f.fmt = 2 ∧ rb s R.CAN_PORT_CFG (↑p) 26 = true;
     let on : Prop := hearsFrame s (↑p) sof = true ∧ known;
     on ∧ b.busOff = false ∧ b.tec ≤ 255 ∧ counts s ↑p = false) ∧
    (let p : Fin 32 := 0;
     let s : State := nth busErrorsAreCountedStates 2;
     let b : BusPort := busPort s ↑p;
     let id : W32 := 0;
     let ctrl : W32 := 2147483648;
     let data : List Byte := [];
     let sof : Time := 20000000000;
     let f : BusFrame := { ctrl := ctrl : BusFrame }.heard;
     let known : Prop := f.fmt = 0 ∨ f.fmt = 1 ∧ rb s R.CAN_PORT_CFG (↑p) 27 = true ∨ f.fmt = 2 ∧ rb s R.CAN_PORT_CFG (↑p) 26 = true;
     let on : Prop := hearsFrame s (↑p) sof = true ∧ known;
     on ∧ b.busOff = false ∧ b.tec ≤ 255 ∧ counts s ↑p = true ∧ b.recErr ≤ 127) ∧
    (let p : Fin 32 := 0;
     let s : State := nth busErrorsAreCountedStates 4;
     let b : BusPort := busPort s ↑p;
     let id : W32 := 0;
     let ctrl : W32 := 0;
     let data : List Byte := [];
     let sof : Time := 20000000000;
     let f : BusFrame := { : BusFrame }.heard;
     let known : Prop := f.fmt = 0 ∨ f.fmt = 1 ∧ rb s R.CAN_PORT_CFG (↑p) 27 = true ∨ f.fmt = 2 ∧ rb s R.CAN_PORT_CFG (↑p) 26 = true;
     let on : Prop := hearsFrame s (↑p) sof = true ∧ known;
     on ∧ b.busOff = false ∧ b.tec ≤ 255 ∧ counts s ↑p = true ∧ 127 < b.recErr) ∧
    (let p : Fin 32 := 0;
     let s : State := nth busErrorsAreCountedStates 2;
     let b : BusPort := busPort s ↑p;
     let id : W32 := 0;
     let ctrl : W32 := 2147483648;
     let data : List Byte := [];
     let sof : Time := 20000000000;
     let f : BusFrame := { ctrl := ctrl : BusFrame }.heard;
     let known : Prop := f.fmt = 0 ∨ f.fmt = 1 ∧ rb s R.CAN_PORT_CFG (↑p) 27 = true ∨ f.fmt = 2 ∧ rb s R.CAN_PORT_CFG (↑p) 26 = true;
     let on : Prop := hearsFrame s (↑p) sof = true ∧ known;
     on ∧ b.busOff = false ∧ b.tec ≤ 255 ∧ counts s ↑p = true ∧ b.st ≠ 0) ∧
    (let p : Fin 32 := 0;
     let s : State := nth busErrorsAreCountedStates 2;
     let b : BusPort := busPort s ↑p;
     let id : W32 := 0;
     let ctrl : W32 := 2147483648;
     let data : List Byte := [];
     let sof : Time := 20000000000;
     let f : BusFrame := { ctrl := ctrl : BusFrame }.heard;
     let known : Prop := f.fmt = 0 ∨ f.fmt = 1 ∧ rb s R.CAN_PORT_CFG (↑p) 27 = true ∨ f.fmt = 2 ∧ rb s R.CAN_PORT_CFG (↑p) 26 = true;
     let on : Prop := hearsFrame s (↑p) sof = true ∧ known;
     on ∧ b.busOff = false ∧ b.tec ≤ 255 ∧ rf s R.CAN_PORT_CFG (↑p) 30 28 ≠ 2) ∧
    (let p : Fin 32 := 0;
     let s : State := nth busErrorsAreCountedStates 2;
     let b : BusPort := busPort s ↑p;
     let id : W32 := 0;
     let ctrl : W32 := 2147483648;
     let data : List Byte := [];
     let sof : Time := 20000000000;
     let o : Overload := { frames := 2, eights := 1 : Overload };
     let f : BusFrame := { ctrl := ctrl : BusFrame }.heard;
     let known : Prop := f.fmt = 0 ∨ f.fmt = 1 ∧ rb s R.CAN_PORT_CFG (↑p) 27 = true ∨ f.fmt = 2 ∧ rb s R.CAN_PORT_CFG (↑p) 26 = true;
     let on : Prop := hearsFrame s (↑p) sof = true ∧ known;
     on ∧ b.busOff = false ∧ b.tec ≤ 255 ∧ rf s R.CAN_PORT_CFG (↑p) 30 28 = 0 ∧ 0 < o.frames) := by and_intros <;> decide

theorem witness_BusErrorsAreCounted_TransmitErrorsConfineThePort :
    (let p : Fin 32 := 0;
     let type : Fin 6 := 1;
     let dp : Bool := false;
     let y : SentError := { exempt := false, wrong := (0, 100000), phase := 0, delay := none : SentError };
     let a : BusAttempt :=
       { src := BusSrc.prio 0#32, frame := { id := 5#32, ctrl := 1745354752#32, data := [1#8, 1#8, 1#8, 1#8, 1#8, 1#8, 1#8, 1#8] : BusFrame }, sof := 3 :
         BusAttempt };
     let s : State := nth attempts 35;
     let b : BusPort := busPort s ↑p;
     let tec : Nat := b.tec + 8 + 8 * y.eights;
     b.attempt = some a ∧
       a.orphan = false ∧
         b.stopping = false ∧
           type ≠ 0 ∧
             b.busOff = false ∧
               b.st = 2 ∧
                 b.passive = false ∧
                   loopback s ↑p = false ∧
                     y.exempt = false ∧ sentWrong s (↑p) a.frame dp y.wrong y.phase y.delay = true ∧ 255 < tec ∧ b.held = none ∧ a.slot = none) ∧
    (let p : Fin 32 := 0;
     let type : Fin 6 := 1;
     let dp : Bool := false;
     let y : SentError := { exempt := false, wrong := (0, 100000), phase := 0, delay := none : SentError };
     let a : BusAttempt := { src := BusSrc.prio 0#32, frame := { id := 0#32, ctrl := 0#32 : BusFrame }, sof := 3 : BusAttempt };
     let s : State := nth framesStartStates 63;
     let b : BusPort := busPort s ↑p;
     let tec : Nat := b.tec + 8 + 8 * y.eights;
     b.attempt = some a ∧
       a.orphan = false ∧
         b.stopping = false ∧
           type ≠ 0 ∧
             b.busOff = false ∧
               b.st = 2 ∧
                 b.passive = false ∧
                   loopback s ↑p = false ∧
                     y.exempt = false ∧ sentWrong s (↑p) a.frame dp y.wrong y.phase y.delay = true ∧ 255 < tec ∧ b.held = none ∧ b.tt ≠ 0) ∧
    (let p : Fin 32 := 0;
     let type : Fin 6 := 1;
     let dp : Bool := false;
     let y : SentError := { exempt := false, wrong := (0, 100000), phase := 0, delay := none : SentError };
     let a : BusAttempt :=
       { src := BusSrc.prio 0#32, frame := { id := 5#32, ctrl := 1745354752#32, data := [1#8, 1#8, 1#8, 1#8, 1#8, 1#8, 1#8, 1#8] : BusFrame }, sof := 3 :
         BusAttempt };
     let s : State := nth attempts 15;
     let b : BusPort := busPort s ↑p;
     let tec : Nat := b.tec + 8 + 8 * y.eights;
     b.attempt = some a ∧
       a.orphan = false ∧
         b.stopping = false ∧
           type ≠ 0 ∧
             b.busOff = false ∧
               b.st = 2 ∧
                 b.passive = false ∧
                   loopback s ↑p = false ∧ y.exempt = false ∧ sentWrong s (↑p) a.frame dp y.wrong y.phase y.delay = true ∧ 127 < tec ∧ tec ≤ 255) := by and_intros <;> decide

theorem witness_FramesAreSentAndRetried_FramesStart :
    (let p : Fin 32 := 0;
     let s : State := nth sendsLost 0;
     let x : Desc := headDesc 16 (nth framesStartStates 56);
     crossDown s 12 = true ∧ Ready s (16 + ↑p) 1 x ∧ (ring s (16 + ↑p)).cmpMode ≠ 2) ∧
    (let p : Fin 32 := 0;
     let s : State := nth framesStartStates 57;
     let b : BusPort := busPort s ↑p;
     let x : Desc := headDesc 16 (nth framesStartStates 57);
     crossDown s 12 = false ∧ b.st ≠ 0 ∧ counts s ↑p = true ∧ b.queue.length < 64 ∧ Ready s (16 + ↑p) 1 x ∧ sendFrame s (↑p) x.bytes = none) ∧
    (let p : Fin 32 := 0;
     let s : State := nth framesStartStates 56;
     let b : BusPort := busPort s ↑p;
     let x : Desc := headDesc 16 (nth framesStartStates 56);
     let f : BusFrame := { id := 3#32, ctrl := 524288#32, data := [7#8, 7#8, 7#8, 7#8, 7#8, 7#8, 7#8, 7#8] : BusFrame };
     crossDown s 12 = false ∧ b.st ≠ 0 ∧ counts s ↑p = true ∧ b.queue.length < 64 ∧ Ready s (16 + ↑p) 1 x ∧ sendFrame s (↑p) x.bytes = some f) ∧
    (let p : Fin 32 := 0;
     let s : State := nth attempts 2;
     let b : BusPort := busPort s ↑p;
     crossDown s 12 = false ∧ (b.st = 0 ∨ counts s ↑p = false ∨ 64 ≤ b.queue.length)) ∧
    (let t : Time := 0;
     let p : Fin 32 := 0;
     let s : State := nth attempts 0;
     let z : State := begin' t s;
     mayStart z ↑p = false) ∧
    (let t : Time := 0;
     let p : Fin 32 := 0;
     let s : State := nth framesStartStates 52;
     let z : State := begin' t s;
     bestOffer (offers z ↑p) = none) ∧
    (let t : Time := 0;
     let p : Fin 32 := 0;
     let s : State := nth framesStartStates 51;
     let b : BusPort := busPort s ↑p;
     let z : State := begin' t s;
     let a : BusAttempt :=
       { src := BusSrc.slot,
         frame :=
           { id := 511#32, ctrl := 1048581#32, data := [1#8, 0#8, 0#8, 0#8, 0#8, 0#8, 0#8, 0#8, 7#8, 0#8, 0#8, 0#8, 0#8, 0#8, 0#8, 0#8] : BusFrame },
         slot := some { xl := false, base := 7 : SlotFrame }, sof := 0 : BusAttempt };
     let f : BusFrame := a.frame.sent b.passive;
     let fits : Prop := ttOn s ↑p = false ∨ Option.all (fun w => decide (z.now + worstUnits s (↑p) a.frame ≤ w.ends)) (openWindow z ↑p) = true;
     let clash : Prop := a.index = none ∧ isReference s (↑p) (bits (BitVec.toNat f.id) 10 0) = true;
     mayStart z ↑p = true ∧ bestOffer (offers z ↑p) = some a ∧ fits ∧ clash) ∧
    (let t : Time := 0;
     let p : Fin 32 := 0;
     let s : State := nth framesStartStates 60;
     let b : BusPort := busPort s ↑p;
     let z : State := begin' t s;
     let a : BusAttempt := { src := BusSrc.prio 0#32, frame := { id := 5#32, ctrl := 536870912#32 : BusFrame }, sof := 0 : BusAttempt };
     let f : BusFrame := a.frame.sent b.passive;
     let fits : Prop := ttOn s ↑p = false ∨ Option.all (fun w => decide (z.now + worstUnits s (↑p) a.frame ≤ w.ends)) (openWindow z ↑p) = true;
     let clash : Prop := a.index = none ∧ isReference s (↑p) (bits (BitVec.toNat f.id) 10 0) = true;
     mayStart z ↑p = true ∧ bestOffer (offers z ↑p) = some a ∧ fits ∧ ¬clash) ∧
    (let t : Time := 0;
     let p : Fin 32 := 0;
     let s : State := nth framesStartStates 50;
     let z : State := begin' t s;
     let a : BusAttempt :=
       { src := BusSrc.prio 0#32, frame := { id := 5#32, ctrl := 1745354752#32, data := [1#8, 1#8, 1#8, 1#8, 1#8, 1#8, 1#8, 1#8] : BusFrame }, sof := 0 :
         BusAttempt };
     let fits : Prop := ttOn s ↑p = false ∨ Option.all (fun w => decide (z.now + worstUnits s (↑p) a.frame ≤ w.ends)) (openWindow z ↑p) = true;
     mayStart z ↑p = true ∧ bestOffer (offers z ↑p) = some a ∧ ¬fits) := by and_intros <;> decide

theorem witness_FramesAreSentAndRetried_AttemptsEnd :
    (let p : Fin 32 := 0;
     let s : State := nth framesStartStates 50;
     let b : BusPort := busPort s ↑p;
     b.attempt = none) ∧
    (let p : Fin 32 := 0;
     let s : State := nth framesStartStates 53;
     let b : BusPort := busPort s ↑p;
     let a : BusAttempt :=
       { src := BusSrc.prio 0#32, frame := { id := 5#32, ctrl := 524293#32, data := [1#8, 1#8, 1#8, 1#8, 1#8, 1#8, 1#8, 1#8] : BusFrame }, sof := 3 :
         BusAttempt };
     let y : SentFrame := { delay := some 120 : SentFrame };
     b.attempt = some a ∧ tdcBeyond s (↑p) a.frame y.delay = true) ∧
    (let p : Fin 32 := 0;
     let s : State := nth framesStartStates 54;
     let b : BusPort := busPort s ↑p;
     let a : BusAttempt := { src := BusSrc.convoy, frame := { id := 0#32, ctrl := 0#32 : BusFrame }, convoy := some (1, [1#8]), sof := 3 : BusAttempt };
     let prio : Option W32 :=
       match a.src with
       | BusSrc.prio i => some i
       | _ => none;
     let calm : Prop := a.orphan = false ∧ b.stopping = false ∧ b.busOff = false;
     let y : SentFrame := { : SentFrame };
     b.attempt = some a ∧ tdcBeyond s (↑p) a.frame y.delay = false ∧ calm ∧ b.tec + 8 * y.overload.eights ≤ 255 ∧ prio = none) ∧
    (let p : Fin 32 := 0;
     let s : State := nth framesStartStates 52;
     let b : BusPort := busPort s ↑p;
     let a : BusAttempt :=
       { src := BusSrc.prio 0#32, frame := { id := 5#32, ctrl := 1745354752#32, data := [1#8, 1#8, 1#8, 1#8, 1#8, 1#8, 1#8, 1#8] : BusFrame }, sof := 3 :
         BusAttempt };
     b.attempt = some a ∧ loopback s ↑p = true) ∧
    (let p : Fin 32 := 0;
     let s : State := nth framesStartStates 53;
     let b : BusPort := busPort s ↑p;
     let a : BusAttempt :=
       { src := BusSrc.prio 0#32, frame := { id := 5#32, ctrl := 524293#32, data := [1#8, 1#8, 1#8, 1#8, 1#8, 1#8, 1#8, 1#8] : BusFrame }, sof := 3 :
         BusAttempt };
     let prio : Option W32 :=
       match a.src with
       | BusSrc.prio i => some i
       | _ => none;
     let calm : Prop := a.orphan = false ∧ b.stopping = false ∧ b.busOff = false;
     b.attempt = some a ∧ loopback s ↑p = false ∧ calm ∧ Option.any (singleShot s ↑p) prio = false) ∧
    (let p : Fin 32 := 0;
     let s : State := nth attempts 0;
     let b : BusPort := busPort s ↑p;
     let a : BusAttempt :=
       { src := BusSrc.prio 0#32, frame := { id := 5#32, ctrl := 1745354752#32, data := [1#8, 1#8, 1#8, 1#8, 1#8, 1#8, 1#8, 1#8] : BusFrame }, sof := 3,
         orphan := true : BusAttempt };
     let type : Fin 6 := 0;
     let dp : Bool := false;
     let y : SentError := { exempt := false, wrong := (0, 100000), phase := 0, delay := none : SentError };
     let taken : Prop :=
       type ≠ 0 ∧
         loopback s ↑p = false ∧
           (type = 1 ∧ dp = true ∧ tdcBeyond s (↑p) a.frame y.delay = true ∨ sentWrong s (↑p) a.frame dp y.wrong y.phase y.delay = true);
     b.attempt = some a ∧ ¬taken) ∧
    (let p : Fin 32 := 0;
     let s : State := nth framesStartStates 53;
     let b : BusPort := busPort s ↑p;
     let a : BusAttempt :=
       { src := BusSrc.prio 0#32, frame := { id := 5#32, ctrl := 524293#32, data := [1#8, 1#8, 1#8, 1#8, 1#8, 1#8, 1#8, 1#8] : BusFrame }, sof := 3 :
         BusAttempt };
     let prio : Option W32 :=
       match a.src with
       | BusSrc.prio i => some i
       | _ => none;
     let calm : Prop := a.orphan = false ∧ b.stopping = false ∧ b.busOff = false;
     let type : Fin 6 := 1;
     let dp : Bool := false;
     let y : SentError := { exempt := false, wrong := (0, 100000), phase := 0, delay := none : SentError };
     let taken : Prop :=
       type ≠ 0 ∧
         loopback s ↑p = false ∧
           (type = 1 ∧ dp = true ∧ tdcBeyond s (↑p) a.frame y.delay = true ∨ sentWrong s (↑p) a.frame dp y.wrong y.phase y.delay = true);
     b.attempt = some a ∧ taken ∧ calm ∧ b.tec + 8 + 8 * y.eights ≤ 255 ∧ Option.any (singleShot s ↑p) prio = false ∧ rf s R.CAN_PORT_CFG (↑p) 15 0 = 0) := by and_intros <;> decide

theorem witness_ReferencesBeginCyclesAndMastersSendThem_ReferencesBeginCycles :
    (let p : Fin 32 := 0;
     let s : State := nth referencesBeginCyclesStates 0;
     let ref : Nat := rf s R.CAN_TT_CFG (↑p) 21 11;
     let id : BitVec 11 := 2;
     let data : List Byte := [];
     let prio : Nat := id.toNat - ref;
     let valid : Prop :=
       ttOn s ↑p = true ∧ hears s ↑p = true ∧ ref ≤ id.toNat ∧ prio < 8 ∧ if rb s R.CAN_TT_CFG (↑p) 30 = true then 48 ≤ data.length else 4 ≤ data.length;
     ¬valid) ∧
    (let p : Fin 32 := 0;
     let s : State := nth referencesBeginCyclesStates 0;
     let ref : Nat := rf s R.CAN_TT_CFG (↑p) 21 11;
     let id : BitVec 11 := 2;
     let data : List Byte := [3, 0, 0, 0, 1, 1, 0, 0] ++ List.replicate 40 9;
     let prio : Nat := id.toNat - ref;
     let valid : Prop :=
       ttOn s ↑p = true ∧ hears s ↑p = true ∧ ref ≤ id.toNat ∧ prio < 8 ∧ if rb s R.CAN_TT_CFG (↑p) 30 = true then 48 ≤ data.length else 4 ≤ data.length;
     let own : Prop := mayMaster s ↑p = true ∧ prio = masterPrio s ↑p;
     valid ∧ own) ∧
    (let p : Fin 32 := 0;
     let s : State := nth referencesBeginCyclesStates 13;
     let b : BusPort := busPort s ↑p;
     let ref : Nat := rf s R.CAN_TT_CFG (↑p) 21 11;
     let id : BitVec 11 := 3;
     let data : List Byte := [3, 0, 0, 0, 1, 1, 0, 0] ++ List.replicate 40 9;
     let prio : Nat := id.toNat - ref;
     let valid : Prop :=
       ttOn s ↑p = true ∧ hears s ↑p = true ∧ ref ≤ id.toNat ∧ prio < 8 ∧ if rb s R.CAN_TT_CFG (↑p) 30 = true then 48 ≤ data.length else 4 ≤ data.length;
     let own : Prop := mayMaster s ↑p = true ∧ prio = masterPrio s ↑p;
     valid ∧ ¬own ∧ (b.tt = 0 ∨ b.tt = 4 ∨ b.tt = 3 ∧ masterPrio s ↑p ≤ prio)) ∧
    (let p : Fin 32 := 0;
     let s : State := nth referencesBeginCyclesStates 0;
     let b : BusPort := busPort s ↑p;
     let ref : Nat := rf s R.CAN_TT_CFG (↑p) 21 11;
     let id : BitVec 11 := 0;
     let data : List Byte := [3, 0, 0, 0, 1, 1, 0, 0] ++ List.replicate 40 9;
     let prio : Nat := id.toNat - ref;
     let valid : Prop :=
       ttOn s ↑p = true ∧ hears s ↑p = true ∧ ref ≤ id.toNat ∧ prio < 8 ∧ if rb s R.CAN_TT_CFG (↑p) 30 = true then 48 ≤ data.length else 4 ≤ data.length;
     let own : Prop := mayMaster s ↑p = true ∧ prio = masterPrio s ↑p;
     valid ∧ ¬own ∧ (b.tt = 1 ∨ b.tt = 2 ∨ b.tt = 3 ∧ prio < masterPrio s ↑p)) ∧
    (let t : Time := 1;
     let p : Fin 32 := 0;
     let s : State := nth referencesBeginCyclesStates 0;
     let b : BusPort := busPort s ↑p;
     let z : State := begin' t s;
     let missed : Prop := b.tt = 2 ∧ predicted s ↑p + ttTol s ↑p ≤ z.now;
     ¬missed) ∧
    (let t : Time := 1000000;
     let p : Fin 32 := 0;
     let s : State := nth referencesBeginCyclesStates 6;
     let b : BusPort := busPort s ↑p;
     let z : State := begin' t s;
     let missed : Prop := b.tt = 2 ∧ predicted s ↑p + ttTol s ↑p ≤ z.now;
     missed ∧ b.misses < 7) ∧
    (let t : Time := 1000000;
     let p : Fin 32 := 0;
     let s : State := nth referencesBeginCyclesStates 10;
     let b : BusPort := busPort s ↑p;
     let z : State := begin' t s;
     let missed : Prop := b.tt = 2 ∧ predicted s ↑p + ttTol s ↑p ≤ z.now;
     missed ∧ 7 ≤ b.misses) := by and_intros <;> decide

theorem witness_ReferencesBeginCyclesAndMastersSendThem_MastersSendReferences :
    (let t : Time := 1;
     let p : Fin 32 := 0;
     let s : State := nth referencesBeginCyclesStates 7;
     let b : BusPort := busPort s ↑p;
     let z : State := begin' t s;
     let due : Prop :=
       ttOn s ↑p = true ∧
         mayStart z ↑p = true ∧ mayMaster s ↑p = true ∧ (b.tt = 3 ∧ nextRef s ↑p ≤ portGlobal s ↑p ↑z.now ∨ b.tt = 2 ∧ b.candidate = true);
     let cycle : Nat := if b.tt = 3 then (b.cycle + 1) % ttMatrix s ↑p else b.cycle;
     let res : RefResult := RefResult.success { overload := { frames := 2, eights := 1 : Overload } : SentFrame };
     due ∧ seesResult s (↑p) (refMessage z (↑p) cycle) res = true) ∧
    (let t : Time := 1;
     let p : Fin 32 := 0;
     let s : State := nth referencesBeginCyclesStates 0;
     let b : BusPort := busPort s ↑p;
     let z : State := begin' t s;
     let due : Prop :=
       ttOn s ↑p = true ∧
         mayStart z ↑p = true ∧ mayMaster s ↑p = true ∧ (b.tt = 3 ∧ nextRef s ↑p ≤ portGlobal s ↑p ↑z.now ∨ b.tt = 2 ∧ b.candidate = true);
     let cycle : Nat := if b.tt = 3 then (b.cycle + 1) % ttMatrix s ↑p else b.cycle;
     let res : RefResult := RefResult.success { delay := some 120 : SentFrame };
     ¬due ∨ seesResult s (↑p) (refMessage z (↑p) cycle) res = false) ∧
    (let t : Time := 1;
     let p : Fin 32 := 0;
     let s : State := nth referencesBeginCyclesStates 7;
     let b : BusPort := busPort s ↑p;
     let z : State := begin' t s;
     let succeeds : SentFrame → Prop := fun y => tdcBeyond s (↑p) (refMessage z (↑p) 0) y.delay = false ∧ y.overload.eights = 0;
     let calm : Prop := b.tec ≤ 127 ∧ b.recErr ≤ 127 ∧ b.busOff = false;
     let due : Prop :=
       ttOn s ↑p = true ∧
         mayStart z ↑p = true ∧ mayMaster s ↑p = true ∧ (b.tt = 3 ∧ nextRef s ↑p ≤ portGlobal s ↑p ↑z.now ∨ b.tt = 2 ∧ b.candidate = true);
     let y : SentFrame := { : SentFrame };
     due ∧ calm ∧ succeeds y) ∧
    (let t : Time := 1;
     let p : Fin 32 := 0;
     let s : State := nth referencesBeginCyclesStates 7;
     let b : BusPort := busPort s ↑p;
     let z : State := begin' t s;
     let calm : Prop := b.tec ≤ 127 ∧ b.recErr ≤ 127 ∧ b.busOff = false;
     let due : Prop :=
       ttOn s ↑p = true ∧
         mayStart z ↑p = true ∧ mayMaster s ↑p = true ∧ (b.tt = 3 ∧ nextRef s ↑p ≤ portGlobal s ↑p ↑z.now ∨ b.tt = 2 ∧ b.candidate = true);
     let cycle : Nat := if b.tt = 3 then (b.cycle + 1) % ttMatrix s ↑p else b.cycle;
     let pos : Nat := 3;
     let y : SentError := { exempt := false, wrong := (0, 100000), phase := 0, delay := none : SentError };
     due ∧ calm ∧ seesResult s (↑p) (refMessage z (↑p) cycle) (RefResult.unacked pos y) = true ∧ y.eights = 0 ∧ b.tec ≤ 119) ∧
    (let t : Time := 1;
     let p : Fin 32 := 0;
     let s : State := nth referencesBeginCyclesStates 7;
     let b : BusPort := busPort s ↑p;
     let z : State := begin' t s;
     let calm : Prop := b.tec ≤ 127 ∧ b.recErr ≤ 127 ∧ b.busOff = false;
     let due : Prop :=
       ttOn s ↑p = true ∧
         mayStart z ↑p = true ∧ mayMaster s ↑p = true ∧ (b.tt = 3 ∧ nextRef s ↑p ≤ portGlobal s ↑p ↑z.now ∨ b.tt = 2 ∧ b.candidate = true);
     due ∧ calm ∧ loopback s ↑p = false ∧ b.tt ≠ 3) ∧
    (let t : Time := 1000000;
     let p : Fin 32 := 0;
     let s : State := nth referencesBeginCyclesStates 0;
     let b : BusPort := busPort s ↑p;
     let z : State := begin' t s;
     let wait : Time := b.listenAt + rf s R.CAN_TT_SYNC (↑p) 15 8 * (rf s R.CAN_TT_CYCLE (↑p) 31 16 * usUnits);
     let due : Prop := mayStart z ↑p = true ∧ mayMaster s ↑p = true ∧ b.tt = 1 ∧ wait ≤ z.now;
     let res : RefResult := RefResult.success { delay := some 120 : SentFrame };
     due ∧ seesResult s (↑p) (refMessage z (↑p) 0) res = true) ∧
    (let t : Time := 1;
     let p : Fin 32 := 0;
     let s : State := nth referencesBeginCyclesStates 0;
     let b : BusPort := busPort s ↑p;
     let z : State := begin' t s;
     let wait : Time := b.listenAt + rf s R.CAN_TT_SYNC (↑p) 15 8 * (rf s R.CAN_TT_CYCLE (↑p) 31 16 * usUnits);
     let due : Prop := mayStart z ↑p = true ∧ mayMaster s ↑p = true ∧ b.tt = 1 ∧ wait ≤ z.now;
     let res : RefResult := RefResult.success { delay := some 120 : SentFrame };
     ¬due ∨ seesResult s (↑p) (refMessage z (↑p) 0) res = false) ∧
    (let t : Time := 1000000;
     let p : Fin 32 := 0;
     let s : State := nth referencesBeginCyclesStates 0;
     let b : BusPort := busPort s ↑p;
     let z : State := begin' t s;
     let succeeds : SentFrame → Prop := fun y => tdcBeyond s (↑p) (refMessage z (↑p) 0) y.delay = false ∧ y.overload.eights = 0;
     let calm : Prop := b.tec ≤ 127 ∧ b.recErr ≤ 127 ∧ b.busOff = false;
     let wait : Time := b.listenAt + rf s R.CAN_TT_SYNC (↑p) 15 8 * (rf s R.CAN_TT_CYCLE (↑p) 31 16 * usUnits);
     let due : Prop := mayStart z ↑p = true ∧ mayMaster s ↑p = true ∧ b.tt = 1 ∧ wait ≤ z.now;
     let y : SentFrame := { : SentFrame };
     due ∧ calm ∧ succeeds y) := by and_intros <;> decide

theorem witness_WindowsSlotsAndNodes_WindowsOpenAndFramesForm :
    (let t : Time := 2;
     let p : Fin 32 := 0;
     let c : Fin 64 := 0;
     let s : State := nth windowsOpenAndFramesFormStates 0;
     let b : BusPort := busPort s ↑p;
     let z : State := begin' t s;
     let start : Time := columnAt s ↑p ↑c;
     let column : Prop := (b.tt = 2 ∨ b.tt = 3) ∧ c ≠ 0 ∧ ↑c < rf s R.CAN_TT_CYCLE (↑p) 6 0;
     let due : Prop := ttOn s ↑p = true ∧ column ∧ start ≤ z.now;
     ¬due) ∧
    (let t : Time := 60000;
     let p : Fin 32 := 0;
     let c : Fin 64 := 1;
     let s : State := nth windowsOpenAndFramesFormStates 1;
     let b : BusPort := busPort s ↑p;
     let z : State := begin' t s;
     let kw : Nat × Nat := columnWindow s ↑p ↑c;
     let start : Time := columnAt s ↑p ↑c;
     let column : Prop := (b.tt = 2 ∨ b.tt = 3) ∧ c ≠ 0 ∧ ↑c < rf s R.CAN_TT_CYCLE (↑p) 6 0;
     let due : Prop := ttOn s ↑p = true ∧ column ∧ start ≤ z.now;
     let w : State :=
       setBus ↑p
         { st := b.st, cfgErr := b.cfgErr, stopping := b.stopping, stoppedAt := b.stoppedAt, rxCfg := b.rxCfg, rxPast := b.rxPast, tec := b.tec,
           recErr := b.recErr, passive := b.passive, busOff := b.busOff, noAck := b.noAck, ackErrs := b.ackErrs, tdcv := b.tdcv, woke := b.woke,
           queue := b.queue, attempt := b.attempt, held := b.held, txEnd := b.txEnd, tt := b.tt, master := b.master, cycle := b.cycle, err := b.err,
           ta := b.ta, ga := b.ga, ratio := b.ratio, good := b.good, first := b.first, stamp := b.stamp, cycleAt := b.cycleAt, misses := b.misses,
           listenAt := b.listenAt, candidate := b.candidate, c0 := b.c0, k := b.k, ownRef := b.ownRef,
           window := some { kind := kw.fst, source := kw.snd, ends := columnAt s (↑p) (↑c + 1) : BusWindow }, running := b.running,
           convoyTurn := b.convoyTurn, convoyFormed := b.convoyFormed, formed := b.formed, frameCount := b.frameCount, tagCount := b.tagCount,
           nodeSeen := b.nodeSeen, nodeMask := b.nodeMask, silent := b.silent, enabledAt := b.enabledAt : BusPort }
         z;
     let f : State :=
       if kw.fst ≠ 0 ∧ kw.snd = 1 ∧ imwaldOn s ↑p = true ∧ Option.map (fun x => x.fst) b.convoyFormed ≠ some ↑c then formConvoy (↑p) (↑c) w else w;
     due ∧ (mayStart f ↑p = false ∨ bestOffer (offers f ↑p) = none)) ∧
    (let t : Time := 60000;
     let p : Fin 32 := 0;
     let c : Fin 64 := 1;
     let s : State := nth windowsOpenAndFramesFormStates 1;
     let b : BusPort := busPort s ↑p;
     let z : State := begin' t s;
     let kw : Nat × Nat := columnWindow s ↑p ↑c;
     let start : Time := columnAt s ↑p ↑c;
     let column : Prop := (b.tt = 2 ∨ b.tt = 3) ∧ c ≠ 0 ∧ ↑c < rf s R.CAN_TT_CYCLE (↑p) 6 0;
     let due : Prop := ttOn s ↑p = true ∧ column ∧ start ≤ z.now;
     due ∧ kw.snd ≠ 1) ∧
    (let t : Time := 59000;
     let p : Fin 32 := 0;
     let c : Fin 64 := 1;
     let s : State := nth windowsOpenAndFramesFormStates 37;
     let b : BusPort := busPort s ↑p;
     let z : State := begin' t s;
     let kw : Nat × Nat := columnWindow s ↑p ↑c;
     let start : Time := columnAt s ↑p ↑c;
     let column : Prop := (b.tt = 2 ∨ b.tt = 3) ∧ c ≠ 0 ∧ ↑c < rf s R.CAN_TT_CYCLE (↑p) 6 0;
     let due : Prop := imwaldOn s ↑p = true ∧ column ∧ kw.fst ≠ 0 ∧ start ≤ z.now + 5 * usUnits ∧ z.now ≤ start;
     due ∧ kw.snd = 1) ∧
    (let t : Time := 59000;
     let p : Fin 32 := 0;
     let c : Fin 64 := 1;
     let s : State := nth windowsOpenAndFramesFormStates 1;
     let b : BusPort := busPort s ↑p;
     let z : State := begin' t s;
     let kw : Nat × Nat := columnWindow s ↑p ↑c;
     let start : Time := columnAt s ↑p ↑c;
     let column : Prop := (b.tt = 2 ∨ b.tt = 3) ∧ c ≠ 0 ∧ ↑c < rf s R.CAN_TT_CYCLE (↑p) 6 0;
     let due : Prop := imwaldOn s ↑p = true ∧ column ∧ kw.fst ≠ 0 ∧ start ≤ z.now + 5 * usUnits ∧ z.now ≤ start;
     let slots : Prop := kw.snd = 0 ∧ (b.tt = 3 ∨ lockedPort b = true);
     due ∧ slots ∧ slotQueue s ↑p = []) ∧
    (let t : Time := 2;
     let p : Fin 32 := 0;
     let c : Fin 64 := 0;
     let s : State := nth windowsOpenAndFramesFormStates 0;
     let b : BusPort := busPort s ↑p;
     let z : State := begin' t s;
     let kw : Nat × Nat := columnWindow s ↑p ↑c;
     let start : Time := columnAt s ↑p ↑c;
     let column : Prop := (b.tt = 2 ∨ b.tt = 3) ∧ c ≠ 0 ∧ ↑c < rf s R.CAN_TT_CYCLE (↑p) 6 0;
     let due : Prop := imwaldOn s ↑p = true ∧ column ∧ kw.fst ≠ 0 ∧ start ≤ z.now + 5 * usUnits ∧ z.now ≤ start;
     let slots : Prop := kw.snd = 0 ∧ (b.tt = 3 ∨ lockedPort b = true);
     ¬due ∨ kw.snd ≠ 1 ∧ ¬slots) := by and_intros <;> decide

theorem witness_WindowsSlotsAndNodes_NodesReportAndFallSilent :
    (let p : Fin 32 := 1;
     let node : BitVec 8 := 5;
     let s : State := nth ownReferences 2;
     let n : Nat := node.toNat;
     let heard : Prop := imwaldOn s ↑p = true ∧ hears s ↑p = true;
     let clash : Prop := heard ∧ isReference s (↑p) (1536 + n) = true;
     clash) ∧
    (let p : Fin 32 := 0;
     let node : BitVec 8 := 96;
     let s : State := nth windowsOpenAndFramesFormStates 0;
     let n : Nat := node.toNat;
     let lanes : List (Nat × Nat) := nodeLanes s (↑p) n;
     let heard : Prop := imwaldOn s ↑p = true ∧ hears s ↑p = true;
     let clash : Prop := heard ∧ isReference s (↑p) (1536 + n) = true;
     let data : List Byte := [];
     ¬clash ∧ (¬heard ∨ lanes = [] ∨ data.length < 8)) ∧
    (let p : Fin 32 := 0;
     let node : BitVec 8 := 7;
     let s : State := nth windowsOpenAndFramesFormStates 2;
     let n : Nat := node.toNat;
     let lanes : List (Nat × Nat) := nodeLanes s (↑p) n;
     let heard : Prop := imwaldOn s ↑p = true ∧ hears s ↑p = true;
     let clash : Prop := heard ∧ isReference s (↑p) (1536 + n) = true;
     let data : List Byte := [3, 0, 0, 0, 1, 1, 0, 0] ++ List.replicate 40 9;
     ¬clash ∧ heard ∧ lanes ≠ [] ∧ 8 ≤ data.length) ∧
    (let t : Time := 2;
     let p : Fin 32 := 0;
     let node : BitVec 8 := 96;
     let s : State := nth windowsOpenAndFramesFormStates 0;
     let b : BusPort := busPort s ↑p;
     let z : State := begin' t s;
     let n : Nat := node.toNat;
     let lanes : List (Nat × Nat) := nodeLanes s (↑p) n;
     let due : Prop :=
       imwaldOn s ↑p = true ∧
         lanes ≠ [] ∧
           rf s R.CAN_IMW_CFG (↑p) 15 0 ≠ 0 ∧
             b.silent.contains n = false ∧ max b.enabledAt (tabGet 0 b.nodeSeen n) + rf s R.CAN_IMW_CFG (↑p) 15 0 * msUnits ≤ z.now;
     ¬due) ∧
    (let t : Time := 1000000;
     let p : Fin 32 := 0;
     let node : BitVec 8 := 7;
     let s : State := nth windowsOpenAndFramesFormStates 2;
     let b : BusPort := busPort s ↑p;
     let z : State := begin' t s;
     let n : Nat := node.toNat;
     let lanes : List (Nat × Nat) := nodeLanes s (↑p) n;
     let due : Prop :=
       imwaldOn s ↑p = true ∧
         lanes ≠ [] ∧
           rf s R.CAN_IMW_CFG (↑p) 15 0 ≠ 0 ∧
             b.silent.contains n = false ∧ max b.enabledAt (tabGet 0 b.nodeSeen n) + rf s R.CAN_IMW_CFG (↑p) 15 0 * msUnits ≤ z.now;
     due) := by and_intros <;> decide

theorem witness_OnEventsStartShots :
    (let t : Time := 0;
     let ch : Fin 64 := 0;
     let s : State := nth onEventsStartShotsStates2 8;
     let b : State := begin' t s;
     dueEvent b (↑ch) 1 = none) ∧
    (let t : Time := 0;
     let ch : Fin 64 := 0;
     let s : State := nth onEventsStartShotsStates2 2;
     let b : State := begin' t s;
     let c : DrvCh := drvCh s ↑ch;
     let e : DrvEv := { id := 1, kind := 1, time := 0, d := 9 : DrvEv };
     dueEvent b (↑ch) 1 = some e ∧ c.on = true) ∧
    (let t : Time := 0;
     let ch : Fin 64 := 0;
     let s : State := nth onEventsStartShotsStates2 0;
     let b : State := begin' t s;
     let c : DrvCh := drvCh s ↑ch;
     let cfg : W32 := drd s R.DRV_CH_CFG ↑ch;
     let slot : Nat := fld cfg 28 24;
     let now : Time := b.now;
     let clear : Time := c.gateOff.getD 0 + df s R.DRV_PROF_HDR slot 15 0 * usUnits;
     let peak : Bool := (members (bankOf ↑ch)).any fun m => decide (m ≠ ↑ch) && decide ((drvCh s m).st = 2);
     let e : DrvEv := { id := 1, kind := 1, time := 0, d := 9 : DrvEv };
     let shot : Prop := c.on = false ∧ (flag cfg 30 = false ∨ e.d ≠ 0) ∧ chLatched s ↑ch = false ∧ c.level ≠ 3 ∧ db s R.DRV_PROF_HDR slot 31 = true;
     let ready : Prop := c.gateOff = none ∨ clear ≤ now;
     let waits : Prop := phSource s slot 0 = 2 ∧ peak = true;
     dueEvent b (↑ch) 1 = some e ∧ shot ∧ ready ∧ ¬waits) ∧
    (let t : Time := 0;
     let ch : Fin 64 := 0;
     let s : State := nth onEventsStartShotsStates2 54;
     let b : State := begin' t s;
     let c : DrvCh := drvCh s ↑ch;
     let cfg : W32 := drd s R.DRV_CH_CFG ↑ch;
     let slot : Nat := fld cfg 28 24;
     let now : Time := b.now;
     let clear : Time := c.gateOff.getD 0 + df s R.DRV_PROF_HDR slot 15 0 * usUnits;
     let peak : Bool := (members (bankOf ↑ch)).any fun m => decide (m ≠ ↑ch) && decide ((drvCh s m).st = 2);
     let e : DrvEv := { id := 1, kind := 1, time := 0, d := 9 : DrvEv };
     let shot : Prop := c.on = false ∧ (flag cfg 30 = false ∨ e.d ≠ 0) ∧ chLatched s ↑ch = false ∧ c.level ≠ 3 ∧ db s R.DRV_PROF_HDR slot 31 = true;
     let ready : Prop := c.gateOff = none ∨ clear ≤ now;
     let waits : Prop := phSource s slot 0 = 2 ∧ peak = true;
     dueEvent b (↑ch) 1 = some e ∧ shot ∧ ready ∧ waits) ∧
    (let t : Time := 0;
     let ch : Fin 64 := 0;
     let s : State := nth onEventsStartShotsStates2 5;
     let b : State := begin' t s;
     let c : DrvCh := drvCh s ↑ch;
     let cfg : W32 := drd s R.DRV_CH_CFG ↑ch;
     let slot : Nat := fld cfg 28 24;
     let now : Time := b.now;
     let clear : Time := c.gateOff.getD 0 + df s R.DRV_PROF_HDR slot 15 0 * usUnits;
     let e : DrvEv := { id := 1, kind := 1, time := 0, d := 9 : DrvEv };
     let shot : Prop := c.on = false ∧ (flag cfg 30 = false ∨ e.d ≠ 0) ∧ chLatched s ↑ch = false ∧ c.level ≠ 3 ∧ db s R.DRV_PROF_HDR slot 31 = true;
     let ready : Prop := c.gateOff = none ∨ clear ≤ now;
     dueEvent b (↑ch) 1 = some e ∧ shot ∧ ¬ready) ∧
    (let t : Time := 0;
     let ch : Fin 64 := 0;
     let s : State := nth onEventsStartShotsStates2 25;
     let b : State := begin' t s;
     let c : DrvCh := drvCh s ↑ch;
     let cfg : W32 := drd s R.DRV_CH_CFG ↑ch;
     let e : DrvEv := { id := 1, kind := 1, time := 0 : DrvEv };
     dueEvent b (↑ch) 1 = some e ∧ c.on = false ∧ flag cfg 30 = true ∧ e.d = 0 ∧ chLatched s ↑ch = false ∧ c.level ≠ 3) ∧
    (let t : Time := 0;
     let ch : Fin 64 := 0;
     let s : State := nth onEventsStartShotsStates2 7;
     let b : State := begin' t s;
     let c : DrvCh := drvCh s ↑ch;
     let e : DrvEv := { id := 1, kind := 1, time := 0, d := 9 : DrvEv };
     dueEvent b (↑ch) 1 = some e ∧ c.on = false ∧ (chLatched s ↑ch = true ∨ c.level = 3)) ∧
    (let t : Time := 0;
     let ch : Fin 64 := 0;
     let s : State := nth onEventsStartShotsStates2 96;
     let b : State := begin' t s;
     let c : DrvCh := drvCh s ↑ch;
     let cfg : W32 := drd s R.DRV_CH_CFG ↑ch;
     let slot : Nat := fld cfg 28 24;
     let e : DrvEv := { id := 1, kind := 1, time := 0, d := 9 : DrvEv };
     let known : Prop := ((laneOfDirect s ↑ch).bind fun k => List.find? (fun y => decide (y.id = e.id) && !y.executed) (lane s k).events).isSome = true;
     dueEvent b (↑ch) 1 = some e ∧
       c.on = false ∧ (flag cfg 30 = false ∨ e.d ≠ 0) ∧ chLatched s ↑ch = false ∧ c.level ≠ 3 ∧ db s R.DRV_PROF_HDR slot 31 = false ∧ known) := by and_intros <;> decide

theorem witness_ShotsMoveThroughTheirPhases_OffAndRateEventsAct :
    (let t : Time := 0;
     let ch : Fin 64 := 0;
     let s : State := nth onEventsStartShotsStates2 0;
     let b : State := begin' t s;
     dueEvent b (↑ch) 2 = none) ∧
    (let t : Time := 0;
     let ch : Fin 64 := 0;
     let s : State := nth onEventsStartShotsStates2 0;
     let b : State := begin' t s;
     dueEvent b (↑ch) 3 = none) ∧
    (let t : Time := 0;
     let ch : Fin 64 := 0;
     let s : State := nth onEventsStartShotsStates2 10;
     let c : DrvCh := drvCh s ↑ch;
     let b : State := begin' t s;
     let e : DrvEv := { id := 1, kind := 2, time := 0, d := 9 : DrvEv };
     let sh : Shot := { ev := 4, pulse := false, due := 0, ready := 0, gateOn := some 0 : Shot };
     dueEvent b (↑ch) 2 = some e ∧ c.shot = some sh ∧ c.shooting = true) ∧
    (let t : Time := 0;
     let ch : Fin 64 := 0;
     let s : State := nth onEventsStartShotsStates2 12;
     let c : DrvCh := drvCh s ↑ch;
     let b : State := begin' t s;
     let e : DrvEv := { id := 1, kind := 2, time := 0, d := 9 : DrvEv };
     let sh : Shot := { ev := 4, pulse := false, due := 0, ready := 0 : Shot };
     dueEvent b (↑ch) 2 = some e ∧ c.shot = some sh ∧ sh.gateOn = none ∧ c.shooting = false) ∧
    (let t : Time := 0;
     let ch : Fin 64 := 0;
     let s : State := nth onEventsStartShotsStates2 8;
     let c : DrvCh := drvCh s ↑ch;
     let b : State := begin' t s;
     let e : DrvEv := { id := 1, kind := 2, time := 0, d := 9 : DrvEv };
     dueEvent b (↑ch) 2 = some e ∧ c.shooting = false ∧ c.awaiting = false) ∧
    (let t : Time := 0;
     let ch : Fin 64 := 0;
     let s : State := nth onEventsStartShotsStates2 16;
     let b : State := begin' t s;
     let e : DrvEv := { id := 1, kind := 3, time := 0, d := 9 : DrvEv };
     dueEvent b (↑ch) 3 = some e) := by and_intros <;> decide

theorem witness_ShotsMoveThroughTheirPhases_PhasesAndQuenchesEnd :
    (let ch : Fin 64 := 0;
     let s : State := State.reset;
     let c : DrvCh := drvCh s ↑ch;
     c.shooting = false ∨ c.shot = none) ∧
    (let t : Time := 4;
     let ch : Fin 64 := 0;
     let ma : Nat := 3000;
     let s : State := nth phasesAndQuenchesEndStates 32;
     let c : DrvCh := drvCh s ↑ch;
     let b : State := begin' t s;
     let now : Time := b.now;
     let sh : Shot := { ev := 4, pulse := false, due := 0, ready := 0, gateOn := some 0 : Shot };
     let q : Nat := sh.phase;
     let et : Nat := phEnd s c.slot q;
     let level : Nat := fld (drd2 s R.DRV_PH_CTRL c.slot q) 15 0;
     let byCurrent : Bool := decide (et = 1) && c.reaches ma level || decide (et = 2) && decide (c.volts ma ≤ c.limited (c.volts level));
     let timed : Bool := decide (et ≠ 3) && decide (sh.phaseAt + phEndUs s c.slot q * usUnits ≤ now);
     c.shot = some sh ∧ c.shooting = true ∧ (byCurrent || timed) = true ∧ phSource s c.slot (q + 1) = 0) ∧
    (let t : Time := 4;
     let ch : Fin 64 := 0;
     let ma : Nat := 3000;
     let s : State := nth phasesAndQuenchesEndStates 28;
     let c : DrvCh := drvCh s ↑ch;
     let b : State := begin' t s;
     let now : Time := b.now;
     let sh : Shot := { ev := 4, pulse := false, due := 0, ready := 0, gateOn := some 0 : Shot };
     let q : Nat := sh.phase;
     let et : Nat := phEnd s c.slot q;
     let level : Nat := fld (drd2 s R.DRV_PH_CTRL c.slot q) 15 0;
     let byCurrent : Bool := decide (et = 1) && c.reaches ma level || decide (et = 2) && decide (c.volts ma ≤ c.limited (c.volts level));
     let timed : Bool := decide (et ≠ 3) && decide (sh.phaseAt + phEndUs s c.slot q * usUnits ≤ now);
     let hyst : Nat := c.volts (fld (drd2 s R.DRV_PH_CURRENT c.slot q) 31 16);
     let chops : Prop := (byCurrent || timed) = false ∧ phSource s c.slot q ≠ 0 ∧ flag (drd2 s R.DRV_PH_CTRL c.slot q) 29 = true;
     c.shot = some sh ∧ c.shooting = true ∧ chops ∧ c.low = true ∧ phTarget s (↑ch) q + hyst ≤ c.volts ma) ∧
    (let t : Time := 4;
     let ch : Fin 64 := 0;
     let ma : Nat := 0;
     let s : State := nth phasesAndQuenchesEndStates 29;
     let c : DrvCh := drvCh s ↑ch;
     let b : State := begin' t s;
     let now : Time := b.now;
     let sh : Shot := { ev := 4, pulse := false, due := 0, ready := 0, gateOn := some 0 : Shot };
     let q : Nat := sh.phase;
     let et : Nat := phEnd s c.slot q;
     let level : Nat := fld (drd2 s R.DRV_PH_CTRL c.slot q) 15 0;
     let byCurrent : Bool := decide (et = 1) && c.reaches ma level || decide (et = 2) && decide (c.volts ma ≤ c.limited (c.volts level));
     let timed : Bool := decide (et ≠ 3) && decide (sh.phaseAt + phEndUs s c.slot q * usUnits ≤ now);
     let hyst : Nat := c.volts (fld (drd2 s R.DRV_PH_CURRENT c.slot q) 31 16);
     let chops : Prop := (byCurrent || timed) = false ∧ phSource s c.slot q ≠ 0 ∧ flag (drd2 s R.DRV_PH_CTRL c.slot q) 29 = true;
     c.shot = some sh ∧ c.shooting = true ∧ chops ∧ c.low = false ∧ c.volts ma + hyst ≤ phTarget s (↑ch) q ∧ mayClose b c q = true) ∧
    (let t : Time := 4;
     let ch : Fin 64 := 0;
     let ma : Nat := 3000;
     let s : State := nth phasesAndQuenchesEndStates 29;
     let c : DrvCh := drvCh s ↑ch;
     let b : State := begin' t s;
     let now : Time := b.now;
     let sh : Shot := { ev := 4, pulse := false, due := 0, ready := 0, gateOn := some 0 : Shot };
     let q : Nat := sh.phase;
     let et : Nat := phEnd s c.slot q;
     let level : Nat := fld (drd2 s R.DRV_PH_CTRL c.slot q) 15 0;
     let byCurrent : Bool := decide (et = 1) && c.reaches ma level || decide (et = 2) && decide (c.volts ma ≤ c.limited (c.volts level));
     let timed : Bool := decide (et ≠ 3) && decide (sh.phaseAt + phEndUs s c.slot q * usUnits ≤ now);
     let hyst : Nat := c.volts (fld (drd2 s R.DRV_PH_CURRENT c.slot q) 31 16);
     let chops : Prop := (byCurrent || timed) = false ∧ phSource s c.slot q ≠ 0 ∧ flag (drd2 s R.DRV_PH_CTRL c.slot q) 29 = true;
     c.shot = some sh ∧
       c.shooting = true ∧
         chops ∧
           (c.low = true → c.volts ma < phTarget s (↑ch) q + hyst) ∧ (c.low = false → phTarget s (↑ch) q < c.volts ma + hyst ∨ mayClose b c q = false)) ∧
    (let t : Time := 4;
     let ch : Fin 64 := 0;
     let ma : Nat := 3000;
     let s : State := nth phasesAndQuenchesEndStates 4;
     let c : DrvCh := drvCh s ↑ch;
     let b : State := begin' t s;
     let now : Time := b.now;
     let sh : Shot := { ev := 4, pulse := false, due := 0, ready := 0, gateOn := some 0 : Shot };
     let q : Nat := sh.phase;
     let et : Nat := phEnd s c.slot q;
     let level : Nat := fld (drd2 s R.DRV_PH_CTRL c.slot q) 15 0;
     let byCurrent : Bool := decide (et = 1) && c.reaches ma level || decide (et = 2) && decide (c.volts ma ≤ c.limited (c.volts level));
     let timed : Bool := decide (et ≠ 3) && decide (sh.phaseAt + phEndUs s c.slot q * usUnits ≤ now);
     c.shot = some sh ∧ c.shooting = true ∧ (byCurrent || timed) = false ∧ (phSource s c.slot q = 0 ∨ flag (drd2 s R.DRV_PH_CTRL c.slot q) 29 = false)) ∧
    (let t : Time := 4;
     let ch : Fin 64 := 0;
     let ma : Nat := 3000;
     let s : State := nth phasesAndQuenchesEndStates 0;
     let c : DrvCh := drvCh s ↑ch;
     let b : State := begin' t s;
     let now : Time := b.now;
     let ends : Prop := c.st = 4 ∧ (c.nearZero ↑ma = true ∨ c.gateOff.getD 0 + 5 * msUnits ≤ now);
     ¬ends) ∧
    (let t : Time := 4;
     let ch : Fin 64 := 0;
     let ma : Nat := 0;
     let s : State := nth phasesAndQuenchesEndStates2 2;
     let c : DrvCh := drvCh s ↑ch;
     let b : State := begin' t s;
     let now : Time := b.now;
     let ends : Prop := c.st = 4 ∧ (c.nearZero ↑ma = true ∨ c.gateOff.getD 0 + 5 * msUnits ≤ now);
     ends) := by and_intros <;> decide

theorem witness_ShotsMoveThroughTheirPhases_PulsesStartAndEnd :
    (let t : Time := 4;
     let ch : Fin 64 := 0;
     let s : State := nth phasesAndQuenchesEndStates2 0;
     let c : DrvCh := drvCh s ↑ch;
     let b : State := begin' t s;
     let due : Prop :=
       c.shooting = true ∧
         (Option.any (fun e => decide (e ≤ driveNow b)) do
             let a ← c.pulseEnd
             pure ↑a) =
           true;
     ¬due) ∧
    (let t : Time := 5;
     let ch : Fin 64 := 0;
     let s : State := nth phasesAndQuenchesEndStates2 0;
     let c : DrvCh := drvCh s ↑ch;
     let b : State := begin' t s;
     let due : Prop :=
       c.shooting = true ∧
         (Option.any (fun e => decide (e ≤ driveNow b)) do
             let a ← c.pulseEnd
             pure ↑a) =
           true;
     let sh : Shot := { ev := 4, pulse := false, due := 0, ready := 0, gateOn := some 0 : Shot };
     due ∧ c.shot = some sh) ∧
    (let t : Time := 4;
     let ch : Fin 64 := 0;
     let s : State := nth phasesAndQuenchesEndStates2 0;
     let c : DrvCh := drvCh s ↑ch;
     let b : State := begin' t s;
     let due : Prop :=
       c.on = true ∧
         c.shot = none ∧
           (Option.any (fun p => decide (p ≤ driveNow b)) do
               let a ← c.nextPulse
               pure ↑a) =
             true;
     ¬due) ∧
    (let t : Time := 4;
     let ch : Fin 64 := 0;
     let s : State := nth phasesAndQuenchesEndStates2 11;
     let c : DrvCh := drvCh s ↑ch;
     let b : State := begin' t s;
     let due : Prop :=
       c.on = true ∧
         c.shot = none ∧
           (Option.any (fun p => decide (p ≤ driveNow b)) do
               let a ← c.nextPulse
               pure ↑a) =
             true;
     due ∧ c.d = 0 ∧ c.pulsing = true) ∧
    (let t : Time := 4;
     let ch : Fin 64 := 0;
     let s : State := nth phasesAndQuenchesEndStates2 4;
     let c : DrvCh := drvCh s ↑ch;
     let b : State := begin' t s;
     let now : Time := b.now;
     let due : Prop :=
       c.on = true ∧
         c.shot = none ∧
           (Option.any (fun p => decide (p ≤ driveNow b)) do
               let a ← c.nextPulse
               pure ↑a) =
             true;
     let slot : Nat := fld (drd s R.DRV_CH_CFG ↑ch) 28 24;
     due ∧
       c.d ≠ 0 ∧
         barred s ↑ch = false ∧
           db s R.DRV_PROF_HDR slot 31 = true ∧
             (c.gateOff = none ∨ c.gateOff.getD 0 + df s R.DRV_PROF_HDR slot 15 0 * usUnits ≤ now) ∧ peakIn s (bankOf ↑ch) = none) := by and_intros <;> decide

theorem witness_ShotsMoveThroughTheirPhases_WaitingShotsAreRefusedOrStart :
    (let ch : Fin 64 := 0;
     let s : State := State.reset;
     let c : DrvCh := drvCh s ↑ch;
     c.shot = none) ∧
    (let t : Time := 4;
     let ch : Fin 64 := 0;
     let s : State := nth waitingShots 1;
     let c : DrvCh := drvCh s ↑ch;
     let b : State := begin' t s;
     let now : Time := b.now;
     let sh : Shot := { ev := 4, pulse := false, due := 0, ready := 0, delayed := true : Shot };
     let over' : Prop := sh.gateOn = none ∧ sh.delayed = false ∧ sh.ready + sh.tol ≤ now;
     c.shot = some sh ∧ ¬over') ∧
    (let t : Time := 4;
     let ch : Fin 64 := 0;
     let s : State := nth waitingShots 0;
     let c : DrvCh := drvCh s ↑ch;
     let b : State := begin' t s;
     let now : Time := b.now;
     let sh : Shot := { ev := 4, pulse := false, due := 0, ready := 0 : Shot };
     let over' : Prop := sh.gateOn = none ∧ sh.delayed = false ∧ sh.ready + sh.tol ≤ now;
     c.shot = some sh ∧ over') ∧
    (let t : Time := 4;
     let ch : Fin 64 := 0;
     let s : State := nth waitingShots 0;
     let c : DrvCh := drvCh s ↑ch;
     let b : State := begin' t s;
     let now : Time := b.now;
     let sh : Shot := { ev := 4, pulse := false, due := 0, ready := 0 : Shot };
     let expired : Prop := sh.delayed = true ∧ sh.ready ≤ now;
     c.shot = some sh ∧ ¬expired) ∧
    (let t : Time := 4;
     let ch : Fin 64 := 0;
     let s : State := nth waitingShots 1;
     let c : DrvCh := drvCh s ↑ch;
     let b : State := begin' t s;
     let now : Time := b.now;
     let sh : Shot := { ev := 4, pulse := false, due := 0, ready := 0, delayed := true : Shot };
     let expired : Prop := sh.delayed = true ∧ sh.ready ≤ now;
     let slot : Nat := fld (drd s R.DRV_CH_CFG ↑ch) 28 24;
     let peak : Bool := (members (bankOf ↑ch)).any fun m => decide (m ≠ ↑ch) && decide ((drvCh s m).st = 2);
     c.shot = some sh ∧ expired ∧ db s R.DRV_PROF_HDR slot 31 = true ∧ ¬(phSource s slot 0 = 2 ∧ peak = true)) ∧
    (let t : Time := 4;
     let ch : Fin 64 := 0;
     let s : State := nth waitingShots 8;
     let c : DrvCh := drvCh s ↑ch;
     let b : State := begin' t s;
     let now : Time := b.now;
     let sh : Shot := { ev := 4, pulse := false, due := 0, ready := 0, delayed := true : Shot };
     let expired : Prop := sh.delayed = true ∧ sh.ready ≤ now;
     let slot : Nat := fld (drd s R.DRV_CH_CFG ↑ch) 28 24;
     let peak : Bool := (members (bankOf ↑ch)).any fun m => decide (m ≠ ↑ch) && decide ((drvCh s m).st = 2);
     c.shot = some sh ∧ expired ∧ db s R.DRV_PROF_HDR slot 31 = true ∧ phSource s slot 0 = 2 ∧ peak = true ∧ sh.gateOn = none) ∧
    (let t : Time := 4;
     let ch : Fin 64 := 0;
     let s : State := nth waitingShotsAreRefusedOrStartStates 13;
     let c : DrvCh := drvCh s ↑ch;
     let b : State := begin' t s;
     let now : Time := b.now;
     let sh : Shot := { ev := 4, pulse := false, due := 0, ready := 0, delayed := true : Shot };
     let expired : Prop := sh.delayed = true ∧ sh.ready ≤ now;
     let slot : Nat := fld (drd s R.DRV_CH_CFG ↑ch) 28 24;
     c.shot = some sh ∧ expired ∧ db s R.DRV_PROF_HDR slot 31 = false) := by and_intros <;> decide

theorem witness_ReportsCalibrationAndBoost_ArmatureReportsAreSent :
    (let t : Time := 4;
     let ch : Fin 64 := 0;
     let s : State := nth armatureReportsAreSentStates 1;
     let c : DrvCh := drvCh s ↑ch;
     let b : State := begin' t s;
     windowDue b.now c.opening = none) ∧
    (let samples : List OpenSample := [];
     samples.length < 17) ∧
    (let t : Time := 4;
     let ch : Fin 64 := 0;
     let s : State := nth armatureReportsAreSentStates 0;
     let c : DrvCh := drvCh s ↑ch;
     let b : State := begin' t s;
     let det0 : W32 := drd s R.DRV_PROF_DET0 c.slot;
     let det2 : W32 := drd s R.DRV_PROF_DET2 c.slot;
     let samples : List OpenSample := [];
     let found : Option Nat := detectOpening (fld det0 15 0 * tenthMs) (fld det0 31 16 * tenthMs) (fld det2 31 24) (fld det2 23 16) samples;
     let w : Window :=
       { ends := 3, det := true, set := 0#32, set2 := 0#32, rep := { channel := 0, closing := false, flags := 0, gate := 5 : Report } : Window };
     let rest : List Window :=
       [{ ends := 4, det := true, set := 0#32, set2 := 0#32, rep := { channel := 0, closing := false, flags := 0, gate := 5 : Report } : Window }];
     let still : Bool := w.det && found.isNone;
     windowDue b.now c.opening = some (w, rest) ∧ still = true) ∧
    (let t : Time := 4;
     let ch : Fin 64 := 0;
     let s : State := nth armatureReportsAreSentStates 2;
     let c : DrvCh := drvCh s ↑ch;
     let b : State := begin' t s;
     let det0 : W32 := drd s R.DRV_PROF_DET0 c.slot;
     let det2 : W32 := drd s R.DRV_PROF_DET2 c.slot;
     let samples : List OpenSample := [];
     let found : Option Nat := detectOpening (fld det0 15 0 * tenthMs) (fld det0 31 16 * tenthMs) (fld det2 31 24) (fld det2 23 16) samples;
     let w : Window :=
       { ends := 3, det := false, set := 0#32, set2 := 0#32, rep := { channel := 0, closing := false, flags := 0, gate := 5 : Report } : Window };
     let rest : List Window :=
       [{ ends := 4, det := false, set := 0#32, set2 := 0#32, rep := { channel := 0, closing := false, flags := 0, gate := 5 : Report } : Window }];
     let still : Bool := w.det && found.isNone;
     windowDue b.now c.opening = some (w, rest) ∧ still = false) ∧
    (let t : Time := 4;
     let ch : Fin 64 := 0;
     let s : State := nth armatureReportsAreSentStates 0;
     let c : DrvCh := drvCh s ↑ch;
     let b : State := begin' t s;
     windowDue b.now c.closing = none) ∧
    (let t : Time := 4;
     let ch : Fin 64 := 0;
     let s : State := nth armatureReportsAreSentStates 1;
     let c : DrvCh := drvCh s ↑ch;
     let b : State := begin' t s;
     let drain : List Nat := [];
     let w : Window :=
       { ends := 3, det := true, set := 0#32, set2 := 0#32, rep := { channel := 0, closing := false, flags := 0, gate := 5 : Report } : Window };
     let rest : List Window := [];
     windowDue b.now c.closing = some (w, rest) ∧ drain.length < 20) := by and_intros <;> decide

theorem witness_ReportsCalibrationAndBoost_CalibrationAndBoostAct :
    (let t : Time := 20;
     let s : State := nth calibrationAndBoostActStates 0;
     let b : State := begin' t s;
     let ch : Fin 64 := 0;
     let start : Time := 9000;
     let samples : List (BitVec 16) :=
       [3#16, 3#16, 3#16, 3#16, 3#16, 3#16, 3#16, 3#16, 3#16, 3#16, 3#16, 3#16, 3#16, 3#16, 3#16, 3#16, 3#16, 3#16, 3#16, 3#16, 3#16, 3#16, 3#16, 3#16,
         3#16];
     let c : DrvCh := drvCh s ↑ch;
     let quiet : Prop := c.shooting = false ∧ c.st ≠ 4 ∧ c.quietAt ≤ start ∧ (samples.all fun x => c.nearZero (c.codeMa (senseCode s (↑ch) x))) = true;
     let settled : List Int := List.map (fun x => satS 12 x.toInt) (List.drop 20 samples);
     let usable : Prop := db s R.DRV_CAL 0 31 = true ∧ chEnabled s ↑ch = true ∧ quiet ∧ start + 20 * usUnits ≤ b.now ∧ settled ≠ [];
     ¬usable) ∧
    (let t : Time := 4000;
     let s : State := nth calibrationAndBoostActStates 3;
     let b : State := begin' t s;
     let ch : Fin 64 := 0;
     let start : Time := 0;
     let samples : List (BitVec 16) :=
       [3#16, 3#16, 3#16, 3#16, 3#16, 3#16, 3#16, 3#16, 3#16, 3#16, 3#16, 3#16, 3#16, 3#16, 3#16, 3#16, 3#16, 3#16, 3#16, 3#16, 3#16, 3#16, 3#16, 3#16,
         3#16];
     let c : DrvCh := drvCh s ↑ch;
     let quiet : Prop := c.shooting = false ∧ c.st ≠ 4 ∧ c.quietAt ≤ start ∧ (samples.all fun x => c.nearZero (c.codeMa (senseCode s (↑ch) x))) = true;
     let settled : List Int := List.map (fun x => satS 12 x.toInt) (List.drop 20 samples);
     let usable : Prop := db s R.DRV_CAL 0 31 = true ∧ chEnabled s ↑ch = true ∧ quiet ∧ start + 20 * usUnits ≤ b.now ∧ settled ≠ [];
     usable) ∧
    (let t : Time := 20;
     let s : State := nth calibrationAndBoostActStates 0;
     let b : State := begin' t s;
     let ch : Fin 64 := 0;
     let c : DrvCh := drvCh s ↑ch;
     let limit : Nat := df s R.DRV_CAL 0 15 0;
     let due : Prop := db s R.DRV_CAL 0 31 = true ∧ chEnabled s ↑ch = true ∧ limit ≠ 0 ∧ c.starved = false ∧ c.gapAt + limit * msUnits ≤ b.now;
     ¬due) ∧
    (let t : Time := 2000000;
     let s : State := nth calibrationAndBoostActStates 0;
     let b : State := begin' t s;
     let ch : Fin 64 := 0;
     let c : DrvCh := drvCh s ↑ch;
     let limit : Nat := df s R.DRV_CAL 0 15 0;
     let due : Prop := db s R.DRV_CAL 0 31 = true ∧ chEnabled s ↑ch = true ∧ limit ≠ 0 ∧ c.starved = false ∧ c.gapAt + limit * msUnits ≤ b.now;
     due) ∧
    (let s : State := nth calibrationAndBoostActStates 0;
     let v : BitVec 16 := 9000;
     let n : Nat := v.toNat;
     let over' : Prop := vOver s < n ∧ s.drive.ov = false ∧ s.drive.inReset = false;
     over') ∧
    (let s : State := nth calibrationAndBoostActStates 0;
     let v : BitVec 16 := 0;
     let n : Nat := v.toNat;
     let over' : Prop := vOver s < n ∧ s.drive.ov = false ∧ s.drive.inReset = false;
     ¬over') ∧
    (let s : State := nth calibrationAndBoostActStates 0;
     let v : BitVec 16 := 0;
     let n : Nat := v.toNat;
     let under : Prop := n < vUnder s ∧ s.drive.uv = false ∧ s.drive.inReset = false;
     under) ∧
    (let s : State := nth calibrationAndBoostActStates 0;
     let v : BitVec 16 := 9000;
     let n : Nat := v.toNat;
     let under : Prop := n < vUnder s ∧ s.drive.uv = false ∧ s.drive.inReset = false;
     ¬under) ∧
    (let s : State := nth calibrationAndBoostActStates 0;
     s.drive.inReset = false) ∧
    (let s : State := State.reset;
     s.drive.inReset = true) := by and_intros <;> decide

theorem witness_DownFramesReachTheDriveDie_EventFramesReachTheStore :
    (let t : Time := 0;
     let s : State := State.reset;
     let b : State := begin' t s;
     headDown b = none) ∧
    (let t : Time := 0;
     let s : State := nth eventFramesReachTheStoreStates 1;
     let b : State := begin' t s;
     let f : Frame := { seq := 0, epoch := 0, ack := 0, leaseEpoch := 1, body := FrameBody.retime 0 1 4 : Frame };
     headDown b = some f ∧ f.body.code ≠ 2) ∧
    (let t : Time := 0;
     let s : State := nth eventFramesReachTheStoreStates 0;
     let b : State := begin' t s;
     let f : Frame :=
       { seq := 0, epoch := 0, ack := 0, leaseEpoch := 1, body := FrameBody.event 0 { id := 5, kind := 1, time := 150, d := 3 : DrvEv } : Frame };
     headDown b = some f ∧ f.body.code ≠ 3) ∧
    (let t : Time := 0;
     let s : State := nth eventFramesReachTheStoreStates 0;
     let b : State := begin' t s;
     let f : Frame :=
       { seq := 0, epoch := 0, ack := 0, leaseEpoch := 1, body := FrameBody.event 0 { id := 5, kind := 1, time := 150, d := 3 : DrvEv } : Frame };
     headDown b = some f ∧ f.body.code ≠ 4) ∧
    (let t : Time := 0;
     let s : State := nth eventFramesReachTheStoreStates 15;
     let b : State := begin' t s;
     let f : Frame :=
       { seq := 0, epoch := 0, ack := 0, leaseEpoch := 0, body := FrameBody.event 0 { id := 5, kind := 1, time := 150, d := 3 : DrvEv } : Frame };
     let n : Nat := 0;
     let e : DrvEv := { id := 5, kind := 1, time := 150, d := 3 : DrvEv };
     let z : State := acceptDown f b;
     headDown b = some f ∧ leased z = false ∧ f.body = FrameBody.event n e) ∧
    (let t : Time := 1;
     let s : State := nth eventFramesReachTheStoreStates 16;
     let b : State := begin' t s;
     let f : Frame := { seq := 0, epoch := 0, ack := 0, leaseEpoch := 0, body := FrameBody.retime 0 1 4 : Frame };
     let n : Nat := 0;
     let id : Nat := 1;
     let time : Time := 4;
     let z : State := acceptDown f b;
     headDown b = some f ∧ leased z = false ∧ f.body = FrameBody.retime n id time) ∧
    (let t : Time := 20000000000;
     let s : State := nth eventFramesReachTheStoreStates 17;
     let b : State := begin' t s;
     let f : Frame := { seq := 0, epoch := 0, ack := 0, leaseEpoch := 0, body := FrameBody.withdraw 0 1 : Frame };
     let n : Nat := 0;
     let id : Nat := 1;
     let z : State := acceptDown f b;
     headDown b = some f ∧ leased z = false ∧ f.body = FrameBody.withdraw n id) ∧
    (let t : Time := 0;
     let s : State := nth eventFramesReachTheStoreStates 0;
     let b : State := begin' t s;
     let f : Frame :=
       { seq := 0, epoch := 0, ack := 0, leaseEpoch := 1, body := FrameBody.event 0 { id := 5, kind := 1, time := 150, d := 3 : DrvEv } : Frame };
     let n : Nat := 0;
     let e : DrvEv := { id := 5, kind := 1, time := 150, d := 3 : DrvEv };
     headDown b = some f ∧ leased s = true ∧ f.leaseEpoch = s.drive.lease.e ∧ f.body = FrameBody.event n e ∧ chEnabled s n = true) ∧
    (let t : Time := 0;
     let s : State := nth eventFramesReachTheStoreStates 9;
     let b : State := begin' t s;
     let f : Frame :=
       { seq := 0, epoch := 0, ack := 0, leaseEpoch := 1, body := FrameBody.event 0 { id := 5, kind := 1, time := 150, d := 3 : DrvEv } : Frame };
     let n : Nat := 0;
     let e : DrvEv := { id := 5, kind := 1, time := 150, d := 3 : DrvEv };
     headDown b = some f ∧ leased s = true ∧ f.leaseEpoch = s.drive.lease.e ∧ f.body = FrameBody.event n e ∧ chEnabled s n = false) ∧
    (let t : Time := 0;
     let s : State := nth eventFramesReachTheStoreStates 7;
     let b : State := begin' t s;
     let f : Frame := { seq := 0, epoch := 0, ack := 0, leaseEpoch := 1, body := FrameBody.retime 0 1 4 : Frame };
     let n : Nat := 0;
     let id : Nat := 1;
     let time : Time := 4;
     let c : DrvCh := drvCh s n;
     headDown b = some f ∧
       leased s = true ∧ f.leaseEpoch = s.drive.lease.e ∧ f.body = FrameBody.retime n id time ∧ List.find? (fun z => decide (z.id = id)) c.pending = none) ∧
    (let t : Time := 0;
     let s : State := nth eventFramesReachTheStoreStates 5;
     let b : State := begin' t s;
     let f : Frame := { seq := 0, epoch := 0, ack := 0, leaseEpoch := 1, body := FrameBody.withdraw 0 1 : Frame };
     let n : Nat := 0;
     let id : Nat := 1;
     let c : DrvCh := drvCh s n;
     headDown b = some f ∧
       leased s = true ∧ f.leaseEpoch = s.drive.lease.e ∧ f.body = FrameBody.withdraw n id ∧ (c.pending.any fun z => decide (z.id = id)) = true) ∧
    (let t : Time := 1;
     let s : State := nth eventFramesReachTheStoreStates 8;
     let b : State := begin' t s;
     let f : Frame := { seq := 0, epoch := 0, ack := 0, leaseEpoch := 1, body := FrameBody.withdraw 0 1 : Frame };
     let n : Nat := 0;
     let id : Nat := 1;
     let c : DrvCh := drvCh s n;
     let waits : Prop := c.awaiting = true ∧ Option.any (fun sh => decide (sh.ev = id) && !sh.pulse) c.shot = true;
     headDown b = some f ∧
       leased s = true ∧
         f.leaseEpoch = s.drive.lease.e ∧
           f.body = FrameBody.withdraw n id ∧ (c.pending.any fun z => decide (z.id = id)) = false ∧ c.shooting = false ∧ waits) ∧
    (let t : Time := 0;
     let s : State := nth eventFramesReachTheStoreStates 2;
     let b : State := begin' t s;
     let f : Frame := { seq := 0, epoch := 0, ack := 0, leaseEpoch := 1, body := FrameBody.withdraw 0 1 : Frame };
     let n : Nat := 0;
     let id : Nat := 1;
     let c : DrvCh := drvCh s n;
     let waits : Prop := c.awaiting = true ∧ Option.any (fun sh => decide (sh.ev = id) && !sh.pulse) c.shot = true;
     headDown b = some f ∧
       leased s = true ∧ f.leaseEpoch = s.drive.lease.e ∧ f.body = FrameBody.withdraw n id ∧ (c.pending.any fun z => decide (z.id = id)) = false ∧ ¬waits) ∧
    (let t : Time := 0;
     let s : State := nth eventFramesReachTheStoreStates 2;
     let b : State := begin' t s;
     let f : Frame := { seq := 0, epoch := 0, ack := 0, leaseEpoch := 1, body := FrameBody.withdraw 0 1 : Frame };
     let n : Nat := 0;
     let id : Nat := 1;
     let c : DrvCh := drvCh s n;
     headDown b = some f ∧ leased s = true ∧ f.leaseEpoch = s.drive.lease.e ∧ f.body = FrameBody.withdraw n id ∧ c.shooting = false) := by and_intros <;> decide

theorem witness_DownFramesReachTheDriveDie_RegisterAndTimeFramesAct :
    (let t : Time := 4;
     let s : State := State.reset;
     let b : State := begin' t s;
     headDown b = none) ∧
    (let t : Time := 4;
     let s : State := nth registerAndTimeFramesActStates 10;
     let b : State := begin' t s;
     let f : Frame := { seq := 0, epoch := 0, ack := 0, leaseEpoch := 1, body := FrameBody.clear 0 8#32 : Frame };
     headDown b = some f ∧ f.body.code ≠ 5) ∧
    (let t : Time := 4;
     let s : State := nth registerAndTimeFramesActStates 0;
     let b : State := begin' t s;
     let f : Frame := { seq := 0, epoch := 0, ack := 0, leaseEpoch := 1, body := FrameBody.write 65536 1310820#32 : Frame };
     headDown b = some f ∧ f.body.code ≠ 9) ∧
    (let t : Time := 4;
     let s : State := nth registerAndTimeFramesActStates 0;
     let b : State := begin' t s;
     let f : Frame := { seq := 0, epoch := 0, ack := 0, leaseEpoch := 1, body := FrameBody.write 65536 1310820#32 : Frame };
     headDown b = some f ∧ f.body.code ≠ 6) ∧
    (let t : Time := 4;
     let s : State := nth registerAndTimeFramesActStates 1;
     let b : State := begin' t s;
     let f : Frame := { seq := 0, epoch := 0, ack := 0, leaseEpoch := 1, body := FrameBody.write 69632 2147549216#32 : Frame };
     let off : Nat := 69632;
     let v : W32 := 2147549216;
     headDown b = some f ∧ f.body = FrameBody.write off v) ∧
    (let t : Time := 4;
     let s : State := nth registerAndTimeFramesActStates 6;
     let b : State := begin' t s;
     let f : Frame := { seq := 0, epoch := 0, ack := 0, leaseEpoch := 1, body := FrameBody.write 73748 305419896#32 : Frame };
     let off : Nat := 73748;
     let v : W32 := 305419896;
     let r : Reg := R.DRV_TRIP;
     ArrivesDown b f ∧
       f.body = FrameBody.write off v ∧
         regAt off = some r ∧
           off ≠ R.LEASE_CFG.base ∧ regHas R.DRV_CH_CFG off = false ∧ regHas R.DRV_PROF_HDR off = false ∧ regHas R.DRV_TH_RREF off = false) ∧
    (let t : Time := 0;
     let s : State := nth registerAndTimeFramesActStates 9;
     let b : State := begin' t s;
     let f : Frame := { seq := 0, epoch := 0, ack := 0, leaseEpoch := 1, body := FrameBody.write 76816 63#32 : Frame };
     let off : Nat := 76816;
     let v : W32 := 63;
     let r : Reg := R.LEASE_CFG;
     ArrivesDown b f ∧ f.body = FrameBody.write off v ∧ regAt off = some r ∧ off = R.LEASE_CFG.base) ∧
    (let t : Time := 4;
     let s : State := nth registerAndTimeFramesActStates 1;
     let b : State := begin' t s;
     let f : Frame := { seq := 0, epoch := 0, ack := 0, leaseEpoch := 1, body := FrameBody.write 69632 2147549216#32 : Frame };
     let off : Nat := 69632;
     let v : W32 := 2147549216;
     let r : Reg := R.DRV_PROF_HDR;
     let slot : Fin 32 := 0;
     ArrivesDown b f ∧ f.body = FrameBody.write off v ∧ regAt off = some r ∧ off = regOff R.DRV_PROF_HDR (↑slot) 0) ∧
    (let t : Time := 64;
     let s : State := nth registerAndTimeFramesActStates 0;
     let b : State := begin' t s;
     let f : Frame := { seq := 0, epoch := 0, ack := 0, leaseEpoch := 1, body := FrameBody.write 65536 1310820#32 : Frame };
     let off : Nat := 65536;
     let v : W32 := 1310820;
     let r : Reg := R.DRV_CH_CFG;
     let old : W32 := tabGet r.reset s.drive.regs off;
     let merged : W32 := regMerge r old v &&& ~~~(v &&& r.w1c);
     let ch : Fin 64 := 0;
     ArrivesDown b f ∧
       f.body = FrameBody.write off v ∧ regAt off = some r ∧ off = regOff R.DRV_CH_CFG (↑ch) 0 ∧ flag old 31 = true ∧ flag merged 31 = false) ∧
    (let t : Time := 76816;
     let s : State := nth registerAndTimeFramesActStates 7;
     let b : State := begin' t s;
     let f : Frame := { seq := 0, epoch := 0, ack := 0, leaseEpoch := 1, body := FrameBody.write 65536 2148794468#32 : Frame };
     let off : Nat := 65536;
     let v : W32 := 2148794468;
     let r : Reg := R.DRV_CH_CFG;
     let old : W32 := tabGet r.reset s.drive.regs off;
     let merged : W32 := regMerge r old v &&& ~~~(v &&& r.w1c);
     let ch : Fin 64 := 0;
     ArrivesDown b f ∧
       f.body = FrameBody.write off v ∧ regAt off = some r ∧ off = regOff R.DRV_CH_CFG (↑ch) 0 ∧ flag old 31 = false ∧ flag merged 31 = true) ∧
    (let t : Time := 73752;
     let s : State := nth registerAndTimeFramesActStates 8;
     let b : State := begin' t s;
     let f : Frame := { seq := 0, epoch := 0, ack := 0, leaseEpoch := 1, body := FrameBody.write 65536 2148794469#32 : Frame };
     let off : Nat := 65536;
     let v : W32 := 2148794469;
     let r : Reg := R.DRV_CH_CFG;
     let old : W32 := tabGet r.reset s.drive.regs off;
     let merged : W32 := regMerge r old v &&& ~~~(v &&& r.w1c);
     let ch : Fin 64 := 0;
     ArrivesDown b f ∧ f.body = FrameBody.write off v ∧ regAt off = some r ∧ off = regOff R.DRV_CH_CFG (↑ch) 0 ∧ flag old 31 = flag merged 31) ∧
    (let t : Time := 0;
     let s : State := nth registerAndTimeFramesActStates 4;
     let b : State := begin' t s;
     let f : Frame := { seq := 0, epoch := 0, ack := 0, leaseEpoch := 1, body := FrameBody.write 73732 0#32 : Frame };
     let off : Nat := 73732;
     let v : W32 := 0;
     let r : Reg := R.DRV_TH_RREF;
     let ch : Fin 64 := 0;
     ArrivesDown b f ∧ f.body = FrameBody.write off v ∧ regAt off = some r ∧ off = regOff R.DRV_TH_RREF (↑ch) 0) ∧
    (let t : Time := 65536;
     let s : State := nth registerAndTimeFramesActStates 10;
     let b : State := begin' t s;
     let f : Frame := { seq := 0, epoch := 0, ack := 0, leaseEpoch := 1, body := FrameBody.clear 0 8#32 : Frame };
     let n : Nat := 0;
     let bits : W32 := 8;
     ArrivesDown b f ∧ f.body = FrameBody.clear n bits ∧ n < 64) ∧
    (let t : Time := 76816;
     let s : State := nth registerAndTimeFramesActStates 11;
     let b : State := begin' t s;
     let f : Frame := { seq := 0, epoch := 0, ack := 0, leaseEpoch := 1, body := FrameBody.clear 64 1#32 : Frame };
     let n : Nat := 64;
     let bits : W32 := 1;
     ArrivesDown b f ∧ f.body = FrameBody.clear n bits ∧ 64 ≤ n) ∧
    (let t : Time := 4;
     let s : State := nth registerAndTimeFramesActStates 12;
     let b : State := begin' t s;
     let f : Frame := { seq := 0, epoch := 0, ack := 0, leaseEpoch := 1, body := FrameBody.time 4 : Frame };
     let x : Time := 4;
     ArrivesDown b f ∧ f.body = FrameBody.time x ∧ s.drive.synced = false) ∧
    (let t : Time := 4;
     let s : State := nth registerAndTimeFramesActStates 13;
     let b : State := begin' t s;
     let f : Frame := { seq := 0, epoch := 0, ack := 0, leaseEpoch := 1, body := FrameBody.time 4 : Frame };
     let x : Time := 4;
     ArrivesDown b f ∧ f.body = FrameBody.time x ∧ s.drive.synced = true) := by and_intros <;> decide

theorem witness_LeasesAreGrantedAndLapse_LeasesAreGrantedAndLapse :
    (let t : Time := 1;
     let s : State := nth leasesAreGrantedAndLapseStates 8;
     let b : State := begin' t s;
     headDown b = none) ∧
    (let t : Time := 1;
     let s : State := nth leasesAreGrantedAndLapseStates 0;
     let b : State := begin' t s;
     let f : Frame := { seq := 0, epoch := 0, ack := 0, leaseEpoch := 0, body := FrameBody.revoke : Frame };
     headDown b = some f ∧ f.body.code ≠ 7) ∧
    (let t : Time := 1;
     let s : State := nth leasesAreGrantedAndLapseStates 1;
     let b : State := begin' t s;
     let f : Frame := { seq := 0, epoch := 0, ack := 0, leaseEpoch := 0, body := FrameBody.grant 4 : Frame };
     headDown b = some f ∧ f.body.code ≠ 8) ∧
    (let t : Time := 1;
     let s : State := nth leasesAreGrantedAndLapseStates 3;
     let b : State := begin' t s;
     let f : Frame := { seq := 0, epoch := 0, ack := 0, leaseEpoch := 0, body := FrameBody.grant 0 : Frame };
     let g : Nat := 0;
     headDown b = some f ∧ f.body = FrameBody.grant g) ∧
    (let t : Time := 1;
     let s : State := nth leasesAreGrantedAndLapseStates 0;
     let b : State := begin' t s;
     let f : Frame := { seq := 0, epoch := 0, ack := 0, leaseEpoch := 0, body := FrameBody.revoke : Frame };
     headDown b = some f ∧ f.body = FrameBody.revoke) ∧
    (let t : Time := 1;
     let s : State := nth leasesAreGrantedAndLapseStates 7;
     let b : State := begin' t s;
     let l : DriveLease := s.drive.lease;
     let f : Frame := { seq := 0, epoch := 0, ack := 0, leaseEpoch := 4, body := FrameBody.revoke : Frame };
     headDown b = some f ∧ l.e ≠ 0 ∧ f.leaseEpoch ≠ l.e ∧ f.leaseEpoch ≠ 0 ∧ f.body = FrameBody.revoke) ∧
    (let t : Time := 4;
     let s : State := nth leasesAreGrantedAndLapseStates 1;
     let b : State := begin' t s;
     let l : DriveLease := s.drive.lease;
     let f : Frame := { seq := 0, epoch := 0, ack := 0, leaseEpoch := 0, body := FrameBody.grant 4 : Frame };
     let g : Nat := 4;
     ArrivesDown b f ∧ f.body = FrameBody.grant g ∧ l.e = 0 ∧ g ≠ 0 ∧ g ≠ l.last) ∧
    (let t : Time := 1;
     let s : State := nth leasesAreGrantedAndLapseStates 3;
     let b : State := begin' t s;
     let l : DriveLease := s.drive.lease;
     let f : Frame := { seq := 0, epoch := 0, ack := 0, leaseEpoch := 0, body := FrameBody.grant 0 : Frame };
     let g : Nat := 0;
     ArrivesDown b f ∧ f.body = FrameBody.grant g ∧ l.e = 0 ∧ (g = 0 ∨ g = l.last)) ∧
    (let t : Time := 4;
     let s : State := nth leasesAreGrantedAndLapseStates 4;
     let b : State := begin' t s;
     let l : DriveLease := s.drive.lease;
     let f : Frame := { seq := 0, epoch := 0, ack := 0, leaseEpoch := 1, body := FrameBody.grant 4 : Frame };
     let g : Nat := 4;
     ArrivesDown b f ∧ f.body = FrameBody.grant g ∧ l.e ≠ 0) ∧
    (let t : Time := 1;
     let s : State := nth leasesAreGrantedAndLapseStates 5;
     let b : State := begin' t s;
     let l : DriveLease := s.drive.lease;
     let f : Frame := { seq := 0, epoch := 0, ack := 0, leaseEpoch := 1, body := FrameBody.revoke : Frame };
     ArrivesDown b f ∧ l.e ≠ 0 ∧ f.body = FrameBody.revoke) ∧
    (let t : Time := 1;
     let s : State := nth leasesAreGrantedAndLapseStates 0;
     let b : State := begin' t s;
     let l : DriveLease := s.drive.lease;
     let f : Frame := { seq := 0, epoch := 0, ack := 0, leaseEpoch := 0, body := FrameBody.revoke : Frame };
     ArrivesDown b f ∧ l.e = 0 ∧ f.body = FrameBody.revoke) ∧
    (let t : Time := 1000000000;
     let s : State := nth leasesAreGrantedAndLapseStates 4;
     let b : State := begin' t s;
     let l : DriveLease := s.drive.lease;
     let p : Nat := df s R.LEASE_CFG 0 5 0;
     let due : Prop := l.e ≠ 0 ∧ l.timerAt + (if p = 0 then 1 else capNat 32 p) * 250 * usUnits ≤ b.now;
     due) ∧
    (let t : Time := 1;
     let s : State := nth leasesAreGrantedAndLapseStates 0;
     let b : State := begin' t s;
     let l : DriveLease := s.drive.lease;
     let p : Nat := df s R.LEASE_CFG 0 5 0;
     let due : Prop := l.e ≠ 0 ∧ l.timerAt + (if p = 0 then 1 else capNat 32 p) * 250 * usUnits ≤ b.now;
     ¬due) ∧
    (let t : Time := 1000000000;
     let s : State := nth leasesAreGrantedAndLapseStates 0;
     let b : State := begin' t s;
     let l : DriveLease := s.drive.lease;
     let due : Prop := l.e = 0 ∧ s.relay.trained = true ∧ s.drive.inReset = false ∧ l.leaseAt + 10 * usUnits ≤ b.now;
     due) ∧
    (let t : Time := 1;
     let s : State := nth leasesAreGrantedAndLapseStates 0;
     let b : State := begin' t s;
     let l : DriveLease := s.drive.lease;
     let due : Prop := l.e = 0 ∧ s.relay.trained = true ∧ s.drive.inReset = false ∧ l.leaseAt + 10 * usUnits ≤ b.now;
     ¬due) := by and_intros <;> decide

theorem witness_LeasesAreGrantedAndLapse_GrantsFollowTheRules :
    (let s : State := nth grantsFollowTheRulesStates 0;
     s.lease.epoch < 65536) ∧
    (let t : Time := 0;
     let s : State := nth grantsFollowTheRulesStates 0;
     let b : State := begin' t s;
     let due : Prop := grantable s = true ∧ s.lease.startupDone = true ∧ heldDown b = true;
     ¬due) ∧
    (let t : Time := 1000000000;
     let s : State := nth grantsFollowTheRulesStates 0;
     let b : State := begin' t s;
     let due : Prop := grantable s = true ∧ s.lease.startupDone = true ∧ heldDown b = true;
     due ∧ limitReached s = false) ∧
    (let t : Time := 0;
     let s : State := nth grantsFollowTheRulesStates 2;
     let b : State := begin' t s;
     let due : Prop := grantable s = true ∧ s.lease.startupDone = true ∧ heldDown b = true;
     due ∧ limitReached s = true ∧ s.lease.requests ≠ 0) ∧
    (let t : Time := 0;
     let s : State := nth grantsFollowTheRulesStates 1;
     let b : State := begin' t s;
     let due : Prop := grantable s = true ∧ s.lease.startupDone = true ∧ heldDown b = true;
     due ∧ limitReached s = true ∧ s.lease.requests = 0) ∧
    (let t : Time := 0;
     let s : State := nth grantsFollowTheRulesStates 1;
     let b : State := begin' t s;
     let a : Actor := Actor.host;
     let v : W32 := 1;
     let host : Bool := decide (a = Actor.host);
     let asks : Prop := flag v 0 = true ∧ limitReached s = true ∧ s.lease.reqFrom ≠ some (b.now, !host);
     gateWrite s a R.LEASE_REQ.base 4 = Gate.allow ∧ asks) ∧
    (let t : Time := 0;
     let s : State := nth grantsFollowTheRulesStates 0;
     let b : State := begin' t s;
     let a : Actor := Actor.host;
     let v : W32 := 2147483648;
     let host : Bool := decide (a = Actor.host);
     let asks : Prop := flag v 0 = true ∧ limitReached s = true ∧ s.lease.reqFrom ≠ some (b.now, !host);
     gateWrite s a R.LEASE_REQ.base 4 = Gate.allow ∧ ¬asks) := by and_intros <;> decide

theorem witness_UpFramesAndTheLink_UpFramesReachTheControlDie :
    (let t : Time := 2;
     let s : State := nth upFramesReachTheControlDieStates 7;
     let b : State := begin' t s;
     headUp b = none) ∧
    (let t : Time := 2;
     let s : State := nth upFramesReachTheControlDieStates 1;
     let b : State := begin' t s;
     let f : Frame := { seq := 0, epoch := 0, ack := 0, leaseEpoch := 0, body := FrameBody.fault 0 8#32 : Frame };
     headUp b = some f ∧ f.body.code ≠ 11) ∧
    (let t : Time := 2;
     let s : State := nth upFramesReachTheControlDieStates 0;
     let b : State := begin' t s;
     let f : Frame :=
       { seq := 0, epoch := 0, ack := 0, leaseEpoch := 0, body := FrameBody.report { channel := 0, closing := false, flags := 0, gate := 5 : Report } :
         Frame };
     headUp b = some f ∧ f.body.code ≠ 13) ∧
    (let t : Time := 2;
     let s : State := nth upFramesReachTheControlDieStates 0;
     let b : State := begin' t s;
     let f : Frame :=
       { seq := 0, epoch := 0, ack := 0, leaseEpoch := 0, body := FrameBody.report { channel := 0, closing := false, flags := 0, gate := 5 : Report } :
         Frame };
     headUp b = some f ∧ f.body.code ≠ 14) ∧
    (let t : Time := 2;
     let s : State := nth upFramesReachTheControlDieStates 0;
     let b : State := begin' t s;
     let f : Frame :=
       { seq := 0, epoch := 0, ack := 0, leaseEpoch := 0, body := FrameBody.report { channel := 0, closing := false, flags := 0, gate := 5 : Report } :
         Frame };
     let r : Report := { channel := 0, closing := false, flags := 0, gate := 5 : Report };
     headUp b = some f ∧ f.body = FrameBody.report r) ∧
    (let t : Time := 0;
     let s : State := nth upFramesReachTheControlDieStates 1;
     let b : State := begin' t s;
     let f : Frame := { seq := 0, epoch := 0, ack := 0, leaseEpoch := 0, body := FrameBody.fault 0 8#32 : Frame };
     let n : Nat := 0;
     let w : W32 := 8;
     headUp b = some f ∧ f.body = FrameBody.fault n w ∧ n < 64) ∧
    (let t : Time := 2;
     let s : State := nth upFramesReachTheControlDieStates 3;
     let b : State := begin' t s;
     let f : Frame := { seq := 0, epoch := 0, ack := 0, leaseEpoch := 0, body := FrameBody.fault 64 1#32 : Frame };
     let n : Nat := 64;
     let w : W32 := 1;
     headUp b = some f ∧ f.body = FrameBody.fault n w ∧ 64 ≤ n) ∧
    (let t : Time := 5;
     let s : State := nth upFramesReachTheControlDieStates 4;
     let b : State := begin' t s;
     let f : Frame := { seq := 0, epoch := 0, ack := 0, leaseEpoch := 0, body := FrameBody.lease true 4 3 0 : Frame };
     let e : Nat := 4;
     let last : Nat := 3;
     let cause : Nat := 0;
     headUp b = some f ∧ f.body = FrameBody.lease true e last cause) ∧
    (let t : Time := 5;
     let s : State := nth upFramesReachTheControlDieStates 6;
     let b : State := begin' t s;
     let f : Frame := { seq := 0, epoch := 0, ack := 0, leaseEpoch := 0, body := FrameBody.lease false 4 3 2 : Frame };
     let e : Nat := 4;
     let last : Nat := 3;
     let cause : Nat := 2;
     headUp b = some f ∧ f.body = FrameBody.lease false e last cause ∧ s.lease.held = true) ∧
    (let t : Time := 2;
     let s : State := nth upFramesReachTheControlDieStates 5;
     let b : State := begin' t s;
     let f : Frame := { seq := 0, epoch := 0, ack := 0, leaseEpoch := 0, body := FrameBody.lease false 4 3 2 : Frame };
     let e : Nat := 4;
     let last : Nat := 3;
     let cause : Nat := 2;
     headUp b = some f ∧ f.body = FrameBody.lease false e last cause ∧ s.lease.held = false) ∧
    (let s : State := nth upFramesReachTheControlDieStates 0;
     s.relay.trained = false ∨ s.relay.up.quiet = false) ∧
    (let s : State := nth upFramesReachTheControlDieStates 7;
     let seg : Fin 233 := 0;
     s.relay.trained = true ∧ s.relay.up.quiet = true ∧ (↑seg < 64 ∨ 136 < ↑seg)) := by and_intros <;> decide

theorem witness_UpFramesAndTheLink_TheLinkKeepsItsFrames :
    (let s : State := nth leasesAreGrantedAndLapseStates 8;
     let r : Relay := s.relay;
     r.trained = true ∧ r.down.quiet = true ∧ believedEpoch s = s.drive.lease.e) ∧
    (let s : State := nth theLinkKeepsItsFramesStates 1;
     let r : Relay := s.relay;
     r.trained = true ∧ r.up.quiet = true) ∧
    (let s : State := nth theLinkKeepsItsFramesStates 0;
     let r : Relay := s.relay;
     r.trained = false ∨ r.down.quiet = false) ∧
    (let s : State := nth theLinkKeepsItsFramesStates 0;
     let r : Relay := s.relay;
     r.trained = false ∨ r.up.quiet = false) ∧
    (let s : State := nth theLinkKeepsItsFramesStates 0;
     let r : Relay := s.relay;
     r.trained = false) ∧
    (let s : State := nth theLinkKeepsItsFramesStates 1;
     let r : Relay := s.relay;
     let down : Bool := false;
     let flips : List Byte := [1] ++ List.replicate 7 0 ++ [247, 223, 136, 169];
     let l : Link := if down = true then r.down else r.up;
     r.trained = true ∧ l.flight = [] ∧ wireOk flips = true) ∧
    (let s : State := nth theLinkKeepsItsFramesStates 1;
     let r : Relay := s.relay;
     let down : Bool := false;
     let flips : List Byte := [];
     let l : Link := if down = true then r.down else r.up;
     r.trained = true ∧ l.flight = [] ∧ wireOk flips = false) ∧
    (let s : State := nth theLinkKeepsItsFramesStates 4;
     let r : Relay := s.relay;
     let down : Bool := true;
     let flips : List Byte := [];
     let l : Link := if down = true then r.down else r.up;
     let f : Frame := { seq := 0, epoch := 0, ack := 0, leaseEpoch := 1, body := FrameBody.time 3 : Frame };
     let rest : List Frame := [];
     let crc : Bool := !wireOk (flipBits f.wire flips);
     r.trained = true ∧ l.flight = f :: rest ∧ crc = false ∧ takes s l f = true) ∧
    (let s : State := nth theLinkKeepsItsFramesStates 1;
     let r : Relay := s.relay;
     let down : Bool := true;
     let flips : List Byte := [1];
     let l : Link := if down = true then r.down else r.up;
     let f : Frame := { seq := 0, epoch := 0, ack := 0, leaseEpoch := 1, body := FrameBody.time 3 : Frame };
     let rest : List Frame := [];
     let crc : Bool := !wireOk (flipBits f.wire flips);
     r.trained = true ∧ l.flight = f :: rest ∧ (crc = true ∨ takes s l f = false) ∧ (crc = true ∨ f.epoch ≠ r.epoch)) ∧
    (let s : State := nth theLinkKeepsItsFramesStates 1;
     let r : Relay := s.relay;
     let down : Bool := true;
     let flips : List Byte := [];
     let l : Link := if down = true then r.down else r.up;
     let f : Frame := { seq := 0, epoch := 0, ack := 0, leaseEpoch := 1, body := FrameBody.time 3 : Frame };
     let rest : List Frame := [];
     let crc : Bool := !wireOk (flipBits f.wire flips);
     r.trained = true ∧ l.flight = f :: rest ∧ (crc = true ∨ takes s l f = false) ∧ crc = false ∧ f.epoch = r.epoch) ∧
    (let t : Time := 0;
     let s : State := nth theLinkKeepsItsFramesStates 0;
     let r : Relay := s.relay;
     let b : State := begin' t s;
     let down : Bool := false;
     let l : Link := if down = true then r.down else r.up;
     let due : Prop := r.trained = true ∧ Option.any (fun f => decide (f.sentAt + 2 * usUnits ≤ b.now)) l.unacked.head? = true;
     ¬due) ∧
    (let t : Time := 5000;
     let s : State := nth theLinkKeepsItsFramesStates 1;
     let r : Relay := s.relay;
     let b : State := begin' t s;
     let down : Bool := true;
     let l : Link := if down = true then r.down else r.up;
     let due : Prop := r.trained = true ∧ Option.any (fun f => decide (f.sentAt + 2 * usUnits ≤ b.now)) l.unacked.head? = true;
     due) ∧
    (let t : Time := 0;
     let s : State := nth theLinkKeepsItsFramesStates 0;
     let r : Relay := s.relay;
     let b : State := begin' t s;
     let down : Bool := false;
     let l : Link := if down = true then r.down else r.up;
     let due : Prop := r.trained = true ∧ (8 ≤ l.discards ∨ l.acceptedAt + 20 * usUnits ≤ b.now);
     ¬due) ∧
    (let t : Time := 0;
     let s : State := nth theLinkKeepsItsFramesStates 7;
     let r : Relay := s.relay;
     let b : State := begin' t s;
     let down : Bool := true;
     let l : Link := if down = true then r.down else r.up;
     let due : Prop := r.trained = true ∧ (8 ≤ l.discards ∨ l.acceptedAt + 20 * usUnits ≤ b.now);
     due) ∧
    (let t : Time := 0;
     let s : State := nth theLinkKeepsItsFramesStates 0;
     let r : Relay := s.relay;
     let b : State := begin' t s;
     let due : Prop := r.trained = true ∧ r.timeAt + 10 * usUnits ≤ b.now;
     ¬due) ∧
    (let t : Time := 5000;
     let s : State := nth theLinkKeepsItsFramesStates 1;
     let r : Relay := s.relay;
     let b : State := begin' t s;
     let due : Prop := r.trained = true ∧ r.timeAt + 10 * usUnits ≤ b.now;
     due) := by and_intros <;> decide

theorem witness_TrainingAndResetsOfTheFarDie :
    (let s : State := nth trainingAndResetsOfTheFarDieStates 0;
     let r : Relay := s.relay;
     let may : Prop :=
       r.trained = false ∧
         4 ≤ s.startup.phase ∧ s.startup.phase ≤ 7 ∧ r.driveReset = false ∧ r.controlReset = false ∧ r.driveSeen = true ∧ r.controlSeen = true;
     ¬may) ∧
    (let s : State := nth trainingAndResetsOfTheFarDieStates 3;
     let r : Relay := s.relay;
     let may : Prop :=
       r.trained = false ∧
         4 ≤ s.startup.phase ∧ s.startup.phase ≤ 7 ∧ r.driveReset = false ∧ r.controlReset = false ∧ r.driveSeen = true ∧ r.controlSeen = true;
     may ∧ r.rewriteDue = true) ∧
    (let s : State := nth trainingAndResetsOfTheFarDieStates 1;
     let r : Relay := s.relay;
     let may : Prop :=
       r.trained = false ∧
         4 ≤ s.startup.phase ∧ s.startup.phase ≤ 7 ∧ r.driveReset = false ∧ r.controlReset = false ∧ r.driveSeen = true ∧ r.controlSeen = true;
     may ∧ r.rewriteDue = false) ∧
    (let s : State := nth trainingAndResetsOfTheFarDieStates 2;
     let r : Relay := s.relay;
     let may : Prop :=
       r.trained = false ∧
         4 ≤ s.startup.phase ∧ s.startup.phase ≤ 7 ∧ r.driveReset = false ∧ r.controlReset = false ∧ r.driveSeen = true ∧ r.controlSeen = true;
     may ∧ s.drive.lease.e ≠ 0) ∧
    (let s : State := nth trainingAndResetsOfTheFarDieStates 1;
     let r : Relay := s.relay;
     let may : Prop :=
       r.trained = false ∧
         4 ≤ s.startup.phase ∧ s.startup.phase ≤ 7 ∧ r.driveReset = false ∧ r.controlReset = false ∧ r.driveSeen = true ∧ r.controlSeen = true;
     may ∧ s.startup.phase = 4 ∧ s.startup.warm = false) ∧
    (let s : State := nth trainingAndResetsOfTheFarDieStates 3;
     let r : Relay := s.relay;
     let may : Prop :=
       r.trained = false ∧
         4 ≤ s.startup.phase ∧ s.startup.phase ≤ 7 ∧ r.driveReset = false ∧ r.controlReset = false ∧ r.driveSeen = true ∧ r.controlSeen = true;
     may ∧ s.startup.phase ≠ 4) ∧
    (let s : State := nth trainingAndResetsOfTheFarDieStates 1;
     let r : Relay := s.relay;
     let may : Prop :=
       r.trained = false ∧
         4 ≤ s.startup.phase ∧ s.startup.phase ≤ 7 ∧ r.driveReset = false ∧ r.controlReset = false ∧ r.driveSeen = true ∧ r.controlSeen = true;
     may ∧ s.drive.lease.e = 0) ∧
    (let s : State := nth trainingAndResetsOfTheFarDieStates 0;
     let r : Relay := s.relay;
     r.driveSeen = true) ∧
    (let s : State := nth trainingAndResetsOfTheFarDieStates 4;
     let r : Relay := s.relay;
     r.driveSeen = false ∧ s.lease.held = true) ∧
    (let s : State := nth trainingAndResetsOfTheFarDieStates 1;
     let r : Relay := s.relay;
     r.controlSeen = true) ∧
    (let s : State := nth trainingAndResetsOfTheFarDieStates 5;
     let r : Relay := s.relay;
     r.controlSeen = false ∧ s.drive.lease.e ≠ 0) ∧
    (let s : State := nth trainingAndResetsOfTheFarDieStates 0;
     let r : Relay := s.relay;
     r.controlSeen = false ∧ s.drive.lease.e = 0) := by and_intros <;> decide

theorem witness_ProtectionActsAndLatches_TemperatureAndOpenLoads :
    (let ch : Fin 64 := 0;
     let s : State := nth temperatureAndOpenLoadsStates 0;
     let c : DrvCh := drvCh s ↑ch;
     let start : Time := 12000;
     let ma : Nat := 500005;
     let stop : Time := c.closings.getLast?.getD 0;
     let valid : Prop := c.closings.contains start = true ∧ start + 2 * msUnits ≤ stop ∧ ma ≠ 0;
     ¬valid) ∧
    (let ch : Fin 64 := 0;
     let s : State := nth temperatureAndOpenLoadsStates 2;
     let c : DrvCh := drvCh s ↑ch;
     let start : Time := 5;
     let ma : Nat := 5;
     let stop : Time := c.closings.getLast?.getD 0;
     let valid : Prop := c.closings.contains start = true ∧ start + 2 * msUnits ≤ stop ∧ ma ≠ 0;
     let learns : Prop :=
       db s R.DRV_TH_CFG (↑ch) 30 = true ∧
         thLearned s ↑ch = false ∧ start ≤ c.shotAt + secUnits ∧ df s R.DRV_TH_LEARN 0 7 0 * 60 * secUnits ≤ c.coolBefore;
     valid ∧ ¬learns) ∧
    (let ch : Fin 64 := 0;
     let s : State := nth temperatureAndOpenLoadsStates 0;
     let c : DrvCh := drvCh s ↑ch;
     let start : Time := 5;
     let mv : Nat := 0;
     let ma : Nat := 500005;
     let stop : Time := c.closings.getLast?.getD 0;
     let valid : Prop := c.closings.contains start = true ∧ start + 2 * msUnits ≤ stop ∧ ma ≠ 0;
     let r : Nat := roundDivNat (mv * 1000) ma;
     let learns : Prop :=
       db s R.DRV_TH_CFG (↑ch) 30 = true ∧
         thLearned s ↑ch = false ∧ start ≤ c.shotAt + secUnits ∧ df s R.DRV_TH_LEARN 0 7 0 * 60 * secUnits ≤ c.coolBefore;
     valid ∧ learns ∧ learnedRef s r = some 0) ∧
    (let ch : Fin 64 := 0;
     let s : State := nth temperatureAndOpenLoadsStates 3;
     let c : DrvCh := drvCh s ↑ch;
     let start : Time := 5;
     let mv : Nat := 20000000000;
     let ma : Nat := 12000;
     let stop : Time := c.closings.getLast?.getD 0;
     let valid : Prop := c.closings.contains start = true ∧ start + 2 * msUnits ≤ stop ∧ ma ≠ 0;
     let r : Nat := roundDivNat (mv * 1000) ma;
     let learns : Prop :=
       db s R.DRV_TH_CFG (↑ch) 30 = true ∧
         thLearned s ↑ch = false ∧ start ≤ c.shotAt + secUnits ∧ df s R.DRV_TH_LEARN 0 7 0 * 60 * secUnits ≤ c.coolBefore;
     valid ∧ learns ∧ learnedRef s r = none) ∧
    (let ch : Fin 64 := 0;
     let s : State := State.reset;
     let on : Prop := chEnabled s ↑ch = true ∧ db s R.DRV_TH_CFG (↑ch) 31 = true;
     ¬on) ∧
    (let t : Time := 5;
     let ch : Fin 64 := 0;
     let s : State := nth temperatureAndOpenLoadsStates 0;
     let c : DrvCh := drvCh s ↑ch;
     let b : State := begin' t s;
     let i2 : Nat := 12000;
     let x : Int := thStep b (↑ch) i2;
     let l : Nat := thLevel s c.level x;
     let on : Prop := chEnabled s ↑ch = true ∧ db s R.DRV_TH_CFG (↑ch) 31 = true;
     on ∧ (l < 3 ∨ 3 ≤ c.level)) ∧
    (let t : Time := 5;
     let ch : Fin 64 := 0;
     let s : State := nth temperatureAndOpenLoadsStates 11;
     let c : DrvCh := drvCh s ↑ch;
     let b : State := begin' t s;
     let i2 : Nat := 3000;
     let x : Int := thStep b (↑ch) i2;
     let l : Nat := thLevel s c.level x;
     let on : Prop := chEnabled s ↑ch = true ∧ db s R.DRV_TH_CFG (↑ch) 31 = true;
     on ∧ l = 3 ∧ c.level < 3 ∧ (c.shooting = true → c.shot ≠ none)) ∧
    (let t : Time := 5;
     let ch : Fin 64 := 0;
     let s : State := nth temperatureAndOpenLoadsStates 11;
     let c : DrvCh := drvCh s ↑ch;
     let b : State := begin' t s;
     let i2 : Nat := 3000;
     let x : Int := thStep b (↑ch) i2;
     let l : Nat := thLevel s c.level x;
     let on : Prop := chEnabled s ↑ch = true ∧ db s R.DRV_TH_CFG (↑ch) 31 = true;
     on ∧ l = 3 ∧ c.level < 3 ∧ c.pulsing = false) ∧
    (let ch : Fin 64 := 0;
     let s : State := nth temperatureAndOpenLoadsStates 0;
     let c : DrvCh := drvCh s ↑ch;
     let drain : Nat := 12000;
     let vbat : Nat := 400000;
     let held : Nat := 400000;
     let open' : Prop :=
       db s R.DRV_DIAG_CFG (↑ch) 31 = true ∧ c.st = 0 ∧ railBoost s (bankOf ↑ch) = false ∧ s.drive.inReset = false ∧ 2 * drain < vbat ∧ msUnits ≤ held;
     open') ∧
    (let ch : Fin 64 := 0;
     let s : State := nth temperatureAndOpenLoadsStates 0;
     let c : DrvCh := drvCh s ↑ch;
     let drain : Nat := 12000;
     let vbat : Nat := 0;
     let held : Nat := 500005;
     let open' : Prop :=
       db s R.DRV_DIAG_CFG (↑ch) 31 = true ∧ c.st = 0 ∧ railBoost s (bankOf ↑ch) = false ∧ s.drive.inReset = false ∧ 2 * drain < vbat ∧ msUnits ≤ held;
     ¬open') ∧
    (let t : Time := 5;
     let ch : Fin 64 := 0;
     let s : State := nth temperatureAndOpenLoadsStates 10;
     let c : DrvCh := drvCh s ↑ch;
     let b : State := begin' t s;
     let ma : Nat := 0;
     let w : W32 := drd s R.DRV_DIAG_CFG ↑ch;
     let open' : Prop :=
       flag w 30 = true ∧
         conducting s ↑ch = true ∧
           ma < fld w 15 8 * 10 ∧ Option.any (fun g => decide (g + fld w 7 0 * tenUs ≤ b.now)) (c.shot.bind fun x => x.gateOn) = true;
     open') ∧
    (let t : Time := 5;
     let ch : Fin 64 := 0;
     let s : State := nth temperatureAndOpenLoadsStates 0;
     let c : DrvCh := drvCh s ↑ch;
     let b : State := begin' t s;
     let ma : Nat := 12000;
     let w : W32 := drd s R.DRV_DIAG_CFG ↑ch;
     let open' : Prop :=
       flag w 30 = true ∧
         conducting s ↑ch = true ∧
           ma < fld w 15 8 * 10 ∧ Option.any (fun g => decide (g + fld w 7 0 * tenUs ≤ b.now)) (c.shot.bind fun x => x.gateOn) = true;
     ¬open') := by and_intros <;> decide

theorem witness_ProtectionActsAndLatches_TripsLatch :
    (let t : Time := 5;
     let s : State := nth tripsLatchStates 0;
     let b : State := begin' t s;
     let ch : Fin 64 := 0;
     let ma : Nat := 400000;
     let c : DrvCh := drvCh s ↑ch;
     let trips : Prop :=
       c.shooting = true ∧
         df s R.DRV_TRIP (↑ch) 15 0 ≤ ma ∧
           Option.any (fun g => decide (b.now ≤ g + df s R.DRV_DIAG_CFG (↑ch) 23 16 * usUnits)) (c.shot.bind fun x => x.gateOn) = true;
     trips) ∧
    (let t : Time := 5;
     let s : State := nth tripsLatchStates 0;
     let b : State := begin' t s;
     let ch : Fin 64 := 0;
     let ma : Nat := 255;
     let c : DrvCh := drvCh s ↑ch;
     let trips : Prop :=
       c.shooting = true ∧
         df s R.DRV_TRIP (↑ch) 15 0 ≤ ma ∧
           Option.any (fun g => decide (b.now ≤ g + df s R.DRV_DIAG_CFG (↑ch) 23 16 * usUnits)) (c.shot.bind fun x => x.gateOn) = true;
     ¬trips) ∧
    (let s : State := nth tripsLatchStates 0;
     let ch : Fin 64 := 0;
     let ma : Nat := 400000;
     let c : DrvCh := drvCh s ↑ch;
     let trips : Prop := c.shooting = true ∧ c.low = true ∧ c.reaches ma (df s R.DRV_TRIP (↑ch) 31 16) = true;
     trips) ∧
    (let s : State := nth tripsLatchStates 0;
     let ch : Fin 64 := 0;
     let ma : Nat := 255;
     let c : DrvCh := drvCh s ↑ch;
     let trips : Prop := c.shooting = true ∧ c.low = true ∧ c.reaches ma (df s R.DRV_TRIP (↑ch) 31 16) = true;
     ¬trips) ∧
    (let s : State := nth tripsLatchStates 0;
     let bank : Fin 8 := 0;
     let dv : Nat := 400000;
     let on : Nat := 255;
     let held : Nat := 255;
     let trips : Prop := railBoost s ↑bank = true ∧ df s R.DRV_HS_CFG (↑bank) 15 8 < dv ∧ 100 ≤ held ∧ df s R.DRV_HS_CFG (↑bank) 7 0 * 20 + held ≤ on;
     ¬trips) ∧
    (let s : State := nth tripsLatchStates 2;
     let bank : Fin 8 := 0;
     let dv : Nat := 400000;
     let on : Nat := 20000000000;
     let held : Nat := 255;
     let trips : Prop := railBoost s ↑bank = true ∧ df s R.DRV_HS_CFG (↑bank) 15 8 < dv ∧ 100 ≤ held ∧ df s R.DRV_HS_CFG (↑bank) 7 0 * 20 + held ≤ on;
     trips) := by and_intros <;> decide

theorem witness_DriveWritesGoToTheDriveDie :
    (let s : State := base;
     let slot : Fin 32 := 0;
     slotInUse s ↑slot = false) ∧
    (let a : Actor := Actor.host;
     let s : State := nth driveWritesGoToTheDriveDieStates 1;
     let slot : Fin 32 := 0;
     gateWrite s a (regOff R.DRV_PROF_HDR (↑slot) 0) 4 = Gate.allow ∧ slotInUse s ↑slot = true) := by and_intros <;> decide

theorem witness_ResetsReachWhatTheySay :
    (let vcore : Nat := 400;
     let vio18 : Nat := 0;
     let vio33 : Nat := 20000000000;
     let held : Nat := 3300;
     let low : Nat := 32768;
     let cause : Prop := (vcore < 740 ∨ vio18 < 1650 ∨ vio33 < 3000) ∧ 100 ≤ held ∨ usUnits ≤ low;
     cause) ∧
    (let vcore : Nat := 400;
     let vio18 : Nat := 0;
     let vio33 : Nat := 20000000000;
     let held : Nat := 20;
     let low : Nat := 4;
     let cause : Prop := (vcore < 740 ∨ vio18 < 1650 ∨ vio33 < 3000) ∧ 100 ≤ held ∨ usUnits ≤ low;
     ¬cause) ∧
    (let s : State := State.reset;
     s.startup.released = false) ∧
    (let s : State := base;
     s.startup.released = true) := by and_intros <;> decide

theorem witness_DomainsLinksAndDriveDieReset_DomainsResetAndReturn :
    (let edges : Nat := 400;
     edges < 159 ∨ 161 < edges) ∧
    (let edges : Nat := 160;
     159 ≤ edges ∧ edges ≤ 161) ∧
    (let edges : Nat := 400;
     edges < 79 ∨ 81 < edges) ∧
    (let edges : Nat := 80;
     79 ≤ edges ∧ edges ≤ 81) ∧
    (let t : Time := 1000000;
     let s : State := base;
     let b : State := begin' t s;
     let healthy : Time := 4;
     healthy + msUnits ≤ b.now) ∧
    (let t : Time := 4;
     let s : State := base;
     let b : State := begin' t s;
     let healthy : Time := 0;
     b.now < healthy + msUnits) := by and_intros <;> decide

theorem witness_DomainsLinksAndDriveDieReset_LinkDriveAndAlwaysOnResets :
    (let edges : Nat := 400;
     let gap : Nat := 0;
     let off : Prop := edges * 1000 < 32768000 - 32768 ∨ 32768000 + 32768 < edges * 1000 ∨ msUnits ≤ gap;
     off) ∧
    (let edges : Nat := 32768;
     let gap : Nat := 5;
     let off : Prop := edges * 1000 < 32768000 - 32768 ∨ 32768000 + 32768 < edges * 1000 ∨ msUnits ≤ gap;
     ¬off) ∧
    (let vbat : Nat := 400;
     let vio33 : Nat := 0;
     let bad : Prop := vbat < 7500 ∨ vio33 < 3135 ∨ 3465 < vio33;
     bad) ∧
    (let vbat : Nat := 8000;
     let vio33 : Nat := 3300;
     let bad : Prop := vbat < 7500 ∨ vio33 < 3135 ∨ 3465 < vio33;
     ¬bad) ∧
    (let edges : Nat := 32768;
     edges < 380 ∨ 420 < edges) ∧
    (let edges : Nat := 400;
     380 ≤ edges ∧ edges ≤ 420) ∧
    (let vbackup : Nat := 400;
     let vio33 : Nat := 0;
     let held : Nat := 20000000000;
     vbackup < 1800 ∧ vio33 < 3000 ∧ 100 ≤ held) ∧
    (let vbackup : Nat := 400;
     let vio33 : Nat := 0;
     let held : Nat := 20;
     1800 ≤ vbackup ∨ 3000 ≤ vio33 ∨ held < 100) := by and_intros <;> decide

theorem witness_CrossingsDiscardAndRestart :
    (let k : Fin 18 := 13;
     let s : State := State.reset;
     let inReset : Prop :=
       if ↑k ≤ 2 then s.cister.perstHigh = false ∨ s.clocks.pipeLock = false
       else
         if ↑k = 3 ∨ ↑k = 4 ∨ ↑k = 5 ∨ ↑k = 6 then s.clocks.fbReset = true
         else if ↑k = 8 ∨ ↑k = 12 ∨ ↑k = 13 then s.clocks.busReset = true else if ↑k = 9 ∨ ↑k = 14 ∨ ↑k = 15 then s.clocks.ethReset = true else False;
     let falls : Prop := ↑k = 7 ∨ ↑k = 10 ∨ ↑k = 11 ∨ 16 ≤ ↑k ∨ inReset;
     s.clocks.farDown.contains ↑k = false ∧ falls ∧ k ≠ 2 ∧ k ≠ 4 ∧ k ≠ 12 ∧ k ≠ 14 ∧ k ≠ 15) ∧
    (let k : Fin 18 := 4;
     let s : State := State.reset;
     let inReset : Prop :=
       if ↑k ≤ 2 then s.cister.perstHigh = false ∨ s.clocks.pipeLock = false
       else
         if ↑k = 3 ∨ ↑k = 4 ∨ ↑k = 5 ∨ ↑k = 6 then s.clocks.fbReset = true
         else if ↑k = 8 ∨ ↑k = 12 ∨ ↑k = 13 then s.clocks.busReset = true else if ↑k = 9 ∨ ↑k = 14 ∨ ↑k = 15 then s.clocks.ethReset = true else False;
     let falls : Prop := ↑k = 7 ∨ ↑k = 10 ∨ ↑k = 11 ∨ 16 ≤ ↑k ∨ inReset;
     s.clocks.farDown.contains ↑k = false ∧ falls ∧ k = 4) ∧
    (let k : Fin 18 := 15;
     let s : State := State.reset;
     let inReset : Prop :=
       if ↑k ≤ 2 then s.cister.perstHigh = false ∨ s.clocks.pipeLock = false
       else
         if ↑k = 3 ∨ ↑k = 4 ∨ ↑k = 5 ∨ ↑k = 6 then s.clocks.fbReset = true
         else if ↑k = 8 ∨ ↑k = 12 ∨ ↑k = 13 then s.clocks.busReset = true else if ↑k = 9 ∨ ↑k = 14 ∨ ↑k = 15 then s.clocks.ethReset = true else False;
     let falls : Prop := ↑k = 7 ∨ ↑k = 10 ∨ ↑k = 11 ∨ 16 ≤ ↑k ∨ inReset;
     s.clocks.farDown.contains ↑k = false ∧ falls ∧ k = 15) ∧
    (let k : Fin 18 := 12;
     let s : State := State.reset;
     let inReset : Prop :=
       if ↑k ≤ 2 then s.cister.perstHigh = false ∨ s.clocks.pipeLock = false
       else
         if ↑k = 3 ∨ ↑k = 4 ∨ ↑k = 5 ∨ ↑k = 6 then s.clocks.fbReset = true
         else if ↑k = 8 ∨ ↑k = 12 ∨ ↑k = 13 then s.clocks.busReset = true else if ↑k = 9 ∨ ↑k = 14 ∨ ↑k = 15 then s.clocks.ethReset = true else False;
     let falls : Prop := ↑k = 7 ∨ ↑k = 10 ∨ ↑k = 11 ∨ 16 ≤ ↑k ∨ inReset;
     s.clocks.farDown.contains ↑k = false ∧ falls ∧ k = 12) ∧
    (let k : Fin 18 := 14;
     let s : State := State.reset;
     let inReset : Prop :=
       if ↑k ≤ 2 then s.cister.perstHigh = false ∨ s.clocks.pipeLock = false
       else
         if ↑k = 3 ∨ ↑k = 4 ∨ ↑k = 5 ∨ ↑k = 6 then s.clocks.fbReset = true
         else if ↑k = 8 ∨ ↑k = 12 ∨ ↑k = 13 then s.clocks.busReset = true else if ↑k = 9 ∨ ↑k = 14 ∨ ↑k = 15 then s.clocks.ethReset = true else False;
     let falls : Prop := ↑k = 7 ∨ ↑k = 10 ∨ ↑k = 11 ∨ 16 ≤ ↑k ∨ inReset;
     s.clocks.farDown.contains ↑k = false ∧ falls ∧ k = 14) ∧
    (let k : Fin 18 := 13;
     let s : State := nth crossingsDiscardAndRestartStates 0;
     let inReset : Prop :=
       if ↑k ≤ 2 then s.cister.perstHigh = false ∨ s.clocks.pipeLock = false
       else
         if ↑k = 3 ∨ ↑k = 4 ∨ ↑k = 5 ∨ ↑k = 6 then s.clocks.fbReset = true
         else if ↑k = 8 ∨ ↑k = 12 ∨ ↑k = 13 then s.clocks.busReset = true else if ↑k = 9 ∨ ↑k = 14 ∨ ↑k = 15 then s.clocks.ethReset = true else False;
     let falls : Prop := ↑k = 7 ∨ ↑k = 10 ∨ ↑k = 11 ∨ 16 ≤ ↑k ∨ inReset;
     s.clocks.farDown.contains ↑k = true ∨ ¬falls) ∧
    (let k : Fin 18 := 13;
     let s : State := State.reset;
     let inReset : Prop :=
       if ↑k ≤ 2 then s.cister.perstHigh = false ∨ s.clocks.pipeLock = false
       else
         if ↑k = 3 ∨ ↑k = 4 ∨ ↑k = 5 ∨ ↑k = 6 then s.clocks.fbReset = true
         else if ↑k = 8 ∨ ↑k = 12 ∨ ↑k = 13 then s.clocks.busReset = true else if ↑k = 9 ∨ ↑k = 14 ∨ ↑k = 15 then s.clocks.ethReset = true else False;
     inReset) ∧
    (let k : Fin 18 := 13;
     let s : State := nth crossingsDiscardAndRestartStates 0;
     let inReset : Prop :=
       if ↑k ≤ 2 then s.cister.perstHigh = false ∨ s.clocks.pipeLock = false
       else
         if ↑k = 3 ∨ ↑k = 4 ∨ ↑k = 5 ∨ ↑k = 6 then s.clocks.fbReset = true
         else if ↑k = 8 ∨ ↑k = 12 ∨ ↑k = 13 then s.clocks.busReset = true else if ↑k = 9 ∨ ↑k = 14 ∨ ↑k = 15 then s.clocks.ethReset = true else False;
     ¬inReset) ∧
    (let k : Fin 18 := 13;
     let x : State := nth crossingsDiscardAndRestartStates 53;
     crossDown x ↑k = true ∧ x.clocks.discarding.contains ↑k = true) ∧
    (let k : Fin 18 := 13;
     let x : State := nth crossingsDiscardAndRestartStates 52;
     crossDown x ↑k = true ∧ x.clocks.discarding.contains ↑k = false) ∧
    (let k : Fin 18 := 13;
     let x : State := nth crossingsDiscardAndRestartStates 0;
     crossDown x ↑k = false) ∧
    (let s : State := nth crossingsDiscardAndRestartStates 41;
     let n : Fin 48 := 3;
     let a : Actor := Actor.host;
     crossDown s 10 = true ∧ s.clocks.discarding.contains 10 = true ∧ gateWrite s a (regOff R.PWM_CMP (↑n) 0) 8 = Gate.allow) := by and_intros <;> decide

theorem witness_ViolationsAreAnsweredAtTheirLevel :
    (let s : State := nth violationsAreAnsweredAtTheirLevelStates 0;
     let vcore : Nat := 400;
     let vio18 : Nat := 0;
     let ns : Nat := 20000000000;
     let cause : Prop := s.startup.released = true ∧ (vcore < 720 ∨ 880 < vcore ∨ vio18 < 1620 ∨ 1980 < vio18) ∧ 2 ≤ ns;
     cause) ∧
    (let s : State := nth violationsAreAnsweredAtTheirLevelStates 0;
     let vcore : Nat := 4;
     let vio18 : Nat := 3300;
     let ns : Nat := 0;
     let cause : Prop := s.startup.released = true ∧ (vcore < 720 ∨ 880 < vcore ∨ vio18 < 1620 ∨ 1980 < vio18) ∧ 2 ≤ ns;
     ¬cause) ∧
    (let ps : Nat := 400;
     ps < 600) ∧
    (let ps : Nat := 32768;
     600 ≤ ps) ∧
    (let deci : Int := 5000;
     let held : Nat := 20000000000;
     let cause : Prop := (1400 < deci ∨ deci < -550) ∧ msUnits ≤ held;
     cause) ∧
    (let deci : Int := 0;
     let held : Nat := 0;
     let cause : Prop := (1400 < deci ∨ deci < -550) ∧ msUnits ≤ held;
     ¬cause) ∧
    (let s : State := nth violationsAreAnsweredAtTheirLevelStates 5;
     let cause : Prop := 8 ≤ s.aon.sigFails ∧ s.aon.sigRaised = false;
     cause) ∧
    (let s : State := nth violationsAreAnsweredAtTheirLevelStates 0;
     let cause : Prop := 8 ≤ s.aon.sigFails ∧ s.aon.sigRaised = false;
     ¬cause) ∧
    (let t : Time := 4;
     let s : State := nth violationsAreAnsweredAtTheirLevelStates 0;
     let b : State := begin' t s;
     let cause : Prop :=
       s.security.faultSecond = b.now / secUnits ∧ max 1 (u16 s.security.charter 300) < s.security.faultsInSecond ∧ s.security.faultsRaised = false;
     cause) ∧
    (let t : Time := 4;
     let s : State := base;
     let b : State := begin' t s;
     let cause : Prop :=
       s.security.faultSecond = b.now / secUnits ∧ max 1 (u16 s.security.charter 300) < s.security.faultsInSecond ∧ s.security.faultsRaised = false;
     ¬cause) ∧
    (let t : Time := 4;
     let s : State := nth violationsAreAnsweredAtTheirLevelStates 0;
     let c : Instr := Instr.lockstepMismatch 4;
     c ∈ [Instr.lockstepMismatch t, Instr.monitorWatchdogExpiry t] ∧ 1 ≤ s.startup.phase ∧ s.startup.phase ≤ 7) ∧
    (let t : Time := 4;
     let s : State := State.reset;
     let c : Instr := Instr.lockstepMismatch 4;
     c ∈ [Instr.lockstepMismatch t, Instr.monitorWatchdogExpiry t] ∧ (s.startup.phase = 0 ∨ 8 ≤ s.startup.phase)) := by and_intros <;> decide

theorem witness_CoresAreHaltedServedAndRestarted_CoresAreHaltedAndRestarted :
    (let t : Time := 1000000;
     let k : Fin 4 := 0;
     let s : State := nth coresAreHaltedAndRestartedStates 0;
     let c : CoreState := core' s ↑k;
     let b : State := begin' t s;
     let expired : Prop := coreWdogMs s ↑k ≠ 0 ∧ c.kickedAt + coreWdogMs s ↑k * msUnits ≤ b.now;
     c.run = 1 ∧ expired) ∧
    (let t : Time := 80;
     let k : Fin 4 := 0;
     let s : State := nth coresAreHaltedAndRestartedStates 0;
     let c : CoreState := core' s ↑k;
     let b : State := begin' t s;
     let expired : Prop := coreWdogMs s ↑k ≠ 0 ∧ c.kickedAt + coreWdogMs s ↑k * msUnits ≤ b.now;
     c.run = 1 ∧ ¬expired) ∧
    (let t : Time := 4;
     let k : Fin 4 := 1;
     let s : State := nth coresAreHaltedAndRestartedStates 0;
     let c : CoreState := core' s ↑k;
     let i : Instr := Instr.coreWdogKick 4 1;
     c.run ≠ 1 ∧ i ∈ [Instr.coreWdogKick t k, Instr.coreWatchdogExpiry t k, Instr.handlerException t k]) ∧
    (let k : Fin 4 := 0;
     let s : State := nth coresAreHaltedAndRestartedStates 0;
     let c : CoreState := core' s ↑k;
     let addr : W32 := 2147483648;
     let perm : Fin 3 := 0;
     c.run = 1 ∧ accessBlocked s (↑k) (BitVec.toNat addr) ↑perm = true ∧ perm = 0) ∧
    (let k : Fin 4 := 0;
     let s : State := nth coresAreHaltedAndRestartedStates 0;
     let c : CoreState := core' s ↑k;
     let addr : W32 := 2147483648;
     let perm : Fin 3 := 1;
     c.run = 1 ∧ accessBlocked s (↑k) (BitVec.toNat addr) ↑perm = true ∧ perm ≠ 0) ∧
    (let k : Fin 4 := 0;
     let s : State := nth coresAreHaltedAndRestartedStates 12;
     let c : CoreState := core' s ↑k;
     let addr : W32 := 4294967295;
     let perm : Fin 3 := 0;
     c.run = 1 ∧ accessBlocked s (↑k) (BitVec.toNat addr) ↑perm = true ∧ coreHaltOnFault s ↑k = true) ∧
    (let k : Fin 4 := 0;
     let s : State := nth coresAreHaltedAndRestartedStates 0;
     let c : CoreState := core' s ↑k;
     let addr : W32 := 2147483648;
     let perm : Fin 3 := 0;
     c.run = 1 ∧ accessBlocked s (↑k) (BitVec.toNat addr) ↑perm = true ∧ coreHaltOnFault s ↑k = false) ∧
    (let k : Fin 4 := 1;
     let s : State := nth coresAreHaltedAndRestartedStates 0;
     let c : CoreState := core' s ↑k;
     let addr : W32 := 2147483648;
     let perm : Fin 3 := 0;
     c.run ≠ 1 ∨ accessBlocked s (↑k) (BitVec.toNat addr) ↑perm = false) ∧
    (let t : Time := 80;
     let k : Fin 4 := 0;
     let s : State := nth coresAreHaltedAndRestartedStates 1;
     let c : CoreState := core' s ↑k;
     let b : State := begin' t s;
     let due : Prop := c.run = 2 ∧ c.haltedAt + coreRestartDelay s ↑k * msUnits ≤ b.now;
     due) ∧
    (let t : Time := 4;
     let k : Fin 4 := 1;
     let s : State := nth coresAreHaltedAndRestartedStates 0;
     let c : CoreState := core' s ↑k;
     let b : State := begin' t s;
     let due : Prop := c.run = 2 ∧ c.haltedAt + coreRestartDelay s ↑k * msUnits ≤ b.now;
     ¬due) := by and_intros <;> decide

theorem witness_CoresAreHaltedServedAndRestarted_ServicesAnswerTheirCore :
    (let k : Fin 4 := 0;
     let block : List Byte := [1, 0, 9, 9, 40, 0, 0, 0, 64, 0, 0, 0, 128, 0, 0, 0, 64, 0, 0, 0, 7] ++ List.replicate 39 0 ++ [1, 0, 0, 0];
     let s : State := nth coresAreHaltedAndRestartedStates 2;
     let c : CoreState := core' s ↑k;
     let b : List Byte := fitBytes 64 block;
     let len : Nat := u32 block 4;
     let src : Nat := u32 block 8;
     let asked : Nat → Prop := fun op => c.run = 1 ∧ c.serving = none ∧ u8 b 60 = 1 ∧ u16 b 0 = op;
     let ready : Nat → Prop := fun op => asked op ∧ keysUsable s = true ∧ u32 b 4 ≤ 1048576;
     let reads : Nat → Prop := fun n => bufferIn s (↑k) src n 0 = true;
     ready 1 ∧ reads len) ∧
    (let k : Fin 4 := 0;
     let block : List Byte := [2, 0, 9, 9, 40, 0, 0, 0, 64, 0, 0, 0, 128, 0, 0, 0, 64, 0, 0, 0, 7] ++ List.replicate 39 0 ++ [1, 0, 0, 0];
     let s : State := nth coresAreHaltedAndRestartedStates 2;
     let c : CoreState := core' s ↑k;
     let b : List Byte := fitBytes 64 block;
     let len : Nat := u32 block 4;
     let src : Nat := u32 block 8;
     let dst : Nat := u32 block 12;
     let asked : Nat → Prop := fun op => c.run = 1 ∧ c.serving = none ∧ u8 b 60 = 1 ∧ u16 b 0 = op;
     let ready : Nat → Prop := fun op => asked op ∧ keysUsable s = true ∧ u32 b 4 ≤ 1048576;
     let reads : Nat → Prop := fun n => bufferIn s (↑k) src n 0 = true;
     let writes : Nat → Prop := fun n => bufferIn s (↑k) dst n 1 = true;
     ready 2 ∧ reads len ∧ writes (len + 28)) ∧
    (let k : Fin 4 := 0;
     let block : List Byte := [3, 0, 9, 9, 10, 0, 0, 0, 64, 0, 0, 0, 0, 16, 0, 0, 64, 0, 0, 0, 7] ++ List.replicate 39 0 ++ [1, 0, 0, 0];
     let s : State := nth coresAreHaltedAndRestartedStates 2;
     let c : CoreState := core' s ↑k;
     let b : List Byte := fitBytes 64 block;
     let len : Nat := u32 block 4;
     let src : Nat := u32 block 8;
     let dst : Nat := u32 block 12;
     let asked : Nat → Prop := fun op => c.run = 1 ∧ c.serving = none ∧ u8 b 60 = 1 ∧ u16 b 0 = op;
     let ready : Nat → Prop := fun op => asked op ∧ keysUsable s = true ∧ u32 b 4 ≤ 1048576;
     let reads : Nat → Prop := fun n => bufferIn s (↑k) src n 0 = true;
     let writes : Nat → Prop := fun n => bufferIn s (↑k) dst n 1 = true;
     let input : List Byte := coreRead s src len;
     let text : Option (List Byte) :=
       if len < 28 then none else Config.openText s.security.oemHash (u32 block 20) (List.take 12 input) (List.drop 12 input);
     ready 3 ∧ reads len ∧ writes (len - 28) ∧ text = none) ∧
    (let k : Fin 4 := 0;
     let block : List Byte := [4, 0, 9, 9, 10, 0, 0, 0, 64, 0, 0, 0, 0, 16, 0, 0, 64, 0, 0, 0, 7] ++ List.replicate 39 0 ++ [1, 0, 0, 0];
     let s : State := nth coresAreHaltedAndRestartedStates 2;
     let c : CoreState := core' s ↑k;
     let b : List Byte := fitBytes 64 block;
     let len : Nat := u32 block 4;
     let src : Nat := u32 block 8;
     let asked : Nat → Prop := fun op => c.run = 1 ∧ c.serving = none ∧ u8 b 60 = 1 ∧ u16 b 0 = op;
     let ready : Nat → Prop := fun op => asked op ∧ keysUsable s = true ∧ u32 b 4 ≤ 1048576;
     let reads : Nat → Prop := fun n => bufferIn s (↑k) src n 0 = true;
     ready 4 ∧ reads len ∧ bufferIn s (↑k) (u32 block 16) 128 0 = true) ∧
    (let k : Fin 4 := 0;
     let block : List Byte := [5, 0, 9, 9, 40, 0, 0, 0, 64, 0, 0, 0, 128, 0, 0, 0, 64, 0, 0, 0, 7] ++ List.replicate 39 0 ++ [1, 0, 0, 0];
     let s : State := nth coresAreHaltedAndRestartedStates 2;
     let c : CoreState := core' s ↑k;
     let b : List Byte := fitBytes 64 block;
     let src : Nat := u32 block 8;
     let dst : Nat := u32 block 12;
     let asked : Nat → Prop := fun op => c.run = 1 ∧ c.serving = none ∧ u8 b 60 = 1 ∧ u16 b 0 = op;
     let ready : Nat → Prop := fun op => asked op ∧ keysUsable s = true ∧ u32 b 4 ≤ 1048576;
     let reads : Nat → Prop := fun n => bufferIn s (↑k) src n 0 = true;
     let writes : Nat → Prop := fun n => bufferIn s (↑k) dst n 1 = true;
     ready 5 ∧ reads 32 ∧ writes 192) ∧
    (let t : Time := 0;
     let k : Fin 4 := 0;
     let block : List Byte := [2, 0, 9, 9, 1, 0, 16, 0, 64, 0, 0, 0, 128, 0, 0, 0, 64, 0, 0, 0, 7] ++ List.replicate 39 0 ++ [1, 0, 0, 0];
     let s : State := nth servicesAnswerTheirCoreStates 0;
     let c : CoreState := core' s ↑k;
     let b : List Byte := fitBytes 64 block;
     let asked : Nat → Prop := fun op => c.run = 1 ∧ c.serving = none ∧ u8 b 60 = 1 ∧ u16 b 0 = op;
     let e : Nat × Instr :=
       (2,
         Instr.seal 0 0
           (let y : List (BitVec 8) :=
             let y : List (BitVec 8) :=
               let y : List (BitVec 8) :=
                 let y : List (BitVec 8) := [1#8, 0#8, 0#8, 0#8];
                 0#8 :: 0#8 :: 0#8 :: 0#8 :: y;
               let y : List (BitVec 8) := 0#8 :: 0#8 :: 0#8 :: 0#8 :: y;
               0#8 :: 0#8 :: 0#8 :: 0#8 :: y;
             let y : List (BitVec 8) :=
               let y : List (BitVec 8) := 0#8 :: 0#8 :: 0#8 :: 0#8 :: y;
               0#8 :: 0#8 :: 0#8 :: 0#8 :: y;
             let y : List (BitVec 8) := 0#8 :: 0#8 :: 0#8 :: 0#8 :: y;
             0#8 :: 0#8 :: 0#8 :: 0#8 :: y;
           let y : List (BitVec 8) :=
             let y : List (BitVec 8) :=
               let y : List (BitVec 8) := 0#8 :: 0#8 :: 0#8 :: 0#8 :: y;
               0#8 :: 0#8 :: 0#8 :: 0#8 :: y;
             let y : List (BitVec 8) := 7#8 :: 0#8 :: 0#8 :: 0#8 :: y;
             64#8 :: 0#8 :: 0#8 :: 0#8 :: y;
           let y : List (BitVec 8) :=
             let y : List (BitVec 8) := 128#8 :: 0#8 :: 0#8 :: 0#8 :: y;
             64#8 :: 0#8 :: 0#8 :: 0#8 :: y;
           let y : List (BitVec 8) := 1#8 :: 0#8 :: 16#8 :: 0#8 :: y;
           2#8 :: 0#8 :: 9#8 :: 9#8 :: y));
     e ∈
         [(1, Instr.hash t k block), (2, Instr.seal t k block), (3, Instr.unseal t k block), (4, Instr.verify t k block),
           (5, Instr.serviceAttest t k block)] ∧
       asked e.fst ∧ keysUsable s = false) ∧
    (let t : Time := 0;
     let k : Fin 4 := 0;
     let block : List Byte := [2, 0, 9, 9, 1, 0, 16, 0, 64, 0, 0, 0, 128, 0, 0, 0, 64, 0, 0, 0, 7] ++ List.replicate 39 0 ++ [1, 0, 0, 0];
     let s : State := nth coresAreHaltedAndRestartedStates 2;
     let c : CoreState := core' s ↑k;
     let b : List Byte := fitBytes 64 block;
     let asked : Nat → Prop := fun op => c.run = 1 ∧ c.serving = none ∧ u8 b 60 = 1 ∧ u16 b 0 = op;
     let e : Nat × Instr :=
       (2,
         Instr.seal 0 0
           (let y : List (BitVec 8) :=
             let y : List (BitVec 8) :=
               let y : List (BitVec 8) :=
                 let y : List (BitVec 8) := [1#8, 0#8, 0#8, 0#8];
                 0#8 :: 0#8 :: 0#8 :: 0#8 :: y;
               let y : List (BitVec 8) := 0#8 :: 0#8 :: 0#8 :: 0#8 :: y;
               0#8 :: 0#8 :: 0#8 :: 0#8 :: y;
             let y : List (BitVec 8) :=
               let y : List (BitVec 8) := 0#8 :: 0#8 :: 0#8 :: 0#8 :: y;
               0#8 :: 0#8 :: 0#8 :: 0#8 :: y;
             let y : List (BitVec 8) := 0#8 :: 0#8 :: 0#8 :: 0#8 :: y;
             0#8 :: 0#8 :: 0#8 :: 0#8 :: y;
           let y : List (BitVec 8) :=
             let y : List (BitVec 8) :=
               let y : List (BitVec 8) := 0#8 :: 0#8 :: 0#8 :: 0#8 :: y;
               0#8 :: 0#8 :: 0#8 :: 0#8 :: y;
             let y : List (BitVec 8) := 7#8 :: 0#8 :: 0#8 :: 0#8 :: y;
             64#8 :: 0#8 :: 0#8 :: 0#8 :: y;
           let y : List (BitVec 8) :=
             let y : List (BitVec 8) := 128#8 :: 0#8 :: 0#8 :: 0#8 :: y;
             64#8 :: 0#8 :: 0#8 :: 0#8 :: y;
           let y : List (BitVec 8) := 1#8 :: 0#8 :: 16#8 :: 0#8 :: y;
           2#8 :: 0#8 :: 9#8 :: 9#8 :: y));
     e ∈
         [(1, Instr.hash t k block), (2, Instr.seal t k block), (3, Instr.unseal t k block), (4, Instr.verify t k block),
           (5, Instr.serviceAttest t k block)] ∧
       asked e.fst ∧ keysUsable s = true ∧ 1048576 < u32 b 4) ∧
    (let t : Time := 0;
     let k : Fin 4 := 0;
     let block : List Byte := [5, 0, 9, 9, 40] ++ List.replicate 6 0 ++ [112, 128, 0, 0, 0, 64, 0, 0, 0, 7] ++ List.replicate 39 0 ++ [1, 0, 0, 0];
     let s : State := nth coresAreHaltedAndRestartedStates 2;
     let c : CoreState := core' s ↑k;
     let b : List Byte := fitBytes 64 block;
     let len : Nat := u32 block 4;
     let src : Nat := u32 block 8;
     let dst : Nat := u32 block 12;
     let asked : Nat → Prop := fun op => c.run = 1 ∧ c.serving = none ∧ u8 b 60 = 1 ∧ u16 b 0 = op;
     let ready : Nat → Prop := fun op => asked op ∧ keysUsable s = true ∧ u32 b 4 ≤ 1048576;
     let e : Nat × Instr :=
       (5,
         Instr.serviceAttest 0 0
           (let y : List (BitVec 8) :=
             let y : List (BitVec 8) :=
               let y : List (BitVec 8) :=
                 let y : List (BitVec 8) := [1#8, 0#8, 0#8, 0#8];
                 0#8 :: 0#8 :: 0#8 :: 0#8 :: y;
               let y : List (BitVec 8) := 0#8 :: 0#8 :: 0#8 :: 0#8 :: y;
               0#8 :: 0#8 :: 0#8 :: 0#8 :: y;
             let y : List (BitVec 8) :=
               let y : List (BitVec 8) := 0#8 :: 0#8 :: 0#8 :: 0#8 :: y;
               0#8 :: 0#8 :: 0#8 :: 0#8 :: y;
             let y : List (BitVec 8) := 0#8 :: 0#8 :: 0#8 :: 0#8 :: y;
             0#8 :: 0#8 :: 0#8 :: 0#8 :: y;
           let y : List (BitVec 8) :=
             let y : List (BitVec 8) :=
               let y : List (BitVec 8) := 0#8 :: 0#8 :: 0#8 :: 0#8 :: y;
               0#8 :: 0#8 :: 0#8 :: 0#8 :: y;
             let y : List (BitVec 8) := 7#8 :: 0#8 :: 0#8 :: 0#8 :: y;
             64#8 :: 0#8 :: 0#8 :: 0#8 :: y;
           let y : List (BitVec 8) :=
             let y : List (BitVec 8) := 128#8 :: 0#8 :: 0#8 :: 0#8 :: y;
             0#8 :: 0#8 :: 0#8 :: 112#8 :: y;
           let y : List (BitVec 8) := 40#8 :: 0#8 :: 0#8 :: 0#8 :: y;
           5#8 :: 0#8 :: 9#8 :: 9#8 :: y));
     let outside : Prop :=
       bufferIn s (↑k) src (if e.fst = 5 then 32 else len) 0 = false ∨
         e.fst = 2 ∧ bufferIn s (↑k) dst (len + 28) 1 = false ∨
           e.fst = 3 ∧ bufferIn s (↑k) dst (len - 28) 1 = false ∨
             e.fst = 4 ∧ bufferIn s (↑k) (u32 block 16) 128 0 = false ∨ e.fst = 5 ∧ bufferIn s (↑k) dst 192 1 = false;
     e ∈
         [(1, Instr.hash t k block), (2, Instr.seal t k block), (3, Instr.unseal t k block), (4, Instr.verify t k block),
           (5, Instr.serviceAttest t k block)] ∧
       ready e.fst ∧ outside) ∧
    (let t : Time := 0;
     let k : Fin 4 := 0;
     let block : List Byte := [2, 0, 9, 9, 1, 0, 16, 0, 64, 0, 0, 0, 128, 0, 0, 0, 64, 0, 0, 0, 7] ++ List.replicate 39 0 ++ [1, 0, 0, 0];
     let s : State := nth servicesAnswerTheirCoreStates 0;
     let c : CoreState := core' s ↑k;
     let b : List Byte := fitBytes 64 block;
     let asked : Nat → Prop := fun op => c.run = 1 ∧ c.serving = none ∧ u8 b 60 = 1 ∧ u16 b 0 = op;
     let e : Nat × Instr :=
       (1,
         Instr.hash 0 0
           (let y : List (BitVec 8) :=
             let y : List (BitVec 8) :=
               let y : List (BitVec 8) :=
                 let y : List (BitVec 8) := [1#8, 0#8, 0#8, 0#8];
                 0#8 :: 0#8 :: 0#8 :: 0#8 :: y;
               let y : List (BitVec 8) := 0#8 :: 0#8 :: 0#8 :: 0#8 :: y;
               0#8 :: 0#8 :: 0#8 :: 0#8 :: y;
             let y : List (BitVec 8) :=
               let y : List (BitVec 8) := 0#8 :: 0#8 :: 0#8 :: 0#8 :: y;
               0#8 :: 0#8 :: 0#8 :: 0#8 :: y;
             let y : List (BitVec 8) := 0#8 :: 0#8 :: 0#8 :: 0#8 :: y;
             0#8 :: 0#8 :: 0#8 :: 0#8 :: y;
           let y : List (BitVec 8) :=
             let y : List (BitVec 8) :=
               let y : List (BitVec 8) := 0#8 :: 0#8 :: 0#8 :: 0#8 :: y;
               0#8 :: 0#8 :: 0#8 :: 0#8 :: y;
             let y : List (BitVec 8) := 7#8 :: 0#8 :: 0#8 :: 0#8 :: y;
             64#8 :: 0#8 :: 0#8 :: 0#8 :: y;
           let y : List (BitVec 8) :=
             let y : List (BitVec 8) := 128#8 :: 0#8 :: 0#8 :: 0#8 :: y;
             64#8 :: 0#8 :: 0#8 :: 0#8 :: y;
           let y : List (BitVec 8) := 1#8 :: 0#8 :: 16#8 :: 0#8 :: y;
           2#8 :: 0#8 :: 9#8 :: 9#8 :: y));
     e ∈
         [(1, Instr.hash t k block), (2, Instr.seal t k block), (3, Instr.unseal t k block), (4, Instr.verify t k block),
           (5, Instr.serviceAttest t k block)] ∧
       ¬asked e.fst) ∧
    (let k : Fin 4 := 0;
     let s : State := nth servicesAnswerTheirCoreStates 2;
     let c : CoreState := core' s ↑k;
     let status : Nat := 5;
     c.serving = some status) ∧
    (let k : Fin 4 := 0;
     let s : State := nth servicesAnswerTheirCoreStates 0;
     let c : CoreState := core' s ↑k;
     c.serving = none) := by and_intros <;> decide

theorem witness_UpdatesMoveTheSlots :
    (let n : Fin 128 := 0;
     let x : Desc := headDesc 0 (nth updatesMoveTheSlotsStates 0);
     let s : State := nth updatesMoveTheSlotsStates2 0;
     let y : Security := s.security;
     let takes : Nat → Prop := fun op => Ready s (↑n) op x ∧ (ring s ↑n).kind = 1 ∧ y.requests.length < 4;
     let ok : Bool := false;
     let k : Nat := u8 x.bytes 8;
     let len : Nat := u32 x.bytes 12;
     let types : Nat := if 1 ≤ k ∧ k ≤ 3 then 2 ^ (k - 1) else 0;
     let img : List Byte := dmaRead s (ring s ↑n).onChip (u64 x.bytes 16) len;
     let v : Verdict := verdict s k img;
     let status : Nat :=
       if updateAllowed s ↑n = false then 278
       else
         if keysUsable s = false then 276
         else
           if types = 0 then 3
           else
             if typeBusy s types = true ∨ bitOf y.trial (k - 1) = true then 275
             else if slotSize k < len then 272 else if v.status ≠ 0 then v.status else if ok = false then 279 else 0;
     takes 64 ∧ status ≠ 0) ∧
    (let n : Fin 128 := 0;
     let x : Desc := headDesc 0 (nth updatesMoveTheSlotsStates 0);
     let s : State := nth updatesMoveTheSlotsStates2 0;
     let y : Security := s.security;
     let takes : Nat → Prop := fun op => Ready s (↑n) op x ∧ (ring s ↑n).kind = 1 ∧ y.requests.length < 4;
     let k : Nat := u8 x.bytes 8;
     takes 64 ∧ slotValid s k (inactiveSlot s k) = false) ∧
    (let n : Fin 128 := 0;
     let x : Desc := headDesc 0 (nth updatesMoveTheSlotsStates 4);
     let s : State := nth updatesMoveTheSlotsStates 4;
     let y : Security := s.security;
     let takes : Nat → Prop := fun op => Ready s (↑n) op x ∧ (ring s ↑n).kind = 1 ∧ y.requests.length < 4;
     let mask : Nat := u8 x.bytes 8 % 8;
     let status : Nat :=
       if updateAllowed s ↑n = false then 278
       else if typeBusy s mask = true then 275 else if ((typesIn mask).any fun k => !slotValid s k (inactiveSlot s k)) = true then 274 else 0;
     takes 65 ∧ (status ≠ 0 ∨ mask = 0)) ∧
    (let n : Fin 128 := 0;
     let x : Desc := headDesc 0 (nth updatesMoveTheSlotsStates 4);
     let s : State := nth updatesMoveTheSlotsStates 34;
     let y : Security := s.security;
     let takes : Nat → Prop := fun op => Ready s (↑n) op x ∧ (ring s ↑n).kind = 1 ∧ y.requests.length < 4;
     let mask : Nat := u8 x.bytes 8 % 8;
     let status : Nat :=
       if updateAllowed s ↑n = false then 278
       else if typeBusy s mask = true then 275 else if ((typesIn mask).any fun k => !slotValid s k (inactiveSlot s k)) = true then 274 else 0;
     takes 65 ∧ status = 0 ∧ mask ≠ 0) ∧
    (let n : Fin 128 := 0;
     let x : Desc := headDesc 0 (nth updatesMoveTheSlotsStates 8);
     let s : State := nth updatesMoveTheSlotsStates 28;
     let y : Security := s.security;
     let takes : Nat → Prop := fun op => Ready s (↑n) op x ∧ (ring s ↑n).kind = 1 ∧ y.requests.length < 4;
     let mask : Nat := u8 x.bytes 8 % 8;
     let status : Nat := if updateAllowed s ↑n = false then 278 else if typeBusy s mask = true then 275 else 0;
     takes 66 ∧ status ≠ 0) ∧
    (let n : Fin 128 := 0;
     let x : Desc := headDesc 0 (nth updatesMoveTheSlotsStates 8);
     let s : State := nth updatesMoveTheSlotsStates 8;
     let y : Security := s.security;
     let takes : Nat → Prop := fun op => Ready s (↑n) op x ∧ (ring s ↑n).kind = 1 ∧ y.requests.length < 4;
     let mask : Nat := u8 x.bytes 8 % 8;
     let status : Nat := if updateAllowed s ↑n = false then 278 else if typeBusy s mask = true then 275 else 0;
     takes 66 ∧ status = 0 ∧ y.trial &&& mask = 0) ∧
    (let n : Fin 128 := 0;
     let x : Desc := headDesc 0 (nth updatesMoveTheSlotsStates 8);
     let s : State := nth updatesMoveTheSlotsStates 38;
     let y : Security := s.security;
     let takes : Nat → Prop := fun op => Ready s (↑n) op x ∧ (ring s ↑n).kind = 1 ∧ y.requests.length < 4;
     let mask : Nat := u8 x.bytes 8 % 8;
     let status : Nat := if updateAllowed s ↑n = false then 278 else if typeBusy s mask = true then 275 else 0;
     takes 66 ∧ status = 0 ∧ y.trial &&& mask ≠ 0) ∧
    (let n : Fin 128 := 0;
     let x : Desc := headDesc 0 (nth updatesMoveTheSlotsStates 8);
     let s : State := nth updatesMoveTheSlotsStates 8;
     let y : Security := s.security;
     let takes : Nat → Prop := fun op => Ready s (↑n) op x ∧ (ring s ↑n).kind = 1 ∧ y.requests.length < 4;
     let mask : Nat := u8 x.bytes 8 % 8;
     let status : Nat := if updateAllowed s ↑n = false then 278 else if typeBusy s mask = true then 275 else 0;
     takes 66 ∧ status = 0 ∧ bitOf (u8 x.bytes 9) 0 = false) ∧
    (let n : Fin 128 := 0;
     let x : Desc := headDesc 0 (nth updatesMoveTheSlotsStates2 5);
     let s : State := nth updatesMoveTheSlotsStates2 5;
     let y : Security := s.security;
     let takes : Nat → Prop := fun op => Ready s (↑n) op x ∧ (ring s ↑n).kind = 1 ∧ y.requests.length < 4;
     let mask : Nat := u8 x.bytes 8 % 8;
     let status : Nat := if updateAllowed s ↑n = false then 278 else if typeBusy s mask = true then 275 else 0;
     takes 66 ∧ status = 0 ∧ bitOf (u8 x.bytes 9) 0 = true ∧ bitOf mask 0 = true) ∧
    (let n : Fin 128 := 0;
     let x : Desc := headDesc 0 (nth updatesMoveTheSlotsStates 9);
     let s : State := nth updatesMoveTheSlotsStates 9;
     let y : Security := s.security;
     let takes : Nat → Prop := fun op => Ready s (↑n) op x ∧ (ring s ↑n).kind = 1 ∧ y.requests.length < 4;
     let mask : Nat := u8 x.bytes 8 % 8;
     let status : Nat := if updateAllowed s ↑n = false then 278 else if typeBusy s mask = true then 275 else 0;
     takes 66 ∧ status = 0 ∧ bitOf (u8 x.bytes 9) 0 = true ∧ bitOf mask 1 = true) ∧
    (let n : Fin 128 := 0;
     let x : Desc := headDesc 0 (nth updatesMoveTheSlotsStates 9);
     let s : State := nth updatesMoveTheSlotsStates 9;
     let y : Security := s.security;
     let takes : Nat → Prop := fun op => Ready s (↑n) op x ∧ (ring s ↑n).kind = 1 ∧ y.requests.length < 4;
     let mask : Nat := u8 x.bytes 8 % 8;
     let status : Nat := if updateAllowed s ↑n = false then 278 else if typeBusy s mask = true then 275 else 0;
     takes 66 ∧ status = 0 ∧ bitOf (u8 x.bytes 9) 0 = true ∧ bitOf mask 2 = true) ∧
    (let t : Time := 0;
     let n : Fin 128 := 0;
     let s : State := State.reset;
     let y : Security := s.security;
     let e : Nat × Instr := (64, Instr.stage 0 0 true);
     e ∈
         [(64, Instr.stage t n true), (64, Instr.stage t n false), (65, Instr.activate t n), (66, Instr.confirm t n), (67, Instr.attest t n),
           (68, Instr.provision t n), (69, Instr.ledgerClear t n)] ∧
       (nextDesc s ↑n = none ∨ (ring s ↑n).kind ≠ 1 ∨ 4 ≤ y.requests.length)) ∧
    (let t : Time := 0;
     let n : Fin 128 := 0;
     let s : State := nth updatesMoveTheSlotsStates 0;
     let e : Nat × Instr := (64, Instr.stage 0 0 true);
     let d : Desc := headDesc 0 (nth updatesMoveTheSlotsStates 0);
     e ∈
         [(64, Instr.stage t n true), (64, Instr.stage t n false), (65, Instr.activate t n), (66, Instr.confirm t n), (67, Instr.attest t n),
           (68, Instr.provision t n), (69, Instr.ledgerClear t n)] ∧
       nextDesc s ↑n = some d ∧ (u16 d.bytes 0 ≠ e.fst ∨ canExecute s (↑n) d = false)) := by and_intros <;> decide

theorem witness_RequestsAttestProvisionAndClear :
    (let s : State := nth requestsAttestProvisionAndClearStates2 3;
     let y : Security := s.security;
     let n : Fin 128 := 0;
     let x : Desc := headDesc 0 (nth requestsAttestProvisionAndClearStates 0);
     let takes : Nat → Prop := fun op => Ready s (↑n) op x ∧ (ring s ↑n).kind = 1 ∧ y.requests.length < 4;
     takes 67 ∧ keysUsable s = false) ∧
    (let s : State := nth requestsAttestProvisionAndClearStates2 2;
     let y : Security := s.security;
     let n : Fin 128 := 0;
     let x : Desc := headDesc 0 (nth requestsAttestProvisionAndClearStates 1);
     let takes : Nat → Prop := fun op => Ready s (↑n) op x ∧ (ring s ↑n).kind = 1 ∧ y.requests.length < 4;
     let at' : Nat := u64 x.bytes 8;
     takes 67 ∧ keysUsable s = true ∧ at' % 64 ≠ 0) ∧
    (let s : State := nth requestsAttestProvisionAndClearStates2 1;
     let y : Security := s.security;
     let n : Fin 128 := 0;
     let x : Desc := headDesc 0 (nth requestsAttestProvisionAndClearStates 0);
     let takes : Nat → Prop := fun op => Ready s (↑n) op x ∧ (ring s ↑n).kind = 1 ∧ y.requests.length < 4;
     let at' : Nat := u64 x.bytes 8;
     takes 67 ∧ keysUsable s = true ∧ at' % 64 = 0) ∧
    (let s : State := nth requestsAttestProvisionAndClearStates 7;
     let y : Security := s.security;
     let n : Fin 128 := 0;
     let x : Desc := headDesc 0 (nth requestsAttestProvisionAndClearStates 2);
     let takes : Nat → Prop := fun op => Ready s (↑n) op x ∧ (ring s ↑n).kind = 1 ∧ y.requests.length < 4;
     takes 68 ∧ keysUsable s = false) ∧
    (let s : State := nth requestsAttestProvisionAndClearStates 32;
     let y : Security := s.security;
     let n : Fin 128 := 0;
     let x : Desc := headDesc 0 (nth requestsAttestProvisionAndClearStates 2);
     let takes : Nat → Prop := fun op => Ready s (↑n) op x ∧ (ring s ↑n).kind = 1 ∧ y.requests.length < 4;
     takes 68 ∧ keysUsable s = true ∧ y.oemHash ≠ 0) ∧
    (let s : State := nth requestsAttestProvisionAndClearStates 2;
     let y : Security := s.security;
     let n : Fin 128 := 0;
     let x : Desc := headDesc 0 (nth requestsAttestProvisionAndClearStates 2);
     let takes : Nat → Prop := fun op => Ready s (↑n) op x ∧ (ring s ↑n).kind = 1 ∧ y.requests.length < 4;
     takes 68 ∧ keysUsable s = true ∧ y.oemHash = 0) ∧
    (let s : State := nth requestsAttestProvisionAndClearStates2 0;
     let y : Security := s.security;
     let n : Fin 128 := 0;
     let x : Desc := headDesc 0 (nth requestsAttestProvisionAndClearStates 4);
     let takes : Nat → Prop := fun op => Ready s (↑n) op x ∧ (ring s ↑n).kind = 1 ∧ y.requests.length < 4;
     let at' : Nat := u64 x.bytes 8;
     let chip : Bool := (ring s ↑n).onChip;
     let tok : List Byte := dmaRead s chip at' 160;
     let key : List Byte := fitBytes 64 (List.drop 32 tok);
     let form : Prop := u32 tok 0 = 1380142169 ∧ u64 tok 8 ≠ 0 ∧ u64 tok 8 = BitVec.toNat y.deviceId;
     let signed : Prop :=
       y.oemHash ≠ 0 ∧ Config.sha256 key = y.oemHash ∧ Config.ecdsaVerify key (Config.sha256 (List.take 96 tok)) (fitBytes 64 (List.drop 96 tok)) = true;
     let pos : Nat → Option Nat := fun k => clearPosition s k (BitVec.ofNat 32 (u32 tok (16 + 4 * k)));
     let named : Fin 4 → Prop := fun k => bitOf (u8 tok 4) ↑k = true;
     let status : Nat :=
       if y.keysDead = true then 276
       else if at' % 64 ≠ 0 then 3 else if ¬form then 272 else if ¬signed then 272 else if ∃ k, named k ∧ pos ↑k = none then 280 else 0;
     takes 69 ∧ status ≠ 0) ∧
    (let s : State := nth requestsAttestProvisionAndClearStates 0;
     let y : Security := s.security;
     let i : Fin 4 := 0;
     y.requests[↑i]? = none) ∧
    (let s : State := nth requestsAttestProvisionAndClearStates 20;
     let y : Security := s.security;
     let i : Fin 4 := 0;
     let q : MonRequest := { ring := 0, index := 0#32, opcode := 64, status := 3, result := 0#32, types := 2 : MonRequest };
     let staged : Prop := q.opcode = 64 ∧ q.status = 0;
     let x : Desc := headDesc 0 (nth requestsAttestProvisionAndClearStates 0);
     y.requests[↑i]? = some q ∧ q.restart = false ∧ descAt s q.ring q.index = some x ∧ ¬staged) ∧
    (let s : State := nth requestsAttestProvisionAndClearStates 25;
     let y : Security := s.security;
     let i : Fin 4 := 0;
     let q : MonRequest := { ring := 0, index := 0#32, opcode := 65, status := 0, result := 0#32, restart := true, types := 4 : MonRequest };
     y.requests[↑i]? = some q ∧ q.restart = true) ∧
    (let s : State := nth pairReadsLatchTheHighWordCases 0;
     let y : Security := s.security;
     let a : Actor := Actor.host;
     let v : W32 := 4294967295;
     let starts : Prop := flag v 31 = true ∧ y.keysDead = false ∧ busOk s = true;
     gateWrite s a R.SEC_RECOVERY_CTRL.base 4 = Gate.allow ∧ ¬starts) ∧
    (let s : State := nth requestsAttestProvisionAndClearStates 41;
     let y : Security := s.security;
     let a : Actor := Actor.host;
     let v : W32 := 2147483712;
     let starts : Prop := flag v 31 = true ∧ y.keysDead = false ∧ busOk s = true;
     gateWrite s a R.SEC_RECOVERY_CTRL.base 4 = Gate.allow ∧ starts) := by and_intros <;> decide

theorem witness_StartUpGoesStateByState_StartUpGoesStateByState :
    (let s : State := State.reset;
     let x : ResetSeen := { held := 5, good := 200000, vcore := 800, vio18 := 1800, vio33 := 3300 : ResetSeen };
     let fit : Option Fitting := none;
     let rails : Prop := 760 ≤ x.vcore ∧ x.vcore ≤ 840 ∧ 1710 ≤ x.vio18 ∧ x.vio18 ≤ 1890 ∧ 3135 ≤ x.vio33 ∧ x.vio33 ≤ 3465;
     s.startup.released = false ∧ rails ∧ msUnits ≤ x.good ∧ fit = none) ∧
    (let s : State := State.reset;
     let x : ResetSeen := { held := 5, good := 100, vcore := 800, vio18 := 1800, vio33 := 3300 : ResetSeen };
     let rails : Prop := 760 ≤ x.vcore ∧ x.vcore ≤ 840 ∧ 1710 ≤ x.vio18 ∧ x.vio18 ≤ 1890 ∧ 3135 ≤ x.vio33 ∧ x.vio33 ≤ 3465;
     s.startup.released = true ∨ ¬rails ∨ x.good < msUnits) ∧
    (let s : State := nth startUpGoesStateByStateStates 3;
     let y : Security := s.security;
     let dead : Prop := s.aon.killLatch = true ∨ y.keysDead = true;
     let starts : Prop := s.startup.phase = 0 ∧ s.startup.released = true ∧ s.clocks.sysLock = true;
     starts ∧ dead) ∧
    (let s : State := nth startUpGoesStateByStateStates 2;
     let y : Security := s.security;
     let log2 : Nat := 100;
     let dead : Prop := s.aon.killLatch = true ∨ y.keysDead = true;
     let found : Prop := 24 ≤ log2 ∧ log2 ≤ 28;
     let starts : Prop := s.startup.phase = 0 ∧ s.startup.released = true ∧ s.clocks.sysLock = true;
     starts ∧ ¬dead ∧ ¬found) ∧
    (let t : Time := 0;
     let s : State := nth startUpGoesStateByStateStates 7;
     let y : Security := s.security;
     let b : State := begin' t s;
     let log2 : Nat := 24;
     let mode : Nat := 24;
     let mhz : Nat := 20000000000;
     let dead : Prop := s.aon.killLatch = true ∨ y.keysDead = true;
     let found : Prop := 24 ≤ log2 ∧ log2 ≤ 28;
     let z : State :=
       dirLoad
         { pending := b.pending, now := b.now, freeDraws := b.freeDraws, out := b.out, readData := b.readData, hostMem := b.hostMem,
           messageStore := b.messageStore, appSram := b.appSram, regs := b.regs, tallies := b.tallies, tallySnap := b.tallySnap,
           tallySnapTime := b.tallySnapTime, hiLatch := b.hiLatch, cister := b.cister, ledger := b.ledger, aon := b.aon, trace := b.trace,
           startup := b.startup, clocks := b.clocks, eventLines := b.eventLines, cores := b.cores,
           security :=
             { charter := y.charter, locked := y.locked, verMon := y.verMon, verCharter := y.verCharter, verFw := y.verFw, monRuns := y.monRuns,
               floorsShown := y.floorsShown, fwValid := y.fwValid, oemHash := y.oemHash, deviceId := y.deviceId, floorMon := y.floorMon,
               floorFw := y.floorFw, floorCharter := y.floorCharter, revoked := y.revoked, deadBits := y.deadBits, testFused := y.testFused,
               pufCode := y.pufCode, seq := y.seq, active := y.active, trial := y.trial, validA := y.validA, validB := y.validB, trialRan := y.trialRan,
               dirCopies := y.dirCopies, dirCopy := y.dirCopy, slots := y.slots, alarms := y.alarms, keyLock := y.keyLock, auditErased := y.auditErased,
               level := y.level, auditRecordDue := y.auditRecordDue, keysPresent := y.keysPresent, faultSecond := y.faultSecond,
               faultsInSecond := y.faultsInSecond, faultsRaised := y.faultsRaised, requests := y.requests, sealCount := y.sealCount,
               recoveryLo := y.recoveryLo, recoveryHi := y.recoveryHi, recoveryCtrl := y.recoveryCtrl, flashLog2 := log2, flashMode := mode % 4,
               flashMhz := mhz % 256, driveRevision := y.driveRevision, badAcc := y.badAcc : Security },
           feedback := b.feedback, course := b.course, engine := b.engine, drive := b.drive, relay := b.relay, lease := b.lease, pwm := b.pwm,
           loops := b.loops, eth := b.eth, bus := b.bus : State };
     let starts : Prop := s.startup.phase = 0 ∧ s.startup.released = true ∧ s.clocks.sysLock = true;
     let chosen : Option Nat := (chooseSlot 1 (fun _ => true) z).fst;
     starts ∧ ¬dead ∧ found ∧ chosen = none) ∧
    (let s : State := State.reset;
     let starts : Prop := s.startup.phase = 0 ∧ s.startup.released = true ∧ s.clocks.sysLock = true;
     ¬starts) ∧
    (let s : State := nth startUpGoesStateByStateStates 4;
     let y : Security := s.security;
     (s.startup.phase = 1 ∨ s.startup.phase = 2) ∧ s.clocks.refFaultDue = false ∧ y.oemHash = 0) ∧
    (let t : Time := 0;
     let s : State := nth startUpGoesStateByStateStates 4;
     let b : State := begin' t s;
     let chosen : Option Nat := (chooseSlot 2 (fun img => charterOk (fitBytes 880 (imageBody img))) b).fst;
     (s.startup.phase = 1 ∨ s.startup.phase = 2) ∧ s.clocks.refFaultDue = false ∧ chosen = none) ∧
    (let s : State := nth startUpGoesStateByStateStates 4;
     s.startup.phase = 1 ∨ s.startup.phase = 2) ∧
    (let s : State := State.reset;
     s.startup.phase ≠ 1 ∧ s.startup.phase ≠ 2) ∧
    (let t : Time := 0;
     let s : State := nth startUpGoesStateByStateStates 5;
     let b : State := begin' t s;
     let chosen : Option Nat := if s.startup.defaultCharter = true then none else (chooseSlot 3 (fun _ => true) b).fst;
     s.startup.phase = 3 ∧ chosen = none) ∧
    (let s : State := State.reset;
     s.startup.phase ≠ 3) := by and_intros <;> decide

theorem witness_StartUpGoesStateByState_StartUpReachesTheHostAndTheDrive :
    (let s : State := base;
     let u0 : Startup := s.startup;
     let ready : Prop := s.cister.perstHigh = true ∧ u0.released = true ∧ s.clocks.pipeLock = true;
     ready) ∧
    (let s : State := State.reset;
     let u0 : Startup := s.startup;
     let ready : Prop := s.cister.perstHigh = true ∧ u0.released = true ∧ s.clocks.pipeLock = true;
     ¬ready) ∧
    (let t : Time := 1000000000;
     let s : State := nth startUpReachesTheHostAndTheDriveStates 3;
     let u0 : Startup := s.startup;
     let b : State := begin' t s;
     let out : Prop := u0.phase = 4 ∧ s.relay.trained = false ∧ u0.phaseAt + 100 * msUnits ≤ b.now;
     out) ∧
    (let t : Time := 0;
     let s : State := State.reset;
     let u0 : Startup := s.startup;
     let b : State := begin' t s;
     let out : Prop := u0.phase = 4 ∧ s.relay.trained = false ∧ u0.phaseAt + 100 * msUnits ≤ b.now;
     ¬out) ∧
    (let t : Time := 0;
     let s : State := nth startUpReachesTheHostAndTheDriveStates 4;
     let u0 : Startup := s.startup;
     let b : State := begin' t s;
     let grants : Prop := grantable s = true ∧ s.lease.startupDone = false ∧ 5 ≤ u0.phase ∧ u0.phase ≤ 7 ∧ (u0.warm = false ∨ heldDown b = true);
     grants) ∧
    (let t : Time := 0;
     let s : State := State.reset;
     let u0 : Startup := s.startup;
     let b : State := begin' t s;
     let grants : Prop := grantable s = true ∧ s.lease.startupDone = false ∧ 5 ≤ u0.phase ∧ u0.phase ≤ 7 ∧ (u0.warm = false ∨ heldDown b = true);
     ¬grants) := by and_intros <;> decide

theorem witness_LedgerRecordsMove :
    (let s : State := nth ledgerRecordsMoveStates 0;
     let k : Fin 4 := 1;
     let r : LedgerRec := { code := 291, stream := 1, stamp := 5, payload := 7 : LedgerRec };
     let rest : List LedgerRec := [];
     let l : LStream := lstream s ↑k;
     let room : Prop := shareUsed s ↑k + placesFor s ↑k ≤ 4096 ∧ s.startup.phase ≠ 0;
     l.queue = r :: rest ∧ s.startup.phase ≠ 1 ∧ (¬room ∨ s.security.keysDead = true)) ∧
    (let s : State := nth ledgerRecordsMoveStates 1;
     let k : Fin 4 := 0;
     let r : LedgerRec := { code := 291, stamp := 5, payload := 7 : LedgerRec };
     let rest : List LedgerRec := [];
     let l : LStream := lstream s ↑k;
     let room : Prop := shareUsed s ↑k + placesFor s ↑k ≤ 4096 ∧ s.startup.phase ≠ 0;
     l.queue = r :: rest ∧ room ∧ s.security.keysDead = false ∧ l.lostDue = 0) ∧
    (let s : State := nth ledgerRecordsMoveStates 2;
     let k : Fin 4 := 0;
     let r : LedgerRec := { code := 291, stamp := 5, payload := 7 : LedgerRec };
     let rest : List LedgerRec := [];
     let l : LStream := lstream s ↑k;
     let room : Prop := shareUsed s ↑k + placesFor s ↑k ≤ 4096 ∧ s.startup.phase ≠ 0;
     l.queue = r :: rest ∧ room ∧ s.security.keysDead = false ∧ l.lostDue ≠ 0) ∧
    (let s : State := nth ledgerRecordsMoveStates 1;
     let k : Fin 4 := 0;
     let r : LedgerRec := { code := 291, stamp := 5, payload := 7 : LedgerRec };
     let rest : List LedgerRec := [];
     let l : LStream := lstream s ↑k;
     let room : Prop := shareUsed s ↑k + placesFor s ↑k ≤ 4096 ∧ s.startup.phase ≠ 0;
     l.queue = r :: rest ∧ room ∧ s.security.keysDead = false ∧ s.startup.phase ≠ 1) ∧
    (let s : State := nth ledgerRecordsMoveStates5 0;
     let k : Fin 4 := 1;
     let r : LedgerRec := { code := 291, stream := 1, stamp := 5, payload := 7 : LedgerRec };
     let rest : List LedgerRec := [];
     let l : LStream := lstream s ↑k;
     let room : Prop := shareUsed s ↑k + placesFor s ↑k ≤ 4096 ∧ s.startup.phase ≠ 0;
     l.queue = r :: rest ∧ room ∧ s.security.keysDead = false ∧ s.startup.phase = 1) ∧
    (let s : State := nth ledgerRecordsMoveStates 0;
     let k : Fin 4 := 0;
     (lstream s ↑k).queue = []) ∧
    (let s : State := nth ledgerRecordsMoveStates 0;
     s.security.keysDead = true) ∧
    (let s : State := nth ledgerRecordsMoveStates 0;
     List.find? (fun k => flashReady s k && decide (0 < shareRecords s k)) serveOrder = none) ∧
    (let s : State := nth ledgerRecordsMoveStates 0;
     s.ledger.blocksOpen = [] ∨ s.security.keysDead = true) ∧
    (let s : State := nth ledgerRecordsMoveStates 0;
     rb s R.LEDGER_EXPORT 0 31 = false ∨ canPut s 89 = false ∨ List.find? (fun k => exportable s k) serveOrder = none) ∧
    (let s : State := nth ledgerRecordsMoveStates2 0;
     let k : Nat := 0;
     let ok : Bool := true;
     s.security.keysDead = false ∧
       List.find? (fun k => flashReady s k && decide (0 < shareRecords s k)) serveOrder = some k ∧ areaFull s k = false ∧ ok = true) ∧
    (let s : State := nth ledgerRecordsMoveStates2 0;
     let k : Nat := 0;
     let ok : Bool := false;
     s.security.keysDead = false ∧
       List.find? (fun k => flashReady s k && decide (0 < shareRecords s k)) serveOrder = some k ∧ areaFull s k = false ∧ ok = false) ∧
    (let s : State := nth ledgerRecordsMoveStates2 7;
     let k : Nat := 3;
     let l : LStream := lstream s k;
     s.security.keysDead = false ∧
       List.find? (fun k => flashReady s k && decide (0 < shareRecords s k)) serveOrder = some k ∧ areaFull s k = true ∧ sectorReusable k l = false) ∧
    (let s : State := nth ledgerRecordsMoveStates2 3;
     let k : Nat := 1;
     let ok : Bool := true;
     let l : LStream := lstream s k;
     s.security.keysDead = false ∧
       List.find? (fun k => flashReady s k && decide (0 < shareRecords s k)) serveOrder = some k ∧
         areaFull s k = true ∧ sectorReusable k l = true ∧ ok = true) ∧
    (let s : State := nth ledgerRecordsMoveStates3 0;
     let b : Nat := 0;
     let rest : List Nat := [1];
     s.ledger.blocksOpen = b :: rest ∧ s.security.keysDead = false) ∧
    (let s : State := nth ledgerRecordsMoveStates4 0;
     let k : Nat := 0;
     rb s R.LEDGER_EXPORT 0 31 = true ∧ canPut s 89 = true ∧ List.find? (fun k => exportable s k) serveOrder = some k) := by and_intros <;> decide

theorem witness_TheClockIsSetAndTheWindowMoves :
    (let s : State := base;
     let a : Actor := Actor.host;
     let v : W32 := 2147483653;
     gateWrite s a R.LEDGER_RTC_CTRL.base 4 = Gate.allow ∧ crossDown s 17 = false ∧ flag v 31 = true ∧ flag v 30 = false ∧ (lstream s 2).queue.length < 64) ∧
    (let s : State := nth theClockIsSetAndTheWindowMovesStates 1;
     let a : Actor := Actor.host;
     let v : W32 := 3221225473;
     gateWrite s a R.LEDGER_RTC_CTRL.base 4 = Gate.allow ∧ crossDown s 17 = false ∧ flag v 31 = true ∧ flag v 30 = true) ∧
    (let s : State := base;
     let a : Actor := Actor.host;
     let v : W32 := 0;
     gateWrite s a R.LEDGER_RTC_CTRL.base 4 = Gate.allow ∧ crossDown s 17 = false ∧ flag v 31 = false) ∧
    (let s : State := base;
     let a : Actor := Actor.host;
     gateWrite s a R.LEDGER_CURSOR_LO.base 8 = Gate.allow) ∧
    (let s : State := base;
     let a : Actor := Actor.host;
     gateWrite s a R.LEDGER_CURSOR_LO.base 4 = Gate.allow) ∧
    (let s : State := base;
     let a : Actor := Actor.host;
     gateWrite s a R.LEDGER_CURSOR_HI.base 4 = Gate.allow) := by and_intros <;> decide

theorem witness_TraceSyncsAndTallyCaptures :
    (let t : Time := 1000000;
     let s : State := nth traceSyncsAndTallyCapturesStates 1;
     let z : State := begin' t s;
     let tr : Trace := z.trace;
     rb s R.TRACE_CFG 0 31 = true ∧ 20000 ≤ z.now - tr.lastSync ∧ tr.lastSync ≤ z.now ∧ tr.lost = 0 ∧ traceLevel tr + 13 ≤ 4096) ∧
    (let t : Time := 0;
     let s : State := base;
     let z : State := begin' t s;
     let tr : Trace := z.trace;
     z.now - tr.lastSync < 20000 ∨ rb s R.TRACE_CFG 0 31 = false) ∧
    (let t : Time := 0;
     let s : State := nth traceSyncsAndTallyCapturesStates 3;
     let z : State := begin' t s;
     let tr : Trace := z.trace;
     rb s R.TRACE_CFG 0 31 = true ∧ tr.lost ≠ 0 ∧ traceLevel tr + 20 ≤ 4096) ∧
    (let t : Time := 0;
     let s : State := base;
     let z : State := begin' t s;
     let tr : Trace := z.trace;
     tr.lost = 0 ∨ rb s R.TRACE_CFG 0 31 = false) ∧
    (let s : State := base;
     let a : Actor := Actor.host;
     let v : W32 := 2147483653;
     gateWrite s a R.TALLY_SNAP.base 4 = Gate.allow ∧ flag v 0 = true) ∧
    (let s : State := base;
     let a : Actor := Actor.host;
     let v : W32 := 2147483648;
     gateWrite s a R.TALLY_SNAP.base 4 = Gate.allow ∧ flag v 0 = false) := by and_intros <;> decide

theorem witness_RegisterWritesPassTheirGate_RegisterWritesPassTheirGate :
    (let t : Time := 3;
     let a : Actor := Actor.host;
     let off : Nat := 84736;
     let size : Nat := 4;
     let v : W64 := 0;
     let s : State := base;
     let w : W32 := BitVec.setWidth 32 v;
     let b : State := begin' t s;
     let moves : Prop := pageOf off = 1 ∨ off = R.CISTER_MIRROR_BASE_LO.base ∨ off = R.CISTER_MIRROR_BASE_HI.base;
     gateWrite s a off size = Gate.allow ∧
       setsEnable off w = false ∧ (writeMisuse b a off size w).snd = false ∧ (¬moves ∨ ringsMisuse b = true ∨ ringsMisuse (regAct a off size v b) = false)) ∧
    (let a : Actor := Actor.host;
     let off : Nat := 84736;
     let size : Nat := 4;
     let s : State := nth pairReadsLatchTheHighWordCases 0;
     gateWrite s a off size = Gate.ignore) ∧
    (let t : Time := 3;
     let a : Actor := Actor.host;
     let off : Nat := 84736;
     let size : Nat := 4;
     let v : W64 := 4294967295;
     let s : State := base;
     let w : W32 := BitVec.setWidth 32 v;
     let b : State := begin' t s;
     gateWrite s a off size = Gate.allow ∧ setsEnable off w = true ∧ (writeMisuse b a off size w).snd = false) ∧
    (let a : Actor := Actor.host;
     let off : Nat := 84736;
     let size : Nat := 4;
     let s : State := nth pairReadsLatchTheHighWordCases 1;
     let c : Nat := 4;
     gateWrite s a off size = Gate.bad c ∧ flag s.security.badAcc 31 = false) ∧
    (let a : Actor := Actor.host;
     let off : Nat := 76816;
     let size : Nat := 4;
     let s : State := nth registerWritesPassTheirGateStates 3;
     let c : Nat := 3;
     gateWrite s a off size = Gate.bad c ∧ flag s.security.badAcc 31 = true) ∧
    (let a : Actor := Actor.host;
     let off : Nat := 32788;
     let size : Nat := 4;
     let s : State := nth registerWritesPassTheirGateStates 1;
     let r : Reg := R.COURSE_SWEEP;
     gateWrite s a off size = Gate.allow ∧ pageOf off = 8 ∧ size = 4 ∧ implementOn s = false ∧ regAt off = some r) ∧
    (let a : Actor := Actor.host;
     let off : Nat := 16384;
     let size : Nat := 4;
     let s : State := base;
     gateWrite s a off size = Gate.allow ∧ size = 4 ∧ off = R.CLK_STAT.base) ∧
    (let a : Actor := Actor.host;
     let off : Nat := 16388;
     let size : Nat := 4;
     let s : State := base;
     gateWrite s a off size = Gate.allow ∧ size = 4 ∧ off = R.RST_CAUSE.base) := by and_intros <;> decide

theorem witness_RegisterWritesPassTheirGate_GatesTurnWritesAway :
    (let v : W32 := 0;
     flag v 31 = false) ∧
    (let t : Time := 3;
     let v : W32 := 2147483648;
     let s : State := base;
     let b : State := begin' t s;
     flag v 31 = true ∧ ringsMisuse b = false) ∧
    (let t : Time := 3;
     let a : Actor := Actor.host;
     let v : W32 := 2147483648;
     let e : Instr × Nat × Nat := (Instr.hostWdogWrite 3 Actor.host 2147483648#32, 8200, 4);
     e ∈
       [(Instr.hostWdogWrite t a v, R.CISTER_HOST_WDOG.base, 4), (Instr.mdioStart t a v, R.ETH_MDIO.base, 4), (Instr.leaseReq t a v, R.LEASE_REQ.base, 4),
         (Instr.loopBistReq t a v, R.LOOP_BIST_REQ.base, 4), (Instr.tallySnap t a v, R.TALLY_SNAP.base, 4),
         (Instr.rtcSet t a v, R.LEDGER_RTC_CTRL.base, 4), (Instr.recoveryImageLoad t a v, R.SEC_RECOVERY_CTRL.base, 4)]) := by and_intros <;> decide

end Sys2Proof.Tests
end

section
/-! The software indices: the operations that write memories, mirrors and interrupts leave every ring as it stands, and those that write entries, notifications and completions leave every ring's S: an accepted doorbell moves the S of its own ring, and its effects move none (R40, R58). -/
namespace Sys2Proof.Machine

/-! ### Operations that leave the ring contexts -/

theorem ring_of_rings {s u : State} (h : u.cister.rings = s.cister.rings) (m : Nat) : ring u m = ring s m := by
  simp [ring, h]

@[simp] theorem dmaWrite_rings (c : Bool) (a : Nat) (bs : List Byte) (s : State) :
    (dmaWrite c a bs s).cister.rings = s.cister.rings := by
  unfold dmaWrite
  split
  · rfl
  · split <;> rfl

@[simp] theorem setNotif_rings (k : Nat) (x : Notif) (s : State) : (setNotif k x s).cister.rings = s.cister.rings := rfl

@[simp] theorem setModeration_rings (k : Nat) (x : Moderation) (s : State) :
    (setModeration k x s).cister.rings = s.cister.rings := rfl

@[simp] theorem mirrorWrite_rings (n : Nat) (s : State) : (mirrorWrite n s).cister.rings = s.cister.rings := by
  unfold mirrorWrite
  extract_lets
  split
  · exact dmaWrite_rings _ _ _ _
  · rfl

theorem foldl_mirrorWrite_rings (due : List Nat) (s : State) :
    (due.foldl (fun s n => mirrorWrite n s) s).cister.rings = s.cister.rings := by
  induction due generalizing s with
  | nil => rfl
  | cons n rest ih => exact (ih _).trans (mirrorWrite_rings n s)

@[simp] theorem mirrorFlush_rings (s : State) : (mirrorFlush s).cister.rings = s.cister.rings := by
  unfold mirrorFlush
  split
  · exact foldl_mirrorWrite_rings _ s
  · rfl

@[simp] theorem mirrorMark_rings (n : Nat) (s : State) : (mirrorMark n s).cister.rings = s.cister.rings := by
  unfold mirrorMark
  split <;> rfl

@[simp] theorem eventPulses_cister (k line m : Nat) (s : State) : (eventPulses k line m s).cister = s.cister := by
  unfold eventPulses
  split
  · rfl
  · dsimp only
    split <;> rfl

@[simp] theorem sendVector_rings (v : Nat) (s : State) : (sendVector v s).cister.rings = s.cister.rings := by
  unfold sendVector
  dsimp only
  split <;> simp

@[simp] theorem sendLine_rings (n : Nat) (s : State) : (sendLine n s).cister.rings = s.cister.rings := by
  unfold sendLine
  split
  · rfl
  · split
    · split <;> rfl
    · exact sendVector_rings n s

@[simp] theorem signalLine_rings (n : Nat) (b : Bool) (s : State) : (signalLine n b s).cister.rings = s.cister.rings := by
  unfold signalLine
  extract_lets
  split <;> simp

@[simp] theorem signalRing_rings (n : Nat) (b : Bool) (s : State) : (signalRing n b s).cister.rings = s.cister.rings := by
  unfold signalRing
  dsimp only
  split
  · split
    · split
      · exact signalLine_rings _ _ _
      · rfl
    · exact signalLine_rings _ _ _
  · rfl

theorem traceAt_kept (src sub : Nat) (t : Time) (p : List Byte) (s : State) : KeptBut [.trace] s (traceAt src sub t p s) := by
  unfold traceAt
  dsimp only
  intro q hq
  split
  · split <;> cases q <;> simp_all [Piece.same]
  · exact KeptBut.refl _ _ q hq

/-- A trace packet moves the trace port alone (R535, R539). -/
theorem traceEvent_kept (src sub : Nat) (p : List Byte) (s : State) : KeptBut [.trace] s (traceEvent src sub p s) :=
  traceAt_kept _ _ _ _ _

@[simp] theorem traceEvent_cister (src sub : Nat) (p : List Byte) (s : State) :
    (traceEvent src sub p s).cister = s.cister :=
  traceEvent_kept src sub p s .cister (by simp)

theorem hostWdogStart_kept (s : State) : KeptBut [.cister] s (hostWdogStart s) := cisterSet_kept _ s

@[simp] theorem hostWdogStart_rings (s : State) : (hostWdogStart s).cister.rings = s.cister.rings := rfl

/-! ### Operations that leave every S -/

/-- Every ring has the same software index S in two states. -/
def KeepsS (s u : State) : Prop := ∀ m, (ring u m).s = (ring s m).s

theorem KeepsS.refl (s : State) : KeepsS s s := fun _ => rfl

theorem KeepsS.trans {s u v : State} (h : KeepsS s u) (k : KeepsS u v) : KeepsS s v := fun m => (k m).trans (h m)

/-- One more operation at the end. -/
theorem KeepsS.after {s u v : State} (k : KeepsS u v) (h : KeepsS s u) : KeepsS s v := h.trans k

theorem KeepsS.foldl {α : Type} {f : State → α → State} (h : ∀ s a, KeepsS s (f s a)) (xs : List α) (s : State) :
    KeepsS s (xs.foldl f s) := by
  induction xs generalizing s with
  | nil => exact KeepsS.refl s
  | cons x rest ih => exact (h s x).trans (ih _)

theorem KeepsS.of_rings {s u : State} (h : u.cister.rings = s.cister.rings) : KeepsS s u :=
  fun m => congrArg Ring.s (ring_of_rings h m)

theorem KeepsS.of_cister {s u : State} (h : u.cister = s.cister) : KeepsS s u := KeepsS.of_rings (congrArg Cister.rings h)

/-- A store of a ring context that has the S of the one it replaces. -/
theorem KeepsS.setRing {n : Nat} {r : Ring} {s : State} (h : r.s = (ring s n).s) : KeepsS s (setRing n r s) := by
  intro m
  rw [ring_setRing]
  split
  · next e => rw [h, e]
  · rfl

theorem putEntry_keepsS (n h : Nat) (r : List Byte) (b : Bool) (s : State) : KeepsS s (putEntry n h r b s) := by
  refine (KeepsS.of_rings (signalRing_rings _ _ _)).after ((KeepsS.of_rings (mirrorMark_rings _ _)).after ?_)
  exact (KeepsS.setRing (by rfl)).after (KeepsS.of_rings (dmaWrite_rings _ _ _ s))

theorem putPadded_keepsS (n k d : Nat) (r : List Byte) (z : Nat) (s : State) : KeepsS s (putPadded n k d r z s) := by
  unfold putPadded
  dsimp only
  split
  · exact (KeepsS.of_rings rfl).trans (putEntry_keepsS _ _ _ _ (bump _ s))
  · exact putEntry_keepsS _ _ _ _ s

theorem putRecord_keepsS (n k d : Nat) (r : List Byte) (s : State) : KeepsS s (putRecord n k d r s) :=
  putPadded_keepsS n k d r 0 s

theorem notifFlush_keepsS (fuel : Nat) (s : State) : KeepsS s (notifFlush fuel s) := by
  induction fuel generalizing s with
  | zero => exact KeepsS.refl s
  | succ fuel ih =>
    unfold notifFlush
    split
    · exact KeepsS.refl s
    · next k rest _ =>
      split
      · dsimp only
        have popped : KeepsS s { s with cister := { s.cister with notifWait := rest } } := KeepsS.of_rings rfl
        split
        · exact popped.trans (ih _)
        · exact popped.trans ((putRecord_keepsS _ _ _ _ _).trans ((KeepsS.of_rings (setNotif_rings _ _ _)).trans (ih _)))
      · exact KeepsS.refl s

theorem notify_keepsS (k a b : Nat) (s : State) : KeepsS s (notify k a b s) := by
  unfold notify notifyAt
  dsimp only
  split
  · exact KeepsS.of_rings rfl
  · split
    · exact KeepsS.of_rings rfl
    · exact KeepsS.of_rings rfl
    · exact (KeepsS.of_rings rfl).trans (notifFlush_keepsS 64 _)

theorem dropRecord_keepsS (n : Nat) (s : State) : KeepsS s (dropRecord n s) := by
  have counted (r : Ring) (h : r.s = (ring s n).s) : KeepsS s (bump n (setRing n r s)) :=
    (KeepsS.setRing h).trans (KeepsS.of_rings rfl)
  unfold dropRecord
  dsimp only
  split
  · exact counted _ rfl
  · exact (notify_keepsS 2 n 1 _).after (counted _ rfl)

theorem releaseDone_keepsS (fuel n : Nat) (s : State) : KeepsS s (releaseDone fuel n s) := by
  induction fuel generalizing s with
  | zero => exact KeepsS.refl s
  | succ fuel ih =>
    unfold releaseDone
    dsimp only
    split
    · exact KeepsS.refl s
    · split
      · split
        · exact (ih _).after (KeepsS.setRing (by rfl))
        · split
          · exact (ih _).after ((KeepsS.of_rings ((signalRing_rings _ _ _).trans (mirrorMark_rings _ _))).after (KeepsS.setRing (by rfl)))
          · exact (ih _).after ((KeepsS.of_rings (mirrorMark_rings _ _)).after (KeepsS.setRing (by rfl)))
      · exact KeepsS.refl s

theorem markDone_keepsS (n status : Nat) (i : W32) (s : State) : KeepsS s (markDone n status i s) := by
  unfold markDone
  exact (releaseDone_keepsS _ _ _).after ((KeepsS.setRing (by rfl)).after (KeepsS.of_cister (traceEvent_cister _ _ _ s)))

theorem putCompletion_keepsS (c n : Nat) (h : HeldCmp) (s : State) : KeepsS s (putCompletion c n h s) :=
  putEntry_keepsS _ _ _ _ s

theorem putStatus_keepsS (n : Nat) (h : HeldCmp) (s : State) : KeepsS s (putStatus n h s) :=
  (KeepsS.of_rings (dmaWrite_rings _ _ _ s)).trans
    ((markDone_keepsS _ _ _ _).trans (KeepsS.of_rings (signalRing_rings _ _ _)))

theorem drainBacklog_keepsS (fuel n : Nat) (s : State) : KeepsS s (drainBacklog fuel n s) := by
  induction fuel generalizing s with
  | zero => exact KeepsS.refl s
  | succ fuel ih =>
    unfold drainBacklog
    dsimp only
    split
    · exact KeepsS.refl s
    · next h rest _ =>
      have popped : KeepsS s (setRing n { ring s n with backlog := rest } s) := KeepsS.setRing (by rfl)
      split
      · split
        · exact KeepsS.refl s
        · split
          · exact popped.trans ((putStatus_keepsS _ _ _).trans (ih _))
          · exact popped.trans ((markDone_keepsS _ _ _ _).trans (ih _))
      · split
        · exact popped.trans ((dropRecord_keepsS _ _).trans ((markDone_keepsS _ _ _ _).trans (ih _)))
        · split
          · exact popped.trans ((putCompletion_keepsS _ _ _ _).trans ((markDone_keepsS _ _ _ _).trans (ih _)))
          · exact KeepsS.refl s

theorem drainInto_keepsS (c : Nat) (s : State) : KeepsS s (drainInto c s) := by
  refine KeepsS.foldl (fun s n => ?_) _ s
  split
  · exact drainBacklog_keepsS _ n s
  · exact KeepsS.refl s

theorem notifReleased_keepsS (s0 s1 : W32) (s : State) : KeepsS s (notifReleased s0 s1 s) := by
  unfold notifReleased
  refine (notifFlush_keepsS 64 _).after (KeepsS.foldl (fun s k => ?_) _ s)
  dsimp only
  split
  · exact KeepsS.refl s
  · split
    · split <;> exact KeepsS.of_rings rfl
    · exact KeepsS.refl s

theorem tilePost_keepsS (i kind : Nat) (s : State) : KeepsS s (tilePost i kind s) := by
  unfold tilePost
  dsimp only
  split
  · exact (putRecord_keepsS _ _ _ _ s).trans (KeepsS.of_rings rfl)
  · exact KeepsS.of_rings rfl

theorem tileRepost_keepsS (s : State) : KeepsS s (tileRepost s) := by
  refine KeepsS.foldl (fun s i => ?_) _ s
  split
  · exact KeepsS.refl s
  · exact tilePost_keepsS i _ s

theorem resumeStream_keepsS (k : Nat) (s : State) : KeepsS s (resumeStream k s) := by
  unfold resumeStream
  dsimp only
  split <;> exact KeepsS.of_rings rfl

theorem ledgerReleased_keepsS (s0 s1 : W32) (s : State) : KeepsS s (ledgerReleased s0 s1 s) := by
  refine KeepsS.trans ?_ ((resumeStream_keepsS streamAudit _).trans (resumeStream_keepsS streamSecurity _))
  refine KeepsS.trans (KeepsS.foldl (fun s e => ?_) _ s) (KeepsS.of_rings rfl)
  exact KeepsS.of_rings rfl

/-- What an accepted doorbell sets in motion moves no S: R58 moves it before. -/
theorem doorbellEffects_keepsS (n : Nat) (s0 : W32) (s : State) : KeepsS s (doorbellEffects n s0 s) := by
  unfold doorbellEffects
  dsimp only
  split
  · exact KeepsS.refl s
  · split
    · exact drainInto_keepsS n s
    · split
      · exact notifReleased_keepsS _ _ s
      · split
        · exact tileRepost_keepsS s
        · split
          · exact ledgerReleased_keepsS _ _ s
          · exact KeepsS.refl s

/-- A doorbell of a post ring sets nothing else in motion. -/
theorem doorbellEffects_of_isPost {n : Nat} {s : State} (s0 : W32) (h : (ring s n).isPost = true) :
    doorbellEffects n s0 s = s := by
  simp [doorbellEffects, h]

/-! ### A doorbell at a ring of its owner (R56 to R58) -/

/-- S has moved to `w`, the host watchdog of a ring in host memory has started afresh, and a trace packet has left: an accepted doorbell before the effects of its ring's kind (R58, R69). -/
def doorbellTaken (n : Nat) (w : W32) (s : State) : State :=
  let y := setRing n { ring s n with s := w } s
  traceEvent 11 0 ([BitVec.ofNat 8 n, 0, 0, 0] ++ leBytes 4 w.toNat) (if (ring s n).onChip then y else hostWdogStart y)

theorem doorbellTaken_ring (n m : Nat) (w : W32) (s : State) :
    ring (doorbellTaken n w s) m = if n = m then { ring s n with s := w } else ring s m := by
  refine Eq.trans (ring_of_rings ?_ m) (ring_setRing n m { ring s n with s := w } s)
  unfold doorbellTaken
  dsimp only
  split <;> simp

theorem doorbellTaken_kept (n : Nat) (w : W32) (s : State) : KeptBut [.cister, .trace] s (doorbellTaken n w s) := by
  refine KeptBut.trans ?_ ((traceEvent_kept _ _ _ _).mono (by simp))
  have moved := (setRing_kept n { ring s n with s := w } s).mono (m := [.cister, .trace]) (by simp)
  split
  · exact moved
  · exact moved.trans ((hostWdogStart_kept _).mono (by simp))

theorem ringDoorbell_of_stopped {n : Nat} {s : State} (w : W32) (h : (ring s n).running = false) :
    ringDoorbell n w s = s := by
  simp [ringDoorbell, h]

theorem ringDoorbell_of_outOfRange {n : Nat} {w : W32} {s : State} (h : (ring s n).running = true)
    (bad : doorbellOk (ring s n) w = false) :
    ringDoorbell n w s = notify 0x00 n w.toNat (bump T.doorbellReject s) := by
  simp [ringDoorbell, h, bad]

theorem ringDoorbell_of_inRange {n : Nat} {w : W32} {s : State} (h : (ring s n).running = true)
    (ok : doorbellOk (ring s n) w = true) :
    ringDoorbell n w s = doorbellEffects n (ring s n).s (doorbellTaken n w s) := by
  simp [ringDoorbell, doorbellTaken, h, ok]

/-- The value of an accepted doorbell is S once its effects are over. -/
theorem doorbellEffects_doorbellTaken_s (n : Nat) (s0 w : W32) (s : State) :
    (ring (doorbellEffects n s0 (doorbellTaken n w s)) n).s = w := by
  rw [doorbellEffects_keepsS, doorbellTaken_ring, if_pos rfl]

/-- An accepted doorbell of a post ring ends with S moved, and nothing more. -/
theorem doorbellEffects_doorbellTaken_of_isPost {n : Nat} {s : State} (s0 w : W32) (h : (ring s n).isPost = true) :
    doorbellEffects n s0 (doorbellTaken n w s) = doorbellTaken n w s := by
  refine doorbellEffects_of_isPost s0 ?_
  rw [doorbellTaken_ring, if_pos rfl]
  exact h

end Sys2Proof.Machine
end

section
/-! The doorbell command: the stores before it, and what becomes of the access (R38, R44, R70, R459 to R461, R515, R579). -/
namespace Sys2Proof.Machine

/-! ### Software's stores -/

@[simp] theorem applyStore_security (x : Store) (s : State) : (applyStore x s).security = s.security := by
  unfold applyStore
  split <;> rfl

@[simp] theorem applyStore_cores (x : Store) (s : State) : (applyStore x s).cores = s.cores := by
  unfold applyStore
  split <;> rfl

/-- A core's store moves neither which cores run nor what their regions let them write. -/
theorem reaches_applyStore (x : Store) (k : Fin 4) (s : State) : reaches (applyStore x s) (.core k) = reaches s (.core k) := by
  simp [reaches]

theorem bufferIn_applyStore (x : Store) (s : State) (k addr len perm : Nat) :
    bufferIn (applyStore x s) k addr len perm = bufferIn s k addr len perm := by
  simp [bufferIn, inRegions]

theorem storeAllowed_applyStore (x y : Store) (a : Actor) (s : State) :
    storeAllowed (applyStore x s) a y = storeAllowed s a y := by
  simp only [storeAllowed, bufferIn_applyStore]

/-- Whether host software's store is made rests on where it goes alone. -/
theorem storeAllowed_host (x : Store) (s u : State) : storeAllowed s .host x = storeAllowed u .host x := by
  unfold storeAllowed
  cases x.space <;> rfl

theorem actorStores_host (stores : List Store) (s : State) :
    actorStores .host stores s = (stores.filter (storeAllowed s .host)).foldl (fun s x => applyStore x s) s := by
  induction stores generalizing s with
  | nil => rfl
  | cons x rest ih =>
    have step : actorStores .host (x :: rest) s = actorStores .host rest (actorStore .host s x) := rfl
    cases h : storeAllowed s .host x with
    | false =>
      have kept : actorStore .host s x = s := by simp [actorStore, h]
      rw [step, kept, ih, List.filter_cons_of_neg (by simp [h])]
    | true =>
      have made : actorStore .host s x = applyStore x s := by simp [actorStore, h]
      have same : storeAllowed (applyStore x s) .host = storeAllowed s .host := funext fun y => storeAllowed_host y _ _
      rw [step, made, ih, same, List.filter_cons_of_pos h]
      rfl

/-- A running core's stores are made, in order, while each lies in its regions. -/
theorem actorStores_core_allowed {k : Fin 4} {stores : List Store} {s : State} (run : reaches s (.core k) = true)
    (ok : ∀ x ∈ stores, storeAllowed s (.core k) x = true) :
    actorStores (.core k) stores s = stores.foldl (fun s x => applyStore x s) s := by
  induction stores generalizing s with
  | nil => rfl
  | cons x rest ih =>
    obtain ⟨hx, hrest⟩ := List.forall_mem_cons.mp ok
    have step : actorStores (.core k) (x :: rest) s = actorStores (.core k) rest (applyStore x s) := by
      simp [actorStores, actorRuns, run, actorStore, hx]
    rw [step, ih ((reaches_applyStore x k s).trans run) (fun y hy => (storeAllowed_applyStore x y _ s).trans (hrest y hy))]
    rfl

theorem actorStores_core_halted {k : Fin 4} {s : State} (stores : List Store) (halted : reaches s (.core k) = false) :
    actorStores (.core k) stores s = s := by
  induction stores with
  | nil => rfl
  | cons x rest ih =>
    have step : actorStores (.core k) (x :: rest) s = actorStores (.core k) rest s := by
      simp [actorStores, actorRuns, halted]
    rw [step, ih]

theorem actorStores_core_blocked {k : Fin 4} {x : Store} {s : State} (run : reaches s (.core k) = true)
    (blocked : storeAllowed s (.core k) x = false) : actorStores (.core k) [x] s = regionFault k s := by
  simp [actorStores, actorRuns, run, actorStore, blocked]

/-! ### The access -/

/-- An access that the doorbell registers answer: 4 or 8 bytes, naturally aligned (R38, R57). -/
def doorbellFits (off size : Nat) : Bool := (size = 4 && off % 4 = 0) || (size = 8 && off % 8 = 0)

theorem doorbellFits_iff (off size : Nat) :
    doorbellFits off size = true ↔ (size = 4 ∧ off % 4 = 0) ∨ (size = 8 ∧ off % 8 = 0) := by
  simp [doorbellFits]

/-- What a doorbell access leaves, once the stores before it are made. -/
def doorbellAccess (a : Actor) (off size : Nat) (v : W64) (s : State) : State :=
  if !reaches s a then s
  else if 0x400 ≤ off then badAccess a true 1 true off s
  else if !doorbellFits off size then badAccess a true 2 true off s
  else if !setupOpen s then badAccess a true 4 true off s
  else if off % 8 ≠ 0 then s
  else if ringOwner s (off / 8) = actorCode a then ringDoorbell (off / 8) (v.setWidth 32) s
  else if a = .host && givenToCore s (off / 8) then bump T.doorbellReject s
  else badAccess a true 3 true off s

/-- DOORBELL answers what its access leaves, but in the two cases of undefined use. -/
theorem exec_doorbell (t : Time) (a : Actor) (off size : Nat) (v : W64) (stores : List Store) (s : State) :
    exec (.doorbell t a off size v stores) s =
      if storesMisuse (begin' t s) (stores.filter (storeAllowed (begin' t s) a)) then .fault (.undefinedUse 76)
      else if tilesMisuse (doorbellAccess a off size v (actorStores a stores (begin' t s))) && !tilesMisuse (begin' t s) then
        .fault (.undefinedUse 244)
      else .next (doorbellAccess a off size v (actorStores a stores (begin' t s))) := rfl

theorem exec_doorbell_next {t : Time} {a : Actor} {off size : Nat} {v : W64} {stores : List Store} {s u : State}
    (safe : storesMisuse (begin' t s) (stores.filter (storeAllowed (begin' t s) a)) = false)
    (left : doorbellAccess a off size v (actorStores a stores (begin' t s)) = u)
    (apart : tilesMisuse u = true → tilesMisuse (begin' t s) = true) :
    exec (.doorbell t a off size v stores) s = .next u := by
  rw [exec_doorbell, left, safe]
  cases h : tilesMisuse u with
  | false => simp
  | true => simp [apart h]

section
variable {a : Actor} {off size : Nat} {s : State} (v : W64)

theorem doorbellAccess_unreached (far : reaches s a = false) : doorbellAccess a off size v s = s := by
  simp [doorbellAccess, far]

theorem doorbellAccess_reserved (near : reaches s a = true) (out : 0x400 ≤ off) :
    doorbellAccess a off size v s = badAccess a true 1 true off s := by
  simp [doorbellAccess, near, out]

theorem doorbellAccess_misfit (near : reaches s a = true) (inside : off < 0x400) (bad : doorbellFits off size = false) :
    doorbellAccess a off size v s = badAccess a true 2 true off s := by
  simp [doorbellAccess, near, Nat.not_le.mpr inside, bad]

theorem doorbellAccess_early (near : reaches s a = true) (inside : off < 0x400) (fits : doorbellFits off size = true)
    (early : setupOpen s = false) : doorbellAccess a off size v s = badAccess a true 4 true off s := by
  simp [doorbellAccess, near, Nat.not_le.mpr inside, fits, early]

variable (near : reaches s a = true) (inside : off < 0x400) (fits : doorbellFits off size = true) (opened : setupOpen s = true)
include near inside fits opened

/-- What is left of an access that nothing before its ring turns away. -/
theorem doorbellAccess_admitted : doorbellAccess a off size v s =
    if off % 8 ≠ 0 then s
    else if ringOwner s (off / 8) = actorCode a then ringDoorbell (off / 8) (v.setWidth 32) s
    else if a = .host ∧ givenToCore s (off / 8) = true then bump T.doorbellReject s
    else badAccess a true 3 true off s := by
  simp [doorbellAccess, near, Nat.not_le.mpr inside, fits, opened]

theorem doorbellAccess_upperWord (upper : off % 8 ≠ 0) : doorbellAccess a off size v s = s := by
  rw [doorbellAccess_admitted v near inside fits opened, if_pos upper]

theorem doorbellAccess_foreign (whole : off % 8 = 0) (foreign : ringOwner s (off / 8) ≠ actorCode a) :
    doorbellAccess a off size v s =
      if a = .host ∧ givenToCore s (off / 8) = true then bump T.doorbellReject s else badAccess a true 3 true off s := by
  rw [doorbellAccess_admitted v near inside fits opened, if_neg (not_not_intro whole), if_neg foreign]

theorem doorbellAccess_owned (whole : off % 8 = 0) (own : ringOwner s (off / 8) = actorCode a) :
    doorbellAccess a off size v s = ringDoorbell (off / 8) (v.setWidth 32) s := by
  rw [doorbellAccess_admitted v near inside fits opened, if_neg (not_not_intro whole), if_pos own]

end

/-- Settles O10: the stores, then each way the access can go; an accepted value is S at the end because no effect of a doorbell moves S. -/
theorem doorbellsMoveTheIndexOrAreIgnored : Obligations.DoorbellsMoveTheIndexOrAreIgnored := by
  unfold Obligations.DoorbellsMoveTheIndexOrAreIgnored
  intro t a off size v stores s c n w b made z r y fits answers
  refine ⟨?host, ?core, ?access⟩
  case host =>
    rintro rfl
    exact actorStores_host stores b
  case core =>
    rintro k rfl
    refine ⟨fun run all => ?_, actorStores_core_halted stores, fun x single run blocked => ?_⟩
    · exact actorStores_core_allowed run (List.filter_eq_self.mp all)
    · exact (congrArg (fun l => actorStores (.core k) l b) single).trans (actorStores_core_blocked run blocked)
  case access =>
    intro safe
    have fit_iff : doorbellFits off size = true ↔ fits := doorbellFits_iff off size
    have reply {u : State} (left : doorbellAccess a off size v z = u) : answers u := exec_doorbell_next safe left
    refine ⟨fun far => reply (doorbellAccess_unreached v far), fun near => ⟨?_, ?_, ?_, ?_, ?_, ?owned⟩⟩
    · exact fun out => reply (doorbellAccess_reserved v near out)
    · exact fun inside bad => reply (doorbellAccess_misfit v near inside (Bool.eq_false_iff.mpr (mt fit_iff.mp bad)))
    · exact fun inside fit early => reply (doorbellAccess_early v near inside (fit_iff.mpr fit) early)
    · exact fun inside fit opened upper => reply (doorbellAccess_upperWord v near inside (fit_iff.mpr fit) opened upper)
    · exact fun inside fit opened whole foreign => reply (doorbellAccess_foreign v near inside (fit_iff.mpr fit) opened whole foreign)
    case owned =>
      intro inside fit opened whole own
      have rung := doorbellAccess_owned v near inside (fit_iff.mpr fit) opened whole own
      refine ⟨fun stopped => ?_, fun running bad => ?_, fun running ok => ⟨?_, ?_, fun post => ?_⟩⟩
      · exact reply (rung.trans (ringDoorbell_of_stopped w stopped))
      · exact reply (rung.trans (ringDoorbell_of_outOfRange running bad))
      · exact reply (rung.trans (ringDoorbell_of_inRange running ok))
      · exact doorbellEffects_doorbellTaken_s n r.s w z
      · have only : doorbellEffects n r.s (doorbellTaken n w z) = doorbellTaken n w z :=
          doorbellEffects_doorbellTaken_of_isPost r.s w post
        have same : ring (doorbellTaken n w z) n = { r with s := w } := by simp [doorbellTaken_ring, r]
        have others : OthersKept ring n z (doorbellTaken n w z) := fun m hm => by simp [doorbellTaken_ring, hm.symm]
        exact only.symm ▸ ⟨same, others, doorbellTaken_kept n w z⟩

end Sys2Proof.Machine
end

section
/-! The counters of life: operating seconds and power cycles (R492). Only OPERATING_TIME_TICK and the two resets that name them move them; that nothing else does is a frame, one lemma `<operation>_life` for each operation a command is made of, unit by unit in the order of the model. Most operations leave the always-on domain alone; the ledger, the violations and the reset release move other fields of it. Each lemma cites those of the operations it is made of through `simp`, so a proof shows only the branches of its own operation. -/
namespace Sys2Proof.Machine

/-- The two counters of R492: operating seconds and power cycles. -/
def AlwaysOn.life (a : AlwaysOn) : Nat × Nat := (a.opSeconds, a.powerCycles)

/-- If a command of this outcome completes, both counters are as they were. -/
def KeepsLife (s : State) (o : Host.Outcome State Fault Refusal) : Prop := ∀ u, o = .next u → u.aon.life = s.aon.life

@[simp] theorem keepsLife_next (s u : State) : KeepsLife s (.next u) ↔ u.aon.life = s.aon.life := by simp [KeepsLife]

@[simp] theorem keepsLife_fault (s : State) (r : Fault) : KeepsLife s (.fault r) := by simp [KeepsLife]

@[simp] theorem keepsLife_ite (s : State) (c : Prop) [Decidable c] (a b : Host.Outcome State Fault Refusal) :
    KeepsLife s (if c then a else b) ↔ (c → KeepsLife s a) ∧ (¬c → KeepsLife s b) := by
  split <;> simp [*]

@[simp] theorem life_ite (c : Prop) [Decidable c] (a b : State) :
    (if c then a else b).aon.life = if c then a.aon.life else b.aon.life := apply_ite (fun s => s.aon.life) c a b

/-- What leaves the always-on domain as it stands leaves the counters. -/
theorem KeptBut.life {l : List Piece} {s u : State} (h : KeptBut l s u) (out : Piece.aon ∉ l := by decide) :
    u.aon.life = s.aon.life := congrArg AlwaysOn.life (h .aon out)

/-- A fold keeps what each of its steps keeps. -/
theorem foldl_keeps {α β γ : Type} (g : β → γ) {f : β → α → β} (h : ∀ x a, g (f x a) = g x) (l : List α) (x : β) :
    g (l.foldl f x) = g x := by
  induction l generalizing x with
  | nil => rfl
  | cons a l ih => exact (ih _).trans (h x a)

@[simp] theorem foldl_life {α : Type} {f : State → α → State} (h : ∀ s a, (f s a).aon.life = s.aon.life) (l : List α)
    (s : State) : (l.foldl f s).aon.life = s.aon.life := foldl_keeps (fun s => s.aon.life) h l s

theorem foldl_pair_life {α β : Type} {f : β × State → α → β × State} (h : ∀ x a, (f x a).2.aon.life = x.2.aon.life)
    (l : List α) (x : β × State) : (l.foldl f x).2.aon.life = x.2.aon.life := foldl_keeps (fun x => x.2.aon.life) h l x

/-! ### Registers, memories, trace, interrupts, delivery entries, notifications and completions -/

@[simp] theorem emit_life (o : Out) (s : State) : (emit o s).aon.life = s.aon.life := by rfl
@[simp] theorem wr_life (r : Reg) (i : Nat) (v : W32) (s : State) : (wr r i v s).aon.life = s.aon.life := by rfl
@[simp] theorem bump_life (k : Nat) (s : State) : (bump k s).aon.life = s.aon.life := (bump_kept k s).life
@[simp] theorem setTally_life (k : Nat) (v : W32) (s : State) : (setTally k v s).aon.life = s.aon.life := by rfl

@[simp] theorem dmaWrite_life (onChip : Bool) (a : Nat) (bs : List Byte) (s : State) :
    (dmaWrite onChip a bs s).aon.life = s.aon.life := (dmaWrite_kept onChip a bs s).life

@[simp] theorem payWrites_life (s : State) : (payWrites s).aon.life = s.aon.life := by rfl

@[simp] theorem applyStore_life (st : Store) (s : State) : (applyStore st s).aon.life = s.aon.life := by
  unfold applyStore
  split <;> rfl

@[simp] theorem traceAt_life (src sub : Nat) (t : Time) (payload : List Byte) (s : State) :
    (traceAt src sub t payload s).aon.life = s.aon.life := (traceAt_kept src sub t payload s).life

@[simp] theorem traceEvent_life (src sub : Nat) (payload : List Byte) (s : State) :
    (traceEvent src sub payload s).aon.life = s.aon.life := (traceEvent_kept src sub payload s).life

@[simp] theorem begin'_life (t : Time) (s : State) : (begin' t s).aon.life = s.aon.life := by rfl
@[simp] theorem setLStream_life (k : Nat) (l : LStream) (s : State) : (setLStream k l s).aon.life = s.aon.life := by rfl

@[simp] theorem crossWith_life (note : Nat → Nat → Nat → State → State) (k : Nat) (f : State → State) (s : State)
    (hnote : ∀ k a b s, (note k a b s).aon.life = s.aon.life) (hf : ∀ s, (f s).aon.life = s.aon.life) :
    (crossWith note k f s).aon.life = s.aon.life := by simp [crossWith, hnote, hf]

@[simp] theorem eventPulses_life (k line m : Nat) (s : State) : (eventPulses k line m s).aon.life = s.aon.life := (eventPulses_kept k line m s).life
@[simp] theorem modRing_life (n : Nat) (f : Ring → Ring) (s : State) : (modRing n f s).aon.life = s.aon.life := by rfl
@[simp] theorem mirrorWrite_life (n : Nat) (s : State) : (mirrorWrite n s).aon.life = s.aon.life := (mirrorWrite_kept n s).life
@[simp] theorem mirrorFlush_life (s : State) : (mirrorFlush s).aon.life = s.aon.life := (mirrorFlush_kept s).life
@[simp] theorem mirrorMark_life (n : Nat) (s : State) : (mirrorMark n s).aon.life = s.aon.life := (mirrorMark_kept n s).life
@[simp] theorem sendVector_life (v : Nat) (s : State) : (sendVector v s).aon.life = s.aon.life := (sendVector_kept v s).life
@[simp] theorem sendLine_life (line : Nat) (s : State) : (sendLine line s).aon.life = s.aon.life := (sendLine_kept line s).life

@[simp] theorem signalLine_life (line : Nat) (doneIrq : Bool) (s : State) :
    (signalLine line doneIrq s).aon.life = s.aon.life := (signalLine_kept line doneIrq s).life

@[simp] theorem signalRing_life (n : Nat) (doneIrq : Bool) (s : State) :
    (signalRing n doneIrq s).aon.life = s.aon.life := (signalRing_kept n doneIrq s).life

@[simp] theorem putEntry_life (n : Nat) (head : Nat) (rest : List Byte) (doneIrq : Bool) (s : State) :
    (putEntry n head rest doneIrq s).aon.life = s.aon.life := (putEntry_kept n head rest doneIrq s).life

@[simp] theorem putPadded_life (n kind : Nat) (drops : Nat) (record : List Byte) (zeros : Nat) (s : State) :
    (putPadded n kind drops record zeros s).aon.life = s.aon.life := (putPadded_kept n kind drops record zeros s).life

@[simp] theorem putRecord_life (n kind : Nat) (drops : Nat) (record : List Byte) (s : State) :
    (putRecord n kind drops record s).aon.life = s.aon.life := (putRecord_kept n kind drops record s).life

@[simp] theorem notifFlush_life (fuel : Nat) (s : State) : (notifFlush fuel s).aon.life = s.aon.life := (notifFlush_kept fuel s).life
@[simp] theorem notifyAt_life (k a b : Nat) (t : Time) (s : State) : (notifyAt k a b t s).aon.life = s.aon.life := (notifyAt_kept k a b t s).life

@[simp] theorem notify_life (k subject detail : Nat) (s : State) :
    (notify k subject detail s).aon.life = s.aon.life := (notify_kept k subject detail s).life

@[simp] theorem cross_life (k : Nat) (f : State → State) (s : State) (hf : ∀ s, (f s).aon.life = s.aon.life) :
    (cross k f s).aon.life = s.aon.life := by simp [cross, hf]

@[simp] theorem dropRecord_life (n : Nat) (s : State) : (dropRecord n s).aon.life = s.aon.life := by simp [dropRecord]
@[simp] theorem deliver_life (n kind : Nat) (record : List Byte) (s : State) : (deliver n kind record s).aon.life = s.aon.life := by simp [deliver]

@[simp] theorem ledgerQueue_life (rec : LedgerRec) (s : State) : (ledgerQueue rec s).aon.life = s.aon.life := by
  unfold ledgerQueue
  dsimp only
  (repeat' split) <;> simp

@[simp] theorem ledgerReport_life (stream code subject detail : Nat) (s : State) :
    (ledgerReport stream code subject detail s).aon.life = s.aon.life := by simp [ledgerReport]

@[simp] theorem releaseDone_life (fuel n : Nat) (s : State) : (releaseDone fuel n s).aon.life = s.aon.life := by
  induction fuel generalizing s with
  | zero => rfl
  | succ fuel ih =>
    unfold releaseDone
    dsimp only
    split <;> simp [ih]

@[simp] theorem markDone_life (n : Nat) (status : Nat) (i : W32) (s : State) : (markDone n status i s).aon.life = s.aon.life := by simp [markDone]
@[simp] theorem putCompletion_life (c n : Nat) (h : HeldCmp) (s : State) : (putCompletion c n h s).aon.life = s.aon.life := by simp [putCompletion]
@[simp] theorem putStatus_life (n : Nat) (h : HeldCmp) (s : State) : (putStatus n h s).aon.life = s.aon.life := by simp [putStatus]

@[simp] theorem complete_life (n : Nat) (x : Desc) (status : Nat) (result : W32) (s : State) :
    (complete n x status result s).aon.life = s.aon.life := by simp [complete]

@[simp] theorem drainBacklog_life (fuel n : Nat) (s : State) : (drainBacklog fuel n s).aon.life = s.aon.life := by
  induction fuel generalizing s with
  | zero => rfl
  | succ fuel ih =>
    unfold drainBacklog
    dsimp only
    split <;> simp [ih]

@[simp] theorem drainInto_life (c : Nat) (s : State) : (drainInto c s).aon.life = s.aon.life := by simp [drainInto]
@[simp] theorem drainAll_life (s : State) : (drainAll s).aon.life = s.aon.life := by simp [drainAll]
@[simp] theorem markRunning_life (n : Nat) (i : W32) (s : State) : (markRunning n i s).aon.life = s.aon.life := by rfl

@[simp] theorem completeAt_life (n : Nat) (i : W32) (status : Nat) (result : W32) (s : State) :
    (completeAt n i status result s).aon.life = s.aon.life := by
  unfold completeAt
  split <;> simp

/-! ### The gate of a register access -/

@[simp] theorem badAccess_life (a : Actor) (write : Bool) (cause : Nat) (bar2 : Bool) (off : Nat) (s : State) :
    (badAccess a write cause bar2 off s).aon.life = s.aon.life := by simp [badAccess]

@[simp] theorem gated_life (a : Actor) (off size : Nat) (f : State → State) (s : State) (hf : ∀ s, (f s).aon.life = s.aon.life) :
    (gated a off size f s).aon.life = s.aon.life := by
  unfold gated
  split <;> simp [hf]

@[simp] theorem gatedEnable_life (a : Actor) (off size : Nat) (f : State → State) (s : State) (hf : ∀ s, (f s).aon.life = s.aon.life) :
    (gatedEnable a off size f s).aon.life = s.aon.life := by simp [gatedEnable, hf]

/-! ### What the host side sets in motion in other units -/

@[simp] theorem rootInhibit_life (s : State) : (rootInhibit s).aon.life = s.aon.life := by rfl
@[simp] theorem setTileSlot_life (i : Nat) (x : TileSlot) (s : State) : (setTileSlot i x s).aon.life = s.aon.life := by rfl
@[simp] theorem dropLoad_life (i : W32) (s : State) : (dropLoad i s).aon.life = s.aon.life := by rfl
@[simp] theorem dropBuffers_life (s : State) : (dropBuffers s).aon.life = s.aon.life := by rfl
@[simp] theorem tilePost_life (i kind : Nat) (s : State) : (tilePost i kind s).aon.life = s.aon.life := by simp [tilePost]

@[simp] theorem tileRepost_life (s : State) : (tileRepost s).aon.life = s.aon.life := by
  unfold tileRepost
  refine foldl_life (fun s i => ?_) _ s
  split <;> simp

@[simp] theorem modBus_life (p : Nat) (f : BusPort → BusPort) (s : State) : (modBus p f s).aon.life = s.aon.life := by rfl
@[simp] theorem busTxDisabled_life (p : Nat) (s : State) : (busTxDisabled p s).aon.life = s.aon.life := by simp [busTxDisabled]

/-! ### The ledger: the RTC and the record positions move, which share the always-on domain with the counters -/

@[simp] theorem setNextPos_life (k p : Nat) (s : State) : (setNextPos k p s).aon.life = s.aon.life := by rfl
@[simp] theorem bufferPut_life (k p : Nat) (r : LedgerRec) (s : State) : (bufferPut k p r s).aon.life = s.aon.life := by rfl
@[simp] theorem closeBlock_life (b : Nat) (s : State) : (closeBlock b s).aon.life = s.aon.life := by rfl

@[simp] theorem putSigs_life (b : Nat) (s : State) : (putSigs b s).aon.life = s.aon.life :=
  foldl_life (fun _ _ => bufferPut_life _ _ _ _) _ s

@[simp] theorem execSig_life (t : Time) (s : State) : KeepsLife s (execSig t s) := by
  unfold execSig
  dsimp only
  split <;> simp

@[simp] theorem enterBuffer_life (k : Nat) (r : LedgerRec) (s : State) : (enterBuffer k r s).aon.life = s.aon.life := by simp [enterBuffer]
@[simp] theorem queueLost_life (k : Nat) (s : State) : (queueLost k s).aon.life = s.aon.life := by simp [queueLost]

@[simp] theorem enterNext_life (k : Nat) (s : State) : (enterNext k s).aon.life = s.aon.life := by
  unfold enterNext
  dsimp only
  split <;> simp

@[simp] theorem enterAll_life (k : Nat) (s : State) : (enterAll k s).aon.life = s.aon.life := by simp [enterAll]
@[simp] theorem execLedgerEntry_life (t : Time) (k : Fin 4) (s : State) : KeepsLife s (execLedgerEntry t k s) := by simp [execLedgerEntry]
@[simp] theorem flashWrite_life (k : Nat) (ok : Bool) (s : State) : (flashWrite k ok s).aon.life = s.aon.life := by simp [flashWrite]

@[simp] theorem execLedgerFlashWrite_life (t : Time) (ok : Bool) (s : State) : KeepsLife s (execLedgerFlashWrite t ok s) := by
  unfold execLedgerFlashWrite
  dsimp only
  split <;> simp

@[simp] theorem resumeStream_life (k : Nat) (s : State) : (resumeStream k s).aon.life = s.aon.life := by simp [resumeStream]
@[simp] theorem rtcApply_life (millis : Nat) (s : State) : (rtcApply millis s).aon.life = s.aon.life := ledgerQueue_life _ _
@[simp] theorem rtcPps_life (s : State) : (rtcPps s).aon.life = s.aon.life := by simp [rtcPps]
@[simp] theorem rtcCtrl_life (v : W32) (s : State) : (rtcCtrl v s).aon.life = s.aon.life := by simp [rtcCtrl]
@[simp] theorem execRtcSet_life (t : Time) (a : Actor) (v : W32) (s : State) : KeepsLife s (execRtcSet t a v s) := by simp [execRtcSet]
@[simp] theorem execLedgerRtcRead_life (t : Time) (s : State) : KeepsLife s (execLedgerRtcRead t s) := by simp [execLedgerRtcRead]
@[simp] theorem loadWindow_life (s : State) : (loadWindow s).aon.life = s.aon.life := by rfl
@[simp] theorem setCursor_life (k : Nat) (i : W32) (s : State) : (setCursor k i s).aon.life = s.aon.life := by rfl

@[simp] theorem cursorWrite_life (high : Bool) (size : Nat) (v : W64) (s : State) :
    (cursorWrite high size v s).aon.life = s.aon.life := by simp [cursorWrite]

@[simp] theorem execLedgerCursorWrite_life (t : Time) (a : Actor) (high : Bool) (size : Nat) (v : W64) (s : State) :
    KeepsLife s (execLedgerCursorWrite t a high size v s) := by simp [execLedgerCursorWrite]

@[simp] theorem execLedgerWindow7Read_life (t : Time) (s : State) : KeepsLife s (execLedgerWindow7Read t s) := by simp [execLedgerWindow7Read]

@[simp] theorem execLedgerExportEntry_life (t : Time) (s : State) : KeepsLife s (execLedgerExportEntry t s) := by
  unfold execLedgerExportEntry
  dsimp only
  (repeat' split) <;> simp

@[simp] theorem ledgerReleased_life (s0 s1 : W32) (s : State) : (ledgerReleased s0 s1 s).aon.life = s.aon.life := by
  simp only [ledgerReleased, resumeStream_life]
  exact foldl_life (fun _ _ => setLStream_life _ _ _) _ s

@[simp] theorem refillAudit_life (n p : Nat) (s : State) : (refillAudit n p s).aon.life = s.aon.life := by
  induction n generalizing p s with
  | zero => rfl
  | succ n ih => simp [refillAudit, ih]

@[simp] theorem ledgerStart_life (cause : Nat) (s : State) : (ledgerStart cause s).aon.life = s.aon.life := by simp [ledgerStart]
@[simp] theorem ledgerKeys_life (s : State) : (ledgerKeys s).aon.life = s.aon.life := by simp [ledgerKeys]

/-! ### Undefined use -/

@[simp] theorem orUndefined_life (rule : Nat) (bad : Bool) {s u : State} (h : u.aon.life = s.aon.life) :
    KeepsLife s (orUndefined rule bad u) := by simp [orUndefined, h]

/-! ### The host interface -/

@[simp] theorem skipUnknown_life (fuel n : Nat) (s : State) : (skipUnknown fuel n s).aon.life = s.aon.life := by
  induction fuel generalizing s with
  | zero => rfl
  | succ fuel ih =>
    unfold skipUnknown
    split <;> simp [ih]

@[simp] theorem runDesc_life (n op : Nat) (f : Desc → State → DescResult) (s : State) (hf : ∀ x s, (f x s).state.aon.life = s.aon.life) :
    (runDesc n op f s).aon.life = s.aon.life := by
  unfold runDesc
  split <;> simp [hf]

@[simp] theorem fetchNext_life (n : Nat) (s : State) : (fetchNext n s).aon.life = s.aon.life := by simp [fetchNext]
@[simp] theorem hostWdogStart_life (s : State) : (hostWdogStart s).aon.life = s.aon.life := by rfl

@[simp] theorem notifReleased_life (s0 s1 : W32) (s : State) : (notifReleased s0 s1 s).aon.life = s.aon.life := by
  unfold notifReleased
  refine (notifFlush_life _ _).trans (foldl_life (fun s k => ?_) _ s)
  dsimp only
  split
  · rfl
  · split
    · split <;> rfl
    · rfl

@[simp] theorem doorbellEffects_life (n : Nat) (s0 : W32) (s : State) : (doorbellEffects n s0 s).aon.life = s.aon.life := by simp [doorbellEffects]
@[simp] theorem ringDoorbell_life (n : Nat) (v : W32) (s : State) : (ringDoorbell n v s).aon.life = s.aon.life := by simp [ringDoorbell]
@[simp] theorem execMirrorUpdate_life (t : Time) (n : Fin 128) (s : State) : KeepsLife s (execMirrorUpdate t n s) := by simp [execMirrorUpdate]

@[simp] theorem notifRestart_life (s : State) : (notifRestart s).aon.life = s.aon.life := by
  unfold notifRestart
  refine foldl_life (fun s k => ?_) _ s
  dsimp only
  split <;> rfl

@[simp] theorem enableEffects_life (n : Nat) (s : State) : (enableEffects n s).aon.life = s.aon.life := by simp [enableEffects]

@[simp] theorem enableRing_life (n : Nat) (cfg : W32) (s : State) : (enableRing n cfg s).aon.life = s.aon.life := by
  unfold enableRing
  dsimp only
  (repeat' split) <;> simp

@[simp] theorem ringCfgEnable_life (n : Nat) (v : W32) (s : State) : (ringCfgEnable n v s).aon.life = s.aon.life := by simp [ringCfgEnable]

@[simp] theorem execRingEnable_life (t : Time) (a : Actor) (n : Fin 128) (v : W32) (s : State) :
    KeepsLife s (execRingEnable t a n v s) := by simp [execRingEnable]

@[simp] theorem discardWaiting_life (fuel n : Nat) (s : State) : (discardWaiting fuel n s).aon.life = s.aon.life := by
  induction fuel generalizing s with
  | zero => rfl
  | succ fuel ih =>
    unfold discardWaiting
    split <;> simp [ih]

@[simp] theorem releaseBuffers_life (s : State) : (releaseBuffers s).aon.life = s.aon.life := by simp [releaseBuffers]
@[simp] theorem stopRing_life (n : Nat) (r : Ring) (s : State) : (stopRing n r s).aon.life = s.aon.life := by simp [stopRing]
@[simp] theorem ringCfgDisable_life (n : Nat) (v : W32) (s : State) : (ringCfgDisable n v s).aon.life = s.aon.life := by simp [ringCfgDisable]

@[simp] theorem execRingDisable_life (t : Time) (a : Actor) (n : Fin 128) (v : W32) (s : State) :
    KeepsLife s (execRingDisable t a n v s) := by simp [execRingDisable]

@[simp] theorem bodyFault_life (n : Nat) (i : W32) (s : State) : (bodyFault n i s).aon.life = s.aon.life := by
  unfold bodyFault
  split <;> simp

@[simp] theorem ringFaulted_life (n cause : Nat) (s : State) : (ringFaulted n cause s).aon.life = s.aon.life := by simp [ringFaulted]

@[simp] theorem execRingFault_life (t : Time) (n : Fin 128) (src : RingFaultSrc) (s : State) : KeepsLife s (execRingFault t n src s) := by
  unfold execRingFault
  split <;> simp

@[simp] theorem execMsixHoldoffExpiry_life (t : Time) (line : Fin 68) (s : State) :
    KeepsLife s (execMsixHoldoffExpiry t line s) := by simp [execMsixHoldoffExpiry]

@[simp] theorem sendPending_life (v : Nat) (s : State) : (sendPending v s).aon.life = s.aon.life := by simp [sendPending]
@[simp] theorem sendAllPending_life (s : State) : (sendAllPending s).aon.life = s.aon.life := by simp [sendAllPending]

@[simp] theorem execMsixUnmask_life (t : Time) (v : Option (Fin 64)) (mask : Bool) (s : State) : KeepsLife s (execMsixUnmask t v mask s) := by
  unfold execMsixUnmask
  split <;> simp

@[simp] theorem execBusMasterRestore_life (t : Time) (s : State) : KeepsLife s (execBusMasterRestore t s) := by simp [execBusMasterRestore]

@[simp] theorem execBusMasterDisable_life (t : Time) (d3 : Bool) (s : State) :
    KeepsLife s (execBusMasterDisable t d3 s) := by simp [execBusMasterDisable]

@[simp] theorem orphanRunning_life (s : State) : (orphanRunning s).aon.life = s.aon.life := by rfl
@[simp] theorem dropFetched_life (s : State) : (dropFetched s).aon.life = s.aon.life := by simp [dropFetched]
@[simp] theorem hostSideReset_life (s : State) : (hostSideReset s).aon.life = s.aon.life := by simp [hostSideReset]
@[simp] theorem execFunctionLevelReset_life (t : Time) (s : State) : KeepsLife s (execFunctionLevelReset t s) := by simp [execFunctionLevelReset]
@[simp] theorem hostWdogWrite_life (v : W32) (s : State) : (hostWdogWrite v s).aon.life = s.aon.life := by rfl

@[simp] theorem execHostWdogWrite_life (t : Time) (a : Actor) (v : W32) (s : State) :
    KeepsLife s (execHostWdogWrite t a v s) := by simp [execHostWdogWrite]

@[simp] theorem execHostWdogExpiry_life (t : Time) (s : State) : KeepsLife s (execHostWdogExpiry t s) := by
  unfold execHostWdogExpiry
  dsimp only
  (repeat' split) <;> simp

/-! ### Feedback channels, analogue inputs, latches and emulation edges -/

@[simp] theorem setFb_life (n : Nat) (c : FbCh) (s : State) : (setFb n c s).aon.life = s.aon.life := by rfl
@[simp] theorem fbSticky_life (n bit : Nat) (s : State) : (fbSticky n bit s).aon.life = s.aon.life := by rfl
@[simp] theorem fbFault_life (n bit : Nat) (s : State) : (fbFault n bit s).aon.life = s.aon.life := by simp [fbFault]
@[simp] theorem fbAcquire_life (n : Nat) (s : State) : (fbAcquire n s).aon.life = s.aon.life := by rfl

@[simp] theorem execQuadratureEdge_life (t : Time) (n : Fin 16) (a : WireLevel) (b : WireLevel) (s : State) :
    KeepsLife s (execQuadratureEdge t n a b s) := by
  unfold execQuadratureEdge
  dsimp only
  (repeat' split) <;> simp

@[simp] theorem execPulseEdge_life (t : Time) (n : Fin 16) (x : PulseSeen) (s : State) :
    KeepsLife s (execPulseEdge t n x s) := by simp [execPulseEdge]

@[simp] theorem execPulseZeroTimeout_life (t : Time) (n : Fin 16) (s : State) : KeepsLife s (execPulseZeroTimeout t n s) := by
  unfold execPulseZeroTimeout
  dsimp only
  split <;> simp

@[simp] theorem execHallStep_life (t : Time) (n : Fin 16) (code : BitVec 3) (x : HallSeen) (s : State) : KeepsLife s (execHallStep t n code x s) := by
  unfold execHallStep
  dsimp only
  (repeat' split) <;> simp

@[simp] theorem execHallInvalid_life (t : Time) (n : Fin 16) (s : State) : KeepsLife s (execHallInvalid t n s) := by
  unfold execHallInvalid
  dsimp only
  split <;> simp

@[simp] theorem execIndexEdge_life (t : Time) (x : IndexSeen) (s : State) : KeepsLife s (execIndexEdge t x s) := by simp [execIndexEdge]

@[simp] theorem sampleFaults_life (n : Nat) (d : Int) (bad : Nat) (s : State) :
    (sampleFaults n d bad s).aon.life = s.aon.life := by simp [sampleFaults]

theorem drawnIf_life (y : Bool) (s : State) : (if y then s else drawFree s).aon.life = s.aon.life := by
  cases y <;> rfl

@[simp] theorem execSincosSample_life (t : Time) (n : Fin 16) (sine cosine : Int) (s : State) :
    KeepsLife s (execSincosSample t n sine cosine s) := by
  unfold execSincosSample
  dsimp only
  split
  · split <;> exact (keepsLife_next _ _).mpr
      ((sampleFaults_life _ _ _ _).trans ((setFb_life _ _ _).trans ((drawnIf_life _ _).trans (begin'_life t s))))
  · exact (keepsLife_next _ _).mpr (begin'_life t s)

@[simp] theorem execCalibrationUpdate_life (t : Time) (n : Fin 16) (s : State) : KeepsLife s (execCalibrationUpdate t n s) := by
  unfold execCalibrationUpdate
  extract_lets
  split
  · exact (keepsLife_next _ _).mpr rfl
  · split <;> exact (keepsLife_next _ _).mpr rfl

@[simp] theorem execObserverUpdate_life (t : Time) (n : Fin 16) (s : State) : KeepsLife s (execObserverUpdate t n s) := by simp [execObserverUpdate]
@[simp] theorem execWireFault_life (t : Time) (n : Fin 16) (x : PairSeen) (s : State) : KeepsLife s (execWireFault t n x s) := by simp [execWireFault]

@[simp] theorem execFbFaultRecovery_life (t : Time) (n : Fin 16) (s : State) :
    KeepsLife s (execFbFaultRecovery t n s) := by simp [execFbFaultRecovery]

@[simp] theorem execFbTrackEntry_life (t : Time) (n : Fin 16) (s : State) : KeepsLife s (execFbTrackEntry t n s) := by simp [execFbTrackEntry]
@[simp] theorem fbCfgEnable_life (n : Nat) (v : W32) (s : State) : (fbCfgEnable n v s).aon.life = s.aon.life := by simp [fbCfgEnable]

@[simp] theorem execFbEnable_life (t : Time) (a : Actor) (n : Fin 16) (v : W32) (s : State) :
    KeepsLife s (execFbEnable t a n v s) := by simp [execFbEnable]

@[simp] theorem fbCfgDisable_life (n : Nat) (v : W32) (s : State) : (fbCfgDisable n v s).aon.life = s.aon.life := by
  unfold fbCfgDisable
  split <;> rfl

@[simp] theorem execFbDisable_life (t : Time) (a : Actor) (n : Fin 16) (v : W32) (s : State) :
    KeepsLife s (execFbDisable t a n v s) := by simp [execFbDisable]

@[simp] theorem execAinConversion_life (t : Time) (n : Fin 16) (uvolt : Int) (s : State) :
    KeepsLife s (execAinConversion t n uvolt s) := by simp [execAinConversion]

@[simp] theorem latchHold_life (n : Nat) (level : Bool) (s : State) : (latchHold n level s).aon.life = s.aon.life := by rfl

@[simp] theorem execLatchEdge_life (t : Time) (n : Fin 8) (at' : Time) (x : LatchSeen) (s : State) :
    KeepsLife s (execLatchEdge t n at' x s) := by simp [execLatchEdge]

@[simp] theorem emuSetRatio_life (n num den : Nat) (s : State) : (emuSetRatio n num den s).aon.life = s.aon.life := by simp [emuSetRatio]

@[simp] theorem emuRatioAct_life (n : Nat) (den : Bool) (size : Nat) (v : W64) (s : State) :
    (emuRatioAct n den size v s).aon.life = s.aon.life := by simp [emuRatioAct]

@[simp] theorem execEmuRatioWrite_life (t : Time) (a : Actor) (n : Fin 4) (den : Bool) (size : Nat) (v : W64) (s : State) :
    KeepsLife s (execEmuRatioWrite t a n den size v s) := by simp [execEmuRatioWrite]

@[simp] theorem execEmuEdge_life (t : Time) (n : Fin 4) (s : State) : KeepsLife s (execEmuEdge t n s) := by simp [execEmuEdge]

/-! ### Course and pose -/

@[simp] theorem declareLost_life (c : CourseSet) (src : Nat) (s : State) : (declareLost c src s).aon.life = s.aon.life := by simp [declareLost]
@[simp] theorem declareAll_life (c : CourseSet) (bits : Nat) (s : State) : (declareAll c bits s).aon.life = s.aon.life := by simp [declareAll]
@[simp] theorem comeToRest_life (c : CourseSet) (s : State) : (comeToRest c s).aon.life = s.aon.life := by simp [comeToRest]
@[simp] theorem closeSources_life (n : CourseSet) (s : State) : (closeSources n s).aon.life = s.aon.life := by simp [closeSources]
@[simp] theorem goStale_life (hitch : Bool) (s : State) : (goStale hitch s).aon.life = s.aon.life := by simp [goStale]

@[simp] theorem closeImu_life (imu : Option (Time × W32)) (s : State) : (closeImu imu s).aon.life = s.aon.life := by
  unfold closeImu
  dsimp only
  (repeat' split) <;> simp

@[simp] theorem closeSettings_life (n : CourseSet) (s : State) : (closeSettings n s).aon.life = s.aon.life := by rfl
@[simp] theorem closeHitch_life (s : State) : (closeHitch s).aon.life = s.aon.life := by simp [closeHitch]
@[simp] theorem closeSlip_life (s : State) : (closeSlip s).aon.life = s.aon.life := by simp [closeSlip]
@[simp] theorem poseRangeNote_life (x y : Int) (s : State) : (poseRangeNote x y s).aon.life = s.aon.life := by simp [poseRangeNote]
@[simp] theorem setPosition_life (x y : Int) (s : State) : (setPosition x y s).aon.life = s.aon.life := by simp [setPosition]
@[simp] theorem closePose_life (s : State) : (closePose s).aon.life = s.aon.life := by simp [closePose]
@[simp] theorem closeReverse_life (s : State) : (closeReverse s).aon.life = s.aon.life := by simp [closeReverse]
@[simp] theorem closeHistory_life (s : State) : (closeHistory s).aon.life = s.aon.life := by rfl
@[simp] theorem latchRecord_life (cap : Capture) (s : State) : (latchRecord cap s).aon.life = s.aon.life := by simp [latchRecord]
@[simp] theorem closeLatches_life (s : State) : (closeLatches s).aon.life = s.aon.life := by simp [closeLatches]
@[simp] theorem firstSweep_life (s : State) : (firstSweep s).aon.life = s.aon.life := by rfl
@[simp] theorem courseClose_life (imu : Option (Time × W32)) (s : State) : (courseClose imu s).aon.life = s.aon.life := by simp [courseClose]
@[simp] theorem execCoastExpiry_life (t : Time) (s : State) : KeepsLife s (execCoastExpiry t s) := by simp [execCoastExpiry]

@[simp] theorem execHostSourceTimeout_life (t : Time) (s : State) : KeepsLife s (execHostSourceTimeout t s) := by
  unfold execHostSourceTimeout
  dsimp only
  split <;> simp

@[simp] theorem execHostValueStale_life (t : Time) (hitch : Bool) (s : State) :
    KeepsLife s (execHostValueStale t hitch s) := by simp [execHostValueStale]

@[simp] theorem execPpsEdge_life (t : Time) (s : State) : KeepsLife s (execPpsEdge t s) := by simp [execPpsEdge]

@[simp] theorem fixDesc_life (x : Desc) (s : State) : (fixDesc x s).state.aon.life = s.aon.life := by
  unfold fixDesc
  split
  · rfl
  · rfl
  · extract_lets
    split <;> rfl

@[simp] theorem retainShift_life (s : State) : (retainShift s).aon.life = s.aon.life := by rfl

@[simp] theorem setPoseDesc_life (x : Desc) (s : State) : (setPoseDesc x s).state.aon.life = s.aon.life := by
  unfold setPoseDesc
  split <;> simp

@[simp] theorem hostMotionDesc_life (x : Desc) (s : State) : (hostMotionDesc x s).state.aon.life = s.aon.life := by rfl
@[simp] theorem applyFixes_life (s : State) : (applyFixes s).aon.life = s.aon.life := by simp [applyFixes]
@[simp] theorem execFix_life (t : Time) (s : State) : KeepsLife s (execFix t s) := by simp [execFix]
@[simp] theorem execSetPose_life (t : Time) (s : State) : KeepsLife s (execSetPose t s) := by simp [execSetPose]
@[simp] theorem execHostMotion_life (t : Time) (s : State) : KeepsLife s (execHostMotion t s) := by simp [execHostMotion]

/-! ### Frames of the relay link -/

@[simp] theorem sendDown_life (b : FrameBody) (s : State) : (sendDown b s).aon.life = s.aon.life := by rfl
@[simp] theorem sendUp_life (b : FrameBody) (s : State) : (sendUp b s).aon.life = s.aon.life := by rfl

@[simp] theorem pushDown_life (b : FrameBody) (s : State) : (pushDown b s).aon.life = s.aon.life := by
  unfold pushDown
  split <;> rfl

@[simp] theorem pushUp_life (b : FrameBody) (s : State) : (pushUp b s).aon.life = s.aon.life := by
  unfold pushUp
  split <;> rfl

@[simp] theorem refillDown_life (fuel : Nat) (s : State) : (refillDown fuel s).aon.life = s.aon.life := by
  induction fuel generalizing s with
  | zero => rfl
  | succ fuel ih =>
    unfold refillDown
    split <;> simp [ih]

@[simp] theorem refillUp_life (fuel : Nat) (s : State) : (refillUp fuel s).aon.life = s.aon.life := by
  induction fuel generalizing s with
  | zero => rfl
  | succ fuel ih =>
    unfold refillUp
    split <;> simp [ih]

@[simp] theorem takeDown_life (f : Frame) (s : State) : (takeDown f s).aon.life = s.aon.life := by simp [takeDown]
@[simp] theorem takeUp_life (f : Frame) (s : State) : (takeUp f s).aon.life = s.aon.life := by simp [takeUp]

/-! ### Lanes and caravans -/

@[simp] theorem modLane_life (k : Nat) (f : Lane → Lane) (s : State) : (modLane k f s).aon.life = s.aon.life := by rfl
@[simp] theorem modCaravan_life (k : Nat) (f : Caravan → Caravan) (s : State) : (modCaravan k f s).aon.life = s.aon.life := by rfl
@[simp] theorem walk_life (s : State) : (walk s).aon.life = s.aon.life := by simp [walk]
@[simp] theorem setTurn_life (n : Nat) (keys : List Nat) (s : State) : (setTurn n keys s).aon.life = s.aon.life := by rfl
@[simp] theorem walkCounted_life (s : State) : (walkCounted s).aon.life = s.aon.life := by simp [walkCounted]
@[simp] theorem laneFault_life (k bits : Nat) (s : State) : (laneFault k bits s).aon.life = s.aon.life := by rfl
@[simp] theorem poolReturn_life (n : Nat) (s : State) : (poolReturn n s).aon.life = s.aon.life := by rfl
@[simp] theorem laneTrace_life (sub k kind : Nat) (pos : Int) (s : State) : (laneTrace sub k kind pos s).aon.life = s.aon.life := by simp [laneTrace]

@[simp] theorem dispTrace_life (sub k : Nat) (b : Binding) (t : Time) (s : State) :
    (dispTrace sub k b t s).aon.life = s.aon.life := by simp [dispTrace]

/-! ### Coverage -/

@[simp] theorem touchSlot_life (i : Nat) (s : State) : (touchSlot i s).aon.life = s.aon.life := by rfl
@[simp] theorem pinSlot_life (i : Nat) (s : State) : (pinSlot i s).aon.life = s.aon.life := by simp [pinSlot]

@[simp] theorem startWrite_life (i reason : Nat) (forDesc : Option W32) (after : Option (Int × Int × Nat)) (s : State) :
    (startWrite i reason forDesc after s).aon.life = s.aon.life := by
  unfold startWrite
  split <;> rfl

theorem allocSlot_life {tx ty : Int} {kind i : Nat} {b : Bool} {s u : State} (h : allocSlot tx ty kind s = some (i, b, u)) :
    u.aon.life = s.aon.life := by
  unfold allocSlot at h
  dsimp only at h
  split at h
  · cases h
    simp
  · split at h
    · cases h
      simp
    · split at h
      · cases h
        simp
      · split at h
        · split at h
          · cases h
            simp
          · cases h
        · cases h

@[simp] theorem wantTile_life (tx ty : Int) (kind : Nat) (s : State) : (wantTile tx ty kind s).aon.life = s.aon.life := by
  unfold wantTile
  split
  · simp
  · split
    · simp
    · split
      · rfl
      next h => exact allocSlot_life h
      next h => simp [allocSlot_life h]

@[simp] theorem pinHeld_life (keys : List (Int × Int)) (s : State) : (pinHeld keys s).aon.life = s.aon.life := by
  unfold pinHeld
  refine foldl_life (fun s k => ?_) _ s
  split <;> simp

@[simp] theorem wantTiles_life (l : List CellRef) (kind : Nat) (s : State) : (wantTiles l kind s).aon.life = s.aon.life := by simp [wantTiles]
@[simp] theorem evaluate_life (k : Nat) (q : Int) (s : State) : (evaluate k q s).2.aon.life = s.aon.life := by simp [evaluate]

@[simp] theorem allowedAt_life (k : Nat) (p : Int) (s : State) : (allowedAt k p s).2.aon.life = s.aon.life := by
  unfold allowedAt
  dsimp only
  (repeat' split) <;> simp

@[simp] theorem scanLane_life (k : Nat) (s : State) : (scanLane k s).aon.life = s.aon.life := by simp [scanLane]
@[simp] theorem prefetchLane_life (k : Nat) (s : State) : (prefetchLane k s).aon.life = s.aon.life := by simp [prefetchLane]
@[simp] theorem crossEdges_life (k : Nat) (s : State) : (crossEdges k s).aon.life = s.aon.life := by rfl

@[simp] theorem markPoint_life (k : Nat) (c : CellRef) (s : State) : (markPoint k c s).aon.life = s.aon.life := by
  have lost : (markPoint.markLost k c s).aon.life = s.aon.life := by simp [markPoint.markLost]
  unfold markPoint
  split
  · dsimp only
    split
    · split <;> simp
    · exact lost
  · exact lost

@[simp] theorem tileResident_life (tx ty : Int) (s : State) : (tileResident tx ty s).aon.life = s.aon.life := by simp [tileResident]
@[simp] theorem markLane_life (k : Nat) (s : State) : (markLane k s).aon.life = s.aon.life := by simp [markLane]

/-! ### The dispatcher and committed events -/

@[simp] theorem modEvent_life (k id : Nat) (f : LaneEv → LaneEv) (s : State) : (modEvent k id f s).aon.life = s.aon.life := by rfl
@[simp] theorem slotRetime_life (p id : Nat) (t : Time) (s : State) : (slotRetime p id t s).aon.life = s.aon.life := by rfl

@[simp] theorem slotRemove_life (p : Nat) (c : SlotCmd) (s : State) : (slotRemove p c s).aon.life = s.aon.life := by
  unfold slotRemove
  dsimp only
  split
  · split
    · exact cross_life _ _ _ fun _ => rfl
    · rfl
  · rfl

@[simp] theorem slotUnform_life (p id : Nat) (s : State) : (slotUnform p id s).aon.life = s.aon.life := by rfl

@[simp] theorem slotWithdraw_life (p id : Nat) (s : State) : (slotWithdraw p id s).aon.life = s.aon.life := by
  unfold slotWithdraw
  split <;> simp

@[simp] theorem pruneEvents_life (k : Nat) (s : State) : (pruneEvents k s).aon.life = s.aon.life := by rfl
@[simp] theorem laneTurnsOff_life (k : Nat) (e : LaneEv) (s : State) : (laneTurnsOff k e s).aon.life = s.aon.life := by rfl

@[simp] theorem spendEvent_life (k id : Nat) (s : State) : (spendEvent k id s).aon.life = s.aon.life := by
  unfold spendEvent
  split <;> simp

@[simp] theorem disarm_life (n id : Nat) (s : State) : (disarm n id s).aon.life = s.aon.life := by rfl

@[simp] theorem handOver_life (x : DispItem) (s : State) : (handOver x s).aon.life = s.aon.life := by
  unfold handOver
  split <;> simp

@[simp] theorem countLate_life (k : Nat) (late : Int) (s : State) : (countLate k late s).aon.life = s.aon.life := by simp [countLate]
@[simp] theorem missed_life (k : Nat) (b : Binding) (e : LaneEv) (s : State) : (missed k b e s).aon.life = s.aon.life := by simp [missed]

@[simp] theorem noteHanded_life (x : DispItem) (s : State) : (noteHanded x s).aon.life = s.aon.life := by
  unfold noteHanded
  split <;> simp

@[simp] theorem passOn_life (s : State) : (passOn s).aon.life = s.aon.life := by simp [passOn]

@[simp] theorem admitOwed_life (fuel : Nat) (s : State) : (admitOwed fuel s).aon.life = s.aon.life := by
  induction fuel generalizing s with
  | zero => rfl
  | succ fuel ih => simp [admitOwed, ih]

@[simp] theorem handOn_life (s : State) : (handOn s).aon.life = s.aon.life := by simp [handOn]
@[simp] theorem offer_life (x : DispItem) (s : State) : (offer x s).aon.life = s.aon.life := by simp [offer]
@[simp] theorem execDispatchOnToll_life (t : Time) (s : State) : KeepsLife s (execDispatchOnToll t s) := by simp [execDispatchOnToll]
@[simp] theorem commitEvent_life (k : Nat) (e : LaneEv) (s : State) : (commitEvent k e s).aon.life = s.aon.life := by simp [commitEvent]

@[simp] theorem retimeEvent_life (k : Nat) (e : LaneEv) (t : Time) (cross : Int) (v : Int) (delay transport : Nat) (s : State) :
    (retimeEvent k e t cross v delay transport s).aon.life = s.aon.life := by
  unfold retimeEvent
  dsimp only
  (repeat' split) <;> simp

@[simp] theorem withdrawEvent_life (k : Nat) (b : Binding) (e : LaneEv) (s : State) :
    (withdrawEvent k b e s).aon.life = s.aon.life := by simp [withdrawEvent]

@[simp] theorem withdrawAll_life (k : Nat) (b : Binding) (ok : LaneEv → Bool) (s : State) :
    (withdrawAll k b ok s).aon.life = s.aon.life := by simp [withdrawAll]

@[simp] theorem commandOff_life (k : Nat) (s : State) : (commandOff k s).aon.life = s.aon.life := by simp [commandOff]

@[simp] theorem account_life (k kind : Nat) (err : Int) (jitter : Option Int) (s : State) : (account k kind err jitter s).aon.life = s.aon.life := by
  unfold account
  split <;> rfl

@[simp] theorem returnCauses_life (k : Nat) (e : LaneEv) (s : State) : (returnCauses k e s).aon.life = s.aon.life := by rfl
@[simp] theorem laneTurnsOn_life (k : Nat) (e : LaneEv) (s : State) : (laneTurnsOn k e s).aon.life = s.aon.life := by rfl

@[simp] theorem eventExecutes_life (k : Nat) (e : LaneEv) (report : Bool) (s : State) : (eventExecutes k e report s).aon.life = s.aon.life := by
  unfold eventExecutes
  split <;> simp

@[simp] theorem bindingOff_life (k : Nat) (b : Binding) (s : State) : (bindingOff k b s).aon.life = s.aon.life := by simp [bindingOff]

@[simp] theorem strayExecutes_life (k kind d : Nat) (s : State) : (strayExecutes k kind d s).aon.life = s.aon.life := by
  unfold strayExecutes
  split <;> simp

@[simp] theorem executesAt_life (k id kind d : Nat) (report : Bool) (s : State) : (executesAt k id kind d report s).aon.life = s.aon.life := by
  unfold executesAt
  split <;> simp

@[simp] theorem execExecutionInstant_life (t : Time) (k : Fin 4096) (s : State) : KeepsLife s (execExecutionInstant t k s) := by
  unfold execExecutionInstant
  dsimp only
  (repeat' split) <;> simp

@[simp] theorem learn_life (k : Nat) (closing : Bool) (m : Nat) (s : State) : (learn k closing m s).aon.life = s.aon.life := by simp [learn]

@[simp] theorem accountReport_life (k : Nat) (r : Report) (s : State) : (accountReport k r s).aon.life = s.aon.life := by
  unfold accountReport
  dsimp only
  (repeat' split) <;> simp

@[simp] theorem applyReport_life (r : Report) (s : State) : (applyReport r s).aon.life = s.aon.life := by
  unfold applyReport
  dsimp only
  (repeat' split) <;> simp

@[simp] theorem applyReports_life (s : State) : (applyReports s).aon.life = s.aon.life := by simp [applyReports]

/-! ### Bus ports -/

@[simp] theorem setMaster_life (p m : Nat) (s : State) : (setMaster p m s).aon.life = s.aon.life := by simp [setMaster]
@[simp] theorem latchRx_life (p sof : Nat) (s : State) : (latchRx p sof s).aon.life = s.aon.life := by rfl
@[simp] theorem rxCfgWrite_life (p : Nat) (v : W32) (s : State) : (rxCfgWrite p v s).aon.life = s.aon.life := by rfl

@[simp] theorem busDeliver_life (p kind : Nat) (record : List Byte) (s : State) :
    (busDeliver p kind record s).aon.life = s.aon.life := by simp [busDeliver]

@[simp] theorem errRecord_life (p type place position : Nat) (s : State) :
    (errRecord p type place position s).aon.life = s.aon.life := by simp [errRecord]

@[simp] theorem frameRecord_life (p : Nat) (f : BusFrame) (self : Bool) (sof : Time) (s : State) :
    (frameRecord p f self sof s).aon.life = s.aon.life := by simp [frameRecord]

@[simp] theorem sendFrameOut_life (p : Nat) (f : BusFrame) (s : State) : (sendFrameOut p f s).aon.life = s.aon.life := by
  unfold sendFrameOut
  split <;> rfl

@[simp] theorem signalError_life (p : Nat) (mute : Bool) (s : State) : (signalError p mute s).aon.life = s.aon.life := by
  unfold signalError
  split <;> rfl

@[simp] theorem overloads_life (p : Nat) (x : Overload) (s : State) : (overloads p x s).aon.life = s.aon.life := by
  unfold overloads
  dsimp only
  split
  · exact foldl_life (fun _ _ => emit_life _ _) _ _
  · rfl

@[simp] theorem busTrace_life (sub p : Nat) (f : Option BusFrame) (s : State) : (busTrace sub p f s).aon.life = s.aon.life := by
  unfold busTrace
  split <;> simp

@[simp] theorem goBusOff_life (p : Nat) (f : Option BusFrame) (s : State) : (goBusOff p f s).aon.life = s.aon.life := by simp [goBusOff]
@[simp] theorem confine_life (p : Nat) (f : Option BusFrame) (s : State) : (confine p f s).aon.life = s.aon.life := by simp [confine]
@[simp] theorem portBegin_life (p : Nat) (s : State) : (portBegin p s).aon.life = s.aon.life := by simp [portBegin]
@[simp] theorem portStop_life (p : Nat) (s : State) : (portStop p s).aon.life = s.aon.life := by simp [portStop]
@[simp] theorem portEnable_life (p : Nat) (v : W32) (s : State) : (portEnable p v s).aon.life = s.aon.life := by simp [portEnable]

@[simp] theorem execCanPortEnable_life (t : Time) (a : Actor) (p : Fin 32) (v : W32) (s : State) :
    KeepsLife s (execCanPortEnable t a p v s) := by simp [execCanPortEnable]

@[simp] theorem portDisable_life (p : Nat) (v : W32) (s : State) : (portDisable p v s).aon.life = s.aon.life := by simp [portDisable]

@[simp] theorem execCanPortDisable_life (t : Time) (a : Actor) (p : Fin 32) (v : W32) (s : State) :
    KeepsLife s (execCanPortDisable t a p v s) := by simp [execCanPortDisable]

@[simp] theorem execCanIntegrationComplete_life (t : Time) (p : Fin 32) (s : State) :
    KeepsLife s (execCanIntegrationComplete t p s) := by simp [execCanIntegrationComplete]

@[simp] theorem portRecover_life (p : Nat) (v : W32) (s : State) : (portRecover p v s).aon.life = s.aon.life := by simp [portRecover]

@[simp] theorem execRecover_life (t : Time) (a : Actor) (p : Fin 32) (v : W32) (s : State) :
    KeepsLife s (execRecover t a p v s) := by simp [execRecover]

@[simp] theorem execRecoveryComplete_life (t : Time) (p : Fin 32) (s : State) :
    KeepsLife s (execRecoveryComplete t p s) := by simp [execRecoveryComplete]

@[simp] theorem execWakeUp_life (t : Time) (x : WakeSeen) (s : State) : KeepsLife s (execWakeUp t x s) := by simp [execWakeUp]

@[simp] theorem execCanSend_life (t : Time) (p : Fin 32) (s : State) : KeepsLife s (execCanSend t p s) := by
  unfold execCanSend
  dsimp only
  split
  · simp
  · split
    · simp
    · refine (keepsLife_next _ _).mpr ((runDesc_life _ _ _ _ fun x v => ?_).trans (begin'_life t s))
      split <;> rfl

@[simp] theorem startFrame_life (p : Nat) (s : State) : (startFrame p s).aon.life = s.aon.life := by
  unfold startFrame
  dsimp only
  (repeat' split) <;> simp

@[simp] theorem startOutcome_life (p : Nat) (idle : Bool) {s u : State} (h : u.aon.life = s.aon.life) :
    KeepsLife s (startOutcome p idle u) := by simp [startOutcome, h]

@[simp] theorem execCanAttemptStart_life (t : Time) (p : Fin 32) (s : State) : KeepsLife s (execCanAttemptStart t p s) :=
  startOutcome_life _ _ (begin'_life t s)

@[simp] theorem attemptOver_life (p bits : Nat) (s : State) : (attemptOver p bits s).aon.life = s.aon.life := by simp [attemptOver]

@[simp] theorem finishPrio_life (p : Nat) (i : W32) (status : Nat) (result : W32) (s : State) :
    (finishPrio p i status result s).aon.life = s.aon.life := by simp [finishPrio]

@[simp] theorem slotSettle_life (p : Nat) (f : SlotFrame) (s : State) : (slotSettle p f s).aon.life = s.aon.life := by simp [slotSettle]

@[simp] theorem attemptSettle_life (p : Nat) (a : BusAttempt) (s : State) : (attemptSettle p a s).aon.life = s.aon.life := by
  unfold attemptSettle
  split <;> simp

@[simp] theorem slotSent_life (p : Nat) (f : SlotFrame) (s : State) : (slotSent p f s).aon.life = s.aon.life := by
  unfold slotSent
  simp only [handOn_life, bumpBy_aon, modBus_life, setSlotCancels_aon, slotSettle_life, setSlotQueue_aon]
  refine foldl_life (fun s x => ?_) _ s
  split <;> simp

@[simp] theorem txOk_life (p : Nat) (f : BusFrame) (sof : Time) (x : Overload) (s : State) :
    (txOk p f sof x s).aon.life = s.aon.life := by simp [txOk]

@[simp] theorem attemptWon_life (p : Nat) (a : BusAttempt) (x : Overload) (s : State) : (attemptWon p a x s).aon.life = s.aon.life := by
  unfold attemptWon
  dsimp only
  (repeat' split) <;> simp

@[simp] theorem attemptLost_life (p : Nat) (a : BusAttempt) (s : State) : (attemptLost p a s).aon.life = s.aon.life := by
  unfold attemptLost
  split <;> simp

@[simp] theorem countErr_life (p type : Nat) (s : State) : (countErr p type s).aon.life = s.aon.life := by
  unfold countErr
  split <;> rfl

@[simp] theorem txError_life (p type place position : Nat) (x : SentError) (f : BusFrame) (s : State) :
    (txError p type place position x f s).aon.life = s.aon.life := by simp [txError]

@[simp] theorem tdcMeasure_life (p : Nat) (f : BusFrame) (delay : Option Nat) (s : State) : (tdcMeasure p f delay s).aon.life = s.aon.life := by
  unfold tdcMeasure
  split <;> rfl

@[simp] theorem sendingError_life (p type : Nat) (dataPhase : Bool) (position : Nat) (x : SentError) (f : BusFrame) (s : State) :
    (sendingError p type dataPhase position x f s).aon.life = s.aon.life := by simp [sendingError]

@[simp] theorem attemptFailed_life (p : Nat) (a : BusAttempt) (type : Nat) (dataPhase : Bool) (position : Nat) (x : SentError) (s : State) :
    (attemptFailed p a type dataPhase position x s).aon.life = s.aon.life := by
  unfold attemptFailed
  split <;> simp

@[simp] theorem execCanAttemptSuccess_life (t : Time) (p : Fin 32) (lost : Bool) (x : SentFrame) (s : State) :
    KeepsLife s (execCanAttemptSuccess t p lost x s) := by
  unfold execCanAttemptSuccess
  dsimp only
  split <;> simp

@[simp] theorem execCanAttemptError_life (t : Time) (p : Fin 32) (type : Fin 6) (dataPhase : Bool) (position : Nat) (x : SentError) (s : State) :
    KeepsLife s (execCanAttemptError t p type dataPhase position x s) := by
  unfold execCanAttemptError
  dsimp only
  split <;> simp

@[simp] theorem heardOver_life (p : Nat) (s : State) : (heardOver p s).aon.life = s.aon.life := by simp [heardOver]

@[simp] theorem execCanFrameReceived_life (t : Time) (p : Fin 32) (id ctrl : W32) (data : List Byte) (sof : Time) (overload : Overload)
    (s : State) :
    KeepsLife s (execCanFrameReceived t p id ctrl data sof overload s) := by simp [execCanFrameReceived]

@[simp] theorem execCanReceiveError_life (t : Time) (p : Fin 32) (type : Fin 10) (dataPhase : Bool) (position : Nat) (x : HeardError) (s : State) :
    KeepsLife s (execCanReceiveError t p type dataPhase position x s) := by simp [execCanReceiveError]

/-! ### Clocks, resets and crossings: a reset of the control die alone keeps the always-on domain -/

@[simp] theorem warmReset_life (s : State) : (warmReset s).aon.life = s.aon.life := by rfl
@[simp] theorem clockFaultReset_life (pll : Bool) (s : State) : (clockFaultReset pll s).aon.life = s.aon.life := by rfl

@[simp] theorem execWarmReset_life (t : Time) (s : State) : KeepsLife s (execWarmReset t s) := by
  unfold execWarmReset
  dsimp only
  split <;> simp

@[simp] theorem execClockFaultReset_life (t : Time) (pll : Bool) (s : State) : KeepsLife s (execClockFaultReset t pll s) := by
  unfold execClockFaultReset
  dsimp only
  split <;> simp

@[simp] theorem fbDomainReset_life (s : State) : (fbDomainReset s).aon.life = s.aon.life := by rfl
@[simp] theorem busDomainReset_life (s : State) : (busDomainReset s).aon.life = s.aon.life := by rfl
@[simp] theorem ethDomainReset_life (s : State) : (ethDomainReset s).aon.life = s.aon.life := by rfl
@[simp] theorem domainReset_life (d : Nat) (s : State) : (domainReset d s).aon.life = s.aon.life := by simp [domainReset]
@[simp] theorem execDomainReset_life (t : Time) (d : Fin 3) (s : State) : KeepsLife s (execDomainReset t d s) := by simp [execDomainReset]

@[simp] theorem execDomainResetRelease_life (t : Time) (d : Fin 3) (healthy : Time) (s : State) :
    KeepsLife s (execDomainResetRelease t d healthy s) := by simp [execDomainResetRelease]

@[simp] theorem clockFault_life (bit : Nat) (s : State) : (clockFault bit s).aon.life = s.aon.life := by simp [clockFault]

@[simp] theorem execReferenceClockFault_life (x : ClockSeen) (s : State) :
    KeepsLife s (execReferenceClockFault x s) := by simp [execReferenceClockFault]

@[simp] theorem execPllLockLost_life (t : Time) (s : State) : KeepsLife s (execPllLockLost t s) := by simp [execPllLockLost]
@[simp] theorem execPllLock_life (t : Time) (pll : Fin 3) (edges : Nat) (s : State) : KeepsLife s (execPllLock t pll edges s) := by simp [execPllLock]

@[simp] theorem execDomainClockFault_life (t : Time) (x : DomainSeen) (s : State) :
    KeepsLife s (execDomainClockFault t x s) := by simp [execDomainClockFault]

@[simp] theorem execEthLockLost_life (t : Time) (s : State) : KeepsLife s (execEthLockLost t s) := by simp [execEthLockLost]
@[simp] theorem execPipeLockLost_life (t : Time) (s : State) : KeepsLife s (execPipeLockLost t s) := by simp [execPipeLockLost]
@[simp] theorem execRtcClockFault_life (x : ClockSeen) (s : State) : KeepsLife s (execRtcClockFault x s) := by simp [execRtcClockFault]
@[simp] theorem execPerst_life (t : Time) (low : Bool) (s : State) : KeepsLife s (execPerst t low s) := by simp [execPerst]
@[simp] theorem driveDieReset_life (s : State) : (driveDieReset s).aon.life = s.aon.life := by rfl
@[simp] theorem execDriveDieReset_life (x : DriveSupplySeen) (s : State) : KeepsLife s (execDriveDieReset x s) := by simp [execDriveDieReset]

@[simp] theorem execDriveDieResetRelease_life (x : DriveSupplyGood) (s : State) :
    KeepsLife s (execDriveDieResetRelease x s) := by simp [execDriveDieResetRelease]

@[simp] theorem execDriveOscillatorFault_life (x : OscillatorSeen) (s : State) :
    KeepsLife s (execDriveOscillatorFault x s) := by simp [execDriveOscillatorFault]

@[simp] theorem crossLose_life (k : Nat) (s : State) : (crossLose k s).aon.life = s.aon.life := by simp [crossLose]
@[simp] theorem loseFetched_life (k n : Nat) (s : State) : (loseFetched k n s).aon.life = s.aon.life := by simp [loseFetched]
@[simp] theorem loseSlots_life (p : Nat) (s : State) : (loseSlots p s).aon.life = s.aon.life := by simp [loseSlots]
@[simp] theorem loseConvoy_life (s : State) : (loseConvoy s).aon.life = s.aon.life := by simp [loseConvoy]
@[simp] theorem loseHeld_life (k : Nat) (s : State) : (loseHeld k s).aon.life = s.aon.life := by simp [loseHeld]

@[simp] theorem execCrossingFarReset_life (t : Time) (k : Fin 18) (s : State) :
    KeepsLife s (execCrossingFarReset t k s) := by simp [execCrossingFarReset]

@[simp] theorem execCrossingRestart_life (t : Time) (k : Fin 18) (s : State) :
    KeepsLife s (execCrossingRestart t k s) := by simp [execCrossingRestart]

/-! ### Milestones and transitions -/

@[simp] theorem settleEntry_life (k : Nat) (m : Milestone) (s : State) : (settleEntry k m s).aon.life = s.aon.life := by simp [settleEntry]
@[simp] theorem countVeto_life (k : Nat) (pos : Int) (kind : Nat) (s : State) : (countVeto k pos kind s).aon.life = s.aon.life := by simp [countVeto]

@[simp] theorem crossAt_life (k : Nat) (pos : Int) (ms : List Milestone) (s : State) : (crossAt k pos ms s).aon.life = s.aon.life := by
  unfold crossAt
  dsimp only
  split <;> simp

@[simp] theorem settleRefs_life (k : Nat) (s : State) : (settleRefs k s).aon.life = s.aon.life := by rfl

@[simp] theorem crossAll_life (fuel k : Nat) (s : State) : (crossAll fuel k s).aon.life = s.aon.life := by
  induction fuel generalizing s with
  | zero => rfl
  | succ fuel ih =>
    unfold crossAll
    dsimp only
    split <;> simp [ih]

@[simp] theorem crossInserted_life (k : Nat) (s : State) : (crossInserted k s).aon.life = s.aon.life := by simp [crossInserted]
@[simp] theorem forgetPassed_life (k : Nat) (s : State) : (forgetPassed k s).aon.life = s.aon.life := by rfl
@[simp] theorem reassertOn_life (k : Nat) (t : Time) (s : State) : (reassertOn k t s).aon.life = s.aon.life := by simp [reassertOn]
@[simp] theorem undoAhead_life (k : Nat) (s : State) : (undoAhead k s).aon.life = s.aon.life := by rfl
@[simp] theorem dropOverdue_life (k : Nat) (gone : Overdue → Bool) (s : State) : (dropOverdue k gone s).aon.life = s.aon.life := by rfl
@[simp] theorem undoEdges_life (k : Nat) (s : State) : (undoEdges k s).aon.life = s.aon.life := by rfl
@[simp] theorem visitHolds_life (k : Nat) (s : State) : (visitHolds k s).aon.life = s.aon.life := by simp [visitHolds]
@[simp] theorem visitRate_life (k : Nat) (s : State) : (visitRate k s).aon.life = s.aon.life := by simp [visitRate]

@[simp] theorem visitRetime_life (k : Nat) (s : State) : (visitRetime k s).aon.life = s.aon.life := by
  unfold visitRetime
  refine (foldl_pair_life (fun acc id => ?_) _ _).trans (modLane_life _ _ _)
  dsimp only
  (repeat' split) <;> simp

@[simp] theorem walkStops_life (k : Nat) (l : List Int) (w : WalkAt) (s : State) : (walkStops k l w s).2.aon.life = s.aon.life := by
  induction l generalizing w s with
  | nil => rfl
  | cons p rest ih =>
    unfold walkStops
    extract_lets l past inGap ms want rate
    split
    · rfl
    · rcases asked : (if want.on = true then allowedAt k p s else (true, s)) with ⟨ok, v⟩
      have kept : v.aon.life = s.aon.life := by
        split at asked
        · exact congrArg (·.2.aon.life) asked ▸ allowedAt_life k p s
        · cases asked; rfl
      exact (ih _ _).trans kept

@[simp] theorem transitionsAhead_life (k : Nat) (s : State) : (transitionsAhead k s).2.aon.life = s.aon.life := by
  unfold transitionsAhead
  dsimp only
  split <;> simp

@[simp] theorem bridgePair_life (k kind : Nat) (off on : Int) (s : State) : (bridgePair k kind off on s).aon.life = s.aon.life := by simp [bridgePair]

@[simp] theorem commitTrans_life (k : Nat) (t : Trans) (cross exec : Int) (entries : Nat) (s : State) :
    (commitTrans k t cross exec entries s).aon.life = s.aon.life := by simp [commitTrans]

@[simp] theorem commitOverdue_life (fuel k : Nat) (l : List Trans) (s : State) : (commitOverdue fuel k l s).aon.life = s.aon.life := by
  induction fuel generalizing s with
  | zero => rfl
  | succ fuel ih =>
    unfold commitOverdue
    dsimp only
    split
    · rfl
    · split <;> simp [ih]

@[simp] theorem bridgeBehind_life (k : Nat) (l : List Trans) (s : State) : (bridgeBehind k l s).aon.life = s.aon.life := by
  unfold bridgeBehind
  refine foldl_life (fun s e => ?_) _ s
  dsimp only
  split <;> simp

@[simp] theorem commitAhead_life (k : Nat) (b : Bool) (l : List Trans) (s : State) : (commitAhead k b l s).aon.life = s.aon.life := by
  induction l generalizing s with
  | nil => rfl
  | cons t rest ih =>
    unfold commitAhead
    dsimp only
    (repeat' split) <;> simp [ih]

@[simp] theorem dropStale_life (k : Nat) (w : WalkAt) (s : State) : (dropStale k w s).aon.life = s.aon.life := by simp [dropStale]
@[simp] theorem planLane_life (k : Nat) (inserted : Bool) (s : State) : (planLane k inserted s).aon.life = s.aon.life := by simp [planLane]
@[simp] theorem visitPolicy_life (k : Nat) (s : State) : (visitPolicy k s).aon.life = s.aon.life := by simp [visitPolicy]
@[simp] theorem visitLane_life (k : Nat) (s : State) : (visitLane k s).aon.life = s.aon.life := by simp [visitLane]

/-! ### Waybills -/

@[simp] theorem clearLane_life (k : Nat) (s : State) : (clearLane k s).2.aon.life = s.aon.life := by simp [clearLane]

@[simp] theorem laneConfig_life (owner : Option Nat) (k : Nat) (bytes : List Byte) (s : State) :
    (laneConfig owner k bytes s).state.aon.life = s.aon.life := by
  unfold laneConfig
  dsimp only
  (repeat' split) <;> simp

@[simp] theorem laneRelease_life (k : Nat) (s : State) : (laneRelease k s).state.aon.life = s.aon.life := by
  unfold laneRelease
  split <;> simp

@[simp] theorem caravanConfig_life (owner : Option Nat) (k : Nat) (bytes : List Byte) (s : State) :
    (caravanConfig owner k bytes s).state.aon.life = s.aon.life := by
  unfold caravanConfig
  extract_lets
  (repeat' split) <;> rfl

@[simp] theorem caravanRelease_life (k : Nat) (s : State) : (caravanRelease k s).state.aon.life = s.aon.life := by
  unfold caravanRelease
  (repeat' split) <;> rfl

@[simp] theorem attach_life (t : Target) (bytes : List Byte) (s : State) : (attach t bytes s).state.aon.life = s.aon.life := by
  unfold attach
  dsimp only
  (repeat' split) <;> simp

@[simp] theorem inhibit_life (t : Target) (bytes : List Byte) (s : State) : (inhibit t bytes s).state.aon.life = s.aon.life := by
  unfold inhibit
  split <;> rfl

@[simp] theorem setRate_life (t : Target) (bytes : List Byte) (s : State) : (setRate t bytes s).state.aon.life = s.aon.life := by
  unfold setRate
  split <;> rfl

@[simp] theorem setDelayLane_life (bytes : List Byte) (k : Nat) (s : State) : (setDelayLane bytes k s).aon.life = s.aon.life := by simp [setDelayLane]

@[simp] theorem clearFaultLane_life (owner : Option Nat) (k : Nat) (s : State) : (clearFaultLane owner k s).aon.life = s.aon.life := by
  unfold clearFaultLane
  dsimp only
  split <;> simp

@[simp] theorem placeOne_life (k : Nat) (pos : Int) (kind value ref : Nat) (given : Int) (s : State) :
    (placeOne k pos kind value ref given s).aon.life = s.aon.life := by simp [placeOne]

@[simp] theorem placeEntries_life (k : Nat) (es : List MarkEntry) (s : State) : (placeEntries k es s).aon.life = s.aon.life := by simp [placeEntries]

@[simp] theorem markLanes_life (es : List MarkEntry) (ks : List Nat) (s : State) : (markLanes es ks s).state.aon.life = s.aon.life := by
  unfold markLanes
  dsimp only
  (repeat' split) <;> simp

@[simp] theorem cancelLane_life (lo hi : Int) (kinds k : Nat) (s : State) : (cancelLane lo hi kinds k s).2.aon.life = s.aon.life := by
  unfold cancelLane
  dsimp only
  split <;> simp

@[simp] theorem cancelLanes_life (bytes : List Byte) (shift : Int) (ks : List Nat) (s : State) :
    (cancelLanes bytes shift ks s).state.aon.life = s.aon.life := by
  unfold cancelLanes
  extract_lets lo hi
  split
  · rfl
  · exact foldl_pair_life (f := fun (acc : Nat × State) k =>
      (acc.1 + (cancelLane lo hi (u8 bytes 28 % 64) k acc.2).1, (cancelLane lo hi (u8 bytes 28 % 64) k acc.2).2))
      (fun _ _ => cancelLane_life _ _ _ _ _) ks (0, s)

@[simp] theorem localPart_life (op : Nat) (owner : Option Nat) (shift : Option Int) (t : Target) (bytes : List Byte) (s : State) :
    (localPart op owner shift t bytes s).state.aon.life = s.aon.life := by
  unfold localPart
  (repeat' split) <;> simp

@[simp] theorem waybill_life (op : Nat) (owner : Option Nat) (shift : Option Int) (bytes : List Byte) (s : State) :
    (waybill op owner shift bytes s).state.aon.life = s.aon.life := by
  unfold waybill
  dsimp only
  (repeat' split) <;> simp

@[simp] theorem sendConvoy_life (port node : Nat) (bytes : List Byte) (s : State) :
    (sendConvoy port node bytes s).aon.life = s.aon.life := by simp [sendConvoy]

@[simp] theorem forwardPart_life (ring : Nat) (index : W32) (part : Nat × List Byte) (s : State) :
    (forwardPart ring index part s).aon.life = s.aon.life := by
  unfold forwardPart
  dsimp only
  split <;> simp

@[simp] theorem openForward_life (f : Forwarded) (s : State) : (openForward f s).aon.life = s.aon.life := by rfl

@[simp] theorem keepOpen_life (f : Forwarded) (w : WbResult) : (keepOpen f w).aon.life = w.state.aon.life := by
  unfold keepOpen
  dsimp only
  split <;> simp

@[simp] theorem waybillDesc_life (n op : Nat) (x : Desc) (s : State) : (waybillDesc n op x s).state.aon.life = s.aon.life := by
  unfold waybillDesc
  dsimp only
  split <;> simp

@[simp] theorem waybillCmd_life (n op : Nat) (s : State) : (waybillCmd n op s).aon.life = s.aon.life := by
  unfold waybillCmd
  split <;> simp

@[simp] theorem execDescriptorFetch_life (t : Time) (n : Fin 128) (s : State) :
    KeepsLife s (execDescriptorFetch t n s) := by simp [execDescriptorFetch]

@[simp] theorem execLaneConfig_life (t : Time) (n : Fin 128) (s : State) : KeepsLife s (execLaneConfig t n s) := by simp [execLaneConfig]
@[simp] theorem execCaravanConfig_life (t : Time) (n : Fin 128) (s : State) : KeepsLife s (execCaravanConfig t n s) := by simp [execCaravanConfig]
@[simp] theorem execAttach_life (t : Time) (n : Fin 128) (s : State) : KeepsLife s (execAttach t n s) := by simp [execAttach]
@[simp] theorem execRelease_life (t : Time) (n : Fin 128) (s : State) : KeepsLife s (execRelease t n s) := by simp [execRelease]
@[simp] theorem execInhibit_life (t : Time) (n : Fin 128) (s : State) : KeepsLife s (execInhibit t n s) := by simp [execInhibit]
@[simp] theorem execSetRate_life (t : Time) (n : Fin 128) (s : State) : KeepsLife s (execSetRate t n s) := by simp [execSetRate]
@[simp] theorem execSetDelay_life (t : Time) (n : Fin 128) (s : State) : KeepsLife s (execSetDelay t n s) := by simp [execSetDelay]
@[simp] theorem execClearFault_life (t : Time) (n : Fin 128) (s : State) : KeepsLife s (execClearFault t n s) := by simp [execClearFault]
@[simp] theorem execQuery_life (t : Time) (n : Fin 128) (s : State) : KeepsLife s (execQuery t n s) := by simp [execQuery]
@[simp] theorem execMark_life (t : Time) (n : Fin 128) (s : State) : KeepsLife s (execMark t n s) := by simp [execMark]
@[simp] theorem execCancel_life (t : Time) (n : Fin 128) (s : State) : KeepsLife s (execCancel t n s) := by simp [execCancel]

/-! ### The convoy -/

@[simp] theorem modConvoy_life (f : Convoy → Convoy) (s : State) : (modConvoy f s).aon.life = s.aon.life := by rfl

@[simp] theorem imwaldHeard_life (p id : Nat) (k : State → Host.Outcome State Fault Refusal) {s u : State}
    (h : u.aon.life = s.aon.life) (hk : KeepsLife s (k u)) : KeepsLife s (imwaldHeard p id k u) := by
  simp [imwaldHeard, h, hk]

@[simp] theorem yieldMaster_life (p : Nat) (s : State) : (yieldMaster p s).aon.life = s.aon.life := by simp [yieldMaster]

@[simp] theorem execAdmitFrame_life (t : Time) (p : Fin 32) (node : BitVec 8) (frame : List Byte) (s : State) :
    KeepsLife s (execAdmitFrame t p node frame s) := by
  refine imwaldHeard_life _ _ _ (begin'_life t s) ?_
  dsimp only
  (repeat' split) <;> simp

@[simp] theorem leaveConvoy_life (s : State) : (leaveConvoy s).aon.life = s.aon.life := by rfl

@[simp] theorem execJoined_life (t : Time) (p : Fin 32) (node : BitVec 8) (frame : List Byte) (s : State) :
    KeepsLife s (execJoined t p node frame s) := by
  refine imwaldHeard_life _ _ _ (begin'_life t s) ?_
  split <;> simp

@[simp] theorem execShare_life (t : Time) (p : Fin 32) (node : BitVec 8) (frame : List Byte) (s : State) :
    KeepsLife s (execShare t p node frame s) := by
  refine imwaldHeard_life _ _ _ (begin'_life t s) ?_
  split <;> simp

@[simp] theorem execConvoyReport_life (t : Time) (p : Fin 32) (node : BitVec 8) (frame : List Byte) (s : State) :
    KeepsLife s (execConvoyReport t p node frame s) := by
  refine imwaldHeard_life _ _ _ (begin'_life t s) ?_
  dsimp only
  split <;> simp

@[simp] theorem execProxySilent_life (t : Time) (k : Fin 2048) (s : State) : KeepsLife s (execProxySilent t k s) := by simp [execProxySilent]
@[simp] theorem execParentSilent_life (t : Time) (s : State) : KeepsLife s (execParentSilent t s) := by simp [execParentSilent]

@[simp] theorem sendDone_life (slot status result : Nat) (record : List Byte) (s : State) :
    (sendDone slot status result record s).aon.life = s.aon.life := by simp [sendDone]

@[simp] theorem applyForwarded_life (slot op : Nat) (bytes : List Byte) (s : State) :
    (applyForwarded slot op bytes s).aon.life = s.aon.life := by simp [applyForwarded]

@[simp] theorem drainForwarded_life (fuel : Nat) (x : Bool × State) : (drainForwarded fuel x).2.aon.life = x.2.aon.life := by
  induction fuel generalizing x with
  | zero => rfl
  | succ fuel ih =>
    unfold drainForwarded
    split
    · rfl
    · split <;> simp [ih]

@[simp] theorem forwardOutcome_life {s u : State} (h : u.aon.life = s.aon.life) : KeepsLife s (forwardOutcome u) := by
  simp [forwardOutcome, h]

@[simp] theorem execWaybill_life (t : Time) (p : Fin 32) (node : BitVec 8) (op : Nat) (frame : List Byte) (s : State) :
    KeepsLife s (execWaybill t p node op frame s) := by
  refine imwaldHeard_life _ _ _ (begin'_life t s) ?_
  dsimp only
  split <;> simp

@[simp] theorem finishForward_life (f : Forwarded) (record : List Byte) (s : State) :
    (finishForward f record s).aon.life = s.aon.life := by simp [finishForward]

@[simp] theorem partDone_life (x : Part) (status result : Nat) (s : State) : (partDone x status result s).aon.life = s.aon.life := by
  unfold partDone
  dsimp only
  split <;> simp

@[simp] theorem unplace_life (d : MarkDue) (s : State) : (unplace d s).aon.life = s.aon.life := by simp [unplace]

@[simp] theorem judgeMark_life (d : MarkDue) (s : State) : (judgeMark d s).aon.life = s.aon.life := by
  unfold judgeMark
  dsimp only
  split <;> simp

@[simp] theorem judgeMarks_life (s : State) : (judgeMarks s).aon.life = s.aon.life := by simp [judgeMarks]

@[simp] theorem execDone_life (t : Time) (p : Fin 32) (node : BitVec 8) (frame : List Byte) (s : State) :
    KeepsLife s (execDone t p node frame s) := by
  refine imwaldHeard_life _ _ _ (begin'_life t s) ?_
  split
  · simp
  · split <;> simp

@[simp] theorem execRecord_life (t : Time) (p : Fin 32) (node : BitVec 8) (frame : List Byte) (s : State) :
    KeepsLife s (execRecord t p node frame s) := by
  refine imwaldHeard_life _ _ _ (begin'_life t s) ?_
  dsimp only
  split <;> simp

@[simp] theorem execForwardTimeout_life (t : Time) (k : Fin 2048) (tag : Fin 64) (s : State) : KeepsLife s (execForwardTimeout t k tag s) := by
  unfold execForwardTimeout
  dsimp only
  (repeat' split) <;> simp

@[simp] theorem takeShare_life (s : State) : (takeShare s).aon.life = s.aon.life := by
  unfold takeShare
  split <;> rfl

/-! ### PWM -/

@[simp] theorem modPwmCh_life (n : Nat) (f : PwmCh → PwmCh) (s : State) : (modPwmCh n f s).aon.life = s.aon.life := by rfl
@[simp] theorem pwmTrace_life (sub n cause : Nat) (s : State) : (pwmTrace sub n cause s).aon.life = s.aon.life := by simp [pwmTrace]
@[simp] theorem enterSafe_life (n cause : Nat) (s : State) : (enterSafe n cause s).aon.life = s.aon.life := by simp [enterSafe]
@[simp] theorem leaveSafe_life (n : Nat) (s : State) : (leaveSafe n s).aon.life = s.aon.life := by simp [leaveSafe]

@[simp] theorem withStatus_life (also : Nat → Bool) (f : State → State) (s : State) (hf : ∀ s, (f s).aon.life = s.aon.life) :
    (withStatus also f s).aon.life = s.aon.life := by simp [withStatus, hf]

@[simp] theorem pwmArmed_life (n : Nat) (s : State) : (pwmArmed n s).aon.life = s.aon.life := by
  unfold pwmArmed
  dsimp only
  split <;> simp

@[simp] theorem pwmReload_life (n w j : Nat) (tickOf : PwmCh → Nat) (s : State) :
    (pwmReload n w j tickOf s).aon.life = s.aon.life := by simp [pwmReload]

@[simp] theorem syncOutput_life (sync : Nat → Nat → State → State) (m w : Nat) (s : State) (hsync : ∀ x y s, (sync x y s).aon.life = s.aon.life) :
    (syncOutput sync m w s).aon.life = s.aon.life := by simp [syncOutput, hsync]

@[simp] theorem syncModule_life (fuel m w : Nat) (s : State) : (syncModule fuel m w s).aon.life = s.aon.life := by
  induction fuel generalizing m w s with
  | zero => rfl
  | succ fuel ih =>
    unfold syncModule
    simp [ih]

@[simp] theorem tickZero_life (n w : Nat) (s : State) : (tickZero n w s).aon.life = s.aon.life := by simp [tickZero]
@[simp] theorem execPwmReload_life (t : Time) (n : Fin 48) (s : State) : KeepsLife s (execPwmReload t n s) := by simp [execPwmReload]
@[simp] theorem pwmCfgEnable_life (n : Nat) (v : W32) (s : State) : (pwmCfgEnable n v s).aon.life = s.aon.life := by simp [pwmCfgEnable]

@[simp] theorem execPwmEnable_life (t : Time) (a : Actor) (n : Fin 48) (v : W32) (s : State) :
    KeepsLife s (execPwmEnable t a n v s) := by simp [execPwmEnable]

@[simp] theorem pwmCfgDisable_life (n : Nat) (v : W32) (s : State) : (pwmCfgDisable n v s).aon.life = s.aon.life := by simp [pwmCfgDisable]

@[simp] theorem execPwmDisable_life (t : Time) (a : Actor) (n : Fin 48) (v : W32) (s : State) :
    KeepsLife s (execPwmDisable t a n v s) := by simp [execPwmDisable]

@[simp] theorem pwmSetCmp_life (n : Nat) (v : W32) (s : State) : (pwmSetCmp n v s).aon.life = s.aon.life := by rfl
@[simp] theorem pwmForceCmp_life (n : Nat) (v : W32) (s : State) : (pwmForceCmp n v s).aon.life = s.aon.life := by rfl
@[simp] theorem pwmWriteCmp_life (a : Actor) (n : Nat) (v : W32) (s : State) : (pwmWriteCmp a n v s).aon.life = s.aon.life := by simp [pwmWriteCmp]
@[simp] theorem pwmWritePer_life (n : Nat) (v : W32) (s : State) : (pwmWritePer n v s).aon.life = s.aon.life := by rfl

@[simp] theorem execPwmCmpPerWrite_life (t : Time) (a : Actor) (n : Fin 48) (v : W64) (s : State) :
    KeepsLife s (execPwmCmpPerWrite t a n v s) := by simp [execPwmCmpPerWrite]

@[simp] theorem execPwmShadowWrite_life (t : Time) (a : Actor) (n : Fin 48) (per : Bool) (v : W32) (s : State) :
    KeepsLife s (execPwmShadowWrite t a n per v s) := by simp [execPwmShadowWrite]

@[simp] theorem pwmLoopWrite_life (n : Nat) (cmp : Option W32) (per : Option W32) (s : State) : (pwmLoopWrite n cmp per s).aon.life = s.aon.life := by
  unfold pwmLoopWrite
  dsimp only
  (repeat' split) <;> simp

@[simp] theorem pwmLaneCmp_life (n d : Nat) (s : State) : (pwmLaneCmp n d s).aon.life = s.aon.life := by simp [pwmLaneCmp]
@[simp] theorem heapTake_life (id : Nat) (s : State) : (heapTake id s).aon.life = s.aon.life := by simp [heapTake]

theorem pwmTake_life {s u : State} {n kind : Nat} {e : LaneEv} (h : pwmTake s n kind = some (e, u)) : u.aon.life = s.aon.life := by
  unfold pwmTake at h
  split at h
  · cases h
  · split at h
    · split at h
      · cases h
        simp
      · cases h
    · cases h

@[simp] theorem execPwmLaneOn_life (t : Time) (n : Fin 48) (s : State) : KeepsLife s (execPwmLaneOn t n s) := by
  unfold execPwmLaneOn
  dsimp only
  split
  next taken _ => simp [pwmTake_life taken]
  next taken _ => simp [pwmTake_life taken]
  · simp

@[simp] theorem pwmCut_life (n : Nat) (s : State) : (pwmCut n s).aon.life = s.aon.life := by simp [pwmCut]

@[simp] theorem execPwmLaneOff_life (t : Time) (n : Fin 48) (s : State) : KeepsLife s (execPwmLaneOff t n s) := by
  unfold execPwmLaneOff
  dsimp only
  split
  · simp
  next taken =>
    refine (keepsLife_next _ _).mpr ((cross_life _ _ _ fun s => ?_).trans ((pwmTake_life taken).trans (begin'_life t s)))
    split <;> simp

@[simp] theorem pwmRate_life (n : Nat) (e : LaneEv) (s : State) : (pwmRate n e s).aon.life = s.aon.life := by
  refine cross_life _ _ _ fun s => ?_
  dsimp only
  split <;> simp

@[simp] theorem execPwmRateWrite_life (t : Time) (n : Fin 48) (s : State) : KeepsLife s (execPwmRateWrite t n s) := by
  unfold execPwmRateWrite
  dsimp only
  split
  · simp
  next taken => simp [pwmTake_life taken]

@[simp] theorem pwmUntimed_life (s : State) : (pwmUntimed s).aon.life = s.aon.life := by simp [pwmUntimed]
@[simp] theorem execPwmSync_life (t : Time) (late : Bool) (s : State) : KeepsLife s (execPwmSync t late s) := by simp [execPwmSync]
@[simp] theorem pwmModSync_life (m : Nat) (v : W32) (s : State) : (pwmModSync m v s).aon.life = s.aon.life := by simp [pwmModSync]

@[simp] theorem execPwmModSyncGo_life (t : Time) (a : Actor) (m : Fin 6) (v : W32) (s : State) :
    KeepsLife s (execPwmModSyncGo t a m v s) := by simp [execPwmModSyncGo]

@[simp] theorem pwmTripCh_life (n : Nat) (s : State) : (pwmTripCh n s).aon.life = s.aon.life := by
  unfold pwmTripCh
  dsimp only
  (repeat' split) <;> simp

@[simp] theorem tripsAsserted_life (was since : Nat) (s : State) : (tripsAsserted was since s).aon.life = s.aon.life := by simp [tripsAsserted]

@[simp] theorem execPwmTrip_life (t : Time) (pins : BitVec 12) (held merged : Nat) (s : State) :
    KeepsLife s (execPwmTrip t pins held merged s) := by simp [execPwmTrip]

@[simp] theorem pwmRestart_life (s : State) : (pwmRestart s).aon.life = s.aon.life := by simp [pwmRestart]
@[simp] theorem pwmClockLost_life (s : State) : (pwmClockLost s).aon.life = s.aon.life := by simp [pwmClockLost]

@[simp] theorem execPwmClockFault_life (t : Time) (edges : Nat) (s : State) : KeepsLife s (execPwmClockFault t edges s) := by
  unfold execPwmClockFault
  dsimp only
  split <;> simp

@[simp] theorem pwmHalt_life (k : Nat) (s : State) : (pwmHalt k s).aon.life = s.aon.life := by simp [pwmHalt]
@[simp] theorem pwmStatWrite_life (n : Nat) (v : W32) (s : State) : (pwmStatWrite n v s).aon.life = s.aon.life := by rfl

@[simp] theorem execPwmStatClear_life (t : Time) (a : Actor) (n : Fin 48) (v : W32) (s : State) :
    KeepsLife s (execPwmStatClear t a n v s) := by simp [execPwmStatClear]

/-! ### Security: violations write latches beside the counters -/

@[simp] theorem dirLoad_life (s : State) : (dirLoad s).aon.life = s.aon.life := by
  unfold dirLoad
  dsimp only
  split <;> simp

@[simp] theorem dirWrite_life (f : Security → Security) (s : State) : (dirWrite f s).aon.life = s.aon.life := by rfl

@[simp] theorem setSlotValid_life (k b : Nat) (v : Bool) (s : State) : (setSlotValid k b v s).aon.life = s.aon.life := by
  unfold setSlotValid
  split <;> rfl

@[simp] theorem countCheck_life (checked passed : Bool) (s : State) : (countCheck checked passed s).aon.life = s.aon.life := by
  unfold countCheck
  split <;> rfl

@[simp] theorem verifySlot_life (k b : Nat) (fits : Image → Bool) (s : State) : (verifySlot k b fits s).2.aon.life = s.aon.life := by
  unfold verifySlot
  dsimp only
  split <;> simp

@[simp] theorem revertTrial_life (k : Nat) (s : State) : (revertTrial k s).aon.life = s.aon.life := by simp [revertTrial]

@[simp] theorem chooseSlot_life (k : Nat) (fits : Image → Bool) (s : State) : (chooseSlot k fits s).2.aon.life = s.aon.life := by
  unfold chooseSlot
  dsimp only
  (repeat' split) <;> simp

@[simp] theorem revokeAndReset_life (s : State) : (revokeAndReset s).aon.life = s.aon.life := by simp [revokeAndReset]

@[simp] theorem violation_life (src : Nat) (s : State) : (violation src s).aon.life = s.aon.life := by
  unfold violation
  extract_lets lv reported entered latched alarmed killed
  have kept : alarmed.aon.life = s.aon.life := by
    change entered.aon.life = _
    simp only [entered, reported, life_ite, enterAll_life, ledgerReport_life, notify_life, ite_self]
  split
  · exact (revokeAndReset_life _).trans kept
  · exact kept

@[simp] theorem execVoltageGlitch_life (x : VoltageSeen) (s : State) : KeepsLife s (execVoltageGlitch x s) := by simp [execVoltageGlitch]
@[simp] theorem execClockGlitch_life (x : PhaseSeen) (s : State) : KeepsLife s (execClockGlitch x s) := by simp [execClockGlitch]

@[simp] theorem execTemperatureViolation_life (x : TemperatureSeen) (s : State) :
    KeepsLife s (execTemperatureViolation x s) := by simp [execTemperatureViolation]

@[simp] theorem execMeshViolation_life (t : Time) (s : State) : KeepsLife s (execMeshViolation t s) := by simp [execMeshViolation]

@[simp] theorem execSignatureViolation_life (t : Time) (s : State) : KeepsLife s (execSignatureViolation t s) := by
  unfold execSignatureViolation
  dsimp only
  split
  · exact (keepsLife_next _ _).mpr (violation_life _ _)
  · simp

@[simp] theorem execRegionFaultViolation_life (t : Time) (s : State) :
    KeepsLife s (execRegionFaultViolation t s) := by simp [execRegionFaultViolation]

@[simp] theorem execLockstepMismatch_life (t : Time) (s : State) : KeepsLife s (execLockstepMismatch t s) := by simp [execLockstepMismatch]

@[simp] theorem execMonitorWatchdogExpiry_life (t : Time) (s : State) :
    KeepsLife s (execMonitorWatchdogExpiry t s) := by simp [execMonitorWatchdogExpiry]

@[simp] theorem setCore_life (k : Nat) (c : CoreState) (s : State) : (setCore k c s).aon.life = s.aon.life := by rfl
@[simp] theorem execCoreWdogKick_life (t : Time) (k : Fin 4) (s : State) : KeepsLife s (execCoreWdogKick t k s) := by simp [execCoreWdogKick]
@[simp] theorem haltCore_life (k cause : Nat) (s : State) : (haltCore k cause s).aon.life = s.aon.life := by simp [haltCore]

@[simp] theorem execCoreWatchdogExpiry_life (t : Time) (k : Fin 4) (s : State) :
    KeepsLife s (execCoreWatchdogExpiry t k s) := by simp [execCoreWatchdogExpiry]

@[simp] theorem execHandlerException_life (t : Time) (k : Fin 4) (s : State) :
    KeepsLife s (execHandlerException t k s) := by simp [execHandlerException]

@[simp] theorem countRegionFault_life (s : State) : (countRegionFault s).aon.life = s.aon.life := by rfl
@[simp] theorem regionFault_life (k : Nat) (s : State) : (regionFault k s).aon.life = s.aon.life := by simp [regionFault]

@[simp] theorem execRegionFault_life (t : Time) (k : Fin 4) (addr : W32) (perm : Fin 3) (s : State) :
    KeepsLife s (execRegionFault t k addr perm s) := by simp [execRegionFault]

@[simp] theorem execCoreRestart_life (t : Time) (k : Fin 4) (s : State) : KeepsLife s (execCoreRestart t k s) := by simp [execCoreRestart]

@[simp] theorem monitorCmd_life (n op : Nat) (f : Desc → State → MonRequest × State) (s : State) (hf : ∀ x s, (f x s).2.aon.life = s.aon.life) :
    (monitorCmd n op f s).aon.life = s.aon.life := by
  unfold monitorCmd
  split <;> simp [hf]

@[simp] theorem stage_life (n : Nat) (ok : Bool) (x : Desc) (s : State) : (stage n ok x s).2.aon.life = s.aon.life := by
  unfold stage
  dsimp only
  (repeat' split) <;> simp

@[simp] theorem execStage_life (t : Time) (n : Fin 128) (ok : Bool) (s : State) : KeepsLife s (execStage t n ok s) := by simp [execStage]

@[simp] theorem activate_life (n : Nat) (x : Desc) (s : State) : (activate n x s).2.aon.life = s.aon.life := by
  unfold activate
  dsimp only
  (repeat' split) <;> simp

@[simp] theorem execActivate_life (t : Time) (n : Fin 128) (s : State) : KeepsLife s (execActivate t n s) := by simp [execActivate]
@[simp] theorem raiseFloor_life (k : Nat) (s : State) : (raiseFloor k s).aon.life = s.aon.life := by rfl

@[simp] theorem confirm_life (n : Nat) (x : Desc) (s : State) : (confirm n x s).2.aon.life = s.aon.life := by
  unfold confirm
  dsimp only
  (repeat' split) <;> simp

@[simp] theorem execConfirm_life (t : Time) (n : Fin 128) (s : State) : KeepsLife s (execConfirm t n s) := by simp [execConfirm]

@[simp] theorem attest_life (n : Nat) (x : Desc) (s : State) : (attest n x s).2.aon.life = s.aon.life := by
  unfold attest
  dsimp only
  (repeat' split) <;> simp

@[simp] theorem execAttest_life (t : Time) (n : Fin 128) (s : State) : KeepsLife s (execAttest t n s) := by simp [execAttest]

@[simp] theorem provision_life (n : Nat) (x : Desc) (s : State) : (provision n x s).2.aon.life = s.aon.life := by
  unfold provision
  dsimp only
  (repeat' split) <;> simp

@[simp] theorem execProvision_life (t : Time) (n : Fin 128) (s : State) : KeepsLife s (execProvision t n s) := by simp [execProvision]
@[simp] theorem clearStream_life (k p : Nat) (s : State) : (clearStream k p s).aon.life = s.aon.life := by simp [clearStream]

@[simp] theorem ledgerClear_life (n : Nat) (x : Desc) (s : State) : (ledgerClear n x s).2.aon.life = s.aon.life := by
  unfold ledgerClear
  dsimp only
  (repeat' split) <;> simp

@[simp] theorem execLedgerClear_life (t : Time) (n : Fin 128) (s : State) : KeepsLife s (execLedgerClear t n s) := by simp [execLedgerClear]

@[simp] theorem execMonitorRequestCompletion_life (t : Time) (i : Fin 4) (s : State) : KeepsLife s (execMonitorRequestCompletion t i s) := by
  unfold execMonitorRequestCompletion
  dsimp only
  split <;> simp

@[simp] theorem coreWrite_life (addr : Nat) (bs : List Byte) (s : State) : (coreWrite addr bs s).aon.life = s.aon.life := by
  unfold coreWrite
  split <;> rfl

@[simp] theorem service_life (k op : Nat) (block : List Byte) (inputs outputs : List (Nat × Nat)) (act : State → Nat × List Byte × State)
    (s : State) (h : ∀ s, (act s).2.2.aon.life = s.aon.life) :
    (service k op block inputs outputs act s).aon.life = s.aon.life := by
  unfold service
  dsimp only
  split
  · rfl
  · (repeat' split) <;> simp [h]

@[simp] theorem execHash_life (t : Time) (k : Fin 4) (block : List Byte) (s : State) : KeepsLife s (execHash t k block s) := by simp [execHash]
@[simp] theorem execSeal_life (t : Time) (k : Fin 4) (block : List Byte) (s : State) : KeepsLife s (execSeal t k block s) := by simp [execSeal]

@[simp] theorem execUnseal_life (t : Time) (k : Fin 4) (block : List Byte) (s : State) : KeepsLife s (execUnseal t k block s) := by
  refine (keepsLife_next _ _).mpr ((service_life _ _ _ _ _ _ _ fun s => ?_).trans (begin'_life t s))
  dsimp only
  split
  · rfl
  · split <;> simp

@[simp] theorem execVerify_life (t : Time) (k : Fin 4) (block : List Byte) (s : State) : KeepsLife s (execVerify t k block s) := by simp [execVerify]

@[simp] theorem execServiceAttest_life (t : Time) (k : Fin 4) (block : List Byte) (s : State) :
    KeepsLife s (execServiceAttest t k block s) := by simp [execServiceAttest]

@[simp] theorem execServiceDone_life (t : Time) (k : Fin 4) (s : State) : KeepsLife s (execServiceDone t k s) := by
  unfold execServiceDone
  dsimp only
  split <;> simp

/-! ### Doorbells -/

@[simp] theorem actorStore_life (a : Actor) (s : State) (st : Store) : (actorStore a s st).aon.life = s.aon.life := by
  unfold actorStore
  split
  · simp
  · split <;> simp

@[simp] theorem actorStores_life (a : Actor) (stores : List Store) (s : State) :
    (actorStores a stores s).aon.life = s.aon.life := by simp [actorStores]

@[simp] theorem execDoorbell_life (t : Time) (a : Actor) (off size : Nat) (v : W64) (stores : List Store) (s : State) :
    KeepsLife s (execDoorbell t a off size v stores s) := by simp [execDoorbell]

/-! ### Sensing on the drive die -/

@[simp] theorem dset_life (r : Reg) (i : Nat) (v : W32) (s : State) : (dset r i v s).aon.life = s.aon.life := by rfl
@[simp] theorem dBump_life (k : Nat) (s : State) : (dBump k s).aon.life = s.aon.life := by rfl
@[simp] theorem modDrv_life (n : Nat) (f : DrvCh → DrvCh) (s : State) : (modDrv n f s).aon.life = s.aon.life := by rfl
@[simp] theorem settleRail_life (k : Nat) (s : State) : (settleRail k s).aon.life = s.aon.life := by simp [settleRail]
@[simp] theorem openLow_life (n q : Nat) (s : State) : (openLow n q s).aon.life = s.aon.life := by simp [openLow]
@[simp] theorem closeLow_life (n q : Nat) (s : State) : (closeLow n q s).aon.life = s.aon.life := by simp [closeLow]

@[simp] theorem regulate_life (n ma : Nat) (s : State) : (regulate n ma s).aon.life = s.aon.life := by
  unfold regulate
  dsimp only
  split <;> simp

@[simp] theorem beginPhase_life (n q : Nat) (s : State) : (beginPhase n q s).aon.life = s.aon.life := by simp [beginPhase]

/-! ### The drive die -/

@[simp] theorem sendReport_life (r : Report) (s : State) : (sendReport r s).aon.life = s.aon.life := by simp [sendReport]

@[simp] theorem noGateReport_life (n : Nat) (sh : Shot) (bit : Nat) (at' : Time) (s : State) :
    (noGateReport n sh bit at' s).aon.life = s.aon.life := by simp [noGateReport]

@[simp] theorem startShot_life (n : Nat) (s : State) : (startShot n s).aon.life = s.aon.life := by
  unfold startShot
  dsimp only
  split <;> simp

@[simp] theorem noShot_life (n : Nat) (sh : Shot) (bit : Nat) (at' : Time) (s : State) :
    (noShot n sh bit at' s).aon.life = s.aon.life := by simp [noShot]

@[simp] theorem readyShot_life (n : Nat) (s : State) : (readyShot n s).aon.life = s.aon.life := by
  unfold readyShot
  dsimp only
  split <;> simp

@[simp] theorem refuseShot_life (n : Nat) (s : State) : (refuseShot n s).aon.life = s.aon.life := by
  unfold refuseShot
  split <;> simp

@[simp] theorem peakEnded_life (k : Nat) (s : State) : (peakEnded k s).aon.life = s.aon.life := by
  unfold peakEnded
  dsimp only
  (repeat' split) <;> simp

@[simp] theorem dueShot_life (n ev : Nat) (pulse late : Bool) (s : State) : (dueShot n ev pulse late s).aon.life = s.aon.life := by simp [dueShot]
@[simp] theorem markConflict_life (m : Nat) (s : State) : (markConflict m s).aon.life = s.aon.life := by rfl

@[simp] theorem closeCh_life (n ev : Nat) (late : Bool) (s : State) : (closeCh n ev late s).aon.life = s.aon.life := by
  unfold closeCh
  dsimp only
  (repeat' split) <;> simp

@[simp] theorem cancelShot_life (n : Nat) (s : State) : (cancelShot n s).aon.life = s.aon.life := by
  unfold cancelShot
  dsimp only
  split <;> simp

@[simp] theorem stopCh_life (n ev : Nat) (late : Bool) (s : State) : (stopCh n ev late s).aon.life = s.aon.life := by simp [stopCh]

@[simp] theorem protectBy_life (keep : Bool) (n : Nat) (stop : State → State) (s : State) (hstop : ∀ s, (stop s).aon.life = s.aon.life) :
    (protectBy keep n stop s).aon.life = s.aon.life := by
  unfold protectBy
  dsimp only
  split <;> simp [hstop]

@[simp] theorem protectCh_life (n : Nat) (s : State) : (protectCh n s).aon.life = s.aon.life := by simp [protectCh]
@[simp] theorem protectShot_life (n : Nat) (s : State) : (protectShot n s).aon.life = s.aon.life := by simp [protectShot]

@[simp] theorem setDuty_life (n d : Nat) (s : State) : (setDuty n d s).aon.life = s.aon.life := by
  unfold setDuty
  dsimp only
  split <;> simp

@[simp] theorem laneExec_life (n : Nat) (e : DrvEv) (report : Bool) (s : State) : (laneExec n e report s).aon.life = s.aon.life := by
  unfold laneExec
  split <;> simp

@[simp] theorem discardEv_life (n : Nat) (e : DrvEv) (s : State) : (discardEv n e s).aon.life = s.aon.life := by
  unfold discardEv
  split <;> simp

@[simp] theorem dropHead_life (n : Nat) (s : State) : (dropHead n s).aon.life = s.aon.life := by rfl
@[simp] theorem runOn_life (n : Nat) (e : DrvEv) (s : State) : (runOn n e s).aon.life = s.aon.life := by simp [runOn]

@[simp] theorem execOnEventExecute_life (t : Time) (ch : Fin 64) (s : State) : KeepsLife s (execOnEventExecute t ch s) := by
  unfold execOnEventExecute
  dsimp only
  split <;> simp

@[simp] theorem execOffEventExecute_life (t : Time) (ch : Fin 64) (s : State) : KeepsLife s (execOffEventExecute t ch s) := by
  unfold execOffEventExecute
  dsimp only
  split <;> simp

@[simp] theorem execRateEventExecute_life (t : Time) (ch : Fin 64) (s : State) : KeepsLife s (execRateEventExecute t ch s) := by
  unfold execRateEventExecute
  dsimp only
  split <;> simp

@[simp] theorem nextPhase_life (n : Nat) (late : Bool) (s : State) : (nextPhase n late s).aon.life = s.aon.life := by
  unfold nextPhase
  dsimp only
  split <;> simp

@[simp] theorem execPhaseEnd_life (t : Time) (ch : Fin 64) (ma : Nat) (s : State) : KeepsLife s (execPhaseEnd t ch ma s) := by
  unfold execPhaseEnd
  dsimp only
  split <;> simp

@[simp] theorem execQuenchEnd_life (t : Time) (ch : Fin 64) (ma : Nat) (s : State) : KeepsLife s (execQuenchEnd t ch ma s) := by simp [execQuenchEnd]

@[simp] theorem execPulseStart_life (t : Time) (ch : Fin 64) (s : State) : KeepsLife s (execPulseStart t ch s) := by
  unfold execPulseStart
  dsimp only
  split <;> simp

@[simp] theorem execPulseEnd_life (t : Time) (ch : Fin 64) (s : State) : KeepsLife s (execPulseEnd t ch s) := by
  unfold execPulseEnd
  dsimp only
  split <;> simp

@[simp] theorem execShotRefused_life (t : Time) (ch : Fin 64) (s : State) : KeepsLife s (execShotRefused t ch s) := by
  unfold execShotRefused
  dsimp only
  split <;> simp

@[simp] theorem execBackstopExpiry_life (t : Time) (ch : Fin 64) (s : State) : KeepsLife s (execBackstopExpiry t ch s) := by
  unfold execBackstopExpiry
  dsimp only
  split <;> simp

@[simp] theorem setFaultBits_life (n bits : Nat) (s : State) : (setFaultBits n bits s).aon.life = s.aon.life := by simp [setFaultBits]

@[simp] theorem execOpeningReport_life (t : Time) (ch : Fin 64) (samples : List OpenSample) (s : State) :
    KeepsLife s (execOpeningReport t ch samples s) := by
  unfold execOpeningReport
  dsimp only
  split <;> simp

@[simp] theorem execClosingReport_life (t : Time) (ch : Fin 64) (drain : List Nat) (s : State) : KeepsLife s (execClosingReport t ch drain s) := by
  unfold execClosingReport
  dsimp only
  split <;> simp

@[simp] theorem execOffsetCalGap_life (t : Time) (ch : Fin 64) (start : Time) (samples : List (BitVec 16)) (s : State) :
    KeepsLife s (execOffsetCalGap t ch start samples s) := by simp [execOffsetCalGap]

@[simp] theorem execCalStarvation_life (t : Time) (ch : Fin 64) (s : State) : KeepsLife s (execCalStarvation t ch s) := by simp [execCalStarvation]
@[simp] theorem boostCycle_life (shunt : Nat) (s : State) : (boostCycle shunt s).aon.life = s.aon.life := by simp [boostCycle]

@[simp] theorem boostFlag_life (subject v : Nat) (was is : Bool) (s : State) :
    (boostFlag subject v was is s).aon.life = s.aon.life := by simp [boostFlag]

@[simp] theorem boostSense_life (v : Nat) (s : State) : (boostSense v s).aon.life = s.aon.life := by simp [boostSense]

@[simp] theorem execBoostOvervoltage_life (t : Time) (v : BitVec 16) (s : State) :
    KeepsLife s (execBoostOvervoltage t v s) := by simp [execBoostOvervoltage]

@[simp] theorem execBoostUndervoltage_life (t : Time) (v : BitVec 16) (s : State) :
    KeepsLife s (execBoostUndervoltage t v s) := by simp [execBoostUndervoltage]

@[simp] theorem execBoostVoltageRecovery_life (t : Time) (v : BitVec 16) (s : State) : KeepsLife s (execBoostVoltageRecovery t v s) := by
  unfold execBoostVoltageRecovery
  dsimp only
  split <;> simp

/-! ### Leases and protection on the drive die -/

@[simp] theorem sendLease_life (s : State) : (sendLease s).aon.life = s.aon.life := by simp [sendLease]
@[simp] theorem boostStop_life (s : State) : (boostStop s).aon.life = s.aon.life := by rfl
@[simp] theorem lapse_life (cause : Nat) (s : State) : (lapse cause s).aon.life = s.aon.life := by simp [lapse]
@[simp] theorem takeGrant_life (g : Nat) (s : State) : (takeGrant g s).aon.life = s.aon.life := by simp [takeGrant]
@[simp] theorem acceptDown_life (f : Frame) (s : State) : (acceptDown f s).aon.life = s.aon.life := by simp [acceptDown]

@[simp] theorem withDown_life (t : Time) (want : FrameBody → Bool) (act : FrameBody → State → State) (s : State) (hact : ∀ x s,
    (act x s).aon.life = s.aon.life) :
    (withDown t want act s).aon.life = s.aon.life := by
  unfold withDown
  dsimp only
  split <;> simp [hact]

@[simp] theorem ifLeased_life (act : State → State) (s : State) (hact : ∀ s, (act s).aon.life = s.aon.life) :
    (ifLeased act s).aon.life = s.aon.life := by simp [ifLeased, hact]

@[simp] theorem execEvent_life (t : Time) (s : State) : KeepsLife s (execEvent t s) := by
  refine (keepsLife_next _ _).mpr (withDown_life _ _ _ _ fun b s => ?_)
  cases b <;> simp

@[simp] theorem execRetime_life (t : Time) (s : State) : KeepsLife s (execRetime t s) := by
  refine (keepsLife_next _ _).mpr (withDown_life _ _ _ _ fun b s => ?_)
  cases b <;> simp

@[simp] theorem execWithdraw_life (t : Time) (s : State) : KeepsLife s (execWithdraw t s) := by
  refine (keepsLife_next _ _).mpr (withDown_life _ _ _ _ fun b s => ?_)
  cases b <;> simp

@[simp] theorem execGrant_life (t : Time) (s : State) : KeepsLife s (execGrant t s) := by
  refine (keepsLife_next _ _).mpr (withDown_life _ _ _ _ fun b s => ?_)
  cases b <;> simp

@[simp] theorem execRevoke_life (t : Time) (s : State) : KeepsLife s (execRevoke t s) := by simp [execRevoke]

@[simp] theorem execClear_life (t : Time) (s : State) : KeepsLife s (execClear t s) := by
  refine (keepsLife_next _ _).mpr (withDown_life _ _ _ _ fun b s => ?_)
  cases b <;> simp

@[simp] theorem execTime_life (t : Time) (drift : Int) (s : State) : KeepsLife s (execTime t drift s) := by simp [execTime]
@[simp] theorem execLeaseTimeout_life (t : Time) (s : State) : KeepsLife s (execLeaseTimeout t s) := by simp [execLeaseTimeout]
@[simp] theorem execLeaseRepeat_life (t : Time) (s : State) : KeepsLife s (execLeaseRepeat t s) := by simp [execLeaseRepeat]

@[simp] theorem execThermalWindow_life (t : Time) (ch : Fin 64) (start : Time) (mv ma : Nat) (s : State) :
    KeepsLife s (execThermalWindow t ch start mv ma s) := by
  unfold execThermalWindow
  dsimp only
  (repeat' split) <;> simp

@[simp] theorem enterLockout_life (n : Nat) (s : State) : (enterLockout n s).aon.life = s.aon.life := by simp [enterLockout]
@[simp] theorem setLevel_life (n new : Nat) (s : State) : (setLevel n new s).aon.life = s.aon.life := by simp [setLevel]

@[simp] theorem execThermalUpdate_life (t : Time) (ch : Fin 64) (i2 : Nat) (s : State) :
    KeepsLife s (execThermalUpdate t ch i2 s) := by simp [execThermalUpdate]

@[simp] theorem latchCh_life (n bits : Nat) (s : State) : (latchCh n bits s).aon.life = s.aon.life := by simp [latchCh]

@[simp] theorem execOffStateOpenLoad_life (t : Time) (x : DrainSeen) (s : State) :
    KeepsLife s (execOffStateOpenLoad t x s) := by simp [execOffStateOpenLoad]

@[simp] theorem execOnStateOpenLoad_life (t : Time) (ch : Fin 64) (ma : Nat) (s : State) : KeepsLife s (execOnStateOpenLoad t ch ma s) := by
  unfold execOnStateOpenLoad
  dsimp only
  split <;> simp

@[simp] theorem execShortToBattery_life (t : Time) (ch : Fin 64) (ma : Nat) (s : State) : KeepsLife s (execShortToBattery t ch ma s) := by
  unfold execShortToBattery
  dsimp only
  split <;> simp

@[simp] theorem execTripComparator_life (t : Time) (ch : Fin 64) (ma : Nat) (s : State) :
    KeepsLife s (execTripComparator t ch ma s) := by simp [execTripComparator]

@[simp] theorem execHighSideDesaturation_life (t : Time) (bank : Fin 8) (dv : Nat) (x : SwitchSeen) (s : State) :
    KeepsLife s (execHighSideDesaturation t bank dv x s) := by simp [execHighSideDesaturation]

@[simp] theorem enableChange_life (n : Nat) (was now' : Bool) (s : State) :
    (enableChange n was now' s).aon.life = s.aon.life := by simp [enableChange]

@[simp] theorem drvApply_life (off : Nat) (v : W32) (s : State) : (drvApply off v s).aon.life = s.aon.life := by
  unfold drvApply
  split <;> simp

@[simp] theorem execWrite_life (t : Time) (s : State) : KeepsLife s (execWrite t s) := by
  refine (keepsLife_next _ _).mpr (withDown_life _ _ _ _ fun b s => ?_)
  cases b <;> simp

@[simp] theorem drvSoft_life (off : Nat) (v : W32) (s : State) : (drvSoft off v s).aon.life = s.aon.life := by
  unfold drvSoft
  split <;> simp

@[simp] theorem execDrvChannelDisable_life (t : Time) (a : Actor) (ch : Fin 64) (s : State) :
    KeepsLife s (execDrvChannelDisable t a ch s) := by simp [execDrvChannelDisable]

@[simp] theorem execProfileValidate_life (t : Time) (a : Actor) (slot : Fin 32) (v : W32) (s : State) :
    KeepsLife s (execProfileValidate t a slot v s) := by simp [execProfileValidate]

@[simp] theorem execDrvThRrefWrite_life (t : Time) (a : Actor) (ch : Fin 64) (v : W32) (s : State) :
    KeepsLife s (execDrvThRrefWrite t a ch v s) := by simp [execDrvThRrefWrite]

@[simp] theorem execDrvFaultClear_life (t : Time) (a : Actor) (ch : Fin 64) (v : W32) (s : State) :
    KeepsLife s (execDrvFaultClear t a ch v s) := by simp [execDrvFaultClear]

@[simp] theorem execDrvHsStatClear_life (t : Time) (a : Actor) (bank : Fin 8) (v : W32) (s : State) :
    KeepsLife s (execDrvHsStatClear t a bank v s) := by simp [execDrvHsStatClear]

/-! ### The relay link at work -/

@[simp] theorem withUp_life (t : Time) (want : FrameBody → Bool) (act : FrameBody → State → State) (s : State) (hact : ∀ x s,
    (act x s).aon.life = s.aon.life) :
    (withUp t want act s).aon.life = s.aon.life := by
  unfold withUp
  dsimp only
  split <;> simp [hact]

@[simp] theorem reportTrace_life (r : Report) (s : State) : (reportTrace r s).aon.life = s.aon.life := by simp [reportTrace]

@[simp] theorem execReport_life (t : Time) (s : State) : KeepsLife s (execReport t s) := by
  refine (keepsLife_next _ _).mpr (withUp_life _ _ _ _ fun b s => ?_)
  cases b <;> simp

@[simp] theorem chLaneFault_life (n bits : Nat) (s : State) : (chLaneFault n bits s).aon.life = s.aon.life := by
  unfold chLaneFault
  split <;> rfl

@[simp] theorem copyOr_life (r : Reg) (i bits : Nat) (s : State) : (copyOr r i bits s).aon.life = s.aon.life := by rfl

@[simp] theorem execFault_life (t : Time) (s : State) : KeepsLife s (execFault t s) := by
  refine (keepsLife_next _ _).mpr (withUp_life _ _ _ _ fun b s => ?_)
  cases b <;> simp

@[simp] theorem learnLapse_life (cause : Nat) (s : State) : (learnLapse cause s).aon.life = s.aon.life := by simp [learnLapse]

@[simp] theorem execLease_life (t : Time) (s : State) : KeepsLife s (execLease t s) := by
  refine (keepsLife_next _ _).mpr (withUp_life _ _ _ _ fun b s => ?_)
  cases b <;> simp

@[simp] theorem enterLevel_life (n temp l : Nat) (s : State) : (enterLevel n temp l s).aon.life = s.aon.life := by
  unfold enterLevel
  split <;> simp

@[simp] theorem seeLevel_life (n old : Nat) (s : State) : (seeLevel n old s).aon.life = s.aon.life := by
  unfold seeLevel
  dsimp only
  (repeat' split) <;> simp

@[simp] theorem takeSegment_life (seg : Nat) (words : List W32) (s : State) : (takeSegment seg words s).aon.life = s.aon.life := by
  unfold takeSegment
  refine (foldl_life (fun _ _ => setTally_life _ _ _) _ _).trans (foldl_life (fun s x => ?_) _ s)
  split
  · rfl
  · split <;> rfl

@[simp] theorem refresh_life (seg : Nat) (words : List W32) (s : State) : (refresh seg words s).aon.life = s.aon.life := by simp [refresh]

@[simp] theorem refreshDone_life (s : State) : (refreshDone s).aon.life = s.aon.life := by
  unfold refreshDone
  split <;> rfl

@[simp] theorem addEnergy_life (k rem e : Nat) (s : State) : (addEnergy k rem e s).2.aon.life = s.aon.life := by rfl

@[simp] theorem sampleCh_life (n : Nat) (samples : List DriveSample) (s : State) : (sampleCh n samples s).aon.life = s.aon.life := by
  unfold sampleCh
  split <;> rfl

@[simp] theorem sampleBoost_life (vboost : List (BitVec 16)) (shunt : Nat) (diode : List DiodeSpan) (s : State) :
    (sampleBoost vboost shunt diode s).aon.life = s.aon.life := by
  unfold sampleBoost
  split <;> simp

@[simp] theorem execStatus_life (t : Time) (seg : Fin 233) (samples : List DriveSample) (vboost : List (BitVec 16)) (shunt : Nat)
    (diode : List DiodeSpan) (s : State) : KeepsLife s (execStatus t seg samples vboost shunt diode s) := by
  unfold execStatus
  dsimp only
  split
  · simp
  · refine (keepsLife_next _ _).mpr ((withUp_life _ _ _ _ fun b s => ?_).trans ?_)
    · cases b <;> simp
    · simp

@[simp] theorem execIdle_life (t : Time) (down : Bool) (s : State) : KeepsLife s (execIdle t down s) := by simp [execIdle]

@[simp] theorem execRelayFrameDiscard_life (t : Time) (down : Bool) (flips : List Byte) (s : State) :
    KeepsLife s (execRelayFrameDiscard t down flips s) := by
  unfold execRelayFrameDiscard
  dsimp only
  (repeat' split) <;> simp

@[simp] theorem execRelayRetransmit_life (t : Time) (down : Bool) (s : State) :
    KeepsLife s (execRelayRetransmit t down s) := by simp [execRelayRetransmit]

@[simp] theorem execRelayLinkDown_life (t : Time) (down : Bool) (s : State) : KeepsLife s (execRelayLinkDown t down s) := by simp [execRelayLinkDown]

theorem withRelay_life (r : Relay) (s : State) : ({ s with relay := r } : State).aon.life = s.aon.life := rfl

@[simp] theorem rewriteAll_life (s : State) : (rewriteAll s).aon.life = s.aon.life := by
  refine (withRelay_life _ _).trans (foldl_life (fun s off => ?_) rewriteList s)
  split
  · exact pushDown_life _ _
  · rfl

theorem withStartup_life (x : Startup) (s : State) : ({ s with startup := x } : State).aon.life = s.aon.life := rfl

@[simp] theorem execRelayTrained_life (t : Time) (revision : BitVec 8) (s : State) : KeepsLife s (execRelayTrained t revision s) := by
  unfold execRelayTrained
  extract_lets b r ready epoch startup security drive trained counted leased rewritten last
  refine (keepsLife_ite _ _ _ _).mpr ⟨fun _ => (keepsLife_next _ _).mpr rfl, fun _ => (keepsLife_next _ _).mpr ?_⟩
  have sent : leased.aon.life = s.aon.life := by
    unfold leased
    split
    · rfl
    · exact sendLease_life _
  have kept : rewritten.aon.life = s.aon.life := by
    unfold rewritten
    split
    · exact (rewriteAll_life _).trans sent
    · exact sent
  split
  · exact (withStartup_life _ _).trans kept
  · exact kept

@[simp] theorem cutLink_life (s : State) : (cutLink s).aon.life = s.aon.life := by rfl
@[simp] theorem discardDirect_life (s : State) : (discardDirect s).aon.life = s.aon.life := by rfl

@[simp] theorem execFarResetSeen_life (t : Time) (control : Bool) (s : State) : KeepsLife s (execFarResetSeen t control s) := by
  unfold execFarResetSeen
  dsimp only
  (repeat' split) <;> simp

@[simp] theorem execTimeSend_life (t : Time) (s : State) : KeepsLife s (execTimeSend t s) := by simp [execTimeSend]
@[simp] theorem sendGrant_life (s : State) : (sendGrant s).aon.life = s.aon.life := by simp [sendGrant]

@[simp] theorem execLeaseRegrant_life (t : Time) (s : State) : KeepsLife s (execLeaseRegrant t s) := by
  unfold execLeaseRegrant
  dsimp only
  (repeat' split) <;> simp

@[simp] theorem leaseRequest_life (a : Actor) (v : W32) (s : State) : (leaseRequest a v s).aon.life = s.aon.life := by simp [leaseRequest]
@[simp] theorem execLeaseReq_life (t : Time) (a : Actor) (v : W32) (s : State) : KeepsLife s (execLeaseReq t a v s) := by simp [execLeaseReq]

/-! ### Encoder emulation -/

@[simp] theorem emuTake_life (n : Nat) (x : Int) (s : State) : (emuTake n x s).aon.life = s.aon.life := by simp [emuTake]

@[simp] theorem emuSample_life (n : Nat) (s : State) : (emuSample n s).aon.life = s.aon.life := by
  unfold emuSample
  split <;> simp

@[simp] theorem emuCfgWrite_life (n : Nat) (v : W32) (s : State) : (emuCfgWrite n v s).aon.life = s.aon.life := by simp [emuCfgWrite]
@[simp] theorem execEmuUpdate_life (t : Time) (n : Fin 4) (s : State) : KeepsLife s (execEmuUpdate t n s) := by simp [execEmuUpdate]

/-! ### Loops -/

@[simp] theorem modLoop_life (n : Nat) (f : LoopCh → LoopCh) (s : State) : (modLoop n f s).aon.life = s.aon.life := by rfl

@[simp] theorem loopConfig_life (x : Desc) (s : State) : (loopConfig x s).state.aon.life = s.aon.life := by
  unfold loopConfig
  dsimp only
  (repeat' split) <;> simp

@[simp] theorem loopProgram_life (x : Desc) (s : State) : (loopProgram x s).state.aon.life = s.aon.life := by
  unfold loopProgram
  dsimp only
  (repeat' split) <;> simp

@[simp] theorem loopEnable_life (x : Desc) (s : State) : (loopEnable x s).state.aon.life = s.aon.life := by
  unfold loopEnable
  dsimp only
  (repeat' split) <;> simp

@[simp] theorem loopWrite_life (n : Nat) (y s15 : Int) (s : State) : (loopWrite n y s15 s).aon.life = s.aon.life := by
  unfold loopWrite
  dsimp only
  split <;> simp

@[simp] theorem loopRecord_life (n : Nat) (at' : Time) (in0 in1 : Int) (s : State) :
    (loopRecord n at' in0 in1 s).aon.life = s.aon.life := by simp [loopRecord]

@[simp] theorem loopDisable_life (x : Desc) (s : State) : (loopDisable x s).state.aon.life = s.aon.life := by
  unfold loopDisable
  dsimp only
  split <;> simp

@[simp] theorem loopResetState_life (x : Desc) (s : State) : (loopResetState x s).state.aon.life = s.aon.life := by rfl

@[simp] theorem loopPost_life (x : Desc) (s : State) : (loopPost x s).state.aon.life = s.aon.life := by
  unfold loopPost
  dsimp only
  split <;> simp

@[simp] theorem loopRead_life (x : Desc) (s : State) : (loopRead x s).state.aon.life = s.aon.life := by
  unfold loopRead
  split <;> simp

@[simp] theorem execConfig_life (t : Time) (s : State) : KeepsLife s (execConfig t s) := by simp [execConfig]
@[simp] theorem execProgram_life (t : Time) (s : State) : KeepsLife s (execProgram t s) := by simp [execProgram]
@[simp] theorem execEnable_life (t : Time) (s : State) : KeepsLife s (execEnable t s) := by simp [execEnable]
@[simp] theorem execDisable_life (t : Time) (s : State) : KeepsLife s (execDisable t s) := by simp [execDisable]
@[simp] theorem execResetState_life (t : Time) (s : State) : KeepsLife s (execResetState t s) := by simp [execResetState]
@[simp] theorem execPost_life (t : Time) (s : State) : KeepsLife s (execPost t s) := by simp [execPost]
@[simp] theorem execRead_life (t : Time) (s : State) : KeepsLife s (execRead t s) := by simp [execRead]
@[simp] theorem accountLoad_life (n cost : Nat) (s : State) : (accountLoad n cost s).aon.life = s.aon.life := by rfl

@[simp] theorem runSample_life (n : Nat) (mult : Option Int) (s : State) : (runSample n mult s).aon.life = s.aon.life := by
  unfold runSample
  dsimp only
  (repeat' split) <;> simp

@[simp] theorem triggerLoop_life (n : Nat) (mult : Option Int) (s : State) : (triggerLoop n mult s).aon.life = s.aon.life := by simp [triggerLoop]

@[simp] theorem execLoopSample_life (t : Time) (n : Fin 256) (s : State) : KeepsLife s (execLoopSample t n s) := by
  unfold execLoopSample
  dsimp only
  (repeat' split) <;> simp

@[simp] theorem execIdleTimeout_life (t : Time) (n : Fin 256) (s : State) : KeepsLife s (execIdleTimeout t n s) := by simp [execIdleTimeout]
@[simp] theorem loopFactors_life (s : State) : (loopFactors s).aon.life = s.aon.life := by simp [loopFactors]
@[simp] theorem loopClose_life (n : Nat) (s : State) : (loopClose n s).aon.life = s.aon.life := by rfl
@[simp] theorem loopsClose_life (s : State) : (loopsClose s).aon.life = s.aon.life := by simp [loopsClose]
@[simp] theorem toFallback_life (s : State) : (toFallback s).aon.life = s.aon.life := by rfl
@[simp] theorem toMain_life (s : State) : (toMain s).aon.life = s.aon.life := by rfl

@[simp] theorem execLoopBist_life (t : Time) (s : State) : KeepsLife s (execLoopBist t s) := by
  unfold execLoopBist
  dsimp only
  (repeat' split) <;> simp

@[simp] theorem bistRequest_life (v : W32) (s : State) : (bistRequest v s).aon.life = s.aon.life := by
  unfold bistRequest
  split <;> rfl

@[simp] theorem execLoopBistReq_life (t : Time) (a : Actor) (v : W32) (s : State) : KeepsLife s (execLoopBistReq t a v s) := by simp [execLoopBistReq]
@[simp] theorem bistEnds_life (pass : Bool) (s : State) : (bistEnds pass s).aon.life = s.aon.life := by simp [bistEnds]

/-! ### Trace packets and tallies -/

@[simp] theorem execTraceSync_life (t : Time) (s : State) : KeepsLife s (execTraceSync t s) := by simp [execTraceSync]
@[simp] theorem execOverflow_life (t : Time) (s : State) : KeepsLife s (execOverflow t s) := by simp [execOverflow]
@[simp] theorem traceCfgWrite_life (v : W32) (s : State) : (traceCfgWrite v s).aon.life = s.aon.life := by simp [traceCfgWrite]

@[simp] theorem tallySnapWrite_life (v : W32) (s : State) : (tallySnapWrite v s).aon.life = s.aon.life := by
  unfold tallySnapWrite
  split <;> rfl

@[simp] theorem execTallySnap_life (t : Time) (a : Actor) (v : W32) (s : State) : KeepsLife s (execTallySnap t a v s) := by simp [execTallySnap]

/-! ### Start-up: the reset release restarts the second, and counts none -/

@[simp] theorem enterPhase_life (p : Nat) (s : State) : (enterPhase p s).aon.life = s.aon.life := by rfl

@[simp] theorem execResetRelease_life (t : Time) (x : ResetSeen) (fit : Option Fitting) (s : State) :
    KeepsLife s (execResetRelease t x fit s) := by
  unfold execResetRelease
  dsimp only
  split
  · simp
  · cases fit <;> exact (keepsLife_next _ _).mpr rfl

@[simp] theorem enterRecovery_life (s : State) : (enterRecovery s).aon.life = s.aon.life := by rfl
@[simp] theorem monitorBegins_life (b : Nat) (s : State) : (monitorBegins b s).aon.life = s.aon.life := by simp [monitorBegins]

@[simp] theorem execMonitorStart_life (t : Time) (log2 mode mhz : Nat) (s : State) :
    KeepsLife s (execMonitorStart t log2 mode mhz s) := by
  unfold execMonitorStart
  extract_lets b found v
  refine (keepsLife_ite _ _ _ _).mpr ⟨fun _ => (keepsLife_next _ _).mpr rfl, fun _ => ?_⟩
  have loaded : v.aon.life = s.aon.life := by
    unfold v
    split
    · exact dirLoad_life _
    · rfl
  have chosen := (chooseSlot_life typeMonitor (fun _ => true) v).trans loaded
  split
  · exact (keepsLife_next _ _).mpr loaded
  · split
    · exact (keepsLife_next _ _).mpr loaded
    · split
      next e => simpa [e] using chosen
      next e => simpa [e] using chosen

@[simp] theorem applyRings_life (s : State) : (applyRings s).aon.life = s.aon.life := by simp [applyRings]
@[simp] theorem applyConfigs_life (s : State) : (applyConfigs s).aon.life = s.aon.life := by simp [applyConfigs]
@[simp] theorem reportClockFault_life (s : State) : (reportClockFault s).aon.life = s.aon.life := by simp [reportClockFault]
@[simp] theorem charterInPlace_life (s : State) : (charterInPlace s).aon.life = s.aon.life := by simp [charterInPlace]

@[simp] theorem execCharterApply_life (t : Time) (s : State) : KeepsLife s (execCharterApply t s) := by
  unfold execCharterApply
  dsimp only
  split
  · simp
  · have chosen := chooseSlot_life typeCharter (fun img => charterOk (fitBytes 880 (imageBody img))) (begin' t s)
    split
    next e => simpa [e] using chosen
    next e => simpa [e] using chosen

@[simp] theorem firmwareBegins_life (b : Nat) (s : State) : (firmwareBegins b s).aon.life = s.aon.life := by
  refine foldl_life (fun _ _ => setCore_life _ _ _) _ _

@[simp] theorem execFirmwareStart_life (t : Time) (s : State) : KeepsLife s (execFirmwareStart t s) := by
  unfold execFirmwareStart
  dsimp only
  split
  · simp
  · have chosen := chooseSlot_life typeFirmware (fun _ => true) (begin' t s)
    split
    next e => simpa [e] using chosen
    next e => simpa [e] using chosen

@[simp] theorem execEndpointReady_life (t : Time) (s : State) : KeepsLife s (execEndpointReady t s) := by simp [execEndpointReady]
@[simp] theorem execRelayTimeout_life (t : Time) (s : State) : KeepsLife s (execRelayTimeout t s) := by simp [execRelayTimeout]

@[simp] theorem execStartupGrant_life (t : Time) (s : State) : KeepsLife s (execStartupGrant t s) := by
  unfold execStartupGrant
  dsimp only
  (repeat' split) <;> simp

@[simp] theorem enterOperational_life (s : State) : (enterOperational s).aon.life = s.aon.life := by simp [enterOperational]
@[simp] theorem execBistResult_life (t : Time) (pass : Bool) (s : State) : KeepsLife s (execBistResult t pass s) := by simp [execBistResult]

@[simp] theorem recoveryLoad_life (v : W32) (s : State) : (recoveryLoad v s).aon.life = s.aon.life := by
  unfold recoveryLoad
  dsimp only
  (repeat' split) <;> simp

@[simp] theorem execRecoveryImageLoad_life (t : Time) (a : Actor) (v : W32) (s : State) :
    KeepsLife s (execRecoveryImageLoad t a v s) := by simp [execRecoveryImageLoad]

/-! ### Ethernet and targets -/

@[simp] theorem modEthMac_life (m : Nat) (f : EthMac → EthMac) (s : State) : (modEthMac m f s).aon.life = s.aon.life := by rfl

@[simp] theorem deliverFrame_life (m : Nat) (at' : Time) (copied rejected : Bool) (f : List Byte) (s : State) :
    (deliverFrame m at' copied rejected f s).aon.life = s.aon.life := by simp [deliverFrame]

@[simp] theorem queueTarget_life (r : TargetRec) (conf : Nat) (s : State) : (queueTarget r conf s).aon.life = s.aon.life := by simp [queueTarget]

@[simp] theorem classify_life (m : Nat) (at' : Time) (f : List Byte) (s : State) : (classify m at' f s).aon.life = s.aon.life := by
  unfold classify
  extract_lets u p count camera known entry recs bad counted queued
  have kept : queued.aon.life = s.aon.life := foldl_life (fun _ _ => queueTarget_life _ _ _) _ _
  split
  · simp
  · split
    · exact (deliverFrame_life _ _ _ _ _ _).trans kept
    · exact kept

@[simp] theorem execEthRxFrame_life (t : Time) (m : Fin 2) (at' : Time) (fcs : Bool) (frame : List Byte) (s : State) :
    KeepsLife s (execEthRxFrame t m at' fcs frame s) := by simp [execEthRxFrame]

@[simp] theorem sendDesc_life (x : Desc) (s : State) : (sendDesc x s).state.aon.life = s.aon.life := by
  unfold sendDesc
  dsimp only
  split <;> simp

@[simp] theorem ethCross_life (f : Desc → State → DescResult) (x : Desc) (s : State) (hf : ∀ x s, (f x s).state.aon.life = s.aon.life) :
    (ethCross f x s).state.aon.life = s.aon.life := by
  unfold ethCross
  split <;> simp [hf]

@[simp] theorem execEthSend_life (t : Time) (m : Fin 2) (s : State) : KeepsLife s (execEthSend t m s) := by simp [execEthSend]

@[simp] theorem execEthTransmitComplete_life (t : Time) (m : Fin 2) (at' : Time) (s : State) : KeepsLife s (execEthTransmitComplete t m at' s) := by
  unfold execEthTransmitComplete
  dsimp only
  split <;> simp

@[simp] theorem timeMapDesc_life (m : Nat) (x : Desc) (s : State) : (timeMapDesc m x s).state.aon.life = s.aon.life := by
  unfold timeMapDesc
  dsimp only
  split <;> simp

@[simp] theorem execTimeMap_life (t : Time) (m : Fin 2) (s : State) : KeepsLife s (execTimeMap t m s) := by simp [execTimeMap]
@[simp] theorem ethCfgWrite_life (m : Nat) (v : W32) (s : State) : (ethCfgWrite m v s).aon.life = s.aon.life := by simp [ethCfgWrite]

@[simp] theorem execEthEnable_life (t : Time) (a : Actor) (m : Fin 2) (v : W32) (s : State) :
    KeepsLife s (execEthEnable t a m v s) := by simp [execEthEnable]

@[simp] theorem mdioWrite_life (v : W32) (s : State) : (mdioWrite v s).aon.life = s.aon.life := by
  unfold mdioWrite
  split <;> rfl

@[simp] theorem execMdioStart_life (t : Time) (a : Actor) (v : W32) (s : State) : KeepsLife s (execMdioStart t a v s) := by simp [execMdioStart]

@[simp] theorem execMdioDone_life (t : Time) (data : W16) (s : State) : KeepsLife s (execMdioDone t data s) := by
  unfold execMdioDone
  dsimp only
  (repeat' split) <;> simp

@[simp] theorem spotLane_life (r : TargetRec) (fx fy : Int) (k : Nat) (w : Spotted) (s : State) :
    (spotLane r fx fy k w s).2.aon.life = s.aon.life := by
  unfold spotLane
  dsimp only
  (repeat' split) <;> simp

@[simp] theorem targetDone_life (r : TargetRec) (time : Nat) (outcome : Nat) (w : Spotted) (x y : Int) (s : State) :
    (targetDone r time outcome w x y s).aon.life = s.aon.life := by simp [targetDone]

@[simp] theorem placeTarget_life (r : TargetRec) (s : State) : (placeTarget r s).aon.life = s.aon.life := by
  unfold placeTarget
  split
  · simp
  · dsimp only
    split
    · simp
    · simp
    · exact (targetDone_life _ _ _ _ _ _ _).trans (foldl_pair_life (fun _ _ => spotLane_life _ _ _ _ _ _) _ _)

@[simp] theorem execTargetPlace_life (t : Time) (s : State) : KeepsLife s (execTargetPlace t s) := by
  unfold execTargetPlace
  dsimp only
  split <;> simp

/-! ### Time-triggered operation -/

@[simp] theorem beginCycle_life (p : Nat) (sof : Time) (cycle : Nat) (s : State) : (beginCycle p sof cycle s).aon.life = s.aon.life := by rfl

@[simp] theorem relate_life (p : Nat) (g : Int) (s : State) : (relate p g s).aon.life = s.aon.life := by
  unfold relate
  dsimp only
  split <;> simp

@[simp] theorem courseRelation_life (p : Nat) (data : List Byte) (s : State) : (courseRelation p data s).aon.life = s.aon.life := by
  unfold courseRelation
  dsimp only
  (repeat' split) <;> simp

@[simp] theorem courseFollow_life (p : Nat) (data : List Byte) (s : State) : (courseFollow p data s).aon.life = s.aon.life := by simp [courseFollow]

@[simp] theorem execReferenceMessage_life (t : Time) (p : Fin 32) (id : BitVec 11) (data : List Byte) (sof : Time) (s : State) :
    KeepsLife s (execReferenceMessage t p id data sof s) := by simp [execReferenceMessage]

@[simp] theorem masterCycle_life (p : Nat) (first sof : Time) (cycle : Nat) (s : State) :
    (masterCycle p first sof cycle s).aon.life = s.aon.life := by simp [masterCycle]

@[simp] theorem refOver_life (p bits : Nat) (s : State) : (refOver p bits s).aon.life = s.aon.life := by rfl

@[simp] theorem refFailed_life (p : Nat) (f : BusFrame) (type : Nat) (dataPhase : Bool) (position : Nat) (x : SentError) (master : Bool)
    (first sof : Time) (cycle : Nat) (s : State) :
    (refFailed p f type dataPhase position x master first sof cycle s).aon.life = s.aon.life := by simp [refFailed]

@[simp] theorem refAttempt_life (p cycle : Nat) (first sof : Time) (res : RefResult) (s : State) :
    (refAttempt p cycle first sof res s).aon.life = s.aon.life := by
  unfold refAttempt
  split <;> simp

@[simp] theorem execReferenceAttempt_life (t : Time) (p : Fin 32) (sof : Time) (res : RefResult) (s : State) :
    KeepsLife s (execReferenceAttempt t p sof res s) := by simp [execReferenceAttempt]

@[simp] theorem execReferenceMiss_life (t : Time) (p : Fin 32) (s : State) : KeepsLife s (execReferenceMiss t p s) := by simp [execReferenceMiss]

@[simp] theorem execListenTimeout_life (t : Time) (p : Fin 32) (sof : Time) (res : RefResult) (s : State) :
    KeepsLife s (execListenTimeout t p sof res s) := by simp [execListenTimeout]

@[simp] theorem convoyFrames_life (p : Nat) (s : State) : (convoyFrames p s).aon.life = s.aon.life := by simp [convoyFrames]
@[simp] theorem formConvoy_life (p c : Nat) (s : State) : (formConvoy p c s).aon.life = s.aon.life := by simp [formConvoy]

@[simp] theorem execTtWindowStart_life (t : Time) (p : Fin 32) (c : Fin 64) (idle : Bool) (s : State) :
    KeepsLife s (execTtWindowStart t p c idle s) := by simp [execTtWindowStart]

@[simp] theorem reformHeld_life (p : Nat) (base : Int) (s : State) : (reformHeld p base s).aon.life = s.aon.life := by rfl
@[simp] theorem formSlots_life (p c : Nat) (s : State) : (formSlots p c s).aon.life = s.aon.life := by simp [formSlots]

@[simp] theorem execSlotFrameForm_life (t : Time) (p : Fin 32) (c : Fin 64) (s : State) :
    KeepsLife s (execSlotFrameForm t p c s) := by simp [execSlotFrameForm]

@[simp] theorem execNodeStatus_life (t : Time) (p : Fin 32) (node : BitVec 8) (data : List Byte) (s : State) :
    KeepsLife s (execNodeStatus t p node data s) := by
  unfold execNodeStatus
  refine imwaldHeard_life _ _ _ (begin'_life t s) ?_
  dsimp only
  split <;> simp

@[simp] theorem execNodeSilent_life (t : Time) (p : Fin 32) (node : BitVec 8) (s : State) :
    KeepsLife s (execNodeSilent t p node s) := by simp [execNodeSilent]

/-! ### Reads that act -/

@[simp] theorem latchRead_life (a : Actor) (off size : Nat) (s : State) : (latchRead a off size s).aon.life = s.aon.life := by simp [latchRead]

@[simp] theorem execCourseTimeLoRead_life (t : Time) (a : Actor) (size : Nat) (s : State) :
    KeepsLife s (execCourseTimeLoRead t a size s) := by simp [execCourseTimeLoRead]

@[simp] theorem execCourseMcLoRead_life (t : Time) (a : Actor) (size : Nat) (s : State) :
    KeepsLife s (execCourseMcLoRead t a size s) := by simp [execCourseMcLoRead]

@[simp] theorem plainRead_life (a : Actor) (off size : Nat) (s : State) : (plainRead a off size s).aon.life = s.aon.life := by simp [plainRead]
@[simp] theorem bar2Read_life (a : Actor) (off size : Nat) (s : State) : (bar2Read a off size s).aon.life = s.aon.life := by simp [bar2Read]

@[simp] theorem execLatchedPairLoRead_life (t : Time) (a : Actor) (off size : Nat) (s : State) :
    KeepsLife s (execLatchedPairLoRead t a off size s) := by simp [execLatchedPairLoRead]

@[simp] theorem execCourseLatchData7Read_life (t : Time) (s : State) :
    KeepsLife s (execCourseLatchData7Read t s) := by simp [execCourseLatchData7Read]

/-! ### Register writes -/

@[simp] theorem plainWrite_life (off : Nat) (v : W32) (s : State) : (plainWrite off v s).aon.life = s.aon.life := by
  unfold plainWrite
  split <;> rfl

@[simp] theorem ringRegWrite_life (off : Nat) (v : W32) (s : State) : (ringRegWrite off v s).aon.life = s.aon.life := by simp [ringRegWrite]
@[simp] theorem idClkWrite_life (off : Nat) (v : W32) (s : State) : (idClkWrite off v s).aon.life = s.aon.life := by simp [idClkWrite]
@[simp] theorem recoveryWrite_life (off : Nat) (v : W32) (s : State) : (recoveryWrite off v s).aon.life = s.aon.life := by simp [recoveryWrite]
@[simp] theorem ledgerWrite_life (off size : Nat) (v : W64) (s : State) : (ledgerWrite off size v s).aon.life = s.aon.life := by simp [ledgerWrite]
@[simp] theorem traceWrite_life (off : Nat) (v : W32) (s : State) : (traceWrite off v s).aon.life = s.aon.life := by simp [traceWrite]
@[simp] theorem fbWrite_life (off size : Nat) (v : W64) (s : State) : (fbWrite off size v s).aon.life = s.aon.life := by simp [fbWrite]
@[simp] theorem engineWrite_life (off : Nat) (v : W32) (s : State) : (engineWrite off v s).aon.life = s.aon.life := by simp [engineWrite]
@[simp] theorem ethWrite_life (off : Nat) (v : W32) (s : State) : (ethWrite off v s).aon.life = s.aon.life := by simp [ethWrite]
@[simp] theorem loopRegWrite_life (off : Nat) (v : W32) (s : State) : (loopRegWrite off v s).aon.life = s.aon.life := by simp [loopRegWrite]

@[simp] theorem pwmWrite_life (a : Actor) (off size : Nat) (v : W64) (s : State) :
    (pwmWrite a off size v s).aon.life = s.aon.life := by simp [pwmWrite]

@[simp] theorem busWrite_life (off : Nat) (v : W32) (s : State) : (busWrite off v s).aon.life = s.aon.life := by simp [busWrite]
@[simp] theorem msixWrite_life (off : Nat) (v : W32) (s : State) : (msixWrite off v s).aon.life = s.aon.life := by simp [msixWrite]
@[simp] theorem regAct_life (a : Actor) (off size : Nat) (v : W64) (s : State) : (regAct a off size v s).aon.life = s.aon.life := by simp [regAct]

@[simp] theorem execRegisterWrite_life (t : Time) (a : Actor) (off size : Nat) (v : W64) (s : State) :
    KeepsLife s (execRegisterWrite t a off size v s) := by simp [execRegisterWrite]

/-! ### Tiles -/

@[simp] theorem showLoad_life (i : Nat) (s : State) : (showLoad i s).aon.life = s.aon.life := by
  unfold showLoad
  dsimp only
  split <;> simp

@[simp] theorem showLoads_life (s : State) : (showLoads s).aon.life = s.aon.life := by simp [showLoads]

/-- The state that a tile descriptor leaves. -/
def TileAct.state : TileAct → State
  | .run r => r.state
  | .wait s => s

@[simp] theorem TileAct.run_state (r : DescResult) : (TileAct.run r).state = r.state := by rfl
@[simp] theorem TileAct.wait_state (s : State) : (TileAct.wait s).state = s := by rfl

@[simp] theorem tileCmd_life (op : Nat) (f : Desc → State → TileAct) (s : State) (h : ∀ x s, (f x s).state.aon.life = s.aon.life) :
    (tileCmd op f s).aon.life = s.aon.life := by
  unfold tileCmd
  split
  · rfl
  next x _ =>
    have taken := h x s
    split
    · split
      next e => simpa [e] using taken
      next =>
        refine runDesc_life _ _ _ _ (fun y v => ?_)
        have again := h y v
        split
        next e => simpa [e] using again
        next e => simpa [e] using again
    · rfl

@[simp] theorem startLoad_life (i : Nat) (prior : TilePrior) (x : Desc) (s : State) : (startLoad i prior x s).state.aon.life = s.aon.life := by rfl

@[simp] theorem supplyDesc_life (x : Desc) (s : State) : (supplyDesc x s).state.aon.life = s.aon.life := by
  unfold supplyDesc
  dsimp only
  split
  · rfl
  · split
    · rfl
    · split
      · split <;> simp
      · split
        · rfl
        · split
          · rfl
          next h => exact allocSlot_life h
          next h => simp [allocSlot_life h]

@[simp] theorem refuseDesc_life (x : Desc) (s : State) : (refuseDesc x s).state.aon.life = s.aon.life := by
  unfold refuseDesc
  dsimp only
  split
  · simp
  · split
    · simp
    · split
      · split <;> simp
      · split
        · simp
        · split
          · simp
          next h => simp [allocSlot_life h]
          next h => simp [allocSlot_life h]

@[simp] theorem flushDesc_life (x : Desc) (s : State) : (flushDesc x s).state.aon.life = s.aon.life := by
  unfold flushDesc
  (repeat' split) <;> simp

@[simp] theorem evictKey_life (discard : Bool) (key : Int × Int) (s : State) : (evictKey discard key s).2.aon.life = s.aon.life := by
  unfold evictKey
  (repeat' split) <;> simp

@[simp] theorem evictRun_life (s : State) : (evictRun s).aon.life = s.aon.life := by
  unfold evictRun
  split
  · rfl
  next idx discard todo _ =>
    have kept := foldl_pair_life (f := fun (acc : List (Int × Int) × State) key =>
      (if (evictKey discard key acc.2).1 then acc.1 ++ [key] else acc.1, (evictKey discard key acc.2).2))
      (fun x key => evictKey_life discard key x.2) todo ([], s)
    generalize List.foldl _ _ todo = r at kept
    split
    next left v =>
      have stored (e : LaneEngine) : ({ v with engine := e } : State).aon.life = s.aon.life := kept
      dsimp only
      split
      · split
        · exact (completeAt_life _ _ _ _ _).trans (stored _)
        · exact stored _
      · exact stored _

@[simp] theorem evictDesc_life (x : Desc) (s : State) : (evictDesc x s).state.aon.life = s.aon.life := by
  unfold evictDesc
  dsimp only
  (repeat' split) <;> rfl

@[simp] theorem execSupply_life (t : Time) (s : State) : KeepsLife s (execSupply t s) := by simp [execSupply]
@[simp] theorem execRefuse_life (t : Time) (s : State) : KeepsLife s (execRefuse t s) := by simp [execRefuse]
@[simp] theorem execFlush_life (t : Time) (s : State) : KeepsLife s (execFlush t s) := by simp [execFlush]
@[simp] theorem execEvict_life (t : Time) (s : State) : KeepsLife s (execEvict t s) := by simp [execEvict]

@[simp] theorem bufferDesc_life (x : Desc) (s : State) : (bufferDesc x s).state.aon.life = s.aon.life := by
  unfold bufferDesc
  split <;> rfl

@[simp] theorem execBuffer_life (t : Time) (s : State) : KeepsLife s (execBuffer t s) := by simp [execBuffer]

@[simp] theorem execTileLoadComplete_life (t : Time) (i : Fin 256) (s : State) : KeepsLife s (execTileLoadComplete t i s) := by
  unfold execTileLoadComplete
  dsimp only
  (repeat' split) <;> simp

@[simp] theorem afterWrite_life (i : Nat) (w : TileWrite) (s : State) : (afterWrite i w s).aon.life = s.aon.life := by
  unfold afterWrite
  split <;> simp

@[simp] theorem execTileWritebackComplete_life (t : Time) (i : Fin 256) (s : State) : KeepsLife s (execTileWritebackComplete t i s) := by
  unfold execTileWritebackComplete
  dsimp only
  (repeat' split) <;> simp

/-! ### The sweep -/

@[simp] theorem lapseLane_life (k : Nat) (s : State) : (lapseLane k s).aon.life = s.aon.life := by simp [lapseLane]
@[simp] theorem sweepLapse_life (s : State) : (sweepLapse s).aon.life = s.aon.life := by simp [sweepLapse]

@[simp] theorem sweepGrant_life (s : State) : (sweepGrant s).aon.life = s.aon.life := by
  unfold sweepGrant
  split <;> rfl

@[simp] theorem visit_life (k : Nat) (s : State) : (visit k s).aon.life = s.aon.life := by simp [visit]
@[simp] theorem edgeRecord_life (k : Nat) (on : Bool) (s : State) : (edgeRecord k on s).aon.life = s.aon.life := by simp [edgeRecord]

@[simp] theorem aggregate_life (names : List Nat) (k : Nat) (t : Totals) (s : State) :
    (aggregate names k t s).aon.life = s.aon.life := by simp [aggregate]

@[simp] theorem sweepEnd_life (s : State) : (sweepEnd s).aon.life = s.aon.life := by simp [sweepEnd]
@[simp] theorem overrunNote_life (s : State) : (overrunNote s).aon.life = s.aon.life := by simp [overrunNote]
@[simp] theorem sweep_life (imu : Option (Time × W32)) (s : State) : (sweep imu s).aon.life = s.aon.life := by simp [sweep]

@[simp] theorem execSweepClose_life (t : Time) (imu : Option (Time × W32)) (s : State) : KeepsLife s (execSweepClose t imu s) := by
  unfold execSweepClose
  dsimp only
  split <;> simp

/-! ### The commands that move the counters -/

theorem exec_operatingTimeTick_due (t : Time) (s : State) (out : s.startup.released = true)
    (due : s.aon.opAt + secUnits ≤ (begin' t s).now) :
    exec (.operatingTimeTick t) s =
      .next { begin' t s with aon := { s.aon with opSeconds := s.aon.opSeconds + 1, opAt := s.aon.opAt + secUnits } } :=
  if_pos (by rw [Bool.and_eq_true, decide_eq_true_eq]; exact ⟨out, due⟩)

theorem exec_operatingTimeTick_early (t : Time) (s : State)
    (early : ¬(s.startup.released = true ∧ s.aon.opAt + secUnits ≤ (begin' t s).now)) :
    exec (.operatingTimeTick t) s = .next (begin' t s) :=
  if_neg (by rwa [Bool.and_eq_true, decide_eq_true_eq])

theorem coldReset_opSeconds (s : State) : (coldReset s).aon.opSeconds = s.aon.opSeconds := rfl

theorem coldReset_powerCycles (s : State) :
    (coldReset s).aon.powerCycles = min (s.aon.powerCycles + 1) (2 ^ 24 - 1) := by
  change capNat (2 ^ 24 - 1) (s.aon.powerCycles + 1) = _
  unfold capNat
  split <;> omega

theorem exec_coldReset (t : Time) (vcore vio18 vio33 held low : Nat) (s : State)
    (cause : (vcore < 740 ∨ vio18 < 1650 ∨ vio33 < 3000) ∧ 100 ≤ held ∨ usUnits ≤ low) :
    exec (.coldReset ⟨t, vcore, vio18, vio33, held, low⟩) s = .next (coldReset (begin' t s)) :=
  congrArg Host.Outcome.next (if_pos (by simpa [railLow, or_assoc] using cause))

theorem exec_alwaysOnReset (t : Time) (vbackup vio33 held : Nat) (s : State) (backup : vbackup < 1800) (rail : vio33 < 3000)
    (long : 100 ≤ held) : Completes (.alwaysOnReset ⟨t, vbackup, vio33, held⟩) s (fun u =>
      u.aon.opSeconds = 0 ∧ u.aon.powerCycles = 0) :=
  ⟨_, if_neg (by simp; omega), rfl, rfl⟩

/-- No command but the tick and the two resets moves either counter: each meaning keeps both. -/
theorem exec_keepsLife (c : Instr) (s : State) (tick : ∀ t, c ≠ .operatingTimeTick t) (cold : ∀ x, c ≠ .coldReset x)
    (backup : ∀ x, c ≠ .alwaysOnReset x) : KeepsLife s (exec c s) := by
  cases c
  case operatingTimeTick t => exact absurd rfl (tick t)
  case coldReset x => exact absurd rfl (cold x)
  case alwaysOnReset x => exact absurd rfl (backup x)
  all_goals simp only [exec]
  all_goals simp

/-- Settles O7: the tick and the two resets by what each of them does to the counters, every other command by the frame above. -/
theorem theCountersOfLife : Obligations.TheCountersOfLife := by
  unfold Obligations.TheCountersOfLife
  intro s
  refine ⟨fun t => ⟨?due, ?early⟩, ?cold, ?backup, ?others⟩
  case due => exact fun ⟨out, due⟩ => exec_operatingTimeTick_due t s out due
  case early => exact exec_operatingTimeTick_early t s
  case cold =>
    exact fun t vcore vio18 vio33 held low cause =>
      ⟨_, exec_coldReset t vcore vio18 vio33 held low s cause, coldReset_powerCycles _, coldReset_opSeconds _⟩
  case backup => exact fun t vbackup vio33 held => exec_alwaysOnReset t vbackup vio33 held s
  case others =>
    intro c u next tick cold backup
    have kept := exec_keepsLife c s tick cold backup u next
    exact ⟨congrArg Prod.fst kept, congrArg Prod.snd kept⟩

end Sys2Proof.Machine
end

section
/-! Entry to operational (R522): the end of the self-test and its reports leave device time, the start-up state and the security state, from which SEC_STAT is formed. -/
namespace Sys2Proof.Machine

/-! ### Reports leave device time -/

@[simp] theorem dmaWrite_now (onChip : Bool) (a : Nat) (bs : List Byte) (s : State) : (dmaWrite onChip a bs s).now = s.now :=
  dmaWrite_kept onChip a bs s .now (by decide)

@[simp] theorem modRing_now (n : Nat) (f : Ring → Ring) (s : State) : (modRing n f s).now = s.now := modRing_kept n f s .now (by decide)

@[simp] theorem bump_now (k : Nat) (s : State) : (bump k s).now = s.now := bump_kept k s .now (by decide)

@[simp] theorem mirrorWrite_now (n : Nat) (s : State) : (mirrorWrite n s).now = s.now := by
  unfold mirrorWrite
  extract_lets
  split
  · exact dmaWrite_now _ _ _ s
  · rfl

@[simp] theorem mirrorFlush_now (s : State) : (mirrorFlush s).now = s.now := by
  unfold mirrorFlush
  split
  · exact foldl_keeps State.now (fun s n => mirrorWrite_now n s) _ s
  · rfl

@[simp] theorem mirrorMark_now (n : Nat) (s : State) : (mirrorMark n s).now = s.now := by
  unfold mirrorMark
  split <;> rfl

@[simp] theorem eventPulses_now (k line m : Nat) (s : State) : (eventPulses k line m s).now = s.now := by
  unfold eventPulses
  split
  · rfl
  · dsimp only
    split <;> rfl

@[simp] theorem sendVector_now (v : Nat) (s : State) : (sendVector v s).now = s.now := by
  unfold sendVector
  dsimp only
  split <;> simp

@[simp] theorem sendLine_now (line : Nat) (s : State) : (sendLine line s).now = s.now := by
  unfold sendLine
  split
  · rfl
  · split
    · split <;> rfl
    · exact sendVector_now line s

@[simp] theorem signalLine_now (line : Nat) (doneIrq : Bool) (s : State) : (signalLine line doneIrq s).now = s.now := by
  unfold signalLine
  extract_lets
  split <;> simp

@[simp] theorem signalRing_now (n : Nat) (doneIrq : Bool) (s : State) : (signalRing n doneIrq s).now = s.now := by
  unfold signalRing
  dsimp only
  split
  · split
    · split
      · exact signalLine_now _ _ s
      · rfl
    · exact signalLine_now _ _ s
  · rfl

@[simp] theorem putEntry_now (n head : Nat) (rest : List Byte) (doneIrq : Bool) (s : State) :
    (putEntry n head rest doneIrq s).now = s.now := by simp [putEntry]

@[simp] theorem putPadded_now (n kind drops : Nat) (record : List Byte) (zeros : Nat) (s : State) :
    (putPadded n kind drops record zeros s).now = s.now := by
  unfold putPadded
  dsimp only
  split <;> simp

@[simp] theorem notifFlush_now (fuel : Nat) (s : State) : (notifFlush fuel s).now = s.now := by
  induction fuel generalizing s with
  | zero => rfl
  | succ fuel ih =>
    unfold notifFlush
    split
    · rfl
    · split
      · dsimp only
        split <;> simp [ih, putRecord]
      · rfl

@[simp] theorem notify_now (k subject detail : Nat) (s : State) : (notify k subject detail s).now = s.now := by
  unfold notify notifyAt
  dsimp only
  split
  · exact bump_now _ s
  · split <;> simp

/-! ### What SEC_STAT and START_TIME are formed from -/

/-- What entry to operational reads is the same in two states: device time, the start-up state and the security state. -/
def SameEntry (s u : State) : Prop := u.now = s.now ∧ u.startup = s.startup ∧ u.security = s.security

theorem SameEntry.trans {s u v : State} (h : SameEntry s u) (k : SameEntry u v) : SameEntry s v := by
  obtain ⟨now, startup, security⟩ := h
  obtain ⟨now', startup', security'⟩ := k
  exact ⟨now'.trans now, startup'.trans startup, security'.trans security⟩

theorem sameEntry_loops (l : Loops) (s : State) : SameEntry s { s with loops := l } := ⟨rfl, rfl, rfl⟩

theorem sameEntry_notify (k subject detail : Nat) (s : State) : SameEntry s (notify k subject detail s) :=
  ⟨notify_now k subject detail s, notify_kept k subject detail s .startup (by decide),
    notify_kept k subject detail s .security (by decide)⟩

theorem sameEntry_ledgerReport (stream code subject detail : Nat) (s : State) :
    SameEntry s (ledgerReport stream code subject detail s) := by
  unfold ledgerReport ledgerQueue
  dsimp only
  split
  · exact ⟨rfl, rfl, rfl⟩
  · split
    · exact ⟨rfl, rfl, rfl⟩
    · split
      · exact ⟨rfl, rfl, rfl⟩
      · exact SameEntry.trans ⟨rfl, rfl, rfl⟩ (sameEntry_notify _ _ _ _)

/-- The end of the self-test moves the loops and makes its reports; start-up is not its part (R374). -/
theorem sameEntry_bistEnds (pass : Bool) (s : State) : SameEntry s (bistEnds pass s) := by
  unfold bistEnds
  dsimp only
  split
  · split
    · exact sameEntry_loops _ s
    · exact (sameEntry_loops _ s).trans (sameEntry_notify _ _ _ _)
  · exact (sameEntry_loops _ s).trans ((sameEntry_notify 0x29 0 3 _).trans (sameEntry_ledgerReport streamSafety 0x0729 0 3 _))

theorem SameEntry.secStat {s u : State} (h : SameEntry s u) : secStat u = secStat s := by
  obtain ⟨-, startup, security⟩ := h
  simp only [Machine.secStat, startup, security]

/-! ### The entry -/

/-- The state at entry to operational in which its notification is raised (R522). -/
def operationalEntered (s : State) : State :=
  { s with startup := { s.startup with
      phase := 7, phaseAt := s.now, startTime := capNat 0xFFFFFFFF (roundDivNat (s.now - s.startup.releaseAt) msUnits) } }

theorem enterOperational_eq (s : State) :
    enterOperational s = notify 0x3B 0 (startBits (operationalEntered s)) (operationalEntered s) := rfl

theorem exec_bistResult_of_calibration (t : Time) (pass : Bool) {s : State} (phase : s.startup.phase = 6)
    (active : s.loops.bistActive = true) :
    exec (.bistResult t pass) s = .next (enterOperational (bistEnds pass (begin' t s))) := by
  obtain ⟨-, startup, -⟩ := sameEntry_bistEnds pass (begin' t s)
  change execBistResult t pass s = _
  simp [execBistResult, active, startup, phase]

theorem b2n_le_one (b : Bool) : b2n b ≤ 1 := by cases b <;> decide

/-- SEC_STAT.mode is 1 in the operational state, while the level fits its two bits (R483). -/
theorem secStat_mode_of_operational {s : State} (phase : s.startup.phase = 7) (level : s.security.level < 4) :
    fld (secStat s) 31 30 = 1 := by
  have oem := b2n_le_one (s.security.oemHash ≠ 0)
  have charter := b2n_le_one s.startup.defaultCharter
  have lock := b2n_le_one s.security.keyLock
  have audit := b2n_le_one s.security.auditErased
  have dead := b2n_le_one s.security.keysDead
  simp only [fld, bits, secStat, phase, if_true, BitVec.toNat_ofNat]
  omega

/-- Entry to operational as R522 states it, in every state whose level fits SEC_STAT.level (R478, R483). -/
theorem bistResult_entersOperational (t : Time) (pass : Bool) {s : State} (phase : s.startup.phase = 6)
    (active : s.loops.bistActive = true) (level : s.security.level < 4) :
    ∃ v, exec (.bistResult t pass) s = .next (notify 0x3B 0 (startBits v) v) ∧ v.startup.phase = 7 ∧
      fld (secStat v) 31 30 = 1 ∧ v.startup.startTime = min (roundDivNat (v.now - s.startup.releaseAt) msUnits) 0xFFFFFFFF ∧
      v.now = (begin' t s).now := by
  obtain ⟨now, startup, security⟩ := sameEntry_bistEnds pass (begin' t s)
  refine ⟨operationalEntered (bistEnds pass (begin' t s)), exec_bistResult_of_calibration t pass phase active, rfl, ?mode, ?time, now⟩
  case mode => exact secStat_mode_of_operational rfl (by simpa [operationalEntered, security] using level)
  case time =>
    simp only [operationalEntered, startup, begin'_startup, capNat]
    split <;> omega

/-- A state at the end of the start-up self-test whose level, a number without a bound in the model, does not fit the two bits of SEC_STAT.level. -/
def levelOutOfField : State :=
  { State.reset with
    startup := { State.reset.startup with phase := 6 }
    loops := { State.reset.loops with bistActive := true }
    security := { State.reset.security with level := 128 } }

theorem secStat_mode_levelOutOfField :
    fld (secStat (operationalEntered (bistEnds true (begin' 0 levelOutOfField)))) 31 30 = 2 := by decide

/-- Refutes O8: it speaks of every state, and a level of 128, which no violation sets, carries into SEC_STAT.mode, which then reads 2. With a level that fits its field the statement holds: `bistResult_entersOperational`. -/
theorem not_entryToOperational : ¬ Obligations.EntryToOperational := by
  unfold Obligations.EntryToOperational
  intro h
  obtain ⟨v, raised, -, mode, -⟩ := h 0 true levelOutOfField rfl rfl
  have same := Host.Outcome.next.inj (raised.symm.trans (exec_bistResult_of_calibration 0 true rfl rfl))
  rw [enterOperational_eq] at same
  have stat : secStat v = secStat (operationalEntered (bistEnds true (begin' 0 levelOutOfField))) :=
    (sameEntry_notify _ _ _ v).secStat.symm.trans ((congrArg secStat same).trans (sameEntry_notify _ _ _ _).secStat)
  rw [stat, secStat_mode_levelOutOfField] at mode
  exact absurd mode (by decide)

end Sys2Proof.Machine
end
